-- ==== Sys2Proof/Word.lean ====
section
/-! DEFINITION. The word types and their plainest conversions. -/

namespace Sys2Proof

/-- A byte of memory, a record or a buffer. -/
abbrev Byte := BitVec 8

/-- A byte string; offset 0 is its head. -/
abbrev Bytes := List Byte

/-- A 64-bit Yehepel general register or system word (06, Registers). -/
abbrev Word := BitVec 64

end Sys2Proof
end

