-- ==== Sys2Proof/Syntax.lean ====
section
/-! DEFINITION. The commands: one constructor of `Instr` per row of spec/opcode_table.json. The table gives no
operands; the operands here are what the rule of the row takes from outside the block (log 1). -/

namespace Sys2Proof

/-- An object whose two-copy record or record tag is found bad (R42, R258, R162, R237). -/
inductive LostObj where
  | lifeCycleWord | updateCounter | brineStateWord
  | bookHead (b : Fin 64)
  | counterEntry (slot : Fin 16384)
  | useCount (slot : Fin 16384)
  | generalCounter (n : Fin 1024)
  | slotRecord (slot : Fin 16384)
  | lastRecord (n : Fin 4)
  | microcode (copy : Fin 2)
  | timeMark
  | logState
  | remapEntry (row : BitVec 16)
  deriving DecidableEq, Repr, Inhabited

/-- What a start finds outside the logic: straps, noise tests, VHOLD, tripped sensors with their details, unreadable
records, channels whose known-answer test fails (R62, R16, R271, R362, R258, R364). -/
structure StartFacts where
  lastSel : BitVec 2
  testEn : Bool
  noise0 : Bool
  noise1 : Bool
  vholdMv : Nat
  vholdDropUv : Nat
  tripped : List (Fin 13 × BitVec 32)
  lost : List LostObj
  /-- single copies of two-copy records found invalid (R258) -/
  spoiled : List (LostObj × Fin 2) := []
  katFail : List (Fin 60)
  /-- a first start is cut by power loss or reset before its step 7 (R45) -/
  firstCut : Bool := false
  deriving DecidableEq, Repr, Inhabited

/-- An object of the Brine that an uncorrectable error has hit (R270). -/
inductive BrineObj where
  | entry (slot : Fin 16384)
  | head (b : Fin 64)
  deriving DecidableEq, Repr, Inhabited

/-- How a read of a Cellar group turns out (R254). -/
inductive GroupRead where
  | good | corrected
  /-- group g of the row is uncorrectable; the two-copy record that has no valid copy left through it, if any, and one
  whose copy, at a place the Cellar map does not give, it spoils (R258) -/
  | uncorrectable (g : Fin 64) (loses : Option LostObj) (spoils : Option (LostObj × Fin 2) := none)
  deriving DecidableEq, Repr, Inhabited

/-- What the error code finds in the bytes a load reads from applet SRAM, or a read takes from the Cellar (R126, R254). -/
inductive Ecc where
  | good | corrected | uncorrectable
  deriving DecidableEq, Repr, Inhabited

/-- How a run of a lane job ends (R246): well, well with a corrected error in operand memory, or faulted. -/
inductive LaneEnd where
  | good | corrected | faulted
  deriving DecidableEq, Repr, Inhabited

/-- How a commit of the Press ends (R150, R367): well, well after a corrected fault, or in a permanent fault of the press
buffer. -/
inductive PressEnd where
  | good | corrected | bufferFault
  deriving DecidableEq, Repr, Inhabited

/-- A permanent fault of a block without a spare, other than the press buffer and the Brine (R367): the session-store
context of the order being started, a key-cache entry, or one of the blocks that bring GUARD. -/
inductive DevFault where
  | sessionStore | keyCache | guardBlock
  deriving DecidableEq, Repr, Inhabited

/-- The Lacing packet that hands a fetched order on (R13): it arrives, arrives when it is sent again, or is lost. -/
inductive Packet where
  | arrives | resent | lost
  deriving DecidableEq, Repr, Inhabited

/-- Which host-memory access failed (R75). -/
inductive DmaFail where
  /-- the input read or output write of the outstanding order with this tag; bytes written and left in place -/
  | order (qp : BitVec 8) (tag : BitVec 64) (left : BitVec 32)
  /-- a window access of the running frame of an application core -/
  | window (core : Fin 8)
  /-- a zero write of the scrub that the decryption of this token is to end with: zero bytes accepted before it (R205) -/
  | scrub (core : Fin 9) (frame : Fin 4) (token : BitVec 3) (accepted : BitVec 32)
  | sqFetch (qp : BitVec 8)
  | cqWrite (qp : BitVec 8)
  deriving DecidableEq, Repr, Inhabited

/-- Card media (R324). -/
inductive Media where
  | sd | mmc
  deriving DecidableEq, Repr, Inhabited

/-- The result of an identification (R324 to R328, R341, R344), as the card's responses give it. -/
structure CardIdent where
  media : Media
  /-- capacity in 512-byte blocks -/
  blocks : Nat
  accepted : Bool
  lv : Bool
  /-- the highest mode of R326 that the card and the channel support -/
  fastest : Fin 8
  locked : Bool
  unlocked : Bool
  csdWp : Bool
  class7 : Bool
  /-- the header on the card verifies and matches the volume record (R341) -/
  headerOk : Bool
  /-- officer medium: sector 0 is blank, or names the identity given -/
  omBlank : Bool
  omIdentity : Bytes
  /-- officer medium: valid entries found from sector 1 (R347) -/
  omEntries : Nat
  /-- MMC: the bus test, CMD19 followed by CMD14, passes over 4 bits (R325) -/
  busTest : Bool := true
  /-- the longest run of phases that pass its tuning, and the phase it begins at (R328) -/
  tuneRun : Nat := 32
  tuneFirst : Fin 32 := 0
  /-- the journal header on the card verifies (R341) -/
  journalOk : Bool := true
  deriving DecidableEq, Repr, Inhabited

/-- What the checks of one response, with the 512-byte block that goes with it, find (R329): its CRC7, its error bits,
the CRC16 on each DAT line in use, and the CRC status token of a written block, positive or negative. -/
structure CardFrame where
  crc7 : Bool
  errorBit : Bool
  crc16 : List Bool
  token : Option Bool
  deriving DecidableEq, Repr, Inhabited

/-- What a card timeout waited for (R330). -/
inductive CardWait where
  | response | data | busy | ready | eraseEnd
  deriving DecidableEq, Repr, Inhabited

/-- What the host's configuration space sets, and what the link has trained to (R73). -/
structure LinkCfg where
  /-- Device Control: maximum payload and maximum read request in bytes, Relaxed Ordering, No Snoop -/
  maxPayload : Fin 3
  maxRead : Fin 6
  relaxed : Bool
  noSnoop : Bool
  /-- completion timeout range: 0 the default, 1 to 4 ranges A to D -/
  timeoutRange : Fin 5
  ecrcGen : Bool
  ecrcCheck : Bool
  ltr : Bool
  /-- ASPM L1, L1.1, L1.2 enabled -/
  l1 : Bool
  l11 : Bool
  l12 : Bool
  /-- the width the link partner trains to, as log2 of the lanes; the speed, 0 for 2.5 to 4 for 32.0 GT/s -/
  width : Fin 4
  speed : Fin 5
  deriving DecidableEq, Repr, Inhabited

/-- After a reset: 128-byte payloads, 512-byte read requests, Relaxed Ordering and No Snoop enabled, every other
feature off, eight lanes at 32.0 GT/s. -/
def LinkCfg.default : LinkCfg := ⟨0, 2, true, true, 0, false, false, false, false, false, false, 3, 4⟩

/-- A response, data block or busy end of a card (R330), or the failed check of a sector (R339). -/
inductive CardResp where
  | identified (i : CardIdent)
  /-- the current step of the request in service ends well -/
  | stepOk
  /-- one response and block of the step in service, as R329 checks it -/
  | frame (f : CardFrame)
  /-- CRC or error bit: a transfer fault (R329) -/
  | fault
  /-- a check of the voltage switch fails (R327) -/
  | switchFailed
  /-- a sector tag or Merkle check fails (R339) -/
  | tagFail
  deriving DecidableEq, Repr, Inhabited

/-- The header fields and checks of a received Welt frame (R372, R373). -/
structure Frame where
  term : BitVec 32
  seq : Nat
  lane : Fin 2
  crcOk : Bool
  tagOk : Bool
  deriving DecidableEq, Repr, Inhabited

/-- A received HELLO (R374); `pairing` is the HELLO of pairing step 3 (R388). -/
structure Hello where
  identity : Bytes
  term : BitVec 32
  /-- role code as WL_STAT.ROLE -/
  role : BitVec 2
  lcCode : BitVec 3
  epoch : Nat
  nonce : Bytes
  tagOk : Bool
  pairing : Bool
  /-- pairing: ML-KEM secret and ECDH x-coordinate the exchange yields here -/
  secretS : Bytes
  secretZ : Bytes
  deriving DecidableEq, Repr, Inhabited

/-- A Brine update in a BRINE frame (R376). -/
inductive BrineUpdate where
  | entry (slot : Fin 16384) (inv uses gen : Nat)
  | head (book : Fin 64) (bytes : Bytes)
  deriving DecidableEq, Repr, Inhabited

/-- An item of a forwarded press (R378, R380; 07 R148 to R151). -/
inductive FwdItem where
  | write (p : Fin 8) (off : Nat) (data : Bytes)
  | ctrAdd (n : Fin 1024) (amount : BitVec 64)
  | clear (p : Fin 8)
  | protect (p : Fin 8) (level : Nat)
  deriving DecidableEq, Repr, Inhabited

/-- A request forwarded to the lead (R378, R380): a press with its counter conditions, a posting to seal, a card
write, an officer envelope with the length of the order's output, one use of a counted slot, or a block of invocation
values. -/
inductive Forwarded where
  | press (conds : List (Fin 1024 × BitVec 64)) (items : List FwdItem)
  | seal (book : Fin 64) (posting : Bytes)
  | cardWrite (ch : Fin 3) (first : Nat) (data : Bytes)
  | officer (env : Bytes) (outLen : Nat)
  | useOf (slot : Fin 16384)
  | values (slot : Fin 16384)
  deriving DecidableEq, Repr, Inhabited

/-- One change of a mirrored object inside a press in pair form or a bulk copy (R375, R376, R389). `addressed` is an
officer body for the follower alone (R386). -/
inductive PairItem where
  | counter (n : Fin 1024) (value : Nat)
  | updateCounter (value : Nat)
  | part (p : Fin 8) (off : Nat) (data : Bytes)
  | partClear (p : Fin 8)
  /-- a partition-table entry: the origin's life-cycle code, none for an empty partition, and the protection level -/
  | partEntry (p : Fin 8) (origin : Option (BitVec 3)) (protect : Nat)
  | slot (n : Fin 16384) (span : Nat) (attr : BitVec 64) (init gen : Nat) (origin : BitVec 3) (owner : BitVec 64)
      (fixed : BitVec 32) (installEpoch : Nat) (nonce : Option Bytes) (material : Bytes)
  | slotFree (n : Fin 16384) (span gen : Nat)
  | useCount (n : Fin 16384) (gen uses : Nat)
  | lifeCycle (code : BitVec 3)
  | officers (k : Nat) (entries : List Bytes) (bankTag : Bytes)
  | last (n : Fin 4) (record : Bytes)
  | applet (image : Bytes)
  | appletRm (id ver : Nat)
  /-- a book's configuration: state 0 closed, 1 open, 2 halted -/
  | book (b : Fin 64) (st : Fin 3) (n slot arch gen : Nat) (label h0 : Bytes)
  | wheel (b : Fin 64) (no : Nat) (record : Bytes)
  | gap (b : Fin 64) (record : Bytes)
  | brine (u : BrineUpdate)
  | addressed (body : Bytes)
  deriving DecidableEq, Repr, Inhabited

/-- A received PRESS piece (R376): the press's epoch, the piece's offset and length, the press's total length, and,
for the piece that completes the press, its items in pair form. -/
structure PressPiece where
  epoch : Nat
  off : Nat
  len : Nat
  total : Nat
  items : List PairItem
  deriving DecidableEq, Repr, Inhabited

/-- A received bulk-copy state: items of COPY (R389). -/
structure CopyData where
  items : List PairItem
  deriving DecidableEq, Repr, Inhabited

/-- One command of the block: an input event, a host access, an order reaching its serving block, an engine
step, or one Yehepel instruction executed by the running frame of core `c`. Each docstring names the row's rule. -/
inductive Instr where
  /-- RESET_N_RELEASE (R62) -/
  | resetNRelease (f : StartFacts)
  /-- RETIREMENT_WIPE (R56) -/
  | retirementWipe
  /-- RESET_N_ASSERT (R395); a log write may be in progress (12, Power-down save) -/
  | resetNAssert (logWrite : Bool := false)
  /-- POWER_UP (R394) -/
  | powerUp
  /-- POWER_FAIL (R39); a log write may be in progress (12, Power-down save) -/
  | powerFail (saveEnds : Bool) (logWrite : Bool := false)
  /-- VHOLD_LOW (R271) -/
  | vholdLow
  /-- HOST_LINK_RESET (R77), with what the host's configuration and training then set (R73) -/
  | hostLinkReset (cfg : LinkCfg := LinkCfg.default)
  /-- DOMAIN_POWER_OFF (R30) -/
  | domainPowerOff (d : Fin 64)
  /-- PW_CTL_REQ_WRITE (R35) -/
  | pwCtlReqWrite (req : BitVec 2)
  /-- HOLD_WARM_WRITE (R31) -/
  | holdWarmWrite (on : Bool)
  /-- DORMANT_ENTRY (R36) -/
  | dormantEntry (exitTrigger : Bool)
  /-- DORMANT_EXIT (R36): by the link, or by the wake watcher (R317) -/
  | dormantExit (katFail : List (Fin 60)) (byWake : Bool := false)
  /-- D3HOT_ENTRY (R319) -/
  | d3hotEntry (pmeEn : Bool)
  /-- L1_ENTRY (R319) -/
  | l1Entry
  /-- D0_RETURN (R320) -/
  | d0Return
  /-- PME_STATUS_CLEAR (R320) -/
  | pmeStatusClear
  /-- PME_RESEND (R320) -/
  | pmeResend
  /-- MSIX_UNMASK (R313): of one vector, of all of them, or through Message Control (MSI-X Enable, Function Mask) -/
  | msixUnmask (v : Option (Fin 2048)) (control : Option (Bool × Bool) := none)
  /-- REGISTER_WRITE (R78): a BAR0 offset, or with bit 24 set one of BAR2 -/
  | registerWrite (off : BitVec 25) (v : BitVec 32) (be : BitVec 4)
  /-- HL_EPOCH_LO_READ (R79) -/
  | hlEpochLoRead
  /-- TM_FRAC_LO_READ (R277) -/
  | tmFracLoRead
  /-- QUEUE_CREATE (R80) -/
  | queueCreate (qp : BitVec 8) (cls : BitVec 2)
  /-- QUEUE_DELETE (R81) -/
  | queueDelete (qp : BitVec 8)
  /-- QCMD_NO_ACTION (R80) -/
  | qcmdNoAction (op3 : Bool) (qp : BitVec 8)
  /-- SQ_TAIL_DOORBELL (R82) -/
  | sqTailDoorbell (qp : BitVec 8) (index : BitVec 16) (wr : List (Nat × Bytes))
  /-- CQ_HEAD_DOORBELL (R82) -/
  | cqHeadDoorbell (qp : BitVec 8) (index : BitVec 16)
  /-- ORDER_FETCH (R97); how the packet that hands the order on crosses the Lacing (R13) -/
  | orderFetch (qp : BitVec 8) (packet : Packet := .arrives)
  /-- EXTENSION_TIMEOUT (R85) -/
  | extensionTimeout (qp : BitVec 8)
  /-- ADMISSION_DEADLINE (R29) -/
  | admissionDeadline (qp : BitVec 8) (tag : BitVec 64) (wins : Bool)
  /-- CALL (R131); the device fault that shows as the order starts, if any (R367) -/
  | call (qp : BitVec 8) (core : Fin 8) (fault : Option DevFault := none)
  /-- RUN (R127) -/
  | run (qp : BitVec 8) (core : Fin 8)
  /-- SECTOR (R201) -/
  | sector (qp : BitVec 8)
  /-- SEAL (R295); `faults` runs of the posting's digest segments fault (R230) -/
  | seal (qp : BitVec 8) (faults : Nat)
  /-- OPEN (R92) -/
  | openSession (qp : BitVec 8)
  /-- CLOSE (R93) -/
  | closeSession (qp : BitVec 8)
  /-- PARK (R94); `faults` runs of its hash segments and `vfaults` of its cipher segments fault (R230, R210) -/
  | park (qp : BitVec 8) (faults : Nat := 0) (vfaults : Nat := 0)
  /-- UNPARK (R95); faults as at PARK -/
  | unpark (qp : BitVec 8) (faults : Nat := 0) (vfaults : Nat := 0)
  /-- STATUS (R409) -/
  | status (qp : BitVec 8)
  /-- GET_CERT (R51) -/
  | getCert (qp : BitVec 8) (ecc : Ecc := .good)
  /-- GET_RETIREMENT (R57) -/
  | getRetirement (qp : BitVec 8) (ecc : Ecc := .good)
  /-- ABORT (R101) -/
  | abort (qp : BitVec 8)
  /-- TIME_TOKEN (R292) -/
  | timeToken (qp : BitVec 8)
  /-- BOOK_READ_HEAD (R302) -/
  | bookReadHead (qp : BitVec 8)
  /-- BOOK_READ_WHEEL (R302) -/
  | bookReadWheel (qp : BitVec 8) (ecc : Ecc := .good)
  /-- BOOK_READ_GAP (R302) -/
  | bookReadGap (qp : BitVec 8) (ecc : Ecc := .good)
  /-- BOOK_READ_CHECK (R302); faults as at SEAL -/
  | bookReadCheck (qp : BitVec 8) (faults : Nat := 0)
  /-- PERSONALISE (R52) -/
  | personalise (qp : BitVec 8)
  /-- CERT_INSTALL (R50) -/
  | certInstall (qp : BitVec 8)
  /-- OFFICER_SET (R52) -/
  | officerSet (qp : BitVec 8)
  /-- LC_CHANGE (R53) -/
  | lcChange (qp : BitVec 8)
  /-- DEBUG_PERMIT (R59) -/
  | debugPermit (qp : BitVec 8)
  /-- LAST_SELECT (R63) -/
  | lastSelect (qp : BitVec 8)
  /-- LAST_INSTALL (R65) -/
  | lastInstall (qp : BitVec 8)
  /-- KEY_WRITE (R179) -/
  | keyWrite (qp : BitVec 8)
  /-- KEY_DELETE (R180) -/
  | keyDelete (qp : BitVec 8)
  /-- KEY_GENERATE (R180) -/
  | keyGenerate (qp : BitVec 8)
  /-- KEY_RESTRICT (R180) -/
  | keyRestrict (qp : BitVec 8)
  /-- KEY_EXPORT (R180) -/
  | keyExport (qp : BitVec 8)
  /-- KEY_REPORT (R175) -/
  | keyReport (qp : BitVec 8)
  /-- TIME_CONFIG (R287) -/
  | timeConfig (qp : BitVec 8)
  /-- TIME_SLEW (R290) -/
  | timeSlew (qp : BitVec 8)
  /-- TIME_STEP (R291) -/
  | timeStep (qp : BitVec 8)
  /-- BOOK_OPEN (R293) -/
  | bookOpen (qp : BitVec 8)
  /-- BOOK_CONFIG (R294) -/
  | bookConfig (qp : BitVec 8)
  /-- BOOK_CLOSE (R294) -/
  | bookClose (qp : BitVec 8)
  /-- APPLET_INSTALL (R128) -/
  | appletInstall (qp : BitVec 8)
  /-- APPLET_REMOVE (R129) -/
  | appletRemove (qp : BitVec 8)
  /-- WELT_PAIR (R387) -/
  | weltPair (qp : BitVec 8)
  /-- WELT_UNPAIR (R386) -/
  | weltUnpair (qp : BitVec 8)
  /-- WELT_MODE (R386) -/
  | weltMode (qp : BitVec 8)
  /-- WELT_HANDOVER (R383) -/
  | weltHandover (qp : BitVec 8)
  /-- WELT_TAKEOVER (R384) -/
  | weltTakeover (qp : BitVec 8)
  /-- CARD_ERASE (R345) -/
  | cardErase (qp : BitVec 8)
  /-- MB_ECHO (R104) -/
  | mbEcho (req : Bytes)
  /-- MB_GET_STATUS (R104) -/
  | mbGetStatus (req : Bytes)
  /-- MB_RANDOM (R104) -/
  | mbRandom (req : Bytes)
  /-- MB_TDEA_CBC_DEC (R104) -/
  | mbTdeaCbcDec (req : Bytes)
  /-- MB_TDEA_CBC_ENC (R213) -/
  | mbTdeaCbcEnc (req : Bytes)
  /-- MB_TDEA_MAC_GEN (R213) -/
  | mbTdeaMacGen (req : Bytes)
  /-- MB_TDEA_MAC_VER (R212) -/
  | mbTdeaMacVer (req : Bytes)
  /-- AES_CBC_DEC (R104) -/
  | aesCbcDec (req : Bytes)
  /-- AES_CBC_ENC (R104) -/
  | aesCbcEnc (req : Bytes)
  /-- MB_SHA256 (R104) -/
  | mbSha256 (req : Bytes)
  /-- RSA_SIGN (R240) -/
  | rsaSign (req : Bytes)
  /-- RSA_VERIFY (R240) -/
  | rsaVerify (req : Bytes)
  /-- BLOB_FLUSH (R185) -/
  | blobFlush (req : Bytes)
  /-- MB_GET_TIME (R104) -/
  | mbGetTime (req : Bytes)
  /-- EV_SRC_WRITE (R306), of the host or of the supervisor firmware -/
  | evSrcWrite (n : Fin 512) (v : BitVec 32) (host : Bool := true)
  /-- EV_GRP_WRITE (R310) -/
  | evGrpWrite (g : Fin 64) (v : BitVec 32)
  /-- EV_CLAIM (R308) -/
  | evClaim (host : Bool)
  /-- EV_VCLAIM (R308) -/
  | evVclaim (v : Fin 2048)
  /-- EV_COMPLETE (R309) -/
  | evComplete (host : Bool) (v : BitVec 32)
  /-- EV_GDIS_WRITE (R312) -/
  | evGdisWrite (host : Bool) (v : BitVec 32)
  /-- EV_RING (R316) -/
  | evRing (v : BitVec 64)
  /-- GROUP_TIMER_EXPIRY (R311) -/
  | groupTimerExpiry (g : Fin 64)
  /-- LOG_INDEX_WRITE (R368) -/
  | logIndexWrite (rindLog : Bool) (v : BitVec 32)
  /-- VAT_SEGMENT_END (R189) -/
  | vatSegmentEnd (core : Fin 16) (fault : Bool)
  /-- DIGEST_SEGMENT_END (R216) -/
  | digestSegmentEnd (core : Fin 8) (fault : Bool)
  /-- COMPARE_UNIT_DONE (R227) -/
  | compareUnitDone (unit : Fin 2)
  /-- LANE_JOB_END (R244) -/
  | laneJobEnd (lane : Fin 16) (how : LaneEnd)
  /-- LANE_YIELD_POINT (R245) -/
  | laneYieldPoint (lane : Fin 16)
  /-- PRESS_COMMIT (R260) -/
  | pressCommit (how : PressEnd := .good)
  /-- PRESS_APPLY (R261) -/
  | pressApply
  /-- BRINE_CHECKPOINT (R267), with the objects it finds uncorrectable (R270) -/
  | brineCheckpoint (bad : List BrineObj)
  /-- CELLAR_SCRUB (R272) -/
  | cellarScrub (row : BitVec 16) (found : GroupRead)
  /-- DRBG_RESEED (R14) -/
  | drbgReseed
  /-- DRBG_SEED_READY (R14) -/
  | drbgSeedReady
  /-- NOISE_SOURCE_FAIL (R16) -/
  | noiseSourceFail (n : Fin 2)
  /-- TIME_SECOND_BOUNDARY (R278) -/
  | timeSecondBoundary
  /-- PPS_WIDTH_END (R284) -/
  | ppsWidthEnd
  /-- GATE_END (R280) -/
  | gateEnd (refPpb : Int) (xtalPpb : Int) (tempC : Int)
  /-- REFOSC_LOSS (R279) -/
  | refoscLoss
  /-- BIN_TABLE_PRESS (R280) -/
  | binTablePress
  /-- SLEW_END (R290) -/
  | slewEnd
  /-- RIND_TRIP (R355); a log write may be in progress (R357) -/
  | rindTrip (cls : Fin 13) (detail : BitVec 32) (logWrite : Bool := false)
  /-- GUARD_WIPE_DONE (R357) -/
  | guardWipeDone
  /-- RIND_CLASS_RECOVER (R355) -/
  | rindClassRecover (cls : Fin 13)
  /-- CARD_PRESENT (R323) -/
  | cardPresent (ch : Fin 4)
  /-- CARD_REMOVED (R342) -/
  | cardRemoved (ch : Fin 4) (busy : Bool)
  /-- CARD_TAB_CHANGE (R346) -/
  | cardTabChange (set : Bool)
  /-- CARD_RESPONSE (R330) -/
  | cardResponse (ch : Fin 4) (r : CardResp)
  /-- CARD_TIMEOUT (R330) -/
  | cardTimeout (ch : Fin 4) (wins : Bool) (wait : Option CardWait := none)
  /-- CARD_TUNING (R328): the longest run of passing phases, and the phase it begins at -/
  | cardTuning (ch : Fin 4) (longestRun : Nat) (first : Fin 32 := 0)
  /-- WELT_LANE_TRAINED (R372) -/
  | weltLaneTrained (lane : Fin 2)
  /-- WELT_HELLO (R374) -/
  | weltHello (h : Hello)
  /-- WELT_LEASE (R382) -/
  | weltLease (fr : Frame)
  /-- WELT_ACK (R377) -/
  | weltAck (fr : Frame) (acked : Nat) (epoch : Nat)
  /-- WELT_NAK (R373) -/
  | weltNak (fr : Frame) (seq : Nat)
  /-- WELT_PRESS (R376) -/
  | weltPress (fr : Frame) (p : PressPiece)
  /-- WELT_BRINE (R376) -/
  | weltBrine (fr : Frame) (us : List BrineUpdate)
  /-- WELT_FORWARD (R380) -/
  | weltForward (fr : Frame) (ref : BitVec 64) (req : Forwarded)
  /-- WELT_REPLY (R380) -/
  | weltReply (fr : Frame) (ref : BitVec 64) (st : BitVec 16) (result bytes : BitVec 32) (out : Bytes) (epoch : Option Nat := none)
  /-- WELT_GRANT (R379) -/
  | weltGrant (fr : Frame) (slot : Fin 16384) (first : Nat)
  /-- WELT_COPY (R389) -/
  | weltCopy (fr : Frame) (d : CopyData)
  /-- WELT_COPY_END (R389) -/
  | weltCopyEnd (fr : Frame) (epoch : Nat) (updateCounter : Nat)
  /-- WELT_TIME (R385) -/
  | weltTime (fr : Frame) (offsetNs : Int) (twinUncNs : Nat)
  /-- WELT_DEPART (R383) -/
  | weltDepart (fr : Frame) (last : Nat)
  /-- WELT_ACK_TIMEOUT (R377) -/
  | weltAckTimeout (wins : Bool)
  /-- LEASE_EXPIRY (R382) -/
  | leaseExpiry (wins : Bool)
  /-- LEASE_RENEWAL (R382) -/
  | leaseRenewal
  /-- TIME_EXCHANGE (R385) -/
  | timeExchange
  /-- SET_POINTER (R402) -/
  | setPointer (v : BitVec 16)
  /-- READ_BLOCK (R402) -/
  | readBlock
  /-- READ_SUMMARY (R402) -/
  | readSummary
  /-- IDENTITY (R403) -/
  | identity
  /-- ALERT_RESPONSE_ADDRESS (R403) -/
  | alertResponseAddress
  /-- SMBUS_TIMEOUT (R401) -/
  | smbusTimeout
  /-- SELECT (R404) -/
  | select (t : BitVec 8)
  /-- HALT (R404) -/
  | halt
  /-- RESUME (R404) -/
  | resume
  /-- STEP (R404) -/
  | step
  /-- SET_ADDR (R404) -/
  | setAddr (a : BitVec 32)
  /-- READ_MEM (R404) -/
  | readMem
  /-- READ_REG (R404) -/
  | readReg (r : BitVec 32)
  /-- DBG_STATUS (R404) -/
  | dbgStatus
  /-- ADD (R120) -/
  | add (c : Fin 9) (d a b : BitVec 5)
  /-- SUB (R120) -/
  | sub (c : Fin 9) (d a b : BitVec 5)
  /-- ADDV (R125) -/
  | addv (c : Fin 9) (d a b : BitVec 5)
  /-- SUBV (R125) -/
  | subv (c : Fin 9) (d a b : BitVec 5)
  /-- CRY (R120) -/
  | cry (c : Fin 9) (d a b : BitVec 5)
  /-- BRW (R120) -/
  | brw (c : Fin 9) (d a b : BitVec 5)
  /-- MUL (R120) -/
  | mul (c : Fin 9) (d a b : BitVec 5)
  /-- MULHU (R120) -/
  | mulhu (c : Fin 9) (d a b : BitVec 5)
  /-- MULHS (R120) -/
  | mulhs (c : Fin 9) (d a b : BitVec 5)
  /-- DIVU (R120) -/
  | divu (c : Fin 9) (d a b : BitVec 5)
  /-- DIVS (R120) -/
  | divs (c : Fin 9) (d a b : BitVec 5)
  /-- REMU (R120) -/
  | remu (c : Fin 9) (d a b : BitVec 5)
  /-- REMS (R120) -/
  | rems (c : Fin 9) (d a b : BitVec 5)
  /-- AND (R120) -/
  | and (c : Fin 9) (d a b : BitVec 5)
  /-- OR (R120) -/
  | or (c : Fin 9) (d a b : BitVec 5)
  /-- XOR (R120) -/
  | xor (c : Fin 9) (d a b : BitVec 5)
  /-- ANDN (R120) -/
  | andn (c : Fin 9) (d a b : BitVec 5)
  /-- ORN (R120) -/
  | orn (c : Fin 9) (d a b : BitVec 5)
  /-- XNOR (R120) -/
  | xnor (c : Fin 9) (d a b : BitVec 5)
  /-- SLL (R120) -/
  | sll (c : Fin 9) (d a b : BitVec 5)
  /-- SRL (R120) -/
  | srl (c : Fin 9) (d a b : BitVec 5)
  /-- SRA (R120) -/
  | sra (c : Fin 9) (d a b : BitVec 5)
  /-- ROL (R120) -/
  | rol (c : Fin 9) (d a b : BitVec 5)
  /-- ROR (R120) -/
  | ror (c : Fin 9) (d a b : BitVec 5)
  /-- SEQ (R120) -/
  | seq (c : Fin 9) (d a b : BitVec 5)
  /-- SNE (R120) -/
  | sne (c : Fin 9) (d a b : BitVec 5)
  /-- SLT (R120) -/
  | slt (c : Fin 9) (d a b : BitVec 5)
  /-- SLTU (R120) -/
  | sltu (c : Fin 9) (d a b : BitVec 5)
  /-- MOVNZ (R120) -/
  | movnz (c : Fin 9) (d a b : BitVec 5)
  /-- MOVZ (R120) -/
  | movz (c : Fin 9) (d a b : BitVec 5)
  /-- CLZ (R120) -/
  | clz (c : Fin 9) (d a : BitVec 5)
  /-- CTZ (R120) -/
  | ctz (c : Fin 9) (d a : BitVec 5)
  /-- POPC (R120) -/
  | popc (c : Fin 9) (d a : BitVec 5)
  /-- BSWAP (R120) -/
  | bswap (c : Fin 9) (d a : BitVec 5)
  /-- ADDI (R121) -/
  | addi (c : Fin 9) (d a : BitVec 5) (imm : BitVec 14)
  /-- ANDI (R121) -/
  | andi (c : Fin 9) (d a : BitVec 5) (imm : BitVec 14)
  /-- ORI (R121) -/
  | ori (c : Fin 9) (d a : BitVec 5) (imm : BitVec 14)
  /-- XORI (R121) -/
  | xori (c : Fin 9) (d a : BitVec 5) (imm : BitVec 14)
  /-- SLLI (R121) -/
  | slli (c : Fin 9) (d a : BitVec 5) (sh : BitVec 6)
  /-- SRLI (R121) -/
  | srli (c : Fin 9) (d a : BitVec 5) (sh : BitVec 6)
  /-- SRAI (R121) -/
  | srai (c : Fin 9) (d a : BitVec 5) (sh : BitVec 6)
  /-- SLTI (R121) -/
  | slti (c : Fin 9) (d a : BitVec 5) (imm : BitVec 14)
  /-- SLTIU (R121) -/
  | sltiu (c : Fin 9) (d a : BitVec 5) (imm : BitVec 14)
  /-- LIW (R121) -/
  | liw (c : Fin 9) (d a : BitVec 5) (mode : BitVec 2) (lit : BitVec 32)
  /-- BFX (R121) -/
  | bfx (c : Fin 9) (d a : BitVec 5) (lo : BitVec 6) (w : BitVec 6) (sx : Bool)
  /-- BFI (R121) -/
  | bfi (c : Fin 9) (d a : BitVec 5) (lo : BitVec 6) (w : BitVec 6)
  /-- LD (R112) -/
  | ld (c : Fin 9) (d a : BitVec 5) (imm : BitVec 14) (ecc : Ecc := .good)
  /-- LW (R112) -/
  | lw (c : Fin 9) (d a : BitVec 5) (imm : BitVec 14) (ecc : Ecc := .good)
  /-- LWU (R112) -/
  | lwu (c : Fin 9) (d a : BitVec 5) (imm : BitVec 14) (ecc : Ecc := .good)
  /-- LH (R112) -/
  | lh (c : Fin 9) (d a : BitVec 5) (imm : BitVec 14) (ecc : Ecc := .good)
  /-- LHU (R112) -/
  | lhu (c : Fin 9) (d a : BitVec 5) (imm : BitVec 14) (ecc : Ecc := .good)
  /-- LB (R112) -/
  | lb (c : Fin 9) (d a : BitVec 5) (imm : BitVec 14) (ecc : Ecc := .good)
  /-- LBU (R112) -/
  | lbu (c : Fin 9) (d a : BitVec 5) (imm : BitVec 14) (ecc : Ecc := .good)
  /-- SD (R112) -/
  | sd (c : Fin 9) (d a : BitVec 5) (imm : BitVec 14) (ecc : Ecc := .good)
  /-- SW (R112) -/
  | sw (c : Fin 9) (d a : BitVec 5) (imm : BitVec 14) (ecc : Ecc := .good)
  /-- SH (R112) -/
  | sh (c : Fin 9) (d a : BitVec 5) (imm : BitVec 14) (ecc : Ecc := .good)
  /-- SB (R112) -/
  | sb (c : Fin 9) (d a : BitVec 5) (imm : BitVec 14) (ecc : Ecc := .good)
  /-- MFENCE (R114) -/
  | mfence (c : Fin 9)
  /-- BEQ (R122) -/
  | beq (c : Fin 9) (a b : BitVec 5) (off : BitVec 14)
  /-- BNE (R122) -/
  | bne (c : Fin 9) (a b : BitVec 5) (off : BitVec 14)
  /-- BLT (R122) -/
  | blt (c : Fin 9) (a b : BitVec 5) (off : BitVec 14)
  /-- BGE (R122) -/
  | bge (c : Fin 9) (a b : BitVec 5) (off : BitVec 14)
  /-- BLTU (R122) -/
  | bltu (c : Fin 9) (a b : BitVec 5) (off : BitVec 14)
  /-- BGEU (R122) -/
  | bgeu (c : Fin 9) (a b : BitVec 5) (off : BitVec 14)
  /-- JAL (R122) -/
  | jal (c : Fin 9) (d : BitVec 5) (off : BitVec 19)
  /-- JALR (R122) -/
  | jalr (c : Fin 9) (d a : BitVec 5) (imm : BitVec 14)
  /-- EXIT (R123) -/
  | exit (c : Fin 9) (d : BitVec 5) (st : BitVec 19)
  /-- BREAK (R125) -/
  | breakI (c : Fin 9)
  /-- SWR (R109) -/
  | swr (c : Fin 9) (d : BitVec 5) (n : BitVec 19)
  /-- SWW (R109) -/
  | sww (c : Fin 9) (d : BitVec 5) (n : BitVec 19)
  /-- PR_PART_CLEAR (R256) -/
  | prPartClear (c : Fin 9) (d : BitVec 5) (p : Fin 8)
  /-- PR_PART_PROTECT (R256) -/
  | prPartProtect (c : Fin 9) (d : BitVec 5) (p : Fin 8)
  /-- TM_ALARM_WRITE (R278) -/
  | tmAlarmWrite (c : Fin 9) (d : BitVec 5)
  /-- HBIND (R124) -/
  | hbind (c : Fin 9) (d a b : BitVec 5) (ty : BitVec 4)
  /-- HCLR (R107) -/
  | hclr (c : Fin 9) (d : BitVec 5)
  /-- HMOV (R107) -/
  | hmov (c : Fin 9) (d a : BitVec 5)
  /-- HTYPE (R107) -/
  | htype (c : Fin 9) (d a : BitVec 5)
  /-- TRET (R125) -/
  | tret (c : Fin 9)
  /-- WAITI (R316) -/
  | waiti (c : Fin 9)
  /-- RUN_LIMIT (R111) -/
  | runLimit (c : Fin 9) (fr : Fin 4) (wins : Bool)
  /-- PROPEN (R147) -/
  | propen (c : Fin 9) (d a : BitVec 5) (p : BitVec 2)
  /-- PRWRITE (R148) -/
  | prwrite (c : Fin 9) (d a b : BitVec 5) (p : BitVec 2)
  /-- PRREAD (R149) -/
  | prread (c : Fin 9) (d a b : BitVec 5) (ecc : Ecc := .good)
  /-- PRCOND (R147) -/
  | prcond (c : Fin 9) (d a b : BitVec 5) (p : BitVec 2)
  /-- PRCOMMIT (R150) -/
  | prcommit (c : Fin 9) (t : BitVec 3) (p : BitVec 2)
  /-- PRABANDON (R151) -/
  | prabandon (c : Fin 9) (p : BitVec 2)
  /-- CTRRD (R152) -/
  | ctrrd (c : Fin 9) (d a b : BitVec 5)
  /-- CTRADD (R152) -/
  | ctradd (c : Fin 9) (d a b : BitVec 5) (inPress : Bool) (p : BitVec 2)
  /-- TMSTAMP (R153) -/
  | tmstamp (c : Fin 9) (a : BitVec 5) (imm : BitVec 14)
  /-- TMTOKEN (R154) -/
  | tmtoken (c : Fin 9) (t : BitVec 3)
  /-- BKISS_SEAL (R155); faults as at SEAL -/
  | bkissSeal (c : Fin 9) (t : BitVec 3) (h : BitVec 4) (faults : Nat)
  /-- BKISS_HEAD (R155) -/
  | bkissHead (c : Fin 9) (t : BitVec 3) (h : BitVec 4)
  /-- GCM_ENC (R195) -/
  | gcmEnc (c : Fin 9) (t : BitVec 3) (h : BitVec 4)
  /-- GCM_DEC (R142) -/
  | gcmDec (c : Fin 9) (t : BitVec 3) (h : BitVec 4)
  /-- CTR_ENC (R195) -/
  | ctrEnc (c : Fin 9) (t : BitVec 3) (h : BitVec 4)
  /-- CTR_DEC (R197) -/
  | ctrDec (c : Fin 9) (t : BitVec 3) (h : BitVec 4)
  /-- CBC_ENC (R195) -/
  | cbcEnc (c : Fin 9) (t : BitVec 3) (h : BitVec 4)
  /-- CBC_DEC (R141) -/
  | cbcDec (c : Fin 9) (t : BitVec 3) (h : BitVec 4)
  /-- CMAC_GEN (R141) -/
  | cmacGen (c : Fin 9) (t : BitVec 3) (h : BitVec 4)
  /-- CMAC_VER (R142) -/
  | cmacVer (c : Fin 9) (t : BitVec 3) (h : BitVec 4)
  /-- XTS_ENC (R200) -/
  | xtsEnc (c : Fin 9) (t : BitVec 3) (h : BitVec 4)
  /-- XTS_DEC (R200) -/
  | xtsDec (c : Fin 9) (t : BitVec 3) (h : BitVec 4)
  /-- TDEA_CBC_DEC (R213) -/
  | tdeaCbcDec (c : Fin 9) (t : BitVec 3) (h : BitVec 4)
  /-- TDEA_CBC_ENC (R213) -/
  | tdeaCbcEnc (c : Fin 9) (t : BitVec 3) (h : BitVec 4)
  /-- TDEA_MAC_GEN (R213) -/
  | tdeaMacGen (c : Fin 9) (t : BitVec 3) (h : BitVec 4)
  /-- TDEA_MAC_VER (R213) -/
  | tdeaMacVer (c : Fin 9) (t : BitVec 3) (h : BitVec 4)
  /-- HASH (R214) -/
  | hash (c : Fin 9) (t : BitVec 3) (alg : BitVec 8)
  /-- START (R221) -/
  | start (c : Fin 9) (t : BitVec 3) (h : BitVec 4) (keyed : Bool) (alg : BitVec 8)
  /-- UPDATE (R143) -/
  | update (c : Fin 9) (t : BitVec 3) (alg : BitVec 8)
  /-- FINISH (R218) -/
  | finish (c : Fin 9) (t : BitVec 3) (alg : BitVec 8)
  /-- HMAC (R223) -/
  | hmac (c : Fin 9) (t : BitVec 3) (h : BitVec 4) (alg : BitVec 8)
  /-- KMAC (R223) -/
  | kmac (c : Fin 9) (t : BitVec 3) (h : BitVec 4) (alg : BitVec 8)
  /-- COMPARE (R144) -/
  | compare (c : Fin 9) (t : BitVec 3)
  /-- SLH_SIGN (R228) -/
  | slhSign (c : Fin 9) (t : BitVec 3) (h : BitVec 4) (set : BitVec 8)
  /-- SLH_VERIFY (R228) -/
  | slhVerify (c : Fin 9) (t : BitVec 3) (h : BitVec 4) (set : BitVec 8)
  /-- MODEXP (R238) -/
  | modexp (c : Fin 9) (t : BitVec 3)
  /-- RSA_PRIVATE (R239) -/
  | rsaPrivate (c : Fin 9) (t : BitVec 3) (h : BitVec 4)
  /-- RSA_PSS_SIGN (R239) -/
  | rsaPssSign (c : Fin 9) (t : BitVec 3) (h : BitVec 4)
  /-- RSA_PSS_VERIFY (R240) -/
  | rsaPssVerify (c : Fin 9) (t : BitVec 3) (h : BitVec 4)
  /-- RSA_PKCS1_SIGN (R239) -/
  | rsaPkcs1Sign (c : Fin 9) (t : BitVec 3) (h : BitVec 4)
  /-- RSA_PKCS1_VERIFY (R240) -/
  | rsaPkcs1Verify (c : Fin 9) (t : BitVec 3) (h : BitVec 4)
  /-- RSA_OAEP_ENC (R239) -/
  | rsaOaepEnc (c : Fin 9) (t : BitVec 3) (h : BitVec 4)
  /-- RSA_OAEP_DEC (R240) -/
  | rsaOaepDec (c : Fin 9) (t : BitVec 3) (h : BitVec 4)
  /-- ECDSA_SIGN (R239) -/
  | ecdsaSign (c : Fin 9) (t : BitVec 3) (h : BitVec 4)
  /-- ECDSA_VERIFY (R240) -/
  | ecdsaVerify (c : Fin 9) (t : BitVec 3) (h : BitVec 4)
  /-- ECDH (R239) -/
  | ecdh (c : Fin 9) (t : BitVec 3) (h : BitVec 4)
  /-- EC_KEYGEN (R233) -/
  | ecKeygen (c : Fin 9) (t : BitVec 3)
  /-- ED25519_SIGN (R239) -/
  | ed25519Sign (c : Fin 9) (t : BitVec 3) (h : BitVec 4)
  /-- ED25519_VERIFY (R240) -/
  | ed25519Verify (c : Fin 9) (t : BitVec 3) (h : BitVec 4)
  /-- MLKEM_KEYGEN (R233) -/
  | mlkemKeygen (c : Fin 9) (t : BitVec 3) (ps : Fin 3)
  /-- MLKEM_ENCAPS (R239) -/
  | mlkemEncaps (c : Fin 9) (t : BitVec 3) (h : BitVec 4) (ps : Fin 3)
  /-- MLKEM_DECAPS (R240) -/
  | mlkemDecaps (c : Fin 9) (t : BitVec 3) (h : BitVec 4) (ps : Fin 3)
  /-- MLDSA_KEYGEN (R233) -/
  | mldsaKeygen (c : Fin 9) (t : BitVec 3) (ps : Fin 3)
  /-- MLDSA_SIGN (R239) -/
  | mldsaSign (c : Fin 9) (t : BitVec 3) (h : BitVec 4) (ps : Fin 3)
  /-- MLDSA_VERIFY (R240) -/
  | mldsaVerify (c : Fin 9) (t : BitVec 3) (h : BitVec 4) (ps : Fin 3)
  /-- HYBRID_SIGN (R239) -/
  | hybridSign (c : Fin 9) (t : BitVec 3) (h : BitVec 4)
  /-- HYBRID_VERIFY (R240) -/
  | hybridVerify (c : Fin 9) (t : BitVec 3) (h : BitVec 4)
  /-- RANDOM (R146) -/
  | random (c : Fin 9) (t : BitVec 3)
  /-- TWAIT (R136) -/
  | twait (c : Fin 9) (d b : BitVec 5) (t : BitVec 3) (limit : BitVec 9)
  /-- WAIT_LIMIT (R136) -/
  | waitLimit (c : Fin 9) (fr : Fin 4) (wins : Bool)
  /-- TPOLL (R136) -/
  | tpoll (c : Fin 9) (d : BitVec 5) (t : BitVec 3)
  /-- TDROP (R137) -/
  | tdrop (c : Fin 9) (t : BitVec 3)
  /-- CVISS_READ (R156) -/
  | cvissRead (c : Fin 9) (t : BitVec 3) (h : BitVec 4)
  /-- CVISS_WRITE (R156) -/
  | cvissWrite (c : Fin 9) (t : BitVec 3) (h : BitVec 4)
  /-- CCSTAT (R157) -/
  | ccstat (c : Fin 9) (d a : BitVec 5)
  /-- WCPY_FROM_WINDOW (R158) -/
  | wcpyFromWindow (c : Fin 9) (t : BitVec 3) (h : BitVec 4)
  /-- WCPY_TO_WINDOW (R158) -/
  | wcpyToWindow (c : Fin 9) (t : BitVec 3) (h : BitVec 4)
  /-- VBAT_LOSS (R283) -/
  | vbatLoss
  /-- WELT_LINK_LOSS (R372) -/
  | weltLinkLoss
  /-- GRANTED_LEASE_EXPIRY (R382) -/
  | grantedLeaseExpiry
  /-- HOST_DMA_FAILURE (R75) -/
  | hostDmaFailure (w : DmaFail)
  /-- HOST_LINK_RECEIVER_ERROR (R76) -/
  | hostLinkReceiverError (g : Fin 2)
  /-- ILLEGAL_OPCODE (R119); what the error code finds in the word as it is fetched (R126) -/
  | illegalOpcode (c : Fin 9) (w : BitVec 32) (ecc : Ecc := .good)
  /-- MB_UNKNOWN_COMMAND (R104) -/
  | mbUnknownCommand (code : BitVec 16)
  /-- MB_CMD_OVERRUN (R103) -/
  | mbCmdOverrun (code : BitVec 16)
  /-- HL_QCMD_WHILE_BUSY (R80) -/
  | hlQcmdWhileBusy (v : BitVec 32)
  deriving DecidableEq, Repr

end Sys2Proof
end

