-- ==== Sys2Proof/Decode.lean ====
section
/-! DEFINITION. The table of this block gives no row any bits: no word spells a command (log 1). Beside it the Yehepel
instruction words (06 R118, 07 Opcodes) that the commands of the instruction rows stand for. -/

namespace Sys2Proof

/-- The command a word spells by the table's bits: none, for no row of the table has bits. -/
def decodeTableWord (_nbits _w : Nat) : Option Instr := none

/-! ### Instruction words (06 R118) -/

/-- Format A: opcode, d, a, b, function. -/
def fmtA (op : BitVec 8) (d a b : BitVec 5) (fn : BitVec 9) : BitVec 32 := op ++ d ++ a ++ b ++ fn

/-- Formats I and M: opcode, d, a, immediate; and format B with a, b, word offset. -/
def fmtI (op : BitVec 8) (d a : BitVec 5) (imm : BitVec 14) : BitVec 32 := op ++ d ++ a ++ imm

/-- Format E: opcode, token, handle, engine class, function. -/
def fmtE (op : BitVec 8) (t : BitVec 3) (h : BitVec 4) (cls : BitVec 3) (fn : BitVec 14) : BitVec 32 :=
  op ++ t ++ h ++ cls ++ fn

/-- Format S: opcode, d, operand. -/
def fmtS (op : BitVec 8) (d : BitVec 5) (opd : BitVec 19) : BitVec 32 := op ++ d ++ opd

/-- The instruction word a command stands for; none for the rows that are no instruction. The core, and what a command
says of the outcome, are no part of the word. -/
def instrWord (i : Instr) : Option (BitVec 32) :=
  match i with
  | .add _ d a b => some (fmtA 0 d a b 0)
  | .sub _ d a b => some (fmtA 0 d a b 1)
  | .addv _ d a b => some (fmtA 0 d a b 2)
  | .subv _ d a b => some (fmtA 0 d a b 3)
  | .cry _ d a b => some (fmtA 0 d a b 4)
  | .brw _ d a b => some (fmtA 0 d a b 5)
  | .mul _ d a b => some (fmtA 0 d a b 8)
  | .mulhu _ d a b => some (fmtA 0 d a b 9)
  | .mulhs _ d a b => some (fmtA 0 d a b 0xA)
  | .divu _ d a b => some (fmtA 0 d a b 0xC)
  | .divs _ d a b => some (fmtA 0 d a b 0xD)
  | .remu _ d a b => some (fmtA 0 d a b 0xE)
  | .rems _ d a b => some (fmtA 0 d a b 0xF)
  | .and _ d a b => some (fmtA 0 d a b 0x10)
  | .or _ d a b => some (fmtA 0 d a b 0x11)
  | .xor _ d a b => some (fmtA 0 d a b 0x12)
  | .andn _ d a b => some (fmtA 0 d a b 0x13)
  | .orn _ d a b => some (fmtA 0 d a b 0x14)
  | .xnor _ d a b => some (fmtA 0 d a b 0x15)
  | .sll _ d a b => some (fmtA 0 d a b 0x18)
  | .srl _ d a b => some (fmtA 0 d a b 0x19)
  | .sra _ d a b => some (fmtA 0 d a b 0x1A)
  | .rol _ d a b => some (fmtA 0 d a b 0x1B)
  | .ror _ d a b => some (fmtA 0 d a b 0x1C)
  | .seq _ d a b => some (fmtA 0 d a b 0x20)
  | .sne _ d a b => some (fmtA 0 d a b 0x21)
  | .slt _ d a b => some (fmtA 0 d a b 0x22)
  | .sltu _ d a b => some (fmtA 0 d a b 0x23)
  | .movnz _ d a b => some (fmtA 0 d a b 0x28)
  | .movz _ d a b => some (fmtA 0 d a b 0x29)
  | .clz _ d a => some (fmtA 0 d a 0 0x30)
  | .ctz _ d a => some (fmtA 0 d a 0 0x31)
  | .popc _ d a => some (fmtA 0 d a 0 0x32)
  | .bswap _ d a => some (fmtA 0 d a 0 0x33)
  | .addi _ d a imm => some (fmtI 1 d a imm)
  | .andi _ d a imm => some (fmtI 2 d a imm)
  | .ori _ d a imm => some (fmtI 3 d a imm)
  | .xori _ d a imm => some (fmtI 4 d a imm)
  | .slti _ d a imm => some (fmtI 8 d a imm)
  | .sltiu _ d a imm => some (fmtI 9 d a imm)
  | .jalr _ d a imm => some (fmtI 0x69 d a imm)
  | .sd _ d a imm => some (fmtI 0x48 d a imm)
  | .sw _ d a imm => some (fmtI 0x49 d a imm)
  | .sh _ d a imm => some (fmtI 0x4A d a imm)
  | .sb _ d a imm => some (fmtI 0x4B d a imm)
  | .slli _ d a sh => some (fmtI 5 d a (sh.setWidth 14))
  | .srli _ d a sh => some (fmtI 6 d a (sh.setWidth 14))
  | .srai _ d a sh => some (fmtI 7 d a (sh.setWidth 14))
  | .liw _ d a mode _ => some (fmtI 0xA d a (mode.setWidth 14))
  | .bfx _ d a lo w sx => some (fmtI 0xB d a (0#1 ++ BitVec.ofBool sx ++ w ++ lo))
  | .bfi _ d a lo w => some (fmtI 0xC d a (0#2 ++ w ++ lo))
  | .ld _ d a imm _ => some (fmtI 0x40 d a imm)
  | .lw _ d a imm _ => some (fmtI 0x41 d a imm)
  | .lwu _ d a imm _ => some (fmtI 0x42 d a imm)
  | .lh _ d a imm _ => some (fmtI 0x43 d a imm)
  | .lhu _ d a imm _ => some (fmtI 0x44 d a imm)
  | .lb _ d a imm _ => some (fmtI 0x45 d a imm)
  | .lbu _ d a imm _ => some (fmtI 0x46 d a imm)
  | .mfence _ => some (fmtA 0x4C 0 0 0 0)
  | .beq _ a b off => some (fmtI 0x60 a b off)
  | .bne _ a b off => some (fmtI 0x61 a b off)
  | .blt _ a b off => some (fmtI 0x62 a b off)
  | .bge _ a b off => some (fmtI 0x63 a b off)
  | .bltu _ a b off => some (fmtI 0x64 a b off)
  | .bgeu _ a b off => some (fmtI 0x65 a b off)
  | .jal _ d off => some (fmtS 0x68 d off)
  | .exit _ d st => some (fmtS 0x6C d st)
  | .breakI _ => some (fmtS 0x6D 0 0)
  | .swr _ d n => some (fmtS 0x80 d n)
  | .sww _ d n => some (fmtS 0x81 d n)
  | .prPartClear _ d q | .prPartProtect _ d q => some (fmtS 0x81 d (0x310 + BitVec.ofNat 19 q.val))
  | .tmAlarmWrite _ d => some (fmtS 0x81 d 0x400)
  | .hbind _ d a b ty => some (fmtA 0x82 d a b (ty.setWidth 9))
  | .hclr _ d => some (fmtA 0x83 d 0 0 0)
  | .hmov _ d a => some (fmtA 0x84 d a 0 0)
  | .htype _ d a => some (fmtA 0x85 d a 0 0)
  | .tret _ => some (fmtS 0x88 0 0)
  | .waiti _ => some (fmtS 0x89 0 0)
  | .propen _ d a q => some (fmtA 0xA0 d a 0 (q.setWidth 9))
  | .prwrite _ d a b q => some (fmtA 0xA1 d a b (q.setWidth 9))
  | .prread _ d a b => some (fmtA 0xA2 d a b 0)
  | .prcond _ d a b q => some (fmtA 0xA3 d a b (q.setWidth 9))
  | .prcommit _ t q => some (fmtS 0xA4 0 ((q ++ t).setWidth 19))
  | .prabandon _ q => some (fmtS 0xA5 0 (q.setWidth 19))
  | .ctrrd _ d a b => some (fmtA 0xA8 d a b 0)
  | .ctradd _ d a b inPress q => some (fmtA 0xA9 d a b ((BitVec.ofBool inPress ++ q).setWidth 9))
  | .tmstamp _ a imm => some (fmtI 0xAC 0 a imm)
  | .tmtoken _ t => some (fmtE 0xAD t 0 0 1)
  | .bkissSeal _ t h _ => some (fmtE 0xB0 t h 0 1)
  | .bkissHead _ t h => some (fmtE 0xB0 t h 0 2)
  | .gcmEnc _ t h => some (fmtE 0xC0 t h 0 1)
  | .gcmDec _ t h => some (fmtE 0xC0 t h 0 2)
  | .ctrEnc _ t h => some (fmtE 0xC0 t h 0 3)
  | .ctrDec _ t h => some (fmtE 0xC0 t h 0 4)
  | .cbcEnc _ t h => some (fmtE 0xC0 t h 0 5)
  | .cbcDec _ t h => some (fmtE 0xC0 t h 0 6)
  | .cmacGen _ t h => some (fmtE 0xC0 t h 0 7)
  | .cmacVer _ t h => some (fmtE 0xC0 t h 0 8)
  | .xtsEnc _ t h => some (fmtE 0xC0 t h 0 9)
  | .xtsDec _ t h => some (fmtE 0xC0 t h 0 0xA)
  | .tdeaCbcDec _ t h => some (fmtE 0xC0 t h 0 0x10)
  | .tdeaCbcEnc _ t h => some (fmtE 0xC0 t h 0 0x11)
  | .tdeaMacGen _ t h => some (fmtE 0xC0 t h 0 0x12)
  | .tdeaMacVer _ t h => some (fmtE 0xC0 t h 0 0x13)
  | .hash _ t alg => some (fmtE 0xC0 t 0 1 (0#6 ++ alg))
  | .start _ t h _ alg => some (fmtE 0xC0 t h 1 (1#6 ++ alg))
  | .update _ t alg => some (fmtE 0xC0 t 0 1 (2#6 ++ alg))
  | .finish _ t alg => some (fmtE 0xC0 t 0 1 (3#6 ++ alg))
  | .hmac _ t h alg => some (fmtE 0xC0 t h 1 (4#6 ++ alg))
  | .kmac _ t h alg => some (fmtE 0xC0 t h 1 (5#6 ++ alg))
  | .compare _ t => some (fmtE 0xC0 t 0 1 0x600)
  | .slhSign _ t h set => some (fmtE 0xC0 t h 1 (8#6 ++ set))
  | .slhVerify _ t h set => some (fmtE 0xC0 t h 1 (9#6 ++ set))
  | .modexp _ t => some (fmtE 0xC0 t 0 2 0x100)
  | .ecKeygen _ t => some (fmtE 0xC0 t 0 2 0x203)
  | .rsaPrivate _ t h => some (fmtE 0xC0 t h 2 0x101)
  | .rsaPssSign _ t h => some (fmtE 0xC0 t h 2 0x110)
  | .rsaPssVerify _ t h => some (fmtE 0xC0 t h 2 0x111)
  | .rsaPkcs1Sign _ t h => some (fmtE 0xC0 t h 2 0x112)
  | .rsaPkcs1Verify _ t h => some (fmtE 0xC0 t h 2 0x113)
  | .rsaOaepEnc _ t h => some (fmtE 0xC0 t h 2 0x114)
  | .rsaOaepDec _ t h => some (fmtE 0xC0 t h 2 0x115)
  | .ecdsaSign _ t h => some (fmtE 0xC0 t h 2 0x200)
  | .ecdsaVerify _ t h => some (fmtE 0xC0 t h 2 0x201)
  | .ecdh _ t h => some (fmtE 0xC0 t h 2 0x202)
  | .ed25519Sign _ t h => some (fmtE 0xC0 t h 2 0x210)
  | .ed25519Verify _ t h => some (fmtE 0xC0 t h 2 0x211)
  | .hybridSign _ t h => some (fmtE 0xC0 t h 2 0x500)
  | .hybridVerify _ t h => some (fmtE 0xC0 t h 2 0x501)
  | .mlkemKeygen _ t ps => some (fmtE 0xC0 t 0 2 (0x310 + BitVec.ofNat 14 ps.val))
  | .mlkemEncaps _ t h ps => some (fmtE 0xC0 t h 2 (0x320 + BitVec.ofNat 14 ps.val))
  | .mlkemDecaps _ t h ps => some (fmtE 0xC0 t h 2 (0x330 + BitVec.ofNat 14 ps.val))
  | .mldsaKeygen _ t ps => some (fmtE 0xC0 t 0 2 (0x410 + BitVec.ofNat 14 ps.val))
  | .mldsaSign _ t h ps => some (fmtE 0xC0 t h 2 (0x420 + BitVec.ofNat 14 ps.val))
  | .mldsaVerify _ t h ps => some (fmtE 0xC0 t h 2 (0x430 + BitVec.ofNat 14 ps.val))
  | .random _ t => some (fmtE 0xC0 t 0 3 1)
  | .twait _ d b t limit => some (fmtA 0xC8 d (t.setWidth 5) b limit)
  | .tpoll _ d t => some (fmtS 0xC9 d (t.setWidth 19))
  | .tdrop _ t => some (fmtS 0xCA 0 (t.setWidth 19))
  | .cvissRead _ t h => some (fmtE 0xE0 t h 0 1)
  | .cvissWrite _ t h => some (fmtE 0xE0 t h 0 2)
  | .ccstat _ d a => some (fmtA 0xE1 d a 0 0)
  | .wcpyFromWindow _ t h => some (fmtE 0xE8 t h 0 1)
  | .wcpyToWindow _ t h => some (fmtE 0xE8 t h 0 2)
  | _ => none

/-- The literal word that follows LIW. -/
def instrLiteral (i : Instr) : Option (BitVec 32) :=
  match i with
  | .liw _ _ _ _ lit => some lit
  | _ => none

end Sys2Proof
end

