-- ==== Sys2Proof/Config.lean ====
section
/-! DEFINITION. What the spec leaves open or leaves to external standards: opaque constants with no body, so that
nothing can be proved of a value of theirs (notes/assumptions/3.md, 4.md). -/

namespace Sys2Proof.Config

/-- The n-th byte the DRBG delivers (R14, R15); a free value (log 4). -/
opaque drbg : Nat → Byte

/-- The n-th otherwise unstated number: elapsed time within a second, a token of timing, an unstated result (log 4). -/
opaque free : Nat → Nat

/-- Hash of FIPS 180-4 or FIPS 202 named by a digest algorithm number of R214 (log 3); the last argument is the
output length in bytes. -/
opaque hash : Nat → Bytes → Nat → Bytes

/-- The 432 bytes of hash state a state block carries: algorithm, key material, bytes absorbed (R219). -/
opaque hashState : Nat → Bytes → Bytes → Bytes

/-- SHA3-256 (FIPS 202). -/
opaque sha3 : Bytes → Bytes

/-- KMAC256 of SP 800-185: key, message X, output length in bits, customisation string S. -/
opaque kmac : Bytes → Bytes → Nat → Bytes → Bytes

/-- KMAC128 of SP 800-185, same arguments. -/
opaque kmac128 : Bytes → Bytes → Nat → Bytes → Bytes

/-- HMAC of FIPS 198-1 over the digest algorithm numbered first: key, message. -/
opaque hmac : Nat → Bytes → Bytes → Bytes

/-- AES modes of SP 800-38A: key, initial counter block or IV, data. -/
opaque aesCtr : Bytes → Bytes → Bytes → Bytes
opaque aesCbcEnc : Bytes → Bytes → Bytes → Bytes
opaque aesCbcDec : Bytes → Bytes → Bytes → Bytes

/-- AES-GCM of SP 800-38D: key, IV, AAD, payload; the tag of key, IV, AAD, ciphertext is 16 bytes before truncation. -/
opaque aesGcmEnc : Bytes → Bytes → Bytes → Bytes → Bytes
opaque aesGcmDec : Bytes → Bytes → Bytes → Bytes → Bytes
opaque aesGcmTag : Bytes → Bytes → Bytes → Bytes → Bytes

/-- AES-CMAC of SP 800-38B: key, message; 16 bytes before truncation. -/
opaque aesCmac : Bytes → Bytes → Bytes

/-- XTS-AES of IEEE 1619 of one data unit: key 1 ‖ key 2, number of the unit (its tweak), data. -/
opaque xtsEnc : Bytes → Nat → Bytes → Bytes
opaque xtsDec : Bytes → Nat → Bytes → Bytes

/-- The DES block cipher of SP 800-67 under one key: key, block of 8 bytes. -/
opaque desEnc : Bytes → Bytes → Bytes
opaque desDec : Bytes → Bytes → Bytes

/-- Segments of an SLH_SIGN of parameter set 0 to 11 over a message of n bytes: its compression or permutation calls,
at most 64 per segment, follow from FIPS 205 (R228; log 163). -/
opaque slhSignSegs : Nat → Nat → Nat

/-- A lane or SLH-DSA result (R228, R239): function code, key material, parameters, inputs in order, random bytes. -/
opaque pk : Nat → Bytes → Nat → List Bytes → Bytes → Bytes

/-- A signature check or a decoding check of R228, R240: function code, key material, parameters, inputs. -/
opaque pkVerify : Nat → Bytes → Nat → List Bytes → Bool

/-- The curve and coefficient checks of R241 that need field arithmetic: rule number in its table, operands. -/
opaque pkValid : Nat → Nat → List Bytes → Bool

/-- Public half of generated or derived key material of the ALG given (R49, R180, R234). -/
opaque pkPublic : Nat → Bytes → Bytes

/-- Verification against the vendor key of the index given (R50, R237). -/
opaque vendorVerify : Nat → Bytes → Bytes → Bool

/-- Build numbers of the microcode and firmware images written at wafer test (R411). -/
opaque microcodeBuild : BitVec 16
opaque firmwareBuild : BitVec 16

end Sys2Proof.Config
end

