-- ==== Sys2Proof/Machine/State.lean ====
section
/-! DEFINITION. The state of the block as plain data: everything INVENTORY.md lists under State, and the state
right after reset (notes/assumptions/1.md, 5.md). -/

namespace Sys2Proof.Machine

/-- No meaning ends in a fault: what the spec refuses it refuses with a status, a trap or a discarded write. The
constructor is raised by nobody; it is safe. -/
inductive Fault where
  | impossible
  deriving DecidableEq, Repr

/-- Refusals. `notModelled` is raised by an arm of `exec` whose command has no meaning yet; it is safe. -/
inductive Refusal where
  | notModelled (mnemonic : String)
  deriving DecidableEq, Repr

/-- Memory cells in canonical form: addresses strictly rising, no cell equal to the byte 0 an unlisted address
reads as (log 2). -/
abbrev Mem := List Host.Cell

/-- Status codes (05 R102). -/
inductive Status where
  | ok | okTruncated | okCloseCall | okRetried
  | lengthRange | bufferShort | shortInput | badOrder | operandRange | notOnCurve | badFormat
  | sessionsExhausted | operandMemoryFull | pressTooLarge
  | keyAttr | keyExhausted | keyEmpty | orderCounter | orderSignature | lifecycle
  | tagFail | compareFail | parkInvalid | mediaTagFail
  | noHealthyChannel | guardActive
  | mediaGone | writeUnknown | mediaLocked | mediaWriteProtected
  | faultPermanent | timeout | aborted
  deriving DecidableEq, Repr, Inhabited

/-- Life-cycle states (03). -/
inductive Lifecycle where
  | manufacture | issued | service | recovery | test | retired
  deriving DecidableEq, Repr, Inhabited

/-- Where the device is: in reset, in a power state of R34, or unpowered. -/
inductive PowerSt where
  | inReset | active | idle | dormant | battery | off
  deriving DecidableEq, Repr, Inhabited

structure Power where
  st : PowerSt
  req : Bool
  holdWarm : Bool
  refused : Bool
  reason : BitVec 4
  holdup : Bool
  pwrfailN : Bool
  domainsOff : List (Fin 64)
  testEn : Bool
  balls : BitVec 2
  pfSincePend : Bool
  vbat : Bool
  soleInvalid : Bool
  deriving DecidableEq, Repr, Inhabited

/-- What an entry of the AER log reports: a failed host-memory access of an order, a window or a queue pair (05 R75,
R84). -/
inductive AerEntry where
  | order (tag : BitVec 64)
  | window (core : Nat)
  | sqFetch (qp : BitVec 8)
  | cqWrite (qp : BitVec 8)
  deriving DecidableEq, Repr, Inhabited

structure Link where
  d3hot : Bool
  pmeEn : Bool
  pmeStatus : Bool
  l12 : Bool
  retrains : Nat
  /-- errors logged through AER, oldest first -/
  aer : List AerEntry
  cfg : LinkCfg
  deriving DecidableEq, Repr, Inhabited

/-- A two-copy record of one value (12 R257, R258): sequence and value of each copy, and whether it is valid: all its
groups read, and its check matches. -/
structure Copies (α : Type) where
  seq0 : BitVec 32
  val0 : α
  ok0 : Bool
  seq1 : BitVec 32
  val1 : α
  ok1 : Bool
  deriving DecidableEq, Repr, Inhabited

/-- A two-copy record of a number. -/
abbrev TwoCopy := Copies Nat

/-- The root vault (03 R42, R56): the state in effect, the two-copy life-cycle word, and the two copies of the device
root; none where a copy reads zero. -/
structure Vault where
  lc : Lifecycle
  word : Copies Lifecycle
  root0 : Option Bytes
  root1 : Option Bytes
  deriving DecidableEq, Repr, Inhabited

structure Officer where
  num : Nat
  ecdsa : Bytes
  mldsa : Bytes
  deriving DecidableEq, Repr, Inhabited

structure LcState where
  firstStart : Bool
  debug : Bool
  permit : Bool
  lcRecord : Option Lifecycle
  officers : List Officer
  k : Nat
  bankTag : Bytes
  updateCounter : TwoCopy
  /-- the certificate request made at first start (03, Identity) -/
  request : Bytes
  cert : Option Bytes
  retirement : Option Bytes
  wipe : Bool
  pendLast : Option (BitVec 2)
  deriving DecidableEq, Repr, Inhabited

structure Keys where
  bootNonce : Option Bytes
  sessionKey : Option Bytes
  parkSerial : Nat
  stateKeys : Option (Bytes × Bytes)
  deriving DecidableEq, Repr, Inhabited

/-- Tamper area of a last (16, Thresholds and floors). -/
structure Tamper where
  tiers : List Byte
  light : Nat
  tempLow : Int
  tempHigh : Int
  supplies : List (Nat × Nat)
  alertCount : Nat
  guardCount : Nat
  windowUs : Nat
  loops : BitVec 8
  switches : BitVec 8
  polarity : BitVec 8
  deriving DecidableEq, Repr, Inhabited

structure AppletSel where
  id : Nat
  minVer : Nat
  mask : BitVec 8
  deriving DecidableEq, Repr, Inhabited

/-- A last record (04). -/
structure Last where
  number : BitVec 2
  asinfel : Bool
  generation : Nat
  name : Bytes
  enables : BitVec 64
  hostFirst : Nat
  hostCount : Nat
  appletFirst : Nat
  appletCount : Nat
  loaned : Nat
  dormantOk : Bool
  holdWarm : Bool
  warm : List Nat
  roles : List Nat
  timeFlags : BitVec 3
  ppsMs : Nat
  applets : List AppletSel
  tamper : Tamper
  groups : List (BitVec 32)
  routing : List (BitVec 32)
  digestOk : Bool
  deriving DecidableEq, Repr, Inhabited

structure LastSel where
  active : BitVec 2
  base : Bool
  source : Bool
  deriving DecidableEq, Repr, Inhabited

structure HlRegs where
  sqBase : BitVec 64
  cqBase : BitVec 64
  qcfg : BitVec 32
  result : BitVec 4
  lost : Bool
  busy : Bool
  epochHi : BitVec 32
  deriving DecidableEq, Repr, Inhabited

/-- A live queue pair (05 R80 to R85). -/
structure Qp where
  n : BitVec 8
  sqBase : Nat
  cqBase : Nat
  sqD : Nat
  cqD : Nat
  cls : BitVec 2
  sqHead : Nat
  sqTail : Nat
  cqHead : Nat
  cqTail : Nat
  phase : Bool
  reserved : Nat
  halted : Bool
  haltOwed : Option (BitVec 32)
  /-- entries of an order whose extension entries have not all arrived -/
  gathered : List Bytes
  /-- the gathered order has already completed with TIMEOUT (R86) -/
  timedOut : Bool
  deleting : Bool
  /-- its next completion-entry write fails (R84) -/
  cqFails : Bool
  deriving DecidableEq, Repr, Inhabited

/-- A buffer descriptor (05 R86). -/
structure Desc where
  addr : Nat
  len : Nat
  window : Byte
  access : Byte
  deriving DecidableEq, Repr, Inhabited

inductive OKind where
  | call | run | sector | seal | openS | closeS | park | unpark | admin
  deriving DecidableEq, Repr, Inhabited

/-- Where an outstanding order stands (05, Admission). -/
inductive OState where
  | held
  /-- accepted by its serving block -/
  | admitted
  /-- forwarded to the lead of a Welt pair (R380) -/
  | forwarded
  deriving DecidableEq, Repr, Inhabited

/-- An outstanding order. `body` is bytes 24 to 63 of its entry; `descs` its descriptors in order. -/
structure Order where
  uid : Nat
  qp : BitVec 8
  kind : OKind
  fence : Bool
  session : BitVec 32
  tag : BitVec 64
  deadline : Nat
  body : Bytes
  descs : List Desc
  st : OState
  closeCall : Bool
  retried : Bool
  /-- the epoch its completion carries once fixed (R22) -/
  epoch : Option Nat
  deriving DecidableEq, Repr, Inhabited

/-- MSI-X table entry. -/
structure MsixEntry where
  v : Nat
  addr : BitVec 64
  data : BitVec 32
  masked : Bool
  deriving DecidableEq, Repr, Inhabited

structure Msix where
  enable : Bool
  funcMask : Bool
  table : List MsixEntry
  pba : List Nat
  disarmed : List Nat
  deriving DecidableEq, Repr, Inhabited

/-- A bit of an IRIG frame: the mark for 0, for 1 and for a position identifier (13 R285). -/
inductive IrigBit where
  | zero | one | marker
  deriving DecidableEq, Repr, Inhabited

/-- A CMD42 to a card (15 R344, R345). -/
inductive Cmd42 where
  | setPwdLock | unlock | forceErase
  deriving DecidableEq, Repr, Inhabited

/-- What the device sent (the model's own trace). -/
inductive Tx where
  | msix (v : Nat) (addr : BitVec 64) (data : BitVec 32)
  | pme
  | welt (type : Nat) (seq : Nat)
  /-- a HELLO frame's payload (17 R374) -/
  | hello (payload : Bytes)
  | retrain
  | pps (level : Bool)
  /-- the 100 bits of an IRIG B004 frame (13 R285) -/
  | tcode (bits : List IrigBit)
  /-- TCODE_OUT is held low with a frame in progress (13 R286) -/
  | tcodeCut
  | cmd42 (ch : Nat) (mode : Cmd42) (pwd : Bytes)
  deriving DecidableEq, Repr, Inhabited

/-- A live session (05 R92). -/
structure Session where
  idx : Nat
  gen : Nat
  qp : BitVec 8
  owner : BitVec 64
  vol : Option Nat
  page : Mem
  deriving DecidableEq, Repr, Inhabited

/-- A loaned slot (08 R184). -/
structure Loan where
  n : Nat
  digest : Bytes
  keyType : Nat
  usage : BitVec 16
  material : Bytes
  master : Nat
  blocks : Nat
  stamp : Nat
  deriving DecidableEq, Repr, Inhabited

structure Mailbox where
  busy : Bool
  done : Bool
  overrun : Bool
  result : Byte
  native : BitVec 16
  irqEn : Bool
  rlen : Nat
  /-- the request buffer (05 R103) -/
  request : Mem
  response : Bytes
  /-- the command that waits for a press open on its master slot (01 R21) -/
  waiting : Option Nat
  deriving DecidableEq, Repr, Inhabited

inductive Mode where
  | s | a | j
  deriving DecidableEq, Repr, Inhabited

/-- A handle register (06 R107, HBIND). -/
inductive Handle where
  | empty
  | keySlot (n : Nat)
  | session
  | operand (n : Nat)
  | volume (n : Nat)
  | channel (n : Nat)
  | counter (n : Nat)
  | book (n : Nat)
  | window (n : Nat)
  deriving DecidableEq, Repr, Inhabited

/-- A token register (07, Tokens). -/
inductive Tok where
  | empty
  | busy
  | done (st : Status) (count : BitVec 32) (value : Word)
  deriving DecidableEq, Repr, Inhabited

/-- A buffer window of an order (06 R113). -/
structure Window where
  addr : Nat
  len : Nat
  rd : Bool
  wr : Bool
  deriving DecidableEq, Repr, Inhabited

structure Grant where
  kind : Nat
  rights : BitVec 8
  first : Nat
  count : Nat
  deriving DecidableEq, Repr, Inhabited

/-- An applet image (06, Applet images). -/
structure Applet where
  id : Nat
  ver : Nat
  entries : List Nat
  codeLen : Nat
  dataLen : Nat
  zeroFill : Nat
  runMs : Nat
  algs : BitVec 64
  grants : List Grant
  code : Bytes
  data : Bytes
  digest : Bytes
  origin : Lifecycle
  /-- blocks of the applet store it lies in, in order (12 R250) -/
  places : List Nat
  /-- its header, the first 512 bytes of the image -/
  header : Bytes := []
  deriving DecidableEq, Repr, Inhabited

/-- An applet resident on a core, with its data memory (06 R117). -/
structure Resident where
  img : Applet
  mem : Mem
  /-- to be loaded again from the applet store before its next order (06 R126) -/
  reload : Bool
  deriving DecidableEq, Repr, Inhabited

/-- Items of a press (12, The Press), by the object they change. -/
inductive PItem where
  | write (p : Nat) (off : Nat) (data : Bytes)
  | clearPart (p : Nat)
  | protect (p : Nat) (level : Nat)
  | unprotect (p : Nat) (level : Nat)
  | ctrAdd (n amount : Nat)
  /-- a counter advance as the log record holds it (R262) -/
  | ctrSet (n v : Nat)
  | updInc
  | updSet (v : Nat)
  /-- a write ended by a partition clear (R256) -/
  | voided
  | slotWrite (head span : Nat) (attr : BitVec 64) (init : Nat) (gen : Nat) (owner : BitVec 64) (nonce : Option Bytes)
      (fixed : BitVec 32) (material : Bytes)
  | slotFree (first span gen : Nat)
  | officers (os : List Officer) (k : Nat) (tag : Bytes)
  | lifeCycle (lc : Lifecycle)
  | retire (cause : Nat) (reason : Byte)
  | permit (b : Bool)
  | pendLast (v : Option (BitVec 2))
  | last (n : BitVec 2) (r : Last)
  | cert (b : Bytes)
  | applet (a : Applet)
  | appletRm (id ver : Nat)
  | wheel (book : Nat) (msg sig : Bytes) (no lastCtr : Nat)
  | gapRecords
  | timeConfig (slot : Nat) (rref : Nat) (trim : Int) (tai next leap : Nat)
  | slew (rate um : Nat) (delta : Int) (tm slewAt : Int) (aTm : Nat)
  | step (um : Nat) (delta slewAt : Int) (measured : Option (Nat × Nat))
  | bookOpen (b n slot arch : Nat) (label : Bytes)
  | bookConfig (b n slot arch : Nat) (label : Bytes)
  | bookClose (b : Nat)
  | bins
  | health (chan cause : Nat)
  | volErase (ch : Nat) (format : Bool)
  | volFormat (ch : Nat)
  | volReady (ch sectors : Nat) (ready : Bool)
  | volWrite (ch first : Nat) (data : List Bytes)
  /-- archive entries of a book: kind, generation and body of each (13 R301) -/
  | archive (ch book : Nat) (recs : List (Nat × Nat × Bytes))
  | weltPair (twin cert : Bytes) (role : BitVec 2)
  | weltUnpair
  | weltMode (sync : Bool)
  | weltHandover
  | weltSecret (b : Bytes)
  | weltPromote
  | weltTakeover
  deriving DecidableEq, Repr, Inhabited

/-- An open press of a frame (07 R147). -/
structure OpenPress where
  reserve : Nat
  used : Nat
  items : List PItem
  conds : List (Nat × Word)
  deriving DecidableEq, Repr, Inhabited

/-- What waits for an outcome. -/
inductive Ref where
  | none
  | token (c f uid t : Nat)
  | order (uid : Nat)
  /-- an immediate CTRADD or partition-word write of a frame: status and value registers -/
  | instr (c f uid : Nat) (d : BitVec 5) (b : Option (BitVec 5))
  | mailbox
  | wheel (book : Nat)
  | twin (ref : BitVec 64)
  deriving DecidableEq, Repr, Inhabited

/-- A frame of an application core, or the supervisor's (06, Frames). -/
structure Fr where
  uid : Nat
  mode : Mode
  pc : BitVec 32
  g : Vector Word 32
  h : Vector Handle 16
  t : Vector Tok 8
  icount : Nat
  kind : OKind
  tag : BitVec 64
  session : BitVec 32
  cls : BitVec 2
  applet : Nat
  entry : Nat
  odBytes : BitVec 32
  windows : Vector (Option Window) 16
  /-- WN_SLIDE0 to 15 -/
  slides : Vector Nat 16
  codeLen : Nat
  dataLen : Nat
  /-- a job's own code and data (06 R117) -/
  code : Bytes
  data : Mem
  runMs : Nat
  /-- its EXIT has been granted against the expiry of the run limit (06 R111) -/
  exitDue : Bool
  /-- the core's operation number of its order (16 R363) -/
  op : Nat
  presses : Vector (Option OpenPress) 4
  /-- TWAIT in progress: token, d, b -/
  wait : Option (BitVec 3 × BitVec 5 × BitVec 5)
  /-- its wait limit in units of 8 µs, 0 none -/
  waitLimit : BitVec 9
  waitClose : Bool
  /-- an instruction that waits for its press -/
  pressing : Bool
  /-- EXIT in progress: result, status -/
  exiting : Option (BitVec 32 × Status)
  /-- its order has been ended by a trap or an ABORT with this status, and its busy work stops at its next boundary -/
  ending : Option Status
  truncated : Bool
  retried : Bool
  closeCall : Bool
  lastEpoch : Option Nat
  /-- host-memory spans its stores and requests have written, sorted and apart (05 R91) -/
  wrote : List (Nat × Nat)
  deriving DecidableEq, Repr, Inhabited

structure Core where
  frames : Vector (Option Fr) 4
  running : Option (Fin 4)
  halted : Bool
  stepping : Bool
  waiti : Bool
  resident : List Resident
  deriving DecidableEq, Repr, Inhabited

/-- A key-slot record span, named by its head (08, The slot record). -/
structure Slot where
  n : Nat
  span : Nat
  attr : BitVec 64
  init : Nat
  origin : Lifecycle
  gen : Nat
  fixed : BitVec 32
  owner : BitVec 64
  nonce : Option Bytes
  installEpoch : Nat
  material : Bytes
  tagOk : Bool
  deriving DecidableEq, Repr, Inhabited

/-- The 16 bytes of a Brine counter entry: invocation counter, remaining use count, slot generation (12). -/
structure Count where
  inv : Nat
  uses : Nat
  gen : Nat
  deriving DecidableEq, Repr, Inhabited

/-- A Brine counter entry (08 R169, 12): its index, the slot the directory gives it, its value, its distance and its
durable copy. -/
structure Entry where
  idx : Nat
  slot : Nat
  inv : Nat
  uses : Nat
  gen : Nat
  dist : Nat
  dur : Copies Count
  deriving DecidableEq, Repr, Inhabited

/-- Places a job writes. -/
inductive Dst where
  | none
  | host (addr : Nat)
  | data (c f : Nat) (off : Nat)
  | page (session : BitVec 32) (off : Nat)
  | response
  deriving DecidableEq, Repr, Inhabited

/-- A byte range a busy token touches (07 R139). -/
structure Range where
  space : Nat
  lo : Nat
  len : Nat
  wr : Bool
  deriving DecidableEq, Repr, Inhabited

/-- A scheduling stream (09 R187, 10 R216, 11). -/
inductive Stream where
  | frame (c f : Nat)
  | session (h : BitVec 32)
  | mailbox
  | device (n : Nat)
  deriving DecidableEq, Repr, Inhabited

/-- A hash-stream record (10 R221). -/
structure HashStream where
  idx : Nat
  c : Nat
  f : Nat
  uid : Nat
  alg : Nat
  keyed : Bool
  key : Bytes
  level : Nat
  declared : Nat
  absorbed : Bytes
  truncated : Bool
  serial : Nat
  deriving DecidableEq, Repr, Inhabited

/-- The main operation of a lane job, run at each run's end on that run's random value (11 R239, R242, R246). -/
structure LaneWork where
  /-- a verification, which writes nothing; a decoding, which can fail with TAG_FAIL -/
  verify : Bool
  decodes : Bool
  /-- it needs a value of the DRBG: a private operation, or the seed of an encryption -/
  random : Bool
  /-- its result depends on that value -/
  seeded : Bool
  /-- key generation: kind of the pair, private and public lengths -/
  pair : Option (Nat × Nat × Nat)
  key : Bytes
  par : Nat
  inputs : List Bytes
  out : Nat
  /-- the status of a failed validation (R241) -/
  invalid : Option Status
  /-- bytes written ahead of the result -/
  pre : Bytes
  deriving DecidableEq, Repr, Inhabited

/-- An entry of the table of signed time tokens (13 R289). -/
structure TokenEntry where
  id : Bytes
  t : Nat
  a : Nat
  slew : Int
  deriving DecidableEq, Repr, Inhabited

/-- What a job's end does beside writing its outputs. -/
inductive JobEnd where
  | plain
  /-- an operand slot receives the generated pair: order, object number, kind, pair -/
  | retain (uid obj kind : Nat) (pair : Bytes)
  /-- the hash-stream record takes this value, or is freed -/
  | hashSet (r : HashStream)
  | hashFree (idx : Nat)
  /-- the staging reservation of a held decryption -/
  | staged (n : Nat)
  /-- the signature of the closed wheel with this message -/
  | wheelSig (book : Nat) (msg : Bytes)
  /-- a time token: once signed it enters the token table (13 R289) -/
  | token (e : TokenEntry)
  /-- a mailbox RSA command goes on to a lane with this function, work, footprint, estimate and worst-corner time -/
  | rsa (fn : Nat) (work : LaneWork) (foot est worst : Nat)
  deriving DecidableEq, Repr, Inhabited

/-- Tag of an expanded key schedule: key space (0 native slot, 1 loaned slot, 2 host volume, 3 device-internal key),
number, direction, generation (09, Key schedules). -/
structure KeyTag where
  space : Nat
  n : Nat
  enc : Bool
  gen : Nat
  deriving DecidableEq, Repr, Inhabited

/-- A START, UPDATE or FINISH admitted and not yet begun: its hash stream is looked up when every earlier request of
its scheduling stream is done (10 R216, R221). -/
structure Deferred where
  /-- operation (1 START, 2 UPDATE, 3 FINISH) and algorithm -/
  op : Nat
  alg : Nat
  /-- the presented state block, the input of an UPDATE, the output length of a FINISH -/
  block : Bytes
  input : Bytes
  len : Nat
  /-- the record a START opens -/
  opens : HashStream
  deriving DecidableEq, Repr, Inhabited

/-- A request of the Vat, the digest dispatch or the lane dispatch. -/
structure Job where
  id : Nat
  fn : Nat
  ref : Ref
  cls : BitVec 2
  stream : Stream
  /-- segments in all, handed out and ended; a lane job is one segment, and a refused request has none -/
  segs : Nat
  started : Nat
  ended : Nat
  /-- the first of them, of additional data, which run before the payload -/
  aad : Nat
  /-- segments to run again after a fault (R210, R230) -/
  redo : List Nat
  /-- segments that may run at once (R190) -/
  width : Nat
  outs : List (Dst × Bytes)
  /-- the first output is written segment by segment -/
  streamed : Bool
  status : Status
  count : Nat
  value : Nat
  /-- bytes written segment by segment -/
  written : Nat
  /-- destination bytes zeroed at an end without OK (R204), and those accepted where the scrub fails (R205) -/
  scrub : Nat
  scrubFail : Option Nat
  /-- it holds its room in the staging pool (R202) -/
  reserved : Bool
  key : Option KeyTag
  /-- countermeasure level of its segments (09 R208, 10 R225) -/
  level : Nat
  stop : Bool
  retried : Bool
  faults : Nat
  ranges : List Range
  fin : JobEnd
  defer : Option Deferred
  work : Option LaneWork
  /-- the random value of a lane job's run -/
  rnd : Bytes
  /-- lanes: footprint in lines, lane bound by a retained slot; estimate, worst-corner time and suspension in tenths of
  a ns -/
  foot : Nat
  lane : Option Nat
  estT : Nat
  worstT : Nat
  suspT : Nat
  /-- sequence of the BRINE frame the twin shall acknowledge first (09 R196) -/
  mirror : Option Nat
  deriving DecidableEq, Repr, Inhabited

/-- Credits left in a round for classes 0 to 3 (05 R99, 09 R189). -/
structure Wrr where
  c0 : Nat
  c1 : Nat
  c2 : Nat
  c3 : Nat
  deriving DecidableEq, Repr, Inhabited

/-- Admission of one serving block: credits left in the round, and the queue pairs that have had turns, latest first
(05 R99). -/
structure Turns where
  wrr : Wrr
  recent : List (BitVec 8)
  deriving DecidableEq, Repr, Inhabited

/-- A running segment: unit, job, segment number. -/
structure Run where
  unit : Nat
  job : Nat
  seg : Nat
  deriving DecidableEq, Repr, Inhabited

/-- A scheduler: its admitted jobs in turn order, what its units run, suspended jobs per lane, credits. -/
structure Sched where
  jobs : List Job
  runs : List Run
  susp : List (Nat × Nat)
  wrr : Wrr
  deriving DecidableEq, Repr, Inhabited

/-- A retained operand slot (11 R233, R234). -/
structure Retained where
  lane : Nat
  uid : Nat
  obj : Nat
  kind : Nat
  pair : Bytes
  deriving DecidableEq, Repr, Inhabited

structure Engines where
  vat : Sched
  /-- the expanded key schedules of each core, newest first (09 R193) -/
  schedules : List (Nat × KeyTag)
  staged : Nat
  digest : Sched
  streams : List HashStream
  serial : Nat
  compares : List Job
  lanes : Sched
  retained : List Retained
  microcodeOk : Bool
  nextJob : Nat
  deriving DecidableEq, Repr, Inhabited

/-- A press handed to the Press. -/
structure Press where
  items : List PItem
  conds : List (Nat × Word)
  origin : Ref
  /-- log-record length in bytes -/
  len : Nat
  /-- space it holds in the press buffer until it has ended -/
  reserve : Nat
  core : Nat
  /-- bytes written to the origin's output, for the completion -/
  outBytes : Nat
  /-- the completion's result, where it is not the new update counter -/
  result : Option Nat
  /-- outputs written at the commit: host address, bytes -/
  outs : List (Nat × Bytes)
  /-- KEY_REPORT: output address and slots (08, Key bodies) -/
  report : Option (Nat × List Nat)
  /-- officer-log entry: envelope digest ‖ body type (15 R347) -/
  log : Option Bytes
  /-- card writes of the same frame that reach the Press first (07 R150) -/
  behind : List Ref
  /-- a card write was cured by a retry; a timeout of it was withdrawn (15 R331, 02 R28) -/
  retried : Bool
  closeCall : Bool
  deriving DecidableEq, Repr, Inhabited

/-- The log state: next position, retired halves, applied epoch (12, The log record). -/
structure LogState where
  pos : Nat
  half0 : Bool
  half1 : Bool
  applied : Nat
  deriving DecidableEq, Repr, Inhabited

/-- A log record (12, The log record): its length, the epoch it produced, its items with absolute values (R262), its
position in the ring, the core and the frame its press came from. -/
structure LogRecord where
  len : Nat
  epoch : Nat
  items : List PItem
  pos : Nat := 0
  core : Nat := 8
  frame : Nat := 0
  deriving DecidableEq, Repr, Inhabited

structure PressSt where
  epoch : Nat
  applied : Nat
  queue : List Press
  /-- committed records awaiting application, oldest first -/
  log : List LogRecord
  /-- the latest records that stand in the ring, latest first -/
  left : List LogRecord
  pos : Nat
  half0 : Bool
  half1 : Bool
  /-- the log state as the control page holds it -/
  state : Copies LogState
  bufUsed : Nat
  deriving DecidableEq, Repr, Inhabited

structure Part where
  origin : Option Lifecycle
  protect : Nat
  mem : Mem
  /-- the ranges written since the partition was last zero -/
  written : List (Nat × Nat) := []
  deriving DecidableEq, Repr, Inhabited

inductive BrineMode where
  | holdup | writeThrough
  deriving DecidableEq, Repr, Inhabited

structure Brine where
  mode : BrineMode
  /-- state word: value bits 7:0 mode (0 CLEAN, 1 DIRTY, 2 WRITE_THROUGH), bits 63:8 save count (R266) -/
  word : TwoCopy
  entries : List Entry
  deriving DecidableEq, Repr, Inhabited

/-- A channel record (16 R363): the operation numbers of its latest two faults are kept for R364. -/
structure Chan where
  ops : Nat
  faults : Nat
  latest : Nat
  retired : Bool
  cause : Nat
  f1 : Option Nat
  f2 : Option Nat
  deriving DecidableEq, Repr, Inhabited

structure Cellar where
  parts : Vector Part 8
  counters : List (Nat × TwoCopy)
  slots : List Slot
  /-- generation left in a record without a key (R179) -/
  gens : List (Nat × Nat)
  useCounts : List (Nat × TwoCopy)
  applets : List Applet
  spares : Vector Nat 4
  /-- remap table: row, spare row of its bank -/
  remapped : List (Nat × TwoCopy)
  retiredBanks : List Nat
  scrubAt : Nat
  /-- fault records of the rows that have faulted since start (16 R363) -/
  rows : List (Nat × Chan)
  /-- uncorrectable groups, as Cellar address / 16 (12 R254, R273) -/
  bad : List Nat
  /-- applet-store blocks of images removed since the start, freed at the next one (06 R130) -/
  removed : List Nat
  /-- the microcode image of copy 0 and of copy 1 passes its check (11 R237) -/
  micro0 : Bool
  micro1 : Bool
  deriving DecidableEq, Repr, Inhabited

/-- The head of a book (13). -/
structure Head where
  c : Nat
  h : Bytes
  t : Nat
  u : Nat
  w : Nat
  first : Nat
  lastPressed : Nat
  pressedNo : Nat
  gen : Nat
  gap : Bool
  deriving DecidableEq, Repr, Inhabited

inductive BookSt where
  | closed | opened | halted
  deriving DecidableEq, Repr, Inhabited

/-- A closed wheel waiting for its signature and press (13 R297). -/
structure Wheel where
  msg : Bytes
  no : Nat
  lastCtr : Nat
  signed : Option Bytes
  pressing : Bool
  arch : Nat
  deriving DecidableEq, Repr, Inhabited

/-- A seal that waits: reference, posting, the receipt's place, the bytes its busy token touches (07 R139). -/
structure SealWait where
  ref : Ref
  posting : Bytes
  dst : Dst
  ranges : List Range
  /-- a run of the posting's digest has faulted (10 R230) -/
  retried : Bool
  deriving DecidableEq, Repr, Inhabited

structure Book where
  st : BookSt
  n : Nat
  nextN : Option Nat
  slot : Nat
  arch : Nat
  gen : Nat
  label : Bytes
  head : Head
  durable : Copies Head
  dist : Nat
  place0 : Option Bytes
  place1 : Option Bytes
  gapRec : Option Bytes
  wheels : List Wheel
  /-- H_0 of this generation (R293) -/
  h0 : Bytes
  /-- seals of Yehepel code that wait for a wheel to be pressed (R298) -/
  waiting : List SealWait
  /-- genesis and gap entries owed to the archive before the next wheel's: kind, generation and body (R301) -/
  pend : List (Nat × Nat × Bytes)
  deriving DecidableEq, Repr, Inhabited

/-- A temperature bin: its latest offsets, newest first, at most 64 (13 R280). -/
abbrev Bin := List Int

structure TimeCfg where
  slot : Option Nat
  rref : Nat
  trim : Int
  tai : Nat
  next : Nat
  leap : Nat
  deriving DecidableEq, Repr, Inhabited

/-- Bytes 0x008 to 0x027 of the shared page (06): TAI fraction and seconds, uncertainty, REFOSC_IN running, epoch. -/
structure SharedTime where
  frac : Nat
  sec : Nat
  unc : Nat
  ref : Bool
  epoch : Nat
  deriving DecidableEq, Repr, Inhabited

structure TimeBase where
  /-- T: seconds × 2^48 + fraction (13) -/
  t : Nat
  /-- greatest time value issued (R276) -/
  timeSet : Bool
  lost : Bool
  confirmed : Bool
  qualified : Bool
  gates : Nat
  prevGate : Option Int
  refTripped : Bool
  /-- the trip of the XT32_IN check holds (16 R352) -/
  xtTripped : Bool
  /-- remaining slew R in units of 2^-48 ns, rate in ppm, total slew applied (2^-48 ns) -/
  r : Int
  rate : Nat
  slewTotal : Int
  /-- growth accumulator A in units of 2^-48 ns, its value at t_m, U_m -/
  a : Nat
  aTm : Nat
  um : Nat
  /-- t_m of the latest time order -/
  tm : Nat
  saturated : Bool
  /-- holdover: A at its start, seconds per bin, bin in use -/
  aHold : Nat
  binLog : List (Nat × Nat)
  bins : Vector Bin 15
  /-- the bin table as last pressed into the time record (R280) -/
  binsRec : Vector Bin 15
  bin : Nat
  cfg : TimeCfg
  tokens : List TokenEntry
  alarm : Nat
  /-- the time mark, a two-copy record (13 R283) -/
  mark : TwoCopy
  pps : Bool
  /-- no edge before this second (R286) -/
  ppsFrom : Nat
  tcode : Bool
  /-- the time window's latched registers -/
  latT : Nat
  latU : Nat
  latStat : BitVec 32
  latR : BitVec 64
  /-- the shared page's TSEQ, what its bytes 0x008 to 0x027 show, and T at their latest whole rewrite (06 R115) -/
  shSeq : Nat
  sh : SharedTime
  shT : Nat
  deriving DecidableEq, Repr, Inhabited

structure Source where
  cfg : BitVec 32
  pend : Bool
  deliv : Bool
  act : Bool
  /-- the condition, as last sampled (R304) -/
  cond : Bool
  deriving DecidableEq, Repr, Inhabited

structure Group where
  word : BitVec 32
  next : Option (BitVec 32)
  count : Nat
  timer : Bool
  deriving DecidableEq, Repr, Inhabited

structure EvStat where
  last : BitVec 9
  lastGrp : Bool
  badcomp : Bool
  wakefull : Bool
  refused : Bool
  deriving DecidableEq, Repr, Inhabited

structure Events where
  sources : List Source
  groups : List Group
  gdisHost : Bool
  gdisT0 : Bool
  stat : EvStat
  wakePend : List Nat
  /-- the wake watcher has started exit from DORMANT (R317) -/
  wakeExit : Bool
  deriving DecidableEq, Repr, Inhabited

structure Drbg where
  noise0 : Bool
  noise1 : Bool
  seedReady : Bool
  requests : Nat
  /-- a reseed has fallen due and waits for its seed (01 R14) -/
  due : Bool
  deriving DecidableEq, Repr, Inhabited

structure LogRec where
  log : Byte
  subject : Byte
  event : Byte
  flags : Byte
  detail : BitVec 32
  epoch : Nat
  t : Nat
  repeats : Nat
  deriving DecidableEq, Repr, Inhabited

/-- A ring log: records oldest first, free-running indexes W and R (16 R368). -/
structure RLog where
  recs : List LogRec
  w : BitVec 8
  r : BitVec 8
  ovf : Bool
  deriving DecidableEq, Repr, Inhabited

structure Health where
  chans : List Chan
  /-- pressed health table: channel, cause, TAI seconds, epoch -/
  table : List (Nat × Nat × Nat × Nat)
  /-- retirements since first start, and the count as pressed with the table (R71, R370) -/
  retirements : Nat
  pressed : Nat
  log : RLog
  /-- units whose known-answer test is due at their first power-on after DORMANT, and whether it will fail (02 R36) -/
  katDue : List (Nat × Bool)
  deriving DecidableEq, Repr, Inhabited

structure Rind where
  log : RLog
  guard : Bool
  cls : BitVec 4
  latched : Bool
  tripped : List (Fin 13)
  latchedTrip : Option (Fin 13)
  detections : List Nat
  wiping : Bool
  /-- what the generator of the mesh sequences was last reseeded with (16 R349) -/
  mesh : Bytes
  deriving DecidableEq, Repr, Inhabited

inductive CardSt where
  | none | identifying | identified | rejected | quarantined
  deriving DecidableEq, Repr, Inhabited

/-- Steps of a card request (15 R340). -/
inductive CardPhase where
  | queued | path | payload | header | press | home | applied | read | erase | format
  deriving DecidableEq, Repr, Inhabited

inductive CardReqKind where
  | read | write | append (book : Nat) | officerLog (entry : Bytes) | erase (format : Bool)
  deriving DecidableEq, Repr, Inhabited

/-- A card request (15 R332). -/
structure CardReq where
  kind : CardReqKind
  ref : Ref
  first : Nat
  count : Nat
  data : List Bytes
  dst : Dst
  phase : CardPhase
  pos : Nat
  tries : Nat
  retried : Bool
  closeCall : Bool
  stop : Bool
  ranges : List Range
  /-- its place in the order of issue (07 R150) -/
  seq : Nat
  deriving DecidableEq, Repr, Inhabited

/-- The journal of a card (15 R340): state (1 written, 2 applied), write sequence, first volume sector, data sectors,
homes of its tag sectors, new root. -/
structure Journal where
  state : Nat
  seq : Nat
  first : Nat
  data : List Bytes
  homes : List Nat
  root : Bytes
  deriving DecidableEq, Repr, Inhabited

/-- Whether the sampling phase stands, a tuning waits for the end of the card command, or one runs (15 R328). -/
inductive CardTune where
  | good | due | running
  deriving DecidableEq, Repr, Inhabited

/-- A volume record (15 R337). State 0 none, 1 erasing, 2 formatting, 3 ready. -/
structure VolRec where
  state : Nat
  role : Nat
  origin : Lifecycle
  serial : Nat
  sectors : Nat
  seq : Nat
  root : Bytes
  append : Nat
  entryIx : Nat
  /-- header digest -/
  hdr : Bytes
  deriving DecidableEq, Repr, Inhabited

structure CardCh where
  present : Bool
  st : CardSt
  media : Media
  locked : Bool
  lv : Bool
  mode : Nat
  /-- no mode above this one until the card is removed (15 R326) -/
  cap : Nat
  /-- data lines in use, 4 or 1 (15 R325, R326) -/
  width : Nat
  /-- stepped down to 1 bit until the card is removed -/
  narrow : Bool
  csdWp : Bool
  class7 : Bool
  headerOk : Bool
  /-- capacity M in card sectors -/
  m : Nat
  /-- volume sectors written (15 R338: the others read as zeros) -/
  disk : List (Nat × Bytes)
  queue : List CardReq
  vol : VolRec
  /-- it is identified with S18R = 0, a voltage switch having failed (15 R327) -/
  s18off : Bool
  /-- sampling phase, tuning, time of the latest tuning in TAI seconds and die temperature then (15 R328) -/
  phaseAt : Nat
  tune : CardTune
  tunedAt : Nat
  tunedC : Int
  /-- the timeout of the awaited arrival has been withdrawn (02 R27) -/
  withdrawn : Bool
  /-- blocks of the sector in transfer that have ended well (15 R329) -/
  blk : Nat
  /-- transfer faults of the identification (15 R331) -/
  idTries : Nat
  /-- verified tag sectors kept, by card sector, newest first (15 R338) -/
  kept : List Nat
  journal : Option Journal
  deriving DecidableEq, Repr, Inhabited

structure OfficerMedium where
  headerOk : Bool
  entries : Nat
  missed : Nat
  firstSinceStart : Bool
  deriving DecidableEq, Repr, Inhabited

structure Cards where
  ch : Vector CardCh 4
  tab : Bool
  medium : OfficerMedium
  /-- the Sole's die temperature in °C, as of the latest gate (15 R328) -/
  dieC : Int
  deriving DecidableEq, Repr, Inhabited

inductive WRole where
  | unpaired | lead | follower | joining
  deriving DecidableEq, Repr, Inhabited

inductive WMode where
  | detached | sync | copying
  deriving DecidableEq, Repr, Inhabited

/-- What waits for the twin: an outcome for the acknowledgement of frame `seq` (17 R376), with the outputs it holds
back; or, on a follower, the outcome of the request forwarded in frame `seq` (R380), whose output goes to `dst`. -/
structure WeltWait where
  seq : Nat
  fwd : Bool
  outs : List (Dst × Bytes)
  dst : Dst
  ref : Ref
  status : Status
  result : Nat
  bytes : Nat
  value : Nat
  /-- the bytes its busy token touches (07 R139) -/
  ranges : List Range
  /-- its acknowledgement timeout is pending (02 R28) -/
  closeCall : Bool
  deriving DecidableEq, Repr, Inhabited

structure Welt where
  role : WRole
  twin : Bytes
  twinCert : Bytes
  term : BitVec 32
  secret : Option Bytes
  prefSync : Bool
  mode : WMode
  link : Bool
  lanes : List (Fin 2)
  lease : Bool
  granted : Bool
  stale : Bool
  forked : Bool
  nonce : Bytes
  /-- the session key: 32 bytes for the device of the lower identity, 32 for the other (17 R374) -/
  linkKey : Bytes
  txSeq : Nat
  rxSeq : Nat
  /-- frames sent and not acknowledged: sequence, type -/
  unacked : List (Nat × Nat)
  /-- frames that wait for room among the 64 unacknowledged ones (17 R373): ticket, type; tickets given out -/
  unsent : List (Nat × Nat)
  tickets : Nat
  timeouts : Nat
  closeCall : Bool
  waits : List WeltWait
  /-- bytes gathered of the press in transfer (R376), its total -/
  gathered : Nat
  /-- grants held by a follower: slot, next value, values left (R379) -/
  grants : List (Nat × Nat × Nat)
  copied : List PairItem
  timeBad : Bool
  /-- the twin's pairing HELLO has been refused under this record (R388) -/
  pairRefused : Bool
  deriving DecidableEq, Repr, Inhabited

structure Smb where
  pointer : Nat
  alert : Bool
  reply : Option Bytes
  /-- the copy of LC_STATUS and of the identity as they stood when PD1 was switched off (18 R403) -/
  lcKept : Nat
  idKept : Bytes
  deriving DecidableEq, Repr, Inhabited

structure Dbg where
  target : Nat
  addr : Nat
  deriving DecidableEq, Repr, Inhabited

/-- TP_CAUSE, TP_PC, TP_ADDR (06, System words). -/
structure TrapRec where
  cause : BitVec 64
  pc : BitVec 64
  addr : BitVec 64
  deriving DecidableEq, Repr, Inhabited

/-- The machine state. -/
structure State where
  power : Power
  link : Link
  hostRead : BitVec 32
  vault : Vault
  lc : LcState
  keys : Keys
  lasts : Vector (Option Last) 4
  active : Last
  ls : LastSel
  hl : HlRegs
  qps : List Qp
  orders : List Order
  /-- admission of the sealing fast path, the Vat, the application cores and the supervisor core (05 R99) -/
  turns : Vector Turns 4
  nextUid : Nat
  hostMem : Mem
  msix : Msix
  tx : List Tx
  sessions : List Session
  gens : List (Nat × Nat)
  genBase : Nat
  mb : Mailbox
  loaned : List Loan
  loanClock : Nat
  cores : Vector Core 9
  tp : TrapRec
  supSram : Mem
  eng : Engines
  press : PressSt
  cellar : Cellar
  brine : Brine
  books : Vector Book 64
  time : TimeBase
  ev : Events
  drbg : Drbg
  freeCtr : Nat
  health : Health
  rind : Rind
  cards : Cards
  welt : Welt
  smb : Smb
  dbg : Dbg
  pending : List Instr
  deriving DecidableEq, Repr

/-! ### Contents of the lasts (04 R61) -/

/-- Base-last tamper area: every field at its fixed floor, both enclosure enables zero (16 R354). -/
def baseTamper : Tamper where
  tiers := [2, 2, 2, 2, 1, 2, 1, 1, 1, 1, 2, 0, 0, 0, 0, 0]
  light := 100
  tempLow := -55
  tempHigh := 135
  supplies := [(580, 950), (760, 960), (760, 960), (1080, 1350), (1600, 2000), (2900, 3700), (2900, 3700),
    (2900, 3700), (2900, 3700), (2300, 3900), (0, 6000)]
  alertCount := 16
  guardCount := 64
  windowUs := 1000
  loops := 0
  switches := 0
  polarity := 0

/-- Base-last routing word of source n (14, Sources): TARGET 31:28, PRIORITY 3:0. -/
def baseRoute (n : Nat) : BitVec 32 :=
  if n = 0 then 0
  else if n ≤ 256 ∨ n = 292 then 0x90000000
  else if n ≤ 275 then 0x90000008
  else 0x00000008

/-- The base last, held in mask ROM (04 R61). -/
def baseLast : Last where
  number := 0
  asinfel := false
  generation := 0
  name := List.replicate 16 0
  enables := 0xFF3F3F
  hostFirst := 0
  hostCount := 16384
  appletFirst := 0
  appletCount := 0
  loaned := 0
  dormantOk := true
  holdWarm := false
  warm := [1, 1, 1, 1]
  roles := [0, 0, 0, 3]
  timeFlags := 3
  ppsMs := 100
  applets := []
  tamper := baseTamper
  groups := List.replicate 64 0x0000641F
  routing := (List.range 512).map baseRoute
  digestOk := true

/-- Last 0 as shipped, the Asinfel last (04 R61). -/
def asinfelLast : Last :=
  { baseLast with
    asinfel := true, generation := 1, loaned := 1024, enables := 0xFF3F7F
    name := [0x41, 0x53, 0x49, 0x4E, 0x46, 0x45, 0x4C, 0, 0, 0, 0, 0, 0, 0, 0, 0] }

/-! ### Reset -/

/-- Both copies valid and of one value, copy 1 the newer. -/
def Copies.both {α : Type} (v : α) : Copies α := ⟨0, v, true, 1, v, true⟩

def TwoCopy.zero : TwoCopy := Copies.both 0

/-- A vault in state l with the root r, or with none, in both copies. -/
def Vault.holding (l : Lifecycle) (r : Option Bytes) : Vault := ⟨l, Copies.both l, r, r⟩

def Head.zero : Head := ⟨0, List.replicate 32 0, 0, 0, 1, 1, 0, 0, 0, false⟩

def Book.zero : Book where
  st := .closed
  n := 1
  nextN := none
  slot := 0
  arch := 255
  gen := 0
  label := List.replicate 16 0
  head := Head.zero
  durable := Copies.both Head.zero
  dist := 0
  place0 := none
  place1 := none
  gapRec := none
  wheels := []
  h0 := List.replicate 32 0
  waiting := []
  pend := []

/-- A frame with the register values of R108, in the mode given. -/
def Fr.fresh (m : Mode) (uid : Nat) : Fr where
  uid := uid
  mode := m
  pc := 0
  g := Vector.replicate 32 0
  h := Vector.replicate 16 .empty
  t := Vector.replicate 8 .empty
  icount := 0
  kind := .run
  tag := 0
  session := 0
  cls := 0
  applet := 0
  entry := 0
  odBytes := 0
  windows := Vector.replicate 16 none
  slides := Vector.replicate 16 0
  codeLen := 0
  dataLen := 0
  code := []
  data := []
  runMs := 0
  exitDue := false
  op := 0
  presses := Vector.replicate 4 none
  wait := none
  waitLimit := 0
  waitClose := false
  pressing := false
  exiting := none
  ending := none
  truncated := false
  retried := false
  closeCall := false
  lastEpoch := none
  wrote := []

def Core.idle : Core := ⟨Vector.replicate 4 none, none, false, false, false, []⟩

/-- The supervisor core: its firmware runs in S mode in frame 0. -/
def Core.supervisor : Core :=
  { Core.idle with frames := #v[some (Fr.fresh .s 0), none, none, none], running := some 0 }

def Wrr.full : Wrr := ⟨8, 4, 2, 1⟩

def Turns.fresh : Turns := ⟨Wrr.full, []⟩

def Sched.empty : Sched := ⟨[], [], [], Wrr.full⟩

def Chan.fresh : Chan := ⟨0, 0, 0, false, 0, none, none⟩

def RLog.empty : RLog := ⟨[], 0, 0, false⟩

def VolRec.none : VolRec := ⟨0, 0, .manufacture, 0, 0, 0, List.replicate 32 0, 0, 0, List.replicate 32 0⟩

def CardCh.absent : CardCh where
  present := false
  st := .none
  media := .sd
  locked := false
  lv := false
  mode := 0
  cap := 7
  width := 4
  narrow := false
  csdWp := false
  class7 := false
  headerOk := false
  m := 0
  disk := []
  queue := []
  vol := VolRec.none
  s18off := false
  phaseAt := 0
  tune := .good
  tunedAt := 0
  tunedC := 0
  withdrawn := false
  blk := 0
  idTries := 0
  kept := []
  journal := none

def Welt.unpaired : Welt where
  role := .unpaired
  twin := List.replicate 16 0
  twinCert := []
  term := 0
  secret := none
  prefSync := true
  mode := .detached
  link := false
  lanes := []
  lease := false
  granted := false
  stale := false
  forked := false
  nonce := []
  linkKey := []
  txSeq := 0
  rxSeq := 0
  unacked := []
  unsent := []
  tickets := 0
  timeouts := 0
  closeCall := false
  waits := []
  gathered := 0
  grants := []
  copied := []
  timeBad := false
  pairRefused := false

/-- The default time configuration (13 R288). -/
def TimeCfg.default : TimeCfg := ⟨none, 500, 0, 0, 0, 0⟩

def TimeBase.reset : TimeBase where
  t := 0
  timeSet := false
  lost := false
  confirmed := false
  qualified := false
  gates := 0
  prevGate := none
  refTripped := false
  xtTripped := false
  r := 0
  rate := 0
  slewTotal := 0
  a := 0
  aTm := 0
  um := 0
  tm := 0
  saturated := true
  aHold := 0
  binLog := []
  bins := Vector.replicate 15 []
  binsRec := Vector.replicate 15 []
  bin := 0
  cfg := TimeCfg.default
  tokens := []
  alarm := 0
  mark := TwoCopy.zero
  pps := false
  ppsFrom := 0
  tcode := false
  latT := 0
  latU := 0xFFFFFFFF
  latStat := 4
  latR := 0
  shSeq := 0
  sh := ⟨0, 0, 0xFFFFFFFF, false, 0⟩
  shT := 0

def Events.ofLast (l : Last) : Events where
  sources := l.routing.map fun w => ⟨w, false, false, false, false⟩
  groups := l.groups.map fun w => ⟨w, none, 0, false⟩
  gdisHost := true
  gdisT0 := true
  stat := ⟨0, false, false, false, false⟩
  wakePend := []
  wakeExit := false

def Engines.empty : Engines where
  vat := Sched.empty
  schedules := []
  staged := 0
  digest := Sched.empty
  streams := []
  serial := 0
  compares := []
  lanes := Sched.empty
  retained := []
  microcodeOk := false
  nextJob := 0

def Mailbox.idle : Mailbox := ⟨false, false, false, 0, 0, false, 0, [], [], none⟩

/-- A blank part with main power present and RESET_N held low (log 1): the life-cycle word reads MANUFACTURE, every
register is at its Reset column, and the fields the spec gives no value for hold the values log 5 names. -/
def State.reset : State where
  power := ⟨.inReset, false, false, false, 0, false, true, [], false, 0, false, true, false⟩
  link := ⟨false, false, false, false, 0, [], LinkCfg.default⟩
  hostRead := 0
  vault := Vault.holding .manufacture none
  lc := ⟨false, false, false, none, [], 0, List.replicate 8 0, TwoCopy.zero, [], none, none, false, none⟩
  keys := ⟨none, none, 0, none⟩
  lasts := #v[some asinfelLast, none, none, none]
  active := baseLast
  ls := ⟨0, false, false⟩
  hl := ⟨0, 0, 0, 0, false, false, 0⟩
  qps := []
  orders := []
  turns := Vector.replicate 4 Turns.fresh
  nextUid := 1
  hostMem := []
  msix := ⟨false, false, [], [], []⟩
  tx := []
  sessions := []
  gens := []
  genBase := 0
  mb := Mailbox.idle
  loaned := []
  loanClock := 0
  cores := #v[Core.idle, Core.idle, Core.idle, Core.idle, Core.idle, Core.idle, Core.idle, Core.idle, Core.supervisor]
  tp := ⟨0, 0, 0⟩
  supSram := []
  eng := Engines.empty
  press := ⟨0, 0, [], [], [], 0, false, false, Copies.both ⟨0, false, false, 0⟩, 0⟩
  cellar := ⟨Vector.replicate 8 ⟨none, 0, [], []⟩, [], [], [], [], [], Vector.replicate 4 328, [], [], 0, [], [], [], true, true⟩
  brine := ⟨.writeThrough, TwoCopy.zero, []⟩
  books := Vector.replicate 64 Book.zero
  time := TimeBase.reset
  ev := Events.ofLast baseLast
  drbg := ⟨false, false, false, 0, false⟩
  freeCtr := 0
  health := ⟨List.replicate 60 Chan.fresh, [], 0, 0, RLog.empty, []⟩
  rind := ⟨RLog.empty, false, 0, false, [], none, [], false, []⟩
  cards := ⟨Vector.replicate 4 CardCh.absent, true, ⟨false, 0, 0, true⟩, 0⟩
  welt := Welt.unpaired
  smb := ⟨0, false, none, 0, []⟩
  dbg := ⟨0, 0⟩
  pending := []

end Sys2Proof.Machine
end

