-- ==== Sys2Proof/Machine/Bytes.lean ====
section
/-! DEFINITION. Byte strings, little-endian fields and bit fields (00 R4). -/

namespace Sys2Proof.Machine

/-- The number a byte string spells, head least significant (R4). -/
def leN : Bytes → Nat
  | [] => 0
  | b :: bs => b.toNat + 256 * leN bs

/-- `len` bytes of n, little-endian. -/
def le (n : Nat) : Nat → Bytes
  | 0 => []
  | k + 1 => BitVec.ofNat 8 n :: le (n / 256) k

/-- The number a byte string spells, head most significant. -/
def beN (b : Bytes) : Nat := leN b.reverse

/-- `len` bytes of n, big-endian. -/
def be (n len : Nat) : Bytes := (le n len).reverse

/-- Bytes off to off + len − 1. -/
def sl (b : Bytes) (off len : Nat) : Bytes := (b.drop off).take len

/-- The little-endian field of `len` bytes at `off`. -/
def fld (b : Bytes) (off len : Nat) : Nat := leN (sl b off len)

/-- Every byte is zero. -/
def allZero (b : Bytes) : Bool := b.all fun x => x == 0

/-- Bytes off to off + len − 1 are zero. -/
def zeroAt (b : Bytes) (off len : Nat) : Bool := allZero (sl b off len)

def zeros (n : Nat) : Bytes := List.replicate n 0

/-- Exactly `len` bytes: zero-padded, or cut. -/
def fit (b : Bytes) (len : Nat) : Bytes := (b ++ zeros (len - b.length)).take len

/-- n rounded up to a multiple of k. -/
def roundUp (n k : Nat) : Nat := (n + k - 1) / k * k

/-- Bits hi:lo of n. -/
def bits (n hi lo : Nat) : Nat := n / 2 ^ lo % 2 ^ (hi + 1 - lo)

/-- Bit i of n is 1. -/
def bit (n i : Nat) : Bool := n / 2 ^ i % 2 == 1

def b2n (b : Bool) : Nat := if b then 1 else 0

/-- The bytes of an ASCII string: labels and customisation strings. -/
def ascii (t : String) : Bytes := t.toList.map fun c => BitVec.ofNat 8 c.toNat

/-- A byte string with `v` written over it at `off`. -/
def overlay (b : Bytes) (off : Nat) (v : Bytes) : Bytes := b.take off ++ v ++ b.drop (off + v.length)

/-- The two's-complement value of an n-bit number. -/
def signed (n w : Nat) : Int := if n < 2 ^ (w - 1) then n else (n : Int) - (2 ^ w : Nat)

/-- The first index whose element satisfies p. -/
def findIx {α : Type} (p : α → Bool) : List α → Option Nat
  | [] => none
  | a :: as => if p a then some 0 else (findIx p as).map (· + 1)

/-- The list with f applied to its first element that satisfies p. -/
def updFirst {α : Type} (p : α → Bool) (f : α → α) : List α → List α
  | [] => []
  | a :: as => if p a then f a :: as else a :: updFirst p f as

/-- The list without its first element that satisfies p. -/
def dropFirst {α : Type} (p : α → Bool) : List α → List α
  | [] => []
  | a :: as => if p a then as else a :: dropFirst p as

/-- An association list with key k bound to v. -/
def put {α : Type} (k : Nat) (v : α) (l : List (Nat × α)) : List (Nat × α) := (k, v) :: l.filter fun e => e.1 != k

/-- The value bound to k. -/
def look {α : Type} (k : Nat) (l : List (Nat × α)) : Option α := (l.find? fun e => e.1 == k).map Prod.snd

/-- f applied to every element of a vector, index by index. -/
def vmap {α : Type} {n : Nat} (f : Fin n → α → α) (v : Vector α n) : Vector α n :=
  (List.finRange n).foldl (fun (v : Vector α n) (i : Fin n) => v.set i.1 (f i (v[i.1]'i.2)) i.2) v

/-- Element i of a vector, or d beyond its end. -/
def vget {α : Type} {n : Nat} (v : Vector α n) (i : Nat) (d : α) : α := v.toList.getD i d

/-- The vector with element i replaced; unchanged beyond its end. -/
def vset {α : Type} {n : Nat} (v : Vector α n) (i : Nat) (x : α) : Vector α n :=
  if h : i < n then v.set i x else v

end Sys2Proof.Machine
end

