-- ==== Sys2Proof/Machine/Ops.lean ====
section
/-! DEFINITION. Shared operations: memories, status codes, free values, time samples, logs, events and MSI-X, queue
completions. -/

namespace Sys2Proof.Machine

/-! ### Memory (canonical cells; an unlisted byte reads 0, log 2) -/

/-- The byte at address a. -/
def Mem.get : Mem → Nat → Byte
  | [], _ => 0
  | (x, v) :: m, a => if x = a then v else if a < x then 0 else Mem.get m a

/-- The memory with byte v at address a; writing 0 removes the cell. -/
def Mem.set : Mem → Nat → Byte → Mem
  | [], a, v => if v = 0 then [] else [(a, v)]
  | (x, w) :: m, a, v =>
    if a < x then (if v = 0 then (x, w) :: m else (a, v) :: (x, w) :: m)
    else if a = x then (if v = 0 then m else (a, v) :: m)
    else (x, w) :: Mem.set m a v

/-- `n` bytes from address a. -/
def Mem.read (m : Mem) (a : Nat) : Nat → Bytes
  | 0 => []
  | n + 1 => m.get a :: Mem.read m (a + 1) n

/-- The bytes written from address a on. -/
def Mem.write (m : Mem) (a : Nat) : Bytes → Mem
  | [] => m
  | b :: bs => Mem.write (m.set a b) (a + 1) bs

/-- Addresses rise strictly from `lo` on and no cell holds 0. -/
def Mem.wfFrom (lo : Nat) : Mem → Bool
  | [] => true
  | (x, v) :: m => decide (lo ≤ x) && (v != 0) && Mem.wfFrom (x + 1) m

/-- The canonical form of a memory. -/
def Mem.wf (m : Mem) : Bool := Mem.wfFrom 0 m

/-! ### Codes -/

/-- Life-cycle codes (03, States). -/
def Lifecycle.code : Lifecycle → Nat
  | .manufacture => 0
  | .issued => 1
  | .service => 2
  | .recovery => 3
  | .test => 4
  | .retired => 7

/-- Status values (R102). -/
def Status.code : Status → Nat
  | .ok => 0x0000
  | .okTruncated => 0x0001
  | .okCloseCall => 0x0002
  | .okRetried => 0x0003
  | .lengthRange => 0x0101
  | .bufferShort => 0x0102
  | .shortInput => 0x0103
  | .badOrder => 0x0104
  | .operandRange => 0x0105
  | .notOnCurve => 0x0106
  | .badFormat => 0x0107
  | .sessionsExhausted => 0x0201
  | .operandMemoryFull => 0x0202
  | .pressTooLarge => 0x0203
  | .keyAttr => 0x0301
  | .keyExhausted => 0x0302
  | .keyEmpty => 0x0303
  | .orderCounter => 0x0304
  | .orderSignature => 0x0305
  | .lifecycle => 0x0306
  | .tagFail => 0x0401
  | .compareFail => 0x0402
  | .parkInvalid => 0x0403
  | .mediaTagFail => 0x0404
  | .noHealthyChannel => 0x0501
  | .guardActive => 0x0502
  | .mediaGone => 0x0601
  | .writeUnknown => 0x0602
  | .mediaLocked => 0x0603
  | .mediaWriteProtected => 0x0604
  | .faultPermanent => 0x0701
  | .timeout => 0x0801
  | .aborted => 0x0802

/-- The class of a status, its high byte (R102). -/
def Status.cls (st : Status) : Nat := st.code / 256

def Status.isOk (st : Status) : Bool := st.cls == 0

/-- The OK-class code that has precedence (R28): truncated, then retried, then close call. -/
def okClass (trunc retried close : Bool) : Status :=
  if trunc then .okTruncated else if retried then .okRetried else if close then .okCloseCall else .ok

/-! ### Two-copy records (R257, R258) -/

/-- Which copy a read takes: the newer of two valid copies one apart, else the only valid one; none when lost. -/
def Copies.newer {α : Type} (t : Copies α) : Option Bool :=
  match t.ok0, t.ok1 with
  | true, true => if t.seq1 - t.seq0 = 1 then some true else if t.seq0 - t.seq1 = 1 then some false else none
  | true, false => some false
  | false, true => some true
  | false, false => none

/-- The value a read returns; none when the record is lost. -/
def Copies.read {α : Type} (t : Copies α) : Option α := t.newer.map fun b => if b then t.val1 else t.val0

/-- An update: the copy that is not the newer one takes the value and the newer sequence plus 1. A lost record is
written afresh in both copies. -/
def Copies.update {α : Type} (t : Copies α) (v : α) : Copies α :=
  match t.newer with
  | some true => { t with seq0 := t.seq1 + 1, val0 := v, ok0 := true }
  | some false => { t with seq1 := t.seq0 + 1, val1 := v, ok1 := true }
  | none => Copies.both v

/-- An update cut by power loss before its trailer: the copy being written has become invalid (R252, R258). -/
def Copies.cut {α : Type} (t : Copies α) : Copies α :=
  match t.newer with
  | some true => { t with ok0 := false }
  | some false => { t with ok1 := false }
  | none => t

/-- Both copies are invalid. -/
def Copies.lose {α : Type} (t : Copies α) : Copies α := { t with ok0 := false, ok1 := false }

/-- Copy i has become invalid. -/
def Copies.spoil {α : Type} (t : Copies α) (copy : Nat) : Copies α :=
  if copy = 0 then { t with ok0 := false } else { t with ok1 := false }

/-! ### State predicates -/

/-- Debug active in SERVICE, RECOVERY or RETIRED; TEST stands by itself (03, Test root and debug). -/
def State.debugOn (s : State) : Bool := s.lc.debug

/-- SERVICE or RECOVERY. -/
def State.serving (s : State) : Bool := s.vault.lc == .service || s.vault.lc == .recovery

/-- Debug active in SERVICE or RECOVERY: the refusals of R60 hold. -/
def State.debugBars (s : State) : Bool := s.debugOn && s.serving

/-- A noise source is healthy, so the DRBG generates (R16). -/
def State.drbgOk (s : State) : Bool := s.drbg.noise0 || s.drbg.noise1

/-- The native-key functions have a session-store key (R408). -/
def State.storeKey (s : State) : Bool := s.keys.sessionKey.isSome

/-- Main power is on and the device is out of reset: commands from the host and the engines act. -/
def State.awake (s : State) : Bool :=
  s.power.st == .active || s.power.st == .idle

/-- Cellar bank b is retired (R274). -/
def State.bankRetired (s : State) (b : Nat) : Bool := s.cellar.retiredBanks.contains b

/-- A press can commit at all: bank 0 and a half of the ring are usable (R263). -/
def State.ringOk (s : State) : Bool := !s.bankRetired 0 && !(s.press.half0 && s.press.half1)

/-- A channel between two identifications: no tuning, no kept tag sectors, no transfer under way. -/
def CardCh.rest (k : CardCh) : CardCh :=
  { k with s18off := false, tune := .good, withdrawn := false, blk := 0, idTries := 0, kept := [] }

/-- A channel without supply. A rejected or quarantined card stays so until it is removed (R324, R331). -/
def CardCh.off (k : CardCh) : CardCh :=
  { k.rest with st := if k.st == .rejected || k.st == .quarantined then k.st else .none }

/-- Channel i is healthy (R365). -/
def State.chanOk (s : State) (i : Nat) : Bool := !(s.health.chans.getD i Chan.fresh).retired

/-- Lanes of the host link that train: four for each lane group not retired, and no more than the link partner trains
to (05 R73, R76). -/
def State.linkWidth (s : State) : Nat := min (4 * b2n (s.chanOk 54) + 4 * b2n (s.chanOk 55)) (2 ^ s.link.cfg.width.val)

/-- With both lane groups retired the host link stays down: no access to host memory is made (R76; log 220). -/
def State.linkUp (s : State) : Bool := s.chanOk 54 || s.chanOk 55

/-- Bytes of the largest payload and of the largest read request (R73). -/
def LinkCfg.payloadBytes (c : LinkCfg) : Nat := 128 * 2 ^ c.maxPayload.val
def LinkCfg.readBytes (c : LinkCfg) : Nat := 128 * 2 ^ c.maxRead.val

/-- Some channel among n from `base` on is healthy. -/
def State.anyOk (s : State) (base n : Nat) : Bool := (List.range n).any fun i => s.chanOk (base + i)

/-- Keyed digests of the device itself, which run at level 2, can be computed: a healthy hash core and a DRBG that
generates (R225, R230). -/
def State.keyedOk (s : State) : Bool := s.anyOk 16 8 && s.drbgOk

/-- Sealed contexts and volume sectors, work of the device's own at level 2, can be sealed and opened: a healthy cipher
core, and keyed digests (R94, R209, R211, R230, R335; log 150). -/
def State.deviceCores (s : State) : Bool := s.anyOk 0 16 && s.keyedOk

/-- The device root: what the first copy that is not erased holds. -/
def Vault.root (v : Vault) : Option Bytes := v.root0.orElse fun _ => v.root1

/-- The life-cycle word is written (03 R42). -/
def Vault.become (v : Vault) (l : Lifecycle) : Vault := { v with lc := l, word := v.word.update l }

/-- The erase of the vault (03 R56): both root copies zero, both life-cycle copies RETIRED. -/
def Vault.erased : Vault := Vault.holding .retired none

/-- The test root (03, Test root and debug). -/
def testRoot : Bytes := Config.hash 2 (ascii "JEXVOR TEST ROOT") 32

/-- The root in use: the test root in TEST and under debug (R58). -/
def rootOf (s : State) : Bytes := if s.vault.lc == .test || s.debugOn then testRoot else s.vault.root.getD []

/-- Order of a NIST curve, by curve number: 1 for P-256, 2 for P-384, 3 for P-521 (FIPS 186-5; log 180). -/
def curveOrder (c : Nat) : Nat :=
  [0, 0xFFFFFFFF00000000FFFFFFFFFFFFFFFFBCE6FAADA7179E84F3B9CAC2FC632551,
    0xFFFFFFFFFFFFFFFFFFFFFFFFFFFFFFFFFFFFFFFFFFFFFFFFC7634D81F4372DDF581A0DB248B0A77AECEC196ACCC52973,
    2 ^ 521 - 2 ^ 260 + 0xA51868783BF2F966B7FCC0148F709A5D03BB5C9B8899C47AEBB6FB71E91386409].getD c 0

/-- A P-384 private scalar from 512 bits of KMAC output: reduced modulo n − 1, plus 1 (R49). -/
def scalarOf (out : Bytes) : Bytes := be (beN out % (curveOrder 2 - 1) + 1) 48

/-- The identity key pair's private parts under a root, ECDSA scalar and ML-DSA seed (R49). -/
def identityScalar (root : Bytes) : Bytes :=
  scalarOf (Config.kmac root (ascii "IDENTITY-P384") 512 (ascii "JEXVOR KEY TREE"))

def identitySeed (root : Bytes) : Bytes := Config.kmac root (ascii "IDENTITY-MLDSA87") 256 (ascii "JEXVOR KEY TREE")

/-- The identity public keys of a root (R49). -/
def identityKeys (root : Bytes) : Bytes :=
  fit (Config.pkPublic 0x0402 (identityScalar root)) 97 ++ fit (Config.pkPublic 0x0603 (identitySeed root)) 2592

/-- Device identity: the first 16 bytes of SHA3-256 over the two identity public keys (03, Identity). -/
def identityOf (root : Bytes) : Bytes := fit (Config.sha3 (identityKeys root)) 16

/-- The device's identity: that of its certificate request, which outlives the root, or that of the test root. -/
def State.identity (s : State) : Bytes :=
  if s.vault.lc == .test || s.debugOn then identityOf testRoot else fit (sl s.lc.request 8 16) 16

/-! ### Free values and the DRBG (log 4) -/

/-- One free number and the counter advanced. -/
def State.freeNat (s : State) : Nat × State := (Config.free s.freeCtr, { s with freeCtr := s.freeCtr + 1 })

/-- A generate request falls due at a reseed: the request limit is reached, or the reseed of the 1 s limit still waits
for its seed (R14). -/
def Drbg.late (d : Drbg) : Bool := d.due || decide (65536 ≤ d.requests)

/-- n bytes of DRBG output (R14, R15). A request past either limit waits for the gathering and the reseed, and runs on
the new seed (log 160). -/
def State.drbgBytes (s : State) (n : Nat) : Bytes × State :=
  ((List.range n).map fun i => Config.drbg (s.freeCtr + i),
    { s with freeCtr := s.freeCtr + n
             drbg := { s.drbg with
               requests := if s.drbg.late then 1 else s.drbg.requests + 1
               seedReady := s.drbg.seedReady && !s.drbg.late
               due := false } })

/-! ### Domains (R30, R32) -/

/-- Work routed to a domain switches it on, unless its channel is retired (R32). -/
def wakeDomain (d : Fin 64) (s : State) : State :=
  { s with power := { s.power with domainsOff := s.power.domainsOff.filter (· != d) } }

def wakeDomainN (d : Nat) (s : State) : State := if h : d < 64 then wakeDomain ⟨d, h⟩ s else s

/-- Banks 0 to 3 are in domains PD3 to PD6: a write or a read of a bank switches it on (02 R30). -/
def wakeBank (b : Nat) (s : State) : State := if b < 4 then wakeDomainN (3 + b) s else s

/-! ### The time base (13) -/

/-- One second of T. -/
def second : Nat := 2 ^ 48

/-- Growth rate in ns per second (R281). -/
def TimeBase.growth (t : TimeBase) : Nat := if t.qualified then t.cfg.rref else 50000

/-- T moved forward to `dest`, with the slew, the growth accumulator and the holdover log following (R281, R282, R290;
log 9). -/
def TimeBase.advance (t : TimeBase) (dest : Nat) : TimeBase :=
  let gap := dest - t.t
  let neg := decide (t.r < 0)
  let den := if neg then 1000000 - t.rate else 1000000 + t.rate
  let c := if t.r == 0 then 0 else min (gap * t.rate / den) (t.r.natAbs / 1000000000)
  let di := if neg then gap + c else gap - c
  let r' := if neg then t.r + (c * 1000000000 : Nat) else t.r - (c * 1000000000 : Nat)
  let sl := if neg then t.slewTotal - (c * 1000000000 : Nat) else t.slewTotal + (c * 1000000000 : Nat)
  { t with
    t := max t.t dest
    r := r'
    slewTotal := sl
    a := t.a + t.growth * di
    binLog := if t.qualified then t.binLog else put t.bin ((look t.bin t.binLog).getD 0 + di) t.binLog }

/-- U in ns (R281), saturated while TIME_SET is 0 or after R352's loss. -/
def TimeBase.unc (t : TimeBase) : Nat :=
  if !t.timeSet || t.saturated then 0xFFFFFFFF
  else min 0xFFFFFFFF (t.um + (t.r.natAbs + (second - 1)) / second + (t.a - t.aTm + (second - 1)) / second)

/-- REFOSC_IN is running: it is qualified or its gates are being counted (log 20). -/
def TimeBase.refRunning (t : TimeBase) : Bool := t.qualified || t.gates != 0

/-- What a rewrite of the shared page writes. -/
def State.sharedNow (s : State) : SharedTime :=
  ⟨s.time.t % second, s.time.t / second % second, s.time.unc, s.time.refRunning, s.press.epoch⟩

/-- A whole rewrite of the shared page: TSEQ, odd meanwhile, advances to the next even value (06 R115). -/
def rewriteShared (s : State) : State :=
  { s with time := { s.time with shSeq := (s.time.shSeq / 2 + 1) * 2, sh := s.sharedNow, shT := s.time.t } }

/-- One period of the 32.768 kHz crystal. -/
def crystalPeriod : Nat := second / 32768

/-- A sample of T within its current second, never earlier than the last (R276): the elapsed part is a free value
(log 9), in BATTERY a whole number of crystal periods. -/
def sampleTime (s : State) : State :=
  let (f, s) := s.freeNat
  let sec := s.time.t / second
  let part := f % second
  let part := if s.power.st == .battery then part / crystalPeriod * crystalPeriod else part
  { s with time := s.time.advance (max s.time.t (sec * second + part)) }

/-- The time mark written under the two-copy rule (13 R283), to bank 0 while that takes writes (R274). -/
def markTime (s : State) : State :=
  if s.bankRetired 0 then s else wakeBank 0 { s with time := { s.time with mark := s.time.mark.update s.time.t } }

/-- The twelve bytes of T. -/
def timeBytes (t : Nat) : Bytes := le t 12

/-- TAI − UTC as configured, with a leap second passed (R287). -/
def TimeBase.taiUtc (t : TimeBase) : Nat :=
  if t.cfg.leap != 0 && t.t / second ≥ t.cfg.leap then t.cfg.next else t.cfg.tai

/-- TM_STAT (13). -/
def TimeBase.stat (t : TimeBase) : Nat :=
  t.taiUtc % 65536 * 65536 + b2n t.confirmed * 32 + b2n t.lost * 16 + b2n (t.r != 0) * 8 + b2n (!t.qualified) * 4
    + b2n t.qualified * 2 + b2n t.timeSet

/-- PPS_OUT and TCODE_OUT are held low (R286); a frame in progress ends there. -/
def outputsLow (s : State) : State :=
  let tx := (if s.time.pps then [.pps false] else []) ++ if s.time.tcode then [.tcodeCut] else []
  { s with time := { s.time with pps := false, tcode := false }, tx := s.tx ++ tx }

/-- The time window's sample of T, the uncertainty, TM_STAT and R (R277). -/
def latchTime (s : State) : State :=
  { s with time := { s.time with latT := s.time.t, latU := s.time.unc, latStat := BitVec.ofNat 32 s.time.stat
                                 latR := BitVec.ofInt 64 (s.time.r / (2 ^ 48 : Nat)) } }

/-- T runs on the internal reference while the XT32_IN trip holds and REFOSC_IN is not qualified: TIME_SET is cleared,
and U reads its greatest value (16 R352). -/
def TimeBase.onInternal (t : TimeBase) : TimeBase :=
  if t.xtTripped && !t.qualified then { t with timeSet := false, saturated := true } else t

/-- The reference is lost (R279, R281, R282): a holdover interval begins, with its log cleared. -/
def TimeBase.lose (t : TimeBase) : TimeBase :=
  (if t.qualified then { t with qualified := false, gates := 0, aHold := t.a, binLog := [] }
    else { t with gates := 0 }).onInternal

/-- Without TIME_SET the time outputs are held low (R286). -/
def quietTime (s : State) : State := if s.time.timeSet then s else outputsLow s

/-- The time base at a RESET_N release (R277, R278, R289): R, CONFIRMED, REFOSC and TM_ALARM have the reset value 0, and
the tokens are lost. The part of a correction that R still held stays in the uncertainty, which bounds the error (R281;
log 75). -/
def TimeBase.atReset (t : TimeBase) : TimeBase :=
  { t.lose with
    um := min 0xFFFFFFFF (t.um + (t.r.natAbs + (second - 1)) / second)
    r := 0, confirmed := false, alarm := 0, tokens := [] }

/-! ### Logs (16 R368) -/

/-- A record written to a ring log: merged when it repeats the latest within 1 s, the oldest discarded when full. -/
def RLog.write (l : RLog) (cap : Nat) (r : LogRec) : RLog :=
  match l.recs.getLast? with
  | some p =>
    if p.log == r.log && p.subject == r.subject && p.event == r.event && p.flags == r.flags && p.detail == r.detail
        && r.t < p.t + second then
      { l with recs := l.recs.dropLast ++ [{ p with repeats := min 65535 (p.repeats + 1) }] }
    else
      let full := decide ((l.w - l.r).toNat ≥ cap)
      { recs := (l.recs ++ [r]).drop (l.recs.length + 1 - cap), w := l.w + 1, r := if full then l.r + 1 else l.r,
        ovf := l.ovf || full }
  | none => { l with recs := [r], w := l.w + 1 }

/-! ### Events (14) -/

def State.src (s : State) (n : Nat) : Source := s.ev.sources.getD n ⟨0, false, false, false, false⟩

def setSrc (n : Nat) (x : Source) (s : State) : State :=
  { s with ev := { s.ev with sources := s.ev.sources.set n x } }

def Source.priority (x : Source) : Nat := (x.cfg.extractLsb' 0 4).toNat
def Source.level (x : Source) : Bool := x.cfg.getLsbD 8
def Source.wake (x : Source) : Bool := x.cfg.getLsbD 9
def Source.groupNo (x : Source) : Nat := (x.cfg.extractLsb' 10 6).toNat
def Source.grouped (x : Source) : Bool := x.cfg.getLsbD 16
def Source.vector (x : Source) : Nat := (x.cfg.extractLsb' 17 11).toNat
def Source.target (x : Source) : Nat := (x.cfg.extractLsb' 28 4).toNat
/-- Asserted: PEND and DELIV are 1 and ACT is 0. -/
def Source.asserted (x : Source) : Bool := x.pend && x.deliv && !x.act

def Source.withdrawn (x : Source) : Source := { x with pend := false, deliv := false }

/-- The condition of source n now, where it has one (R303). -/
def State.condOf (s : State) (n : Nat) : Option Bool :=
  if 1 ≤ n ∧ n ≤ 256 then
    some (s.qps.any fun q => q.n.toNat == n - 1 && q.cqTail != q.cqHead)
  else if 261 ≤ n ∧ n ≤ 264 then some (vget s.cards.ch (n - 261) CardCh.absent).present
  else if n = 267 then some s.welt.link
  else if n = 269 then some s.welt.timeBad
  else if n = 270 then some s.welt.stale
  else if n = 271 then some (s.rind.log.r != s.rind.log.w)
  else if n = 272 then some s.rind.guard
  else if n = 274 then some (!s.power.pwrfailN)
  else if n = 275 then some (s.health.log.r != s.health.log.w)
  else if n = 292 then some (s.mb.done && s.mb.irqEn)
  else none

/-- Level-triggered in effect: LEVEL is 1 and the source has a condition. -/
def State.isLevel (s : State) (n : Nat) : Bool := (s.src n).level && (s.condOf n).isSome

/-- Some T9 source on vector v is asserted. -/
def State.vecAsserted (s : State) (v : Nat) : Bool :=
  s.ev.sources.any fun x => x.asserted && x.target == 9 && x.vector == v

def State.msixEntry (s : State) (v : Nat) : MsixEntry :=
  (s.msix.table.find? fun e => e.v == v).getD ⟨v, 0, 0, true⟩

def State.vecMasked (s : State) (v : Nat) : Bool := !s.msix.enable || s.msix.funcMask || (s.msixEntry v).masked

/-- PME for an asserted WAKE source in D3hot, unless signals of T9 are disabled (R312, R320). -/
def raisePme (s : State) : State :=
  if s.link.d3hot && s.link.pmeEn && !s.link.pmeStatus && !s.ev.gdisHost
      && s.ev.sources.any (fun x => x.asserted && x.target == 9 && x.wake) then
    { s with link := { s.link with pmeStatus := true }, tx := s.tx ++ [.pme] }
  else s

/-- Signal vector v (R313): send its message, or set its PBA bit, and disarm it; nothing is sent in D3hot (R320). -/
def signalVec (v : Nat) (s : State) : State :=
  if s.ev.gdisHost || s.link.d3hot then s
  else if s.msix.disarmed.contains v || !s.vecAsserted v then s
  else if s.vecMasked v then
    { s with msix := { s.msix with pba := v :: s.msix.pba.filter (· != v), disarmed := v :: s.msix.disarmed } }
  else
    { s with msix := { s.msix with disarmed := v :: s.msix.disarmed }
             tx := s.tx ++ [.msix v (s.msixEntry v).addr (s.msixEntry v).data] }

/-- WAITI ends when a T0 source is asserted and DISABLE of T0 is 0 (R316). -/
def wakeT0 (s : State) : State :=
  if !s.ev.gdisT0 && s.ev.sources.any (fun x => x.asserted && x.target == 0) then
    { s with cores := s.cores.set 8 { s.cores[8] with waiti := false } }
  else s

/-- What an asserted source does at its target: T9 signals its vector, or in D3hot a WAKE source its PME (R320), T0
wakes the supervisor, T1 to T8 are claimed and completed by the core's frame scheduler (R316). -/
def notify (n : Nat) (s : State) : State :=
  let x := s.src n
  if !x.asserted then s
  else if x.target == 9 then (if s.link.d3hot then (if x.wake then raisePme s else s) else signalVec x.vector s)
  else if x.target == 0 then wakeT0 s
  else setSrc n { x with pend := false, deliv := false, act := false } s

/-- Every source of the list notified in order. -/
def notifyAll (ns : List Nat) (s : State) : State := ns.foldl (fun s n => notify n s) s

def State.group (s : State) (g : Nat) : Group := s.ev.groups.getD g ⟨0, none, 0, false⟩

def setGroup (g : Nat) (x : Group) (s : State) : State :=
  { s with ev := { s.ev with groups := s.ev.groups.set g x } }

/-- Sources that belong to group g. -/
def State.members (s : State) (g : Nat) : List Nat :=
  (List.range 512).filter fun n => (s.src n).grouped && (s.src n).groupNo == g

/-- Delivery of a group (R311): DELIV for every pending member, count cleared, timer stopped, new thresholds taken
up; then the members that have become asserted are signalled. -/
def deliver (g : Nat) (s : State) : State :=
  let ms := (s.members g).filter fun n => (s.src n).pend
  let new := ms.filter fun n => !(s.src n).asserted
  let s := ms.foldl (fun s n => setSrc n { s.src n with deliv := true } s) s
  let x := s.group g
  notifyAll new (setGroup g { word := x.next.getD x.word, next := none, count := 0, timer := false } s)

/-- One event counted in group g (R311); the group delivers at its count threshold. -/
def countEvent (g : Nat) (s : State) : State :=
  let x := s.group g
  let s := setGroup g { x with count := x.count + 1, timer := true } s
  if x.count + 1 ≥ (x.word.extractLsb' 0 8).toNat + 1 then deliver g s else s

/-- Sources the Sole observes in DORMANT (R317). -/
def soleSource (n : Nat) : Bool := (261 ≤ n && n ≤ 266) || n == 271 || n == 272 || n == 274

/-- An event of source n (R304), discarded at priority 0; in DORMANT the wake watcher records it, and starts the exit
where its source has WAKE set (R317); in other states without the controller it is not kept. A source that stands
asserted does not become asserted again (R320). -/
def raise (n : Nat) (s : State) : State :=
  match s.power.st with
  | .dormant =>
    if soleSource n then
      { s with ev := { s.ev with
          wakePend := s.ev.wakePend.filter (· != n) ++ [n], wakeExit := s.ev.wakeExit || (s.src n).wake } }
    else s
  | .active | .idle =>
    let x := s.src n
    if x.priority == 0 then s
    else if x.grouped then countEvent x.groupNo (setSrc n { x with pend := true } s)
    else if x.asserted then s
    else notify n (setSrc n { x with pend := true, deliv := true } s)
  | _ => s

/-- The controller is powered: it samples and presents (R317). -/
def State.eventsOn (s : State) : Bool := s.power.st == .active || s.power.st == .idle

/-- The condition of source n sampled again (R304): a level-triggered, inactive source becomes pending when its
condition turns true and is withdrawn when it turns false. Without the controller nothing is sampled (R317). -/
def sample (n : Nat) (s : State) : State :=
  let x := s.src n
  match s.condOf n with
  | none => s
  | some c =>
    if x.priority == 0 || !s.eventsOn then s
    else
      let x1 := { x with cond := c }
      if !x.level || x.act then setSrc n x1 s
      else if c && !x.cond then
        if x.pend then setSrc n x1 s
        else if x.grouped then
          setGroup x.groupNo { s.group x.groupNo with timer := true } (setSrc n { x1 with pend := true } s)
        else notify n (setSrc n { x1 with pend := true, deliv := true } s)
      else if !c then setSrc n x1.withdrawn s
      else setSrc n x1 s

/-- An event of source n after which its condition is sampled. -/
def raiseSample (n : Nat) (s : State) : State := sample n (raise n s)

/-- A health-log record (R369), source 275 and the SMBus alert (R403). -/
def healthLog (event : Nat) (subject : Nat) (detail : Nat) (s : State) : State :=
  let s := sampleTime s
  let r : LogRec := ⟨2, BitVec.ofNat 8 subject, BitVec.ofNat 8 event, 0, BitVec.ofNat 32 detail, s.press.epoch,
    s.time.t, 0⟩
  raiseSample 275 { s with health := { s.health with log := s.health.log.write 128 r }
                           smb := { s.smb with alert := true } }

/-- A Rind-log record (16) and the SMBus alert (R403). -/
def rindLog (cls tier : Nat) (flags : Nat) (detail : BitVec 32) (s : State) : State :=
  let s := sampleTime s
  let r : LogRec := ⟨1, BitVec.ofNat 8 cls, BitVec.ofNat 8 tier, BitVec.ofNat 8 flags, detail, s.press.epoch,
    s.time.t, 0⟩
  { s with rind := { s.rind with log := s.rind.log.write 64 r }, smb := { s.smb with alert := true } }

/-! ### Status registers -/

/-- LC_STATUS (03). -/
def State.lcStatus (s : State) : Nat :=
  s.lc.officers.length * 2 ^ 24 + s.lc.k * 2 ^ 16 + b2n s.power.testEn * 2 ^ 10 + b2n s.lc.firstStart * 2 ^ 9
    + b2n (s.lc.debug || s.vault.lc == .test) * 2 ^ 8 + b2n s.lc.permit * 2 ^ 7 + s.vault.lc.code

/-- A role as WL_STAT and HELLO give it (17). -/
def WRole.code : WRole → Nat
  | .unpaired => 0
  | .lead => 1
  | .follower => 2
  | .joining => 3

/-- PD1 goes off: the retention store keeps LC_STATUS and the identity (18 R403). -/
def keepStatus (s : State) : State := { s with smb := { s.smb with lcKept := s.lcStatus, idKept := fit s.identity 16 } }

/-- LS_STAT (04). -/
def State.lsStat (s : State) : Nat :=
  (s.lc.pendLast.getD 0).toNat * 2 ^ 14 + b2n s.lc.pendLast.isSome * 2 ^ 13 + s.power.balls.toNat * 2 ^ 10
    + b2n s.ls.source * 2 ^ 9 + b2n s.ls.base * 2 ^ 8 + b2n s.active.asinfel * 2 ^ 3 + s.ls.active.toNat

/-! ### Counters and partitions -/

/-- The update counter; none when lost (R259). -/
def State.updateCounter (s : State) : Option Nat := s.lc.updateCounter.read

/-- User partition p (12). -/
def State.part (s : State) (p : Nat) : Part := vget s.cellar.parts p ⟨none, 0, [], []⟩

/-- General counter n (R259). -/
def State.counter (s : State) (n : Nat) : Option Nat := ((look n s.cellar.counters).getD TwoCopy.zero).read

/-! ### Queue pairs and completions -/

def State.qp? (s : State) (n : BitVec 8) : Option Qp := s.qps.find? fun q => q.n == n

/-- The live queue pair n; one being deleted is no longer live (R81). -/
def State.liveQp (s : State) (n : BitVec 8) : Option Qp := s.qps.find? fun q => q.n == n && !q.deleting

def setQp (q : Qp) (s : State) : State := { s with qps := updFirst (fun x => x.n == q.n) (fun _ => q) s.qps }

/-- Completion-queue entries written and not yet consumed. -/
def Qp.used (q : Qp) : Nat := (q.cqTail + q.cqD - q.cqHead) % q.cqD

/-- An unreserved CQ slot exists (R82, R83). -/
def Qp.hasSlot (q : Qp) : Bool := decide (q.used + q.reserved + 1 < q.cqD)

/-- The 32 bytes of a completion entry (05, Completions). -/
def cqEntry (q : Qp) (tag : BitVec 64) (st : Status) (epoch result bytes : Nat) : Bytes :=
  le tag.toNat 8 ++ le st.code 2 ++ le q.sqHead 2 ++ le (b2n q.phase) 1 ++ zeros 3 ++ le epoch 8 ++ le result 4
    ++ le bytes 4

/-- The next CQ slot used: tail and phase advance (R84). -/
def Qp.advanceCq (q : Qp) : Qp :=
  if q.cqTail + 1 = q.cqD then { q with cqTail := 0, phase := !q.phase } else { q with cqTail := q.cqTail + 1 }

/-- The queue pair halts for the cause given, unless it has halted already (R85): an order whose extension entries have
not all arrived is discarded and its reserved slot released. -/
def Qp.halt (q : Qp) (cause : BitVec 32) : Qp :=
  if q.halted then q
  else
    let owns := !q.gathered.isEmpty && !q.timedOut
    { q with halted := true, haltOwed := some cause, gathered := [], timedOut := false
             reserved := if owns then q.reserved - 1 else q.reserved }

/-- An error logged through AER (R75). -/
def logAer (e : AerEntry) (s : State) : State := { s with link := { s.link with aer := s.link.aer ++ [e] } }

/-- A completion entry written in ring order, and the event of source qp + 1 (R84, R303). A write that fails uses its
slot, raises no event, is logged through AER and halts the queue pair. While the link stays down none is written (R76). -/
def writeCq (q : Qp) (tag : BitVec 64) (st : Status) (epoch result bytes : Nat) (s : State) : State :=
  if !s.linkUp then s
  else if q.cqFails then
    let q' := { q.advanceCq with cqFails := false }
    logAer (.cqWrite q.n) (setQp (if q.deleting then q' else q'.halt 0xFFFFFFFA) s)
  else
    let e := cqEntry q tag st epoch result bytes
    let s := { setQp q.advanceCq s with hostMem := s.hostMem.write (q.cqBase + 32 * q.cqTail) e }
    raiseSample (q.n.toNat + 1) s

/-- The halt completion owed is written once no reserved slot is left before it and a slot is free (R85). -/
def payHalt (n : BitVec 8) (s : State) : State :=
  match s.qp? n with
  | some q =>
    match q.haltOwed with
    | some cause =>
      if q.reserved = 0 ∧ q.hasSlot = true then
        writeCq { q with haltOwed := none } 0xFFFFFFFFFFFFFFFF .aborted s.press.epoch cause.toNat 0 s
      else s
    | none => s
  | none => s

/-- A queue pair being deleted disappears, and BUSY clears, once its last completion is written (R81). -/
def closeQp (n : BitVec 8) (s : State) : State :=
  match s.qp? n with
  | some q =>
    if q.deleting && !(s.orders.any fun o => o.qp == n) then
      sample (n.toNat + 1) { s with qps := s.qps.filter (fun x => x.n != n), hl := { s.hl with busy := false } }
    else s
  | none => s

/-- Halt of a queue pair (R85): the first cause owes one halt completion. -/
def haltQp (n : BitVec 8) (cause : BitVec 32) (s : State) : State :=
  match s.liveQp n with
  | some q => if q.halted then s else payHalt n (setQp (q.halt cause) s)
  | none => s

def State.order? (s : State) (uid : Nat) : Option Order := s.orders.find? fun o => o.uid == uid

def setOrder (o : Order) (s : State) : State :=
  { s with orders := updFirst (fun x => x.uid == o.uid) (fun _ => o) s.orders }

/-- Completion of order `uid` with the fields given: its entry in the reserved CQ slot, then what its end frees. An
OK status becomes the OK-class code that arose in the order (R28). -/
def complete (uid : Nat) (st : Status) (epoch : Option Nat) (result bytes : Nat) (s : State) : State :=
  match s.order? uid with
  | none => s
  | some o =>
    let st := if st == .ok then okClass false o.retried o.closeCall else st
    let s := { s with orders := s.orders.filter fun x => x.uid != uid }
    match s.qp? o.qp with
    | none => s
    | some q =>
      closeQp o.qp (payHalt o.qp
        (writeCq { q with reserved := q.reserved - 1 } o.tag st ((epoch.orElse fun _ => o.epoch).getD s.press.epoch) result bytes s))

/-- Completion with an error status: both fields zero (R91). -/
def refuse (uid : Nat) (st : Status) (s : State) : State := complete uid st none 0 0 s

/-! ### The forerunner mailbox's result -/

/-- RESULT derived from the native status (R105). -/
def mbResult (st : Status) : Nat :=
  match st with
  | .ok | .okTruncated | .okCloseCall | .okRetried => 0
  | .badFormat => 1
  | .lengthRange | .bufferShort | .shortInput => 2
  | .keyEmpty => 3
  | .keyAttr | .keyExhausted | .lifecycle => 4
  | .tagFail | .compareFail => 5
  | .faultPermanent | .noHealthyChannel | .guardActive | .aborted => 6
  | _ => 7

/-- Bytes of the request buffer. -/
def requestSize : Nat := 28672

/-- The request buffer written from byte `off` on; nothing is written past its end, nor while BUSY is 1 (R103). -/
def mbStore (off : Nat) (b : Bytes) (s : State) : State :=
  if s.mb.busy then s
  else { s with mb := { s.mb with request := s.mb.request.write off (b.take (requestSize - off)) } }

/-- End of a mailbox command (R103): response and MB_RLEN, RESULT and NATIVE, then DONE and not BUSY. -/
def mbFinish (result : Nat) (st : Status) (resp : Bytes) (s : State) : State :=
  let s := { s with mb := { s.mb with busy := false, done := true, result := BitVec.ofNat 8 result
                                      native := BitVec.ofNat 16 st.code, rlen := resp.length, response := resp
                                      waiting := none } }
  if s.mb.irqEn then raiseSample 292 s else sample 292 s

end Sys2Proof.Machine
end

