-- ==== Sys2Proof/Machine/Caps.lean ====
section
/-! DEFINITION. The capability list (04 R70, R71). -/

namespace Sys2Proof.Machine

/-- Mask of the retired channels among n from `base` on. -/
def State.retMask (s : State) (base n : Nat) : Nat :=
  ((List.range n).map fun i => if s.chanOk (base + i) then 0 else 2 ^ i).sum

def State.okMask (s : State) (base n : Nat) : Nat := 2 ^ n - 1 - s.retMask base n

def State.bankMask (s : State) : Nat := ((List.range 4).map fun i => if s.bankRetired i then 2 ^ i else 0).sum

/-- A version word: major 1, minor 0 and the build (R411). -/
def versionWord (build : BitVec 16) : Nat := 2 ^ 24 + build.toNat

/-- Mask of the card slots that hold a card; a quarantined one reads as absent (15 R331). -/
def State.presentMask (s : State) : Nat :=
  ((List.range 4).map fun i => if let k := vget s.cards.ch i CardCh.absent; k.present ∧ k.st ≠ .quarantined then 2 ^ i else 0).sum

/-- n bits set where enable bit i is set. -/
def enabledBits (s : State) (i n : Nat) : Nat := if s.active.enables.getLsbD i then 2 ^ n - 1 else 0

/-- Mask of the Welt lanes trained and healthy. -/
def State.laneMask (s : State) : Nat := (s.welt.lanes.map fun l => 2 ^ l.val).sum

/-- The entries of the list: ID, DEGRADED, length, body from byte 16 on. Those of features the active last leaves out are
not in it: the mailbox without its personality, the post-quantum algorithms with all of them disabled. -/
def capEntries (s : State) : List (Nat × Bool × Nat × Bytes) :=
  [ (0x0001, false, 48, s.identity ++ le 0x1F6C 2 ++ le 0x8800 2 ++ [0x11] ++ le s.vault.lc.code 1 ++ zeros 2
      ++ le (versionWord Config.firmwareBuild) 4),
    (0x0002, false, 32, le s.ls.active.toNat 1 ++ le (b2n s.ls.source) 1 ++ le (b2n s.active.asinfel) 1
      ++ le (b2n s.ls.base) 1 ++ le s.active.generation 4 ++ le s.active.enables.toNat 8),
    (0x0003, s.retMask 0 16 != 0, 32, le (s.okMask 0 16) 2 ++ zeros 2 ++ le 8192 2 ++ [0x0F]),
    (0x0004, s.retMask 16 8 != 0, 32, le (s.okMask 16 8) 1),
    (0x0005, s.retMask 24 16 != 0, 32, le (s.okMask 24 16) 2 ++ zeros 2 ++ le (versionWord Config.microcodeBuild) 4
      ++ le 128 2),
    (0x0006, s.bankMask != 0, 32, le (15 - s.bankMask) 1 ++ le (b2n s.power.holdup) 1 ++ zeros 6
      ++ (s.cellar.spares.toList.map fun n => le n 2).flatten),
    (0x0007, false, 32, le (b2n s.time.qualified + 2 * s.active.timeFlags.toNat) 1 ++ zeros 3 ++ le 0x00030000 4),
    (0x0008, s.retMask 48 4 != 0, 32, fit (s.active.roles.map fun r => BitVec.ofNat 8 r) 4 ++ le (s.okMask 48 4) 1
      ++ le s.presentMask 1),
    (0x0009, s.retMask 52 2 != 0, 48, le (b2n (s.welt.role != .unpaired)) 1 ++ le (b2n (s.welt.mode == .sync)) 1
      ++ le (b2n (s.welt.role == .follower)) 1 ++ le (s.okMask 52 2) 1 ++ fit s.welt.twin 16),
    (0x000A, false, 32, le 511 2 ++ le 10 2 ++ le 2048 2 ++ le 64 1 ++ zeros 1 ++ le 0x00020000 4),
    (0x000B, s.retMask 0 40 + s.retMask 48 8 + s.bankMask != 0, 48, le (s.retMask 0 16) 2 ++ le (s.retMask 16 8) 1 ++ zeros 1
      ++ le (s.retMask 24 16) 2 ++ le (s.retMask 48 4) 1 ++ le (s.retMask 52 2) 1 ++ le (s.retMask 54 2) 1
      ++ le s.bankMask 1 ++ zeros 6 ++ le 0x00040000 4 ++ le s.health.retirements 4) ]
  ++ (if s.active.asinfel then
    [(0x000C, false, 32, le 65536 4 ++ le s.active.loaned 2 ++ le 1 2)] else [])
  ++ (if [13, 21, 22, 23].any fun i => s.active.enables.getLsbD i then
    [(0x000D, false, 32, le (enabledBits s 21 3) 1 ++ le (enabledBits s 22 3) 1 ++ le (enabledBits s 13 12) 2
      ++ le (enabledBits s 23 1) 1)] else [])

/-- The chain from offset `off` on, ended by the entry of ID 0xFFFF. -/
def capChain (off : Nat) : List (Nat × Bool × Nat × Bytes) → Bytes
  | [] => le 0xFFFF 2 ++ le 1 1 ++ zeros 1 ++ le 16 2 ++ zeros 10
  | (id, deg, len, body) :: es =>
    fit (le id 2 ++ le 1 1 ++ le (b2n deg) 1 ++ le len 2 ++ zeros 2 ++ le (off + len) 4 ++ zeros 4 ++ body) len
      ++ capChain (off + len) es

/-- The capability list as it stands at BAR0 offset 0x100. -/
def capList (s : State) : Bytes := capChain 0x100 (capEntries s)

end Sys2Proof.Machine
end

