-- ==== Sys2Proof/Machine/Flags.lean ====
section
/-! DEFINITION. Yehepel has no condition-code register (06, Registers): what the integer instructions compute beside
the plain word operations of BitVec. -/

namespace Sys2Proof.Machine

/-- A truth value as the word 0 or 1 that comparisons write. -/
def flag (b : Bool) : Word := if b then 1 else 0

/-- Carry out of u(a) + u(b). -/
def carryOut (a b : Word) : Bool := decide (2 ^ 64 ≤ a.toNat + b.toNat)

/-- Borrow out of u(a) − u(b). -/
def borrowOut (a b : Word) : Bool := decide (a.toNat < b.toNat)

/-- The signed number n does not fit 64 bits. -/
def overflows (n : Int) : Bool := decide (n < -(2 ^ 63) ∨ 2 ^ 63 ≤ n)

/-- Signed overflow of a + b. -/
def addOverflow (a b : Word) : Bool := overflows (a.toInt + b.toInt)

/-- Signed overflow of a − b. -/
def subOverflow (a b : Word) : Bool := overflows (a.toInt - b.toInt)

/-- Shift and rotate amounts are bits 5:0 of b. -/
def shiftAmount (b : Word) : Nat := b.toNat % 64

/-- High 64 bits of u(a) × u(b). -/
def mulHighU (a b : Word) : Word := BitVec.ofNat 64 (a.toNat * b.toNat / 2 ^ 64)

/-- High 64 bits of s(a) × s(b). -/
def mulHighS (a b : Word) : Word := BitVec.ofInt 64 (a.toInt * b.toInt / 2 ^ 64)

/-- Quotient rounded toward zero; −2^63 / −1 gives −2^63. -/
def divSigned (a b : Word) : Word := BitVec.ofInt 64 (Int.tdiv a.toInt b.toInt)

/-- Remainder with the sign of a; −2^63 rem −1 gives 0. -/
def remSigned (a b : Word) : Word := BitVec.ofInt 64 (Int.tmod a.toInt b.toInt)

/-- Leading zero bits of the low n bits. -/
def clzN (a : Word) : Nat → Nat
  | 0 => 0
  | n + 1 => if a.getLsbD n then 0 else 1 + clzN a n

/-- Trailing zero bits, scanning n bits from bit i. -/
def ctzN (a : Word) (i : Nat) : Nat → Nat
  | 0 => 0
  | n + 1 => if a.getLsbD i then 0 else 1 + ctzN a (i + 1) n

/-- Set bits among the low n bits. -/
def popN (a : Word) : Nat → Nat
  | 0 => 0
  | n + 1 => b2n (a.getLsbD n) + popN a n

/-- Bytes in reverse order. -/
def byteSwap (a : Word) : Word := BitVec.ofNat 64 (beN (le a.toNat 8))

/-- Bits lo + w − 1 to lo of a, zero- or sign-extended (BFX). -/
def bitField (a : Word) (lo w : Nat) (sx : Bool) : Word :=
  let v := a.toNat / 2 ^ lo % 2 ^ w
  if sx then BitVec.ofInt 64 (signed v w) else BitVec.ofNat 64 v

/-- d with bits lo + w − 1 to lo replaced by the low w bits of a (BFI). -/
def bitInsert (d a : Word) (lo w : Nat) : Word :=
  let mask : Word := BitVec.ofNat 64 ((2 ^ w - 1) * 2 ^ lo)
  (d &&& ~~~mask) ||| ((a <<< lo) &&& mask)

end Sys2Proof.Machine
end

