-- ==== Sys2Proof/Machine/Slots.lean ====
section
/-! DEFINITION. Welt frames sent, Brine objects, and the checks and uses of a key slot (08). -/

namespace Sys2Proof.Machine

/-! ### Frames sent over the Welt (17) -/

/-- A further PRESS frame of the press before it, as the list of unacknowledged frames holds it: type 0x10 on the wire. -/
def pressMore : Nat := 0x110

/-- The type on the wire. -/
def wireType (type : Nat) : Nat := type % 256

/-- A frame sent in the open link session under the next sequence; without a session none is sent, and in SYNC it stays
unacknowledged (R372, R373, R377). -/
def sendFrame (type : Nat) (s : State) : State :=
  let w := { s.welt with txSeq := s.welt.txSeq + 1, unacked := s.welt.unacked ++ [(s.welt.txSeq, type)] }
  if s.welt.link then { s with welt := w, tx := s.tx ++ [.welt (wireType type) s.welt.txSeq] } else { s with welt := w }

/-- A frame for the twin: sent, or behind 64 unacknowledged ones kept under a ticket beyond every sequence (R373;
log 185). -/
def weltSend (type : Nat) (s : State) : State :=
  if !s.welt.link && s.welt.mode != .sync then s
  else if s.welt.unsent.isEmpty && decide (s.welt.unacked.length < 64) then sendFrame type s
  else
    { s with welt := { s.welt with tickets := s.welt.tickets + 1
                                   unsent := s.welt.unsent ++ [(2 ^ 64 + s.welt.tickets, type)] } }

/-- What waited under a ticket waits under the sequence its frame has been given. -/
def reticket (ticket seq : Nat) (s : State) : State :=
  let job (j : Job) : Job := if j.mirror == some ticket then { j with mirror := some seq } else j
  let jobs (q : Sched) : Sched := { q with jobs := q.jobs.map job }
  let wait (w : WeltWait) : WeltWait := if w.seq = ticket then { w with seq := seq } else w
  { s with welt := { s.welt with waits := s.welt.waits.map wait }
           eng := { s.eng with vat := jobs s.eng.vat, digest := jobs s.eng.digest, lanes := jobs s.eng.lanes } }

/-- The frames kept back go out as far as 64 unacknowledged ones leave room (R373). -/
def sendUnsent (s : State) : State :=
  let n := 64 - s.welt.unacked.length
  (s.welt.unsent.take n).foldl (fun s u => sendFrame u.2 (reticket u.1 s.welt.txSeq s))
    { s with welt := { s.welt with unsent := s.welt.unsent.drop n } }

/-- The pairing is in SYNC and this device is the lead: changes are mirrored before use (R376). -/
def State.syncLead (s : State) : Bool := s.welt.role == .lead && s.welt.mode == .sync

def State.syncFollower (s : State) : Bool := s.welt.role == .follower && s.welt.mode == .sync

/-- A follower that is not in SYNC, or a joining device: what R378 forwards completes with LIFECYCLE (R381, R388). -/
def State.staleFollower (s : State) : Bool :=
  (s.welt.role == .follower && s.welt.mode != .sync) || s.welt.role == .joining

/-- The latest frame that the twin has not acknowledged: its sequence, or its ticket. -/
def State.lastUnacked (s : State) : Option Nat := (s.welt.unacked ++ s.welt.unsent).getLast?.map Prod.fst

/-- A BRINE frame for a change on a SYNC lead (R376). -/
def mirrorBrine (s : State) : State := if s.syncLead then weltSend 0x11 s else s

/-- The frame a new request shall see acknowledged before its outputs (R196, R376). -/
def State.mirrorSeq (s : State) : Option Nat := if s.syncLead || s.syncFollower then s.lastUnacked else none

/-! ### Brine entries (12 R265 to R267) -/

/-- A counter entry as an installation makes it: invocation counter 0, the initial use count (R171). -/
def Entry.new (idx slot uses gen : Nat) : Entry := ⟨idx, slot, 0, uses, gen, 0, Copies.both ⟨0, uses, gen⟩⟩

def State.entry (s : State) (n : Nat) : Option Entry := s.brine.entries.find? fun e => e.slot == n

def Entry.count (e : Entry) : Count := ⟨e.inv, e.uses, e.gen⟩

/-- The durable copy written under R258; the distance is 0. -/
def Entry.makeDurable (e : Entry) : Entry := { e with dist := 0, dur := e.dur.update e.count }

/-- A counter of the entry stands more than 2^19 past its durable copy, or there is none of its generation (R169). -/
def Entry.strayed (e : Entry) : Bool :=
  match e.dur.read with
  | some d => d.gen != e.gen || decide (d.inv + 2 ^ 19 < e.inv) || decide (e.uses + 2 ^ 19 < d.uses)
  | none => true

/-- One change of an entry: written through in write-through mode; in hold-up mode the durable copy is written when
the change would take the distance, or a counter, more than 2^19 past it (R169, R267). -/
def Entry.changed (e : Entry) (m : BrineMode) : Entry :=
  if m == .writeThrough || decide (e.dist + 1 > 2 ^ 19) || e.strayed then e.makeDurable else { e with dist := e.dist + 1 }

/-- A changed entry as the Brine keeps it: no durable copy is written to a retired bank 0 (R274). -/
def State.keptEntry (s : State) (e : Entry) : Entry :=
  if s.bankRetired 0 then { e with dist := e.dist + 1 } else e.changed s.brine.mode

/-- A write of bank 0, where the durable copies lie, where one is made. -/
def wakeIf (written : Bool) (s : State) : State := if written then wakeBank 0 s else s

/-- A changed entry put in the Brine, and mirrored in SYNC. -/
def setEntry (e : Entry) (s : State) : State :=
  mirrorBrine (wakeIf ((s.keptEntry e).dist == 0) { s with brine := { s.brine with
    entries := s.keptEntry e :: s.brine.entries.filter fun x => x.slot != e.slot } })

/-- The changed entry could not be used: it needs a durable copy first, which a retired bank 0 does not take (R265,
R267, R274; log 213). -/
def State.stuckEntry (s : State) (e : Entry) : Bool :=
  s.bankRetired 0 && (s.brine.mode == .writeThrough || decide (e.dist + 1 > 2 ^ 19) || e.strayed)

def Book.makeDurable (b : Book) : Book := { b with dist := 0, durable := b.durable.update b.head }

/-- The seal counter stands more than 2^19 past the durable head, or there is none of its generation (R267). -/
def Book.strayed (b : Book) : Bool :=
  match b.durable.read with
  | some d => d.gen != b.head.gen || decide (d.c + 2 ^ 19 < b.head.c)
  | none => true

/-- One change of a book head (R267): as an entry. -/
def Book.changed (b : Book) (m : BrineMode) : Book :=
  if m == .writeThrough || decide (b.dist + 1 > 2 ^ 19) || b.strayed then b.makeDurable
  else { b with dist := b.dist + 1 }

def State.book (s : State) (b : Nat) : Book := vget s.books b Book.zero

def setBook (b : Nat) (x : Book) (s : State) : State := { s with books := vset s.books b x }

/-- A book with a changed head as the Brine keeps it (R267, R274). -/
def State.keptBook (s : State) (k : Book) : Book :=
  if s.bankRetired 0 then { k with dist := k.dist + 1 } else k.changed s.brine.mode

/-- A book with a changed head put in the Brine. -/
def putBook (b : Nat) (k : Book) (s : State) : State :=
  wakeIf ((s.keptBook k).dist == 0) (setBook b (s.keptBook k) s)

/-- The book with the changed head could not be used, as an entry could not (log 213). -/
def State.stuckBook (s : State) (k : Book) : Bool :=
  s.bankRetired 0 && (s.brine.mode == .writeThrough || decide (k.dist + 1 > 2 ^ 19) || k.strayed)

/-! ### Attribute word (08) -/

def Slot.alg (k : Slot) : Nat := bits k.attr.toNat 63 48
def Slot.usage (k : Slot) (i : Nat) : Bool := k.attr.getLsbD i
def Slot.cmLevel (k : Slot) : Nat := bits k.attr.toNat 19 18
def Slot.sessionBind (k : Slot) : Bool := k.attr.getLsbD 20
def Slot.expire (k : Slot) : Bool := k.attr.getLsbD 21
def Slot.counted (k : Slot) : Bool := k.attr.getLsbD 22
def Slot.inBrine (k : Slot) : Bool := k.attr.getLsbD 23
def Slot.exportable (k : Slot) : Bool := k.attr.getLsbD 24

/-- The LC bit of a life-cycle state. -/
def lcBit (l : Lifecycle) : Option Nat :=
  match l with
  | .service => some 40
  | .recovery => some 41
  | .test => some 42
  | _ => none

def Slot.lcAllows (k : Slot) (l : Lifecycle) : Bool :=
  match lcBit l with
  | some i => k.attr.getLsbD i
  | none => false

/-- An AES slot with ENCRYPT has an invocation counter. -/
def attrHasInv (attr : BitVec 64) : Bool :=
  let a := bits attr.toNat 63 48
  (a == 0x0101 || a == 0x0102 || a == 0x0103) && attr.getLsbD 0

/-- The slot needs a Brine counter entry: an invocation counter, or BRINE (08). -/
def attrNeedsEntry (attr : BitVec 64) : Bool := attrHasInv attr || attr.getLsbD 23

/-! ### R162 and R166 -/

/-- Who asks for a use: reach follows R66. -/
inductive Rq where
  | host | applet | job | supervisor | device
  deriving DecidableEq, Repr

def Rq.reaches (l : Last) (r : Rq) (n : Nat) : Bool :=
  let inHost := decide (l.hostFirst ≤ n ∧ n < l.hostFirst + l.hostCount)
  let inApp := decide (l.appletFirst ≤ n ∧ n < l.appletFirst + l.appletCount)
  match r with
  | .host | .job => inHost
  | .applet => inHost || inApp
  | .supervisor | .device => true

def Rq.ofMode : Mode → Rq
  | .a => .applet
  | .j => .job
  | .s => .supervisor

/-- The enables govern host orders, applets and job programs only (R67). -/
def Rq.governed : Rq → Bool
  | .host | .applet | .job => true
  | _ => false

def State.slot (s : State) (n : Nat) : Option Slot := s.cellar.slots.find? fun k => k.n == n

/-- An EXPIRE_AT_RESET slot whose boot is over (R172). -/
def State.expired (s : State) (n : Nat) : Bool :=
  (s.slot n).elim false fun k => k.expire && (k.nonce != s.keys.bootNonce || s.keys.bootNonce.isNone)

/-- The slot n as its users find it: one that has expired is empty (R172). -/
def State.liveSlot (s : State) (n : Nat) : Option Slot := if s.expired n then none else s.slot n

/-- R162: the records of slot n, or the status of the first failing check. -/
def State.slotReady (s : State) (n : Nat) : Except Status Slot :=
  match s.slot n with
  | none => .error .keyEmpty
  | some k =>
    if k.origin != s.vault.lc then .error .lifecycle
    else if k.expire && (k.nonce != s.keys.bootNonce || s.keys.bootNonce.isNone) then .error .keyEmpty
    else if !k.tagOk then .error .faultPermanent
    else if attrNeedsEntry k.attr && (s.entry n).isNone then .error .faultPermanent
    else if !s.storeKey then .error .noHealthyChannel
    else .ok k

/-- The remaining use count of a counted slot; none when its record is lost (R167, R259). -/
def State.remaining (s : State) (k : Slot) : Option Nat :=
  if k.inBrine then (s.entry k.n).map (·.uses)
  else (((look k.n s.cellar.useCounts).getD TwoCopy.zero).read).map fun v => v % 2 ^ 32

/-- What a function asks of a slot beyond R162: algorithms that fit, usage bit, enable bits by slot. -/
structure Need where
  fits : Slot → Bool
  usage : Slot → Bool
  enables : Slot → List Nat

/-- R162 then R166 in order, but for the counters. `session` is the order's session, 0 for none. -/
def State.slotCheck (s : State) (rq : Rq) (n : Nat) (need : Need) (session : BitVec 32) : Except Status Slot :=
  match s.slotReady n with
  | .error e => .error e
  | .ok k =>
    if s.debugOn then .error .lifecycle
    else if !rq.reaches s.active n then .error .keyAttr
    else if !k.lcAllows s.vault.lc then .error .keyAttr
    else if rq.governed && !(need.enables k).all (fun i => s.active.enables.getLsbD i) then .error .keyAttr
    else if !need.fits k || !need.usage k then .error .keyAttr
    else if k.sessionBind && !(s.sessions.any fun x =>
        BitVec.ofNat 32 (x.gen * 4096 + x.idx) == session && session != 0 && x.owner == k.owner) then .error .keyAttr
    else .ok k

/-- The outcome of asking for a use: the invocation value drawn, a refusal, or a wait for the lead (R379). -/
inductive Use where
  | got (k : Slot) (v : Nat) (s : State)
  | no (st : Status) (s : State)
  | wait (s : State)

/-- One use consumed, the count and the invocation draw ordered together (R166 to R169, R195). On a SYNC follower
counted uses are forwarded to the lead and invocation values come from a grant (R378, R379). -/
def drawUse (k : Slot) (inv : Bool) (s : State) : Use :=
  let rem := if k.counted then s.remaining k else some 1
  match rem with
  | none => .no .faultPermanent s
  | some r =>
    if r = 0 then .no .keyExhausted s
    else if s.staleFollower && k.counted then .no .lifecycle s
    else if s.syncFollower then
      let s1 := if k.counted then weltSend 0x20 s else s
      if inv then
        match s.welt.grants.find? fun g => g.1 == k.n with
        | some (_, v, left) =>
          .got k v { s1 with welt := { s1.welt with
            grants := if left ≤ 1 then dropFirst (fun g => g.1 == k.n) s1.welt.grants
              else updFirst (fun g => g.1 == k.n) (fun _ => (k.n, v + 1, left - 1)) s1.welt.grants } }
        | none => .wait (weltSend 0x20 s)
      else .got k 0 s1
    else
      let e := (s.entry k.n).getD (Entry.new 0 k.n 0 k.gen)
      if inv && (s.staleFollower || decide (e.inv ≥ 2 ^ 64 - 1)) then
        .no (if s.staleFollower then .lifecycle else .keyExhausted) s
      else
        let e' := { e with inv := if inv then e.inv + 1 else e.inv
                           uses := if k.counted && k.inBrine then e.uses - 1 else e.uses }
        if (e' != e && s.stuckEntry e') || (k.counted && !k.inBrine && s.bankRetired 0) then .no .faultPermanent s
        else
        let s := if e' == e then s else setEntry e' s
        let t := ((look k.n s.cellar.useCounts).getD TwoCopy.zero).update (k.gen * 2 ^ 32 + (r - 1))
        let s := if k.counted && !k.inBrine then
            wakeBank 0 { s with cellar := { s.cellar with useCounts := put k.n t s.cellar.useCounts } }
          else s
        .got k e.inv s

/-- The use count of the slot is spent, or its record lost: the last check of R166 but for the invocation counter. -/
def State.spent (s : State) (k : Slot) : Option Status :=
  if k.counted then
    match s.remaining k with
    | none => some .faultPermanent
    | some 0 => some .keyExhausted
    | some _ => none
  else none

/-- The card volumes and host volumes of R198: volume v names the sealed or archive volume of a card channel. -/
def State.cardVolume (s : State) (v : Nat) : Option Nat :=
  if 1020 ≤ v ∧ v ≤ 1022 ∧ (s.active.roles.getD (v - 1020) 0 = 1 ∨ s.active.roles.getD (v - 1020) 0 = 2) then
    some (v - 1020)
  else none

def isXts (k : Slot) : Bool := k.alg == 0x0111 || k.alg == 0x0113

/-- Volume v exists (R198); a host volume is a slot of its type that has not expired (R172). -/
def State.volumeExists (s : State) (v : Nat) : Bool :=
  (s.cardVolume v).isSome || (s.liveSlot v).elim false isXts

/-! ### Needs of the functions (08 R166, 11 R238) -/

def isAes (k : Slot) : Bool := k.alg == 0x0101 || k.alg == 0x0102 || k.alg == 0x0103

/-- AES bit of the key size: bits 2:0 are AES-256, AES-192 and AES-128. -/
def aesBit (k : Slot) : List Nat := [k.alg - 0x0101]

/-- RSA or RSA_LARGE by modulus size, from the material's header. -/
def rsaBits (material : Bytes) : Nat := fld material 0 2
def rsaBit (material : Bytes) : Nat := if rsaBits material > 4096 then 17 else 16

def needAes (mode : Nat) (usage : Nat) : Need where
  fits := isAes
  usage k := k.usage usage
  enables k := if mode = 4 then [4] else if mode = 5 then [5] else aesBit k

def needTdea (usage : Nat) : Need where
  fits k := k.alg == 0x0120
  usage k := k.usage usage
  enables _ := [6]

def needXts (usage : Nat) : Need where
  fits := isXts
  usage k := k.usage usage
  enables _ := [3]

/-- HYBRID with SEAL, for wheels, seals and time tokens. -/
def needSeal : Need where
  fits k := k.alg == 0x0701
  usage k := k.usage 8
  enables _ := [23]

end Sys2Proof.Machine
end

