-- ==== Sys2Proof/Machine/Frames.lean ====
section
/-! DEFINITION. Frames of the Yehepel cores: their memories, tokens, the end of an order by EXIT or trap, and the
delivery of an outcome to whatever waits for it (06, 07). -/

namespace Sys2Proof.Machine

/-! ### Cores and frames -/

def State.core (s : State) (c : Nat) : Core := vget s.cores c Core.idle

def setCore (c : Nat) (k : Core) (s : State) : State := { s with cores := vset s.cores c k }

def State.frame (s : State) (c f : Nat) : Option Fr := vget (s.core c).frames f none

def setFrame (c f : Nat) (x : Option Fr) (s : State) : State :=
  setCore c { s.core c with frames := vset (s.core c).frames f x } s

/-- A frame that waits for nothing. -/
def Fr.runnable (fr : Fr) : Bool := fr.wait.isNone && fr.exiting.isNone && fr.ending.isNone

/-- The lowest-numbered runnable frame of a core (log 12). -/
def Core.next (k : Core) : Option (Fin 4) :=
  (List.finRange 4).find? fun f => match k.frames[f] with
    | some fr => fr.runnable
    | none => false

/-- A core with no running frame takes one that can run (R116). -/
def schedule (c : Nat) (s : State) : State :=
  let k := s.core c
  if k.running.isNone then setCore c { k with running := k.next } s else s

/-- The running frame gives up the core (R116). -/
def yieldCore (c : Nat) (s : State) : State := schedule c (setCore c { s.core c with running := none } s)

/-! ### Data memory -/

/-- An image with its data memory as the image gives it (R117). -/
def Applet.fresh (a : Applet) : Resident := ⟨a, Mem.write [] 0 a.data, false⟩

/-- The data memory a frame sees: the applet's on its core, the job's own, or the supervisor SRAM (R117, log 13). -/
def State.dataOf (s : State) (c : Nat) (fr : Fr) : Mem :=
  match fr.mode with
  | .a => ((s.core c).resident.find? fun r => r.img.id == fr.applet).elim [] (·.mem)
  | .j => fr.data
  | .s => s.supSram

def setData (c f : Nat) (m : Mem) (s : State) : State :=
  match s.frame c f with
  | none => s
  | some fr =>
    match fr.mode with
    | .a => setCore c { s.core c with
        resident := updFirst (fun r => r.img.id == fr.applet) (fun r => { r with mem := m }) (s.core c).resident } s
    | .j => setFrame c f (some { fr with data := m }) s
    | .s => { s with supSram := m }

/-- The live session a handle names (R92). -/
def State.session (s : State) (h : BitVec 32) : Option Session :=
  s.sessions.find? fun x => BitVec.ofNat 32 (x.gen * 4096 + x.idx) == h && h != 0

def setSession (x : Session) (s : State) : State :=
  { s with sessions := updFirst (fun y => y.idx == x.idx) (fun _ => x) s.sessions }

/-- A span joined to a sorted list of spans that lie apart. -/
def addSpan (lo hi : Nat) : List (Nat × Nat) → List (Nat × Nat)
  | [] => [(lo, hi)]
  | (a, b) :: r =>
    if hi < a then (lo, hi) :: (a, b) :: r
    else if b < lo then (a, b) :: addSpan lo hi r
    else addSpan (min a lo) (max b hi) r

/-- Bytes in a list of spans that lie apart. -/
def spanBytes (l : List (Nat × Nat)) : Nat := (l.map fun x => x.2 - x.1).sum

/-- Bytes written at a destination. -/
def writeDst (d : Dst) (b : Bytes) (s : State) : State :=
  match d with
  | .none => s
  | .host a => if s.linkUp then { s with hostMem := s.hostMem.write a b } else s
  | .data c f off =>
    match s.frame c f with
    | some fr => setData c f ((s.dataOf c fr).write off b) s
    | none => s
  | .page h off =>
    match s.session h with
    | some x => setSession { x with page := x.page.write off b } s
    | none => s
  | .response => { s with mb := { s.mb with response := b } }

/-- The destination k bytes further on. -/
def Dst.shift (d : Dst) (k : Nat) : Dst :=
  match d with
  | .host a => .host (a + k)
  | .data c f off => .data c f (off + k)
  | .page h off => .page h (off + k)
  | d => d

/-- The n bytes at host address a are output bytes that the frame's order has written (05 R91). -/
def noteOut (c f uid a n : Nat) (s : State) : State :=
  match s.frame c f with
  | some fr => if fr.uid != uid || n = 0 then s else setFrame c f (some { fr with wrote := addSpan a (a + n) fr.wrote }) s
  | none => s

/-- An output written for a reference. What a request of a frame writes to host memory is output of its order; for a
frame or an order that has ended nothing more is written (R74, R75). -/
def writeOut (r : Ref) (d : Dst) (b : Bytes) (s : State) : State :=
  match r with
  | .token c f uid _ =>
    if (s.frame c f).elim true fun fr => fr.uid != uid then s
    else
      match d with
      | .host a => noteOut c f uid a b.length (writeDst d b s)
      | _ => writeDst d b s
  | .order uid => if (s.order? uid).isNone then s else writeDst d b s
  | _ => writeDst d b s

def writeOuts (r : Ref) (ds : List (Dst × Bytes)) (s : State) : State := ds.foldl (fun s d => writeOut r d.1 d.2 s) s

/-- The bytes a scrub zeroes: all of them, or those accepted where a write of it fails (R204, R205). -/
def Job.scrubbed (j : Job) : Nat := match j.scrubFail with
  | some n => min n j.scrub
  | none => j.scrub

/-- Zeros over the plaintext bytes of a decryption's destination (R204). -/
def scrubJob (j : Job) (s : State) : State :=
  match j.outs with
  | (d, _) :: _ => if j.scrub = 0 then s else writeOut j.ref d (zeros j.scrubbed) s
  | [] => s

/-! ### Registers -/

/-- General register r; g0 reads zero. -/
def Fr.reg (fr : Fr) (r : BitVec 5) : Word := if r = 0 then 0 else fr.g[r.toNat]'(by have := r.isLt; omega)

/-- A write of general register r; a write to g0 is discarded (R106). -/
def Fr.setReg (fr : Fr) (r : BitVec 5) (v : Word) : Fr :=
  if r = 0 then fr else { fr with g := fr.g.set r.toNat v (by have := r.isLt; omega) }

def Fr.tok (fr : Fr) (t : BitVec 3) : Tok := fr.t[t.toNat]'(by have := t.isLt; omega)

def Fr.setTok (fr : Fr) (t : BitVec 3) (v : Tok) : Fr :=
  { fr with t := fr.t.set t.toNat v (by have := t.isLt; omega) }

def Fr.hnd (fr : Fr) (h : BitVec 4) : Handle := fr.h[h.toNat]'(by have := h.isLt; omega)

def Fr.setHnd (fr : Fr) (h : BitVec 4) (v : Handle) : Fr :=
  { fr with h := fr.h.set h.toNat v (by have := h.isLt; omega) }

def Tok.isBusy : Tok → Bool
  | .busy => true
  | _ => false

/-- An OK-class status other than OK arises in the order (R140). -/
def Fr.arise (fr : Fr) (st : Status) : Fr :=
  { fr with truncated := fr.truncated || st == .okTruncated
            retried := fr.retried || st == .okRetried
            closeCall := fr.closeCall || st == .okCloseCall }

/-- The statuses of every done token arise at EXIT (R140). -/
def Fr.ariseAll (fr : Fr) : Fr :=
  fr.t.toList.foldl (fun fr t => match t with
    | .done st _ _ => fr.arise st
    | _ => fr) fr

/-- g d as TWAIT writes it: status in bits 15:0, count in bits 63:32 (R136). -/
def tokWord (st : Status) (count : BitVec 32) : Word := BitVec.ofNat 64 (count.toNat * 2 ^ 32 + st.code)

/-- TWAIT's collection of a done token (R136). -/
def Fr.collect (fr : Fr) (t : BitVec 3) (d b : BitVec 5) (st : Status) (count : BitVec 32) (v : Word) : Fr :=
  { ((fr.setReg d (tokWord st count)).setReg b v).setTok t .empty with wait := none, waitClose := false }.arise st

/-! ### Jobs of a frame -/

/-- The request is one of a token of the order's frame. -/
def Ref.ofFrame (uid : Nat) : Ref → Bool
  | .token _ _ u _ => u == uid
  | _ => false

def Job.ofFrame (uid : Nat) (j : Job) : Bool := j.ref.ofFrame uid

def Sched.drop (p : Job → Bool) (q : Sched) : Sched :=
  let ids := (q.jobs.filter p).map (·.id)
  { q with jobs := q.jobs.filter (fun j => !p j), runs := q.runs.filter (fun u => !ids.contains u.job)
           susp := q.susp.filter (fun u => !ids.contains u.2) }

def Job.stagedBytes (j : Job) : Nat :=
  match j.fin with
  | .staged n => n
  | _ => 0

/-- Reserve that the open presses of a frame hold in the press buffer. -/
def Fr.openReserve (fr : Fr) : Nat := (fr.presses.toList.map fun p => p.elim 0 (·.reserve)).sum

/-- What the end of a CALL or RUN frees: open presses (R151), hash streams (R222), operand slots (R234), the frame
(R108). -/
def freeFrame (c f uid : Nat) (s : State) : State :=
  let held := ((s.frame c f).map Fr.openReserve).getD 0
  let s := { s with press := { s.press with bufUsed := s.press.bufUsed - held } }
  let s := { s with eng := { s.eng with streams := s.eng.streams.filter fun r => r.uid != uid
                                        retained := s.eng.retained.filter fun r => r.uid != uid } }
  let s := setFrame c f none s
  if (s.core c).running.map (·.val) = some f then yieldCore c s else s

/-! ### Trap causes (R125) -/

inductive Cause where
  | illegal | privileged | misaligned | access | divide | overflow | handle | runLimit | windowDma | memory
  deriving DecidableEq, Repr

/-- Cause codes of the trap table. -/
def Cause.code : Cause → Nat
  | .illegal => 1
  | .privileged => 2
  | .misaligned => 3
  | .access => 4
  | .divide => 5
  | .overflow => 6
  | .handle => 7
  | .runLimit => 8
  | .windowDma => 9
  | .memory => 10

/-- Completion status of a trap in A or J mode. -/
def Cause.status : Cause → Status
  | .illegal | .privileged => .badFormat
  | .runLimit => .timeout
  | .windowDma => .aborted
  | .memory => .faultPermanent
  | _ => .operandRange

def Mode.code : Mode → Nat
  | .s => 0
  | .a => 1
  | .j => 2

/-! ### The end of an order's frame (R123, R125) -/

/-- Work of the order is still on its way to its next boundary: a job of an engine, or a card request that has not
reached its press (R101, R125; 15 R343). -/
def State.stopping (s : State) (uid : Nat) : Bool :=
  (s.eng.vat.jobs ++ s.eng.digest.jobs ++ s.eng.lanes.jobs ++ s.eng.compares).any (fun j => j.ref.ofFrame uid)
    || s.cards.ch.toList.any fun k => k.queue.any fun q =>
      q.ref.ofFrame uid && q.phase != .press && q.phase != .home && q.phase != .applied

/-- The bytes an aborted frame's completion reports: the output written and left in place, zeros of a scrub among it
(R75, R91; 09 R204). -/
def Fr.leftBytes (fr : Fr) (st : Status) : Nat := if st == .aborted then spanBytes fr.wrote else 0

/-- A trap's or an ABORT's end, once the work of the order has stopped: the completion. -/
def tryEnd (c f : Nat) (s : State) : State :=
  match s.frame c f with
  | none => s
  | some fr =>
    match fr.ending with
    | none => s
    | some st => if s.stopping fr.uid then s else complete fr.uid st fr.lastEpoch 0 (fr.leftBytes st) (freeFrame c f fr.uid s)

/-- EXIT's end, once no token of the frame is busy: open presses abandoned, the completion written. -/
def tryExit (c f : Nat) (s : State) : State :=
  match s.frame c f with
  | none => s
  | some fr =>
    match fr.exiting with
    | none => s
    | some (res, st) =>
      if fr.t.toList.any Tok.isBusy then s
      else
        let fr := fr.ariseAll
        let s := freeFrame c f fr.uid s
        let o := (s.order? fr.uid).map fun o =>
          okClass fr.truncated (fr.retried || o.retried) (fr.closeCall || o.closeCall)
        complete fr.uid (if st == .ok then o.getD .ok else st) fr.lastEpoch res.toNat fr.odBytes.toNat s

/-- A token becomes done (R136); a frame that waits on it collects it and can run again. -/
def tokDone (c f uid t : Nat) (st : Status) (count : Nat) (v : Nat) (s : State) : State :=
  match s.frame c f with
  | none => s
  | some fr =>
    if fr.uid != uid then s
    else
      let tk := BitVec.ofNat 3 t
      let cnt := BitVec.ofNat 32 count
      let w := BitVec.ofNat 64 v
      match fr.wait with
      | some (wt, d, b) =>
        if wt = tk then
          let st := if st == .ok && fr.waitClose then .okCloseCall else st
          schedule c (setFrame c f (some (fr.collect tk d b st cnt w)) s)
        else setFrame c f (some (fr.setTok tk (.done st cnt w))) s
      | none => tryEnd c f (tryExit c f (setFrame c f (some (fr.setTok tk (.done st cnt w))) s))

/-! ### Outcomes -/

/-- Result and bytes-processed fields of an order's outcome, by kind (R91). -/
def orderFields (k : OKind) (st : Status) (count v : Nat) : Nat × Nat :=
  if st.isOk then
    match k with
    | .sector => (count / 4096, count)
    | .seal => (v % 2 ^ 32, count)
    | _ => (v, count)
  else if st == .aborted then (0, count)
  else (0, 0)

/-- The outcome delivered to what waits for it. -/
def finish (r : Ref) (st : Status) (count v : Nat) (s : State) : State :=
  match r with
  | .none | .wheel _ => s
  | .token c f uid t => tokDone c f uid t st count v s
  | .order uid =>
    match s.order? uid with
    | none => s
    | some o =>
      let (res, by_) := orderFields o.kind st count v
      complete uid st none res by_ s
  | .instr c f uid d b =>
    match s.frame c f with
    | none => s
    | some fr =>
      if fr.uid != uid then s
      else
        let fr := fr.setReg d (BitVec.ofNat 64 st.code)
        let fr := match b with
          | some b => fr.setReg b (BitVec.ofNat 64 v)
          | none => fr
        setFrame c f (some { fr with pressing := false, pc := fr.pc + 4, icount := fr.icount + 1 }) s
  | .mailbox => mbFinish (mbResult st) st (if st.isOk then s.mb.response else []) s
  | .twin _ => weltSend 0x21 s

/-- The epoch a committed press produced, kept for the completion of the order it belongs to (R22). -/
def noteEpoch (r : Ref) (e : Nat) (s : State) : State :=
  match r with
  | .token c f uid _ | .instr c f uid _ _ =>
    match s.frame c f with
    | some fr => if fr.uid == uid then setFrame c f (some { fr with lastEpoch := some e }) s else s
    | none => s
  | .order uid =>
    match s.order? uid with
    | some o => setOrder { o with epoch := some e } s
    | none => s
  | _ => s

end Sys2Proof.Machine
end

