-- ==== Sys2Proof/Machine/Health.lean ====
section
/-! DEFINITION. Handing a press to the Press (12), and channel records (16). -/

namespace Sys2Proof.Machine

/-! ### Presses handed over -/

/-- Reserve an item of a press takes, and its length in the log record (R147, R177). -/
def PItem.len : PItem → Nat
  | .write _ _ d => roundUp (d.length + 16) 16
  | .slotWrite _ span _ _ _ _ _ _ _ => span * 272 + 32
  | .slotFree _ span _ => span * 272 + 32
  | .officers os _ _ => os.length * 2720 + 32
  | .last _ _ => 4112
  | .cert _ => 9152
  | .wheel _ _ _ _ _ => 4816
  | .weltPair _ _ _ => 9216
  | .gapRecords => 64 * 320
  | .volWrite _ _ _ | .archive _ _ _ => 144
  | _ => 32

/-- Length of a press's log record in bytes (12, The log record). -/
def recordLen (items : List PItem) : Nat := 48 + (items.map PItem.len).sum

/-- A press of the items given, from the supervisor core. -/
def Press.of (items : List PItem) (origin : Ref) : Press :=
  { items := items, conds := [], origin := origin, len := recordLen items, reserve := 0, core := 8, outBytes := 0, result := none
    outs := [], report := none, log := none, behind := [], retried := false, closeCall := false }

/-- The press joins the queue of the Press, in the order in which it reaches it (R150). -/
def enqueue (p : Press) (s : State) : State := { s with press := { s.press with queue := s.press.queue ++ [p] } }

/-- A press of the device's own that reports to nobody, made only where presses can commit, debug is not active and
the device is no SYNC follower (R23, R60, R263). -/
def pressOwn (items : List PItem) (s : State) : State :=
  if s.ringOk && !s.debugBars && !s.rind.guard && !s.syncFollower then enqueue (Press.of items .none) s else s

/-! ### Channels (R363 to R365) -/

def State.chan (s : State) (i : Nat) : Chan := s.health.chans.getD i Chan.fresh

def setChan (i : Nat) (c : Chan) (s : State) : State :=
  { s with health := { s.health with chans := s.health.chans.set i c } }

/-- The power domain of a channel's engine (02, Power domains): the Welt and the Cellar banks have none of their own
channel alone (R365). -/
def chanDomain (i : Nat) : Option Nat :=
  if i < 16 then some (22 + i) else if i < 24 then some (38 + (i - 16)) else if i < 40 then some (46 + (i - 24))
  else if i < 48 then some (14 + (i - 40)) else if i < 52 then some (9 + (i - 48))
  else if i = 54 ∨ i = 55 then some (7 + (i - 54)) else none

/-- Domain d off. -/
def domainOffN (d : Nat) (s : State) : State :=
  if h : d < 64 then
    { s with power := { s.power with domainsOff := (⟨d, h⟩ : Fin 64) :: s.power.domainsOff.filter (· != (⟨d, h⟩ : Fin 64)) } }
  else s

/-- Steps 2 and 3 of a retirement (R365): the channel's domain off for good (R32), a cipher core's schedules zeroised
(09 R193), the capability fields and the retirement count (04 R71). -/
def retireMark (i cause : Nat) (s : State) : State :=
  let s := setChan i { s.chan i with retired := true, cause := cause } s
  let s := (chanDomain i).elim s fun d => domainOffN d s
  { s with eng := { s.eng with schedules := s.eng.schedules.filter fun x => x.1 != i }
           health := { s.health with retirements := s.health.retirements + 1 } }

/-- Steps 4 and 5: the health log and source 275, the SMBus port where the host link is lost (05 R76), the press of the
health table. -/
def retireReport (i cause : Nat) (s : State) : State :=
  let s := healthLog 2 i 0 s
  let s := if s.chanOk 54 || s.chanOk 55 then s else { s with smb := { s.smb with alert := true } }
  pressOwn [.health i cause] s

/-- Domain d of an engine unit is on. -/
def State.unitOn (s : State) (d : Nat) : Bool := !(s.power.domainsOff.any fun x => x.val == d)

/-- The engine classes: first domain, count, first channel, index of the warm minimum. -/
def engineClasses : List (Nat × Nat × Nat × Nat) := [(14, 8, 40, 0), (22, 16, 0, 1), (38, 8, 16, 2), (46, 16, 24, 3)]

/-- The channel of an engine domain, with its class. -/
def domainClass (d : Nat) : Option (Nat × Nat × Nat × Nat) := engineClasses.find? fun c => decide (c.1 ≤ d ∧ d < c.1 + c.2.1)

/-- The known-answer test that is due at the first power-on of unit i after DORMANT; one that fails retires the unit,
which has run nothing yet (02 R36, R364). -/
def testUnit (i : Nat) (s : State) : State :=
  match look i s.health.katDue with
  | none => s
  | some fails =>
    let s := { s with health := { s.health with katDue := s.health.katDue.filter fun x => x.1 != i } }
    if fails && s.chanOk i then retireReport i 2 (retireMark i 2 (healthLog 3 i 0 s)) else s

/-- The warm minimum of channel i's class, where it has lost a powered unit: its lowest healthy gated unit is switched on
and tested, and the next where that fails (02 R31). -/
def keepWarm (n i : Nat) (s : State) : State :=
  match n, (chanDomain i).bind domainClass with
  | n + 1, some (base, count, ch, w) =>
    let healthy := (List.range count).filter fun u => s.chanOk (ch + u)
    let on := healthy.filter fun u => s.unitOn (base + u)
    if !s.awake || decide (min (s.active.warm.getD w 1) healthy.length ≤ on.length) then s
    else
      match healthy.find? fun u => !s.unitOn (base + u) with
      | some u => keepWarm n i (testUnit (ch + u) (wakeDomainN (base + u) s))
      | none => s
  | _, _ => s

/-- The test due of unit i, and the warm minimum kept where it fails. -/
def firstTest (i : Nat) (s : State) : State :=
  let t := testUnit i s
  if s.chanOk i && !t.chanOk i then keepWarm 16 i t else t

/-- The tests due of every unit whose domain is on. -/
def testPowered (s : State) : State :=
  (List.range 40).foldl (fun s i => if (chanDomain i).elim false s.unitOn then firstTest i s else s) s

end Sys2Proof.Machine
end

