-- ==== Sys2Proof/Machine/Streams.lean ====
section
/-! DEFINITION. Digest algorithms, hash-stream records and state blocks (10). -/

namespace Sys2Proof.Machine

/-- A row of R214: enable bit, block or rate, fixed output length (0 for SHAKE and KMAC), greatest message length. -/
structure DigestAlg where
  bit : Nat
  block : Nat
  out : Nat
  max : Nat

/-- The algorithms of R214; no others. -/
def digestAlg (n : Nat) : Option DigestAlg :=
  match n with
  | 0x01 => some ⟨8, 64, 28, 2 ^ 61 - 1⟩
  | 0x02 => some ⟨8, 64, 32, 2 ^ 61 - 1⟩
  | 0x03 => some ⟨9, 128, 48, 2 ^ 64 - 2⟩
  | 0x04 => some ⟨9, 128, 64, 2 ^ 64 - 2⟩
  | 0x05 => some ⟨9, 128, 32, 2 ^ 64 - 2⟩
  | 0x11 => some ⟨10, 144, 28, 2 ^ 64 - 2⟩
  | 0x12 => some ⟨10, 136, 32, 2 ^ 64 - 2⟩
  | 0x13 => some ⟨10, 104, 48, 2 ^ 64 - 2⟩
  | 0x14 => some ⟨10, 72, 64, 2 ^ 64 - 2⟩
  | 0x18 => some ⟨10, 168, 0, 2 ^ 64 - 2⟩
  | 0x19 => some ⟨10, 136, 0, 2 ^ 64 - 2⟩
  | 0x1C => some ⟨12, 168, 0, 2 ^ 64 - 2⟩
  | 0x1D => some ⟨12, 136, 0, 2 ^ 64 - 2⟩
  | _ => none

def isKmac (alg : Nat) : Bool := alg == 0x1C || alg == 0x1D
def isShake (alg : Nat) : Bool := alg == 0x18 || alg == 0x19

/-- Segments of whole blocks, at most 4,096 bytes of input each (R216). -/
def digestSegs (block n : Nat) : Nat :=
  let per := 4096 / block * block
  max 1 ((n + per - 1) / per)

/-- Keyed material follows a 2-byte length (R223). -/
def keyBytes (m : Bytes) : Bytes := sl m 2 (fld m 0 2)

/-- Output of HASH, or of a keyed digest: HMAC, or KMAC with customisation string S. -/
def digestOut (alg : Nat) (keyed : Bool) (key msg : Bytes) (len : Nat) (custom : Bytes) : Bytes :=
  fit (if alg = 0x1C then Config.kmac128 key msg (8 * len) custom
    else if alg = 0x1D then Config.kmac key msg (8 * len) custom
    else if keyed then Config.hmac alg key msg
    else Config.hash alg msg len) len

/-! ### Hash streams (R218 to R222) -/

/-- The state block of a record under its write serial (R219, R220). -/
def stateBlock (keys : Bytes × Bytes) (r : HashStream) : Bytes :=
  let ctr := be r.serial 8 ++ zeros 8
  let head := ascii "JXDS" ++ le 1 2 ++ le r.alg 1 ++ le (b2n r.keyed + 2 * b2n r.truncated + 4 * r.level) 1
    ++ le r.serial 8 ++ le r.idx 2 ++ zeros 6 ++ le r.declared 8 ++ le r.absorbed.length 8
    ++ fit (Config.aesCtr keys.1 ctr (fit (Config.hashState r.alg r.key r.absorbed) 432)) 432 ++ zeros 8
  head ++ fit (Config.kmac keys.2 head 256 (ascii "JEXVOR DIGEST STATE")) 32

/-- The record a presented block is accepted for (R221): fields correct, tag verified, open, owned by the order, and
at the expected serial. -/
def acceptBlock (s : State) (uid : Nat) (b : Bytes) : Option HashStream :=
  match s.keys.stateKeys with
  | none => none
  | some keys =>
    if sl b 0 4 == ascii "JXDS" && fld b 4 2 == 1 && zeroAt b 18 6 && zeroAt b 472 8 && fld b 7 1 / 16 == 0
        && fit (Config.kmac keys.2 (sl b 0 480) 256 (ascii "JEXVOR DIGEST STATE")) 32 == sl b 480 32 then
      s.eng.streams.find? fun r => r.idx == fld b 16 2 && r.uid == uid && r.serial == fld b 8 8
    else none

/-- The least index of a free hash-stream record. -/
def freeStream (s : State) : Option Nat := (List.range 1024).find? fun i => !(s.eng.streams.any fun r => r.idx == i)

def setStream (r : HashStream) (s : State) : State :=
  { s with eng := { s.eng with streams := r :: s.eng.streams.filter fun x => x.idx != r.idx } }

def freeStreamRec (idx : Nat) (s : State) : State :=
  { s with eng := { s.eng with streams := s.eng.streams.filter fun x => x.idx != idx } }

/-- A block written back: the record takes the next write serial, and the block of its new state goes to `dst`
(R219 to R221). Serials rise by one with every block written in a boot. -/
def writeBlock (r : HashStream) (dst : Dst) (s : State) : State :=
  match s.keys.stateKeys with
  | none => s
  | some keys =>
    let r := { r with serial := s.eng.serial + 1 }
    writeDst dst (stateBlock keys r) (setStream r { s with eng := { s.eng with serial := s.eng.serial + 1 } })

/-! ### A START, UPDATE or FINISH whose turn has come (R218, R221) -/

/-- The job refused: it has no segment, and ends with the status. -/
def Job.refused (j : Job) (st : Status) : Job :=
  { j with segs := 0, started := 0, status := st, count := 0, defer := none, outs := [] }

/-- Work keyed at levels 1 to 3 needs the DRBG (R225). -/
def HashStream.runs (r : HashStream) (s : State) : Bool := s.anyOk 16 8 && (!r.keyed || r.level == 0 || s.drbgOk)

/-- START: a free record is opened; a frame holds at most 8 (R221). -/
def beginStart (j : Job) (d : Deferred) (s : State) : Job × State :=
  if 8 ≤ (s.eng.streams.filter fun r => r.uid == d.opens.uid).length then (j.refused .operandRange, s)
  else
    match freeStream s, s.keys.stateKeys with
    | some ix, some _ =>
      let r := { d.opens with idx := ix }
      ({ j with defer := none, fin := .hashSet r, count := 512 }, setStream r s)
    | _, _ => (j.refused .noHealthyChannel, s)

/-- UPDATE: the input up to the declared length is absorbed; input beyond it is discarded with OK_TRUNCATED (R143). -/
def beginUpdate (j : Job) (d : Deferred) (s : State) : Job × State :=
  match (acceptBlock s d.opens.uid d.block).filter fun r => r.alg == d.alg with
  | none => (j.refused .tagFail, s)
  | some r =>
    if !r.runs s then (j.refused .noHealthyChannel, s)
    else
      let room := r.declared - r.absorbed.length
      let took := d.input.take room
      let spill := decide (room < d.input.length)
      ({ j with defer := none, segs := digestSegs (((digestAlg d.alg).map (·.block)).getD 64) took.length
                status := if spill then .okTruncated else .ok, count := took.length
                level := if r.keyed then r.level else 0
                fin := .hashSet { r with absorbed := r.absorbed ++ took, truncated := r.truncated || spill } }, s)

/-- FINISH: digest or tag over exactly the declared bytes; SHORT_INPUT before they are all absorbed. The hash stream
ends whatever the outcome (R218). -/
def beginFinish (j : Job) (d : Deferred) (s : State) : Job × State :=
  match (acceptBlock s d.opens.uid d.block).filter fun r => r.alg == d.alg with
  | none => (j.refused .tagFail, s)
  | some r =>
    if !r.runs s then (j.refused .noHealthyChannel, freeStreamRec r.idx s)
    else
      let whole := decide (r.absorbed.length = r.declared)
      let out := digestOut d.alg r.keyed r.key r.absorbed d.len []
      ({ j with defer := none, outs := j.outs.map fun o => (o.1, out), status := if whole then .ok else .shortInput
                count := if whole then d.len else 0, level := if r.keyed then r.level else 0, fin := .hashFree r.idx }, s)

def beginJob (j : Job) (d : Deferred) (s : State) : Job × State :=
  if d.op = 1 then beginStart j d s else if d.op = 2 then beginUpdate j d s else beginFinish j d s

end Sys2Proof.Machine
end

