-- ==== Sys2Proof/Machine/Sched.lean ====
section
/-! DEFINITION. Admission to the Vat, the digest dispatch, the compare units and the lane dispatch, their choice of
work, and the end of a job (09, 10, 11). -/

namespace Sys2Proof.Machine

/-! ### Choice of work -/

def Wrr.get (w : Wrr) (c : BitVec 2) : Nat :=
  match c.toNat with
  | 0 => w.c0
  | 1 => w.c1
  | 2 => w.c2
  | _ => w.c3

def Wrr.spend (w : Wrr) (c : BitVec 2) : Wrr :=
  match c.toNat with
  | 0 => { w with c0 := w.c0 - 1 }
  | 1 => { w with c1 := w.c1 - 1 }
  | 2 => { w with c2 := w.c2 - 1 }
  | _ => { w with c3 := w.c3 - 1 }

/-- The lowest-numbered of the ready classes that has share left in the round; a round that gives none of them a share
has ended (R99, R189). -/
def Wrr.pick (w : Wrr) (ready : BitVec 2 → Bool) : Option (BitVec 2 × Wrr) :=
  let next (w : Wrr) := [(0 : BitVec 2), 1, 2, 3].find? fun c => ready c && decide (0 < w.get c)
  match next w with
  | some c => some (c, w.spend c)
  | none => (next Wrr.full).map fun c => (c, Wrr.full.spend c)

/-- Among ready jobs in turn order, the next of the class whose share it is (R99, R189). -/
def wrrPick (w : Wrr) (ready : List Job) : Option (Job × Wrr) :=
  (w.pick fun c => ready.any fun j => j.cls == c).bind fun x =>
    (ready.find? fun j => j.cls == x.1).map fun j => (j, x.2)

/-- The BRINE frame of the job's draw has been acknowledged, or the pairing has left SYNC (R196). -/
def State.mirrored (s : State) (j : Job) : Bool :=
  match j.mirror with
  | some q => s.welt.mode != .sync || !((s.welt.unacked ++ s.welt.unsent).any fun u => u.1 == q)
  | none => true

/-- No earlier job of the same stream is left among the jobs given: one at a time, in admission order (R187, R216). -/
def Job.firstOf (js : List Job) (j : Job) : Bool := !(js.any fun x => x.stream == j.stream && decide (x.id < j.id))

/-- The job is among the first `cap` admitted: those behind wait for room (R100). -/
def Job.within (cap : Nat) (js : List Job) (j : Job) : Bool :=
  decide ((js.filter fun x => decide (x.id < j.id)).length < cap)

/-- The jobs of a stream go behind the others: streams take turns. -/
def rotate (j : Job) (js : List Job) : List Job :=
  js.filter (fun x => x.stream != j.stream) ++ js.filter (fun x => x.stream == j.stream)

def Sched.setJob (q : Sched) (j : Job) : Sched := { q with jobs := updFirst (fun x => x.id == j.id) (fun _ => j) q.jobs }

def Sched.job (q : Sched) (id : Nat) : Option Job := q.jobs.find? fun j => j.id == id

/-- What unit u runs. -/
def Sched.runOf (q : Sched) (u : Nat) : Option Run := q.runs.find? fun r => r.unit == u

def Sched.busy (q : Sched) (u : Nat) : Bool := (q.runOf u).isSome

/-- The job unit u runs, and the number of its segment. -/
def Sched.unitJob (q : Sched) (u : Nat) : Option (Job × Nat) :=
  (q.runOf u).bind fun r => (q.job r.job).map fun j => (j, r.seg)

/-- Unit u no longer runs anything. -/
def Sched.free (q : Sched) (u : Nat) : Sched := { q with runs := q.runs.filter fun x => x.unit != u }

/-- Segments of the job that run now. -/
def Sched.running (q : Sched) (j : Job) : Nat := (q.runs.filter fun r => r.job == j.id).length

def Sched.suspended (q : Sched) (j : Job) : Bool := q.susp.any fun x => x.2 == j.id

/-- Unit u takes segment i of job j. -/
def Sched.start (q : Sched) (u i : Nat) (j : Job) (w : Wrr) : Sched :=
  let q := q.setJob j
  { q with wrr := w, runs := ⟨u, j.id, i⟩ :: q.runs, jobs := rotate j q.jobs }

/-! ### Segments of the Vat and the digest dispatch -/

/-- The segment the job hands out next: one that has to run again first, then the others in order, those of the
payload after every one of the additional data. A stopped job hands out nothing but what has to run again (R101,
R210; log 161). -/
def Job.nextSeg (j : Job) : Option Nat :=
  match j.redo with
  | i :: _ => some i
  | [] =>
    if j.stop || decide (j.segs ≤ j.started) || (decide (j.aad ≤ j.started) && decide (j.ended < j.aad)) then none
    else some j.started

/-- The job with that segment handed out. -/
def Job.handOut (j : Job) : Job :=
  match j.redo with
  | _ :: r => { j with redo := r }
  | [] => { j with started := j.started + 1 }

/-- A segment of the job can start: first segments before further concurrent ones (R190). -/
def Sched.canStart (q : Sched) (concurrent : Bool) (j : Job) : Bool :=
  j.defer.isNone && j.nextSeg.isSome &&
    (if concurrent then decide (q.running j < j.width) else q.running j == 0)

/-- Bytes of the staging pool. -/
def stagingPool : Nat := 8388608

/-- The job holds the room in the staging pool it needs (R202). -/
def Job.roomed (j : Job) : Bool := j.reserved || j.stagedBytes == 0

/-- The jobs a segment scheduler may start: first of their streams, mirrored, with staging room, and with a DRBG where
their level draws from it (R187, R196, R202, R208, R225). -/
def segReady (s : State) (q : Sched) (others : List Job) (cap : Nat) (concurrent : Bool) : List Job :=
  q.jobs.filter fun j => q.canStart concurrent j && j.firstOf (q.jobs ++ others) && s.mirrored j && j.roomed
    && (j.level == 0 || s.drbgOk) && j.within cap q.jobs

/-- The job whose segment a segment scheduler starts next, with the credits left (R189, R190, R216). -/
def segPick (s : State) (q : Sched) (others : List Job) (cap : Nat) : Option (Job × Wrr) :=
  let ready := segReady s q others cap false
  wrrPick q.wrr (if ready.isEmpty then segReady s q others cap true else ready)

/-- The unit a segment goes to among the free ones: one that suits it, else a powered one, else the lowest gated one,
which is woken (R31, R193). -/
def pickUnit (free : List Nat) (suits on : Nat → Bool) : Option Nat :=
  (free.find? suits).orElse fun _ => (free.find? on).orElse fun _ => free.head?

/-- Work routed to unit i switches its domain d on, and the schedulers' domain with it (R30); its known-answer test runs
first where it is due (R36). -/
def wakeEngine (i d : Nat) (s : State) : State := firstTest i (wakeDomainN 63 (wakeDomainN d s))

/-- The 256-bit DRBG value a segment at levels 1 to 3 takes (R208, R225). -/
def segDraw (j : Job) (s : State) : State := if j.level = 0 then s else (s.drbgBytes 32).2

/-- The schedules of the cores once core u holds the one tagged k: at most eight per core (09, Key schedules). -/
def loadSchedule (u : Nat) (k : KeyTag) (l : List (Nat × KeyTag)) : List (Nat × KeyTag) :=
  if l.contains (u, k) then l
  else (u, k) :: (l.filter fun x => x.1 == u).take 7 ++ l.filter fun x => x.1 != u

/-- Healthy units of a dispatch, from channel `base` on, that run nothing. -/
def State.freeUnits (s : State) (base n : Nat) (q : Sched) : List Nat :=
  (List.range n).filter fun u => s.chanOk (base + u) && !q.busy u

/-- One segment started on a cipher core, where one is ready and a core is free. -/
def vatStart (s : State) : State :=
  match segPick s s.eng.vat [] 8192 with
  | none => s
  | some (j, w) =>
    let holds (u : Nat) : Bool := j.key.elim false fun k => s.eng.schedules.contains (u, k)
    match pickUnit (s.freeUnits 0 16 s.eng.vat) holds (fun u => s.unitOn (22 + u)), j.nextSeg with
    | some u, some i =>
      let s := wakeEngine u (22 + u) s
      if !s.chanOk u then s
      else
        let s := segDraw j s
        { s with eng := { s.eng with
          vat := s.eng.vat.start u i j.handOut w
          schedules := j.key.elim s.eng.schedules fun k => loadSchedule u k s.eng.schedules } }
    | _, _ => s

/-- One segment started on a hash core. -/
def digestStart (s : State) : State :=
  match segPick s s.eng.digest s.eng.compares 2048 with
  | none => s
  | some (j, w) =>
    match pickUnit (s.freeUnits 16 8 s.eng.digest) (fun _ => false) (fun u => s.unitOn (38 + u)), j.nextSeg with
    | some u, some i =>
      let s := wakeEngine (16 + u) (38 + u) s
      if !s.chanOk (16 + u) then s
      else
        let s := segDraw j s
        { s with eng := { s.eng with digest := s.eng.digest.start u i j.handOut w } }
    | _, _ => s

/-- Compare units take compares whose stream has nothing earlier (R227). The unit's number is kept in `lane`. -/
def compareFill (s : State) : State :=
  (List.range 2).foldl (fun s u =>
    if s.eng.compares.any (fun j => j.lane == some u) then s
    else
      match s.eng.compares.find? fun j => j.lane.isNone && !j.stop && j.firstOf (s.eng.digest.jobs ++ s.eng.compares) with
      | none => s
      | some j => wakeDomainN 63 { s with eng := { s.eng with
          compares := updFirst (fun x => x.id == j.id) (fun x => { x with lane := some u, started := 1 })
            s.eng.compares } }) s

/-! ### Lanes -/

/-- Lines of lane l in use: its running and suspended jobs, and 64 lines per retained slot (R231, R233). -/
def State.laneUsed (s : State) (l : Nat) : Nat :=
  let foot (id : Nat) := ((s.eng.lanes.job id).map (·.foot)).getD 0
  ((s.eng.lanes.runs.filter fun u => u.unit == l).map fun u => foot u.job).sum
    + ((s.eng.lanes.susp.filter fun u => u.1 == l).map fun u => foot u.2).sum
    + 64 * (s.eng.retained.filter fun r => r.lane == l).length

def State.laneRoom (s : State) (l : Nat) (j : Job) : Bool := decide (s.laneUsed l + j.foot ≤ 2048)

/-- The job's run needs a value of the DRBG. -/
def Job.random (j : Job) : Bool := j.work.elim false (·.random)

/-- A waiting job that lane l may take (R244). -/
def State.laneEligible (s : State) (l : Nat) (j : Job) : Bool :=
  j.started == 0 && !j.stop && (j.lane.isNone || j.lane == some l) && s.laneRoom l j && s.mirrored j
    && (!j.random || s.drbgOk) && j.within 1024 s.eng.lanes.jobs

/-- The random value a run takes at its start (11, Blinding): public work goes on without one (R242). -/
def runDraw (s : State) : Bytes × State := if s.drbgOk then s.drbgBytes 32 else ([], s)

def laneStart (l : Nat) (j : Job) (w : Wrr) (s : State) : State :=
  let s := wakeEngine (24 + l) (46 + l) s
  if !s.chanOk (24 + l) then s else
  let (rnd, s) := runDraw s
  { s with eng := { s.eng with lanes := s.eng.lanes.start l 0 { j with started := 1, rnd := rnd } w } }

def putLane (j : Job) (s : State) : State := { s with eng := { s.eng with lanes := s.eng.lanes.setJob j } }

def Job.short (j : Job) : Bool := decide (j.estT < 2000000)

/-- A waiting short job that lane l may run beside its suspended or to-be-suspended job `long` (R245). -/
def State.shortFor (s : State) (l : Nat) (long : Job) : List Job :=
  s.eng.lanes.jobs.filter fun j => s.laneEligible l j && j.short && decide (long.suspT + j.worstT ≤ 20000000)

/-- A lane with a suspended job and no running one takes a further short job, or resumes (R245). -/
def laneNext (l : Nat) (s : State) : State :=
  match s.eng.lanes.busy l, (look l s.eng.lanes.susp).bind s.eng.lanes.job with
  | false, some long =>
    match wrrPick s.eng.lanes.wrr (s.shortFor l long) with
    | some (j, w) => laneStart l j w s
    | none => { s with eng := { s.eng with lanes := { s.eng.lanes with
        runs := ⟨l, long.id, 0⟩ :: s.eng.lanes.runs, susp := s.eng.lanes.susp.filter fun x => x.1 != l } } }
  | _, _ => s

/-- Free healthy lanes take jobs, powered ones first (R31, R244). -/
def lanesTake (s : State) : State :=
  let on (l : Nat) := s.unitOn (46 + l)
  ((List.range 16).filter on ++ (List.range 16).filter fun l => !on l).foldl (fun s l =>
    if !s.chanOk (24 + l) || s.eng.lanes.busy l || (look l s.eng.lanes.susp).isSome then s
    else
      match wrrPick s.eng.lanes.wrr (s.eng.lanes.jobs.filter (s.laneEligible l)) with
      | none => s
      | some (j, w) => laneStart l j w s) s

/-! ### Jobs and their admission to the lanes -/

/-- A job with nothing special about it. -/
def Job.base (ref : Ref) (cls : BitVec 2) (st : Stream) (fn : Nat) : Job where
  id := 0
  fn := fn
  ref := ref
  cls := cls
  stream := st
  segs := 1
  started := 0
  ended := 0
  aad := 0
  redo := []
  width := 1
  outs := []
  streamed := false
  status := .ok
  count := 0
  value := 0
  written := 0
  scrub := 0
  scrubFail := none
  reserved := false
  key := none
  level := 0
  stop := false
  retried := false
  faults := 0
  ranges := []
  fin := .plain
  defer := none
  work := none
  rnd := []
  foot := 0
  lane := none
  estT := 0
  worstT := 0
  suspT := 0
  mirror := none

/-- Segments of a payload of n bytes (09, Segments and scheduling). -/
def segsOf (n : Nat) : Nat := max 1 ((n + 4095) / 4096)

def Job.numbered (j : Job) (s : State) : Job := { j with id := s.eng.nextJob }

def bumpJob (s : State) : State := { s with eng := { s.eng with nextJob := s.eng.nextJob + 1 } }

/-- Lanes can run at all: a healthy lane and checked microcode (R237, R248). -/
def State.lanesOk (s : State) : Bool := s.eng.microcodeOk && s.anyOk 24 16

/-- The time multiplier of a countermeasure level (R243). -/
def levelTime (level t : Nat) : Nat := if level = 2 then t * 118 / 100 else if level = 3 then t * 22 / 10 else t

/-- Lanes take jobs; one bound to a retained slot of a lane that has retired completes with FAULT_PERMANENT (R248). -/
def laneFill (s : State) : State :=
  let s := lanesTake s
  let dead := s.eng.lanes.jobs.filter fun j => j.lane.any (fun l => !s.chanOk (24 + l)) && s.eng.lanes.running j == 0
  dead.foldl (fun s j => finish j.ref .faultPermanent 0 j.value { s with eng := { s.eng with
    lanes := s.eng.lanes.drop fun x => x.id == j.id } }) s

/-- Admission to the lane dispatch (R242, R248). -/
def laneAdmit (j : Job) (s : State) : State :=
  if !s.lanesOk || (j.random && !s.drbgOk) then finish j.ref .noHealthyChannel 0 0 s
  else laneFill (bumpJob { s with eng := { s.eng with
    lanes := { s.eng.lanes with jobs := s.eng.lanes.jobs ++ [j.numbered s] } } })

/-- The work of a signature with a stored key. -/
def signWork (key : Bytes) (par : Nat) (inputs : List Bytes) (out : Nat) (seeded : Bool) : LaneWork where
  verify := false
  decodes := false
  random := true
  seeded := seeded
  pair := none
  key := key
  par := par
  inputs := inputs
  out := out
  invalid := none
  pre := []

/-- A device-internal HYBRID_SIGN at level 2 of a 64-byte message, behind the bytes `pre` (11 R239, R249). -/
def hybridJob (ref : Ref) (cls : BitVec 2) (dev : Nat) (slot : Slot) (msg pre : Bytes) (dst : Dst) (fin : JobEnd)
    (v : Nat) : Job :=
  { Job.base ref cls (.device dev) 0x0500 with
    outs := [(dst, [])], fin := fin, value := v, foot := 704
    estT := 5080000 + (msg.length - 64) * 25, worstT := 8760000 + (msg.length - 64) * 43
    work := some { signWork slot.material 0 [msg] 4723 true with pre := pre }, key := some ⟨0, slot.n, true, slot.gen⟩ }

/-! ### Wheels on their way (13 R297, R301) -/

/-- A signed wheel at the head of its book's queue goes to the Press, or to its archive channel first (R297, R301). -/
def wheelNext (b : Nat) (s : State) : State :=
  let k := s.book b
  match k.wheels with
  | w :: ws =>
    match w.signed with
    | none => s
    | some sig =>
      if w.pressing then s
      else if w.arch = 255 then
        enqueue (Press.of [.wheel b w.msg sig w.no w.lastCtr] (.wheel b))
          (setBook b { k with wheels := { w with pressing := true } :: ws } s)
      else
        let ch := vget s.cards.ch w.arch CardCh.absent
        if ch.queue.any (fun r => r.kind == .append b) || w.arch ≥ 3 then s
        else
          let r : CardReq := ⟨.append b, .wheel b, 0, 0, [], .none, .queued, 0, 0, false, false, false, [], 0⟩
          { s with cards := { s.cards with ch := vset s.cards.ch w.arch { ch with queue := ch.queue ++ [r] } } }
  | [] => s

/-! ### The end of a job -/

/-- Removal of one job; the staging reservation it holds is released. -/
def removeJob (j : Job) (s : State) : State :=
  let p := fun (x : Job) => x.id == j.id
  { s with eng := { s.eng with
      vat := s.eng.vat.drop p, digest := s.eng.digest.drop p, lanes := s.eng.lanes.drop p
      compares := s.eng.compares.filter fun x => x.id != j.id
      staged := if j.reserved then s.eng.staged - j.stagedBytes else s.eng.staged } }

/-- A job's own outcome takes effect: hash-stream record and block, retained slot, wheel signature. -/
def jobEnd (j : Job) (s : State) : State :=
  match j.fin with
  | .plain | .staged _ | .rsa _ _ _ _ _ => s
  | .retain uid obj kind pair =>
    { s with eng := { s.eng with retained := s.eng.retained.map fun r =>
        if r.uid == uid && r.obj == obj then { r with kind := kind, pair := pair } else r } }
  | .hashSet r => writeBlock r ((j.outs.head?.map Prod.fst).getD .none) s
  | .hashFree ix => freeStreamRec ix s
  | .wheelSig b msg =>
    let k := s.book b
    let sig := (j.outs.head?.map Prod.snd).getD []
    let ws := updFirst (fun w => w.msg == msg) (fun w => { w with signed := some sig }) k.wheels
    wheelNext b (setBook b { k with wheels := ws } s)
  | .token e => { s with time := { s.time with tokens := (e :: s.time.tokens).take 64 } }

/-- What an end without OK does to the hash stream of the job: a FINISH ends it whatever its outcome, and a START
leaves none (R218). -/
def jobFailed (j : Job) (s : State) : State :=
  match j.fin, j.defer with
  | .hashFree ix, _ => freeStreamRec ix s
  | .hashSet r, _ => if j.fn / 256 = 1 then freeStreamRec r.idx s else s
  | _, some d =>
    if d.op = 3 then (acceptBlock s d.opens.uid d.block).elim s fun r => freeStreamRec r.idx s else s
  | _, none => s

/-- End of a job: the outputs of a success and its effects, the scrub of a failed decryption (R204, R205), then the
outcome. A retried success is OK_RETRIED (R28); a mailbox RSA command goes on to the lanes. -/
def endJob (j : Job) (st : Status) (s : State) : State :=
  let st' := if st == .ok && j.retried then .okRetried else st
  let s := removeJob j s
  if st.isOk then
    let s := jobEnd j (writeOuts j.ref (if j.streamed then j.outs.drop 1 else j.outs) s)
    match j.fin with
    | .rsa fn w foot est worst =>
      laneAdmit { Job.base j.ref j.cls j.stream fn with
        outs := [(.response, [])], work := some w, retried := j.retried, foot := foot, estT := est, worstT := worst } s
    | _ => finish j.ref st' j.count j.value s
  else
    let s := jobFailed j s
    if j.scrub = 0 then finish j.ref st (if st == .aborted then j.written else 0) j.value s
    else finish j.ref (if j.scrubFail.isSome then .aborted else st) j.scrubbed j.value (scrubJob j s)

/-! ### Ends that wait for their turn -/

/-- The status with which a job of a segment dispatch ends now, where it does: refused at admission, stopped, with no
healthy unit left, or short of the random value its level needs (R16, R101, R137, R211, R230). It ends in its turn, so
requests of a stream become done in admission order (R138). -/
def Sched.endsNow (q : Sched) (s : State) (healthy : Bool) (j : Job) : Option Status :=
  if q.running j != 0 then none
  else if j.stop && j.redo.isEmpty then some .aborted
  else if j.segs = 0 then some j.status
  else if j.defer.isSome then none
  else if !healthy || (j.level != 0 && !s.drbgOk) then some .noHealthyChannel
  else none

/-- Vat requests whose turn to end has come. -/
def vatEnds (n : Nat) (s : State) : State :=
  match n with
  | 0 => s
  | n + 1 =>
    match s.eng.vat.jobs.findSome? fun j =>
        if j.firstOf s.eng.vat.jobs then (s.eng.vat.endsNow s (s.anyOk 0 16) j).map fun st => (j, st) else none with
    | some (j, st) => vatEnds n (endJob j st s)
    | none => s

/-- Room in the staging pool, granted in admission order (R202). -/
def stageJobs (n : Nat) (s : State) : State :=
  match n with
  | 0 => s
  | n + 1 =>
    let wait := s.eng.vat.jobs.filter fun j => !j.roomed
    match wait.find? fun j => !(wait.any fun x => decide (x.id < j.id)) with
    | some j =>
      if s.eng.staged + j.stagedBytes ≤ stagingPool then
        stageJobs n { s with eng := { s.eng with
          vat := s.eng.vat.setJob { j with reserved := true }, staged := s.eng.staged + j.stagedBytes } }
      else s
    | none => s

/-- The Vat after an event: ends whose turn has come, staging, then segments to the free cores (R189). -/
def vatFill (s : State) : State :=
  let s := vatEnds s.eng.vat.jobs.length s
  let t := (List.range 32).foldl (fun s _ => vatStart s) (stageJobs s.eng.vat.jobs.length s)
  if t.health.katDue.length < s.health.katDue.length then vatEnds t.eng.vat.jobs.length t else t

/-- Digest requests whose turn has come: ends, and hash-stream work looked up (R216, R221). -/
def digestTurns (n : Nat) (s : State) : State :=
  match n with
  | 0 => s
  | n + 1 =>
    let first (j : Job) := j.firstOf (s.eng.digest.jobs ++ s.eng.compares)
    match s.eng.digest.jobs.findSome? fun j =>
        if first j then (s.eng.digest.endsNow s (s.anyOk 16 8) j).map fun st => (j, st) else none with
    | some (j, st) => digestTurns n (endJob j st s)
    | none =>
      match s.eng.digest.jobs.findSome? fun j => if first j then j.defer.map fun d => (j, d) else none with
      | some (j, d) =>
        let (j, s) := beginJob j d s
        digestTurns n { s with eng := { s.eng with digest := s.eng.digest.setJob j } }
      | none =>
        match s.eng.compares.find? fun j => j.stop && j.lane.isNone && first j with
        | some j => digestTurns n (endJob j .aborted s)
        | none => s

/-- The digest dispatch after an event. -/
def digestFill (s : State) : State :=
  let s := digestTurns (2 * (s.eng.digest.jobs.length + s.eng.compares.length)) s
  let t := (List.range 16).foldl (fun s _ => digestStart s) s
  if t.health.katDue.length < s.health.katDue.length then
    digestTurns (2 * (t.eng.digest.jobs.length + t.eng.compares.length)) t
  else t

/-- Lane jobs that end without a run: stopped while they wait, or with nothing left to run them on (R16, R242, R247,
R248). -/
def laneEnds (n : Nat) (s : State) : State :=
  match n with
  | 0 => s
  | n + 1 =>
    match s.eng.lanes.jobs.findSome? fun j =>
        if s.eng.lanes.running j != 0 || s.eng.lanes.suspended j then none
        else if j.stop then some (j, .aborted)
        else if !s.lanesOk || (j.random && !s.drbgOk) then some (j, Status.noHealthyChannel)
        else none with
    | some (j, st) => laneEnds n (endJob j st s)
    | none => s

/-- Every engine after an event: what can end ends, what can start starts. -/
def engFill (s : State) : State :=
  let s := compareFill (digestFill (vatFill s))
  let s := laneEnds s.eng.lanes.jobs.length s
  let t := laneFill ((List.range 16).foldl (fun s l => laneNext l s) s)
  if t.health.katDue.length < s.health.katDue.length then laneEnds t.eng.lanes.jobs.length t else t

/-! ### Admission to the segment dispatches -/

/-- Admission to the Vat (R188, R211). -/
def vatAdmit (j : Job) (s : State) : State :=
  vatFill (bumpJob { s with eng := { s.eng with vat := { s.eng.vat with jobs := s.eng.vat.jobs ++ [j.numbered s] } } })

/-- Admission to the digest dispatch (R216, R230). -/
def digestAdmit (j : Job) (s : State) : State :=
  digestFill (bumpJob { s with eng := { s.eng with
    digest := { s.eng.digest with jobs := s.eng.digest.jobs ++ [j.numbered s] } } })

/-- Admission to the compare units. -/
def compareAdmit (j : Job) (s : State) : State :=
  compareFill (bumpJob { s with eng := { s.eng with compares := s.eng.compares ++ [j.numbered s] } })

/-- The jobs that satisfy p are asked to stop at their next boundary (R101, R137). -/
def stopJobs (p : Job → Bool) (s : State) : State :=
  let mark (q : Sched) : Sched := { q with jobs := q.jobs.map fun j => if p j then { j with stop := true } else j }
  engFill { s with eng := { s.eng with
    vat := mark s.eng.vat, digest := mark s.eng.digest, lanes := mark s.eng.lanes
    compares := s.eng.compares.map fun j => if p j then { j with stop := true } else j } }

end Sys2Proof.Machine
end

