-- ==== Sys2Proof/Machine/Ends.lean ====
section
/-! DEFINITION. The end of an order by an error status, and traps (06). -/

namespace Sys2Proof.Machine

/-- The suspended job of lane l has waited for the job that leaves it (11 R245). -/
def addSuspension (l us : Nat) (s : State) : State :=
  match (look l s.eng.lanes.susp).bind s.eng.lanes.job with
  | some long => putLane { long with suspT := long.suspT + us } s
  | none => s

/-- A run of lane l has ended without a fault: one operation of its channel (16 R363). -/
def countRun (l : Nat) (s : State) : State := setChan (24 + l) { s.chan (24 + l) with ops := (s.chan (24 + l)).ops + 1 } s

/-- Jobs that satisfy p leave the engines; decryptions among them have their destinations scrubbed, and the units they
held go on with other work (R125, R204, R244, R245). -/
def dropJobs (p : Job → Bool) (s : State) : State :=
  let gone := s.eng.vat.jobs.filter p
  let s := gone.foldl (fun s j => scrubJob j s) s
  let s := (s.eng.lanes.runs).foldl (fun s r =>
    ((s.eng.lanes.job r.job).filter p).elim s fun j => countRun r.unit (addSuspension r.unit j.estT s)) s
  engFill { s with eng := { s.eng with
    vat := s.eng.vat.drop p, digest := s.eng.digest.drop p, lanes := s.eng.lanes.drop p
    compares := s.eng.compares.filter fun j => !p j
    staged := s.eng.staged - ((gone.filter (·.reserved)).map Job.stagedBytes).sum } }

/-- Card requests of a frame's order are asked to stop at their next boundary (R101, R125). -/
def markFrameCards (uid : Nat) (s : State) : State :=
  { s with cards := { s.cards with ch := s.cards.ch.map fun k => { k with
      queue := k.queue.map fun q => match q.ref with
        | .token _ _ u _ => if u == uid then { q with stop := true } else q
        | _ => q } } }

/-- The order of a frame ends at once with an error status, and its work with it: a failure of host-memory access, a
host-link reset and GUARD wait for no boundary (R75, R77; 09 R206). -/
def cutFrame (c f : Nat) (st : Status) (bytes : Nat) (s : State) : State :=
  match s.frame c f with
  | none => s
  | some fr =>
    let s := freeFrame c f fr.uid (dropJobs (Job.ofFrame fr.uid) (markFrameCards fr.uid s))
    complete fr.uid st fr.lastEpoch 0 bytes s

/-- The order of a frame ends with an error status: the frame runs no further, its open presses are abandoned, its
committed presses stand, its busy work stops at its next boundary, and the completion follows (R101, R125). -/
def endFrame (c f : Nat) (st : Status) (s : State) : State :=
  match s.frame c f with
  | none => s
  | some fr =>
    if fr.ending.isSome then s
    else
      let s := setFrame c f (some { fr with
        ending := some st, exiting := none, wait := none, pressing := false, presses := Vector.replicate 4 none })
        { s with press := { s.press with bufUsed := s.press.bufUsed - fr.openReserve } }
      let s := if (s.core c).running.map (·.val) = some f then yieldCore c s else s
      tryEnd c f (stopJobs (Job.ofFrame fr.uid) (markFrameCards fr.uid s))

/-- A trap (R125). In A or J mode it ends the order; in S mode it abandons the open presses (R151), writes the trap
record and enters the handler, whose address the spec does not give (a free value, log 4). -/
def trap (c f : Nat) (cause : Cause) (addr : Nat) (s : State) : State :=
  match s.frame c f with
  | none => s
  | some fr =>
    let rec0 := (f * 16 + c) * 2 ^ 32 + cause.status.code * 2 ^ 16 + fr.mode.code * 2 ^ 8 + cause.code
    let s := { s with tp := ⟨BitVec.ofNat 64 rec0, fr.pc.zeroExtend 64, BitVec.ofNat 64 addr⟩ }
    if fr.mode == .s then
      let (h, s) := s.freeNat
      setFrame c f (some { fr with pc := BitVec.ofNat 32 (4 * h), presses := Vector.replicate 4 none, h := Vector.replicate 16 .empty })
        { s with press := { s.press with bufUsed := s.press.bufUsed - fr.openReserve } }
    else endFrame c f cause.status s

end Sys2Proof.Machine
end

