-- ==== Sys2Proof/Machine/Retire.lean ====
section
/-! DEFINITION. Channels: operations, faults and retirement (16). -/

namespace Sys2Proof.Machine

/-- Every frame of a core ends as a trap would, with FAULT_PERMANENT; its applets are no longer resident (R366). -/
def retireCore (c : Nat) (s : State) : State :=
  let s := (List.range 4).foldl (fun s f => endFrame c f .faultPermanent s) s
  setCore c { s.core c with resident := [] } s

/-- Retirement of channel i (R365): its work as its owner says, its domain, the capability fields, the health log, the
press. -/
def retire (i cause : Nat) (s : State) : State :=
  if (s.chan i).retired then s
  else
    let s := retireMark i cause s
    let s := if 40 ≤ i ∧ i < 48 then retireCore (i - 40) s else s
    let s := if i = 52 ∨ i = 53 then
        { s with welt := { s.welt with lanes := s.welt.lanes.filter fun l => l.val + 52 != i } } else s
    let s := if i = 54 ∨ i = 55 then
        { s with link := { s.link with retrains := s.link.retrains + 1 }, tx := s.tx ++ [.retrain] } else s
    keepWarm 16 i (retireReport i cause s)

/-- A fault in operation o is permanent when two earlier faults lie at or above o − 999 (R364). -/
def Chan.permanent (c : Chan) (o : Nat) : Bool :=
  match c.f1, c.f2 with
  | some a, some b => decide (a + 999 ≥ o ∧ b + 999 ≥ o)
  | _, _ => false

/-- One operation of channel i; on a fault its record, and its retirement where the fault is permanent. -/
def chanOp (i : Nat) (fault : Bool) (s : State) : State :=
  let c := s.chan i
  let o := c.ops + 1
  if !fault then setChan i { c with ops := o } s
  else
    let s1 := setChan i { c with ops := o, faults := c.faults + 1, latest := o, f1 := c.f2, f2 := some o } s
    if c.permanent o then retire i 1 (healthLog 1 i 0 s1) else s1

/-- A fault of channel i in an operation already counted, number o (16 R363). -/
def chanFault (i o : Nat) (s : State) : State :=
  let c := s.chan i
  let s1 := setChan i { c with faults := c.faults + 1, latest := o, f1 := c.f2, f2 := some o } s
  if c.permanent o then retire i 1 (healthLog 1 i 0 s1) else s1

/-! ### Work of the device's own on the engine units (09 R187, R209, R210; 10 R216, R225, R230; log 159) -/

/-- The first channel and the first domain of the hash cores, or of the cipher cores. -/
def ownBase (hash : Bool) : Nat := if hash then 16 else 0
def ownDomain (hash : Bool) : Nat := if hash then 38 else 22

/-- The core that a segment of the device's own goes to: a powered healthy one that is free, else a gated one, else the
lowest healthy one (02 R31). -/
def State.ownUnit (s : State) (hash : Bool) : Option Nat :=
  (pickUnit (if hash then s.freeUnits 16 8 s.eng.digest else s.freeUnits 0 16 s.eng.vat) (fun _ => false)
      fun u => s.unitOn (ownDomain hash + u)).orElse fun _ =>
    (List.range (if hash then 8 else 16)).find? fun i => s.chanOk (ownBase hash + i)

/-- That core is switched on, and its known-answer test has run where it was due (02 R30, R36); cores whose test fails are
passed over. -/
def wakeOwn (hash : Bool) (n : Nat) (s : State) : State :=
  match n, s.ownUnit hash with
  | n + 1, some i =>
    let s := wakeEngine (ownBase hash + i) (ownDomain hash + i) s
    if s.chanOk (ownBase hash + i) then s else wakeOwn hash n s
  | _, _ => s

/-- The 256-bit values that n runs of keyed segments take (09 R208; 10 R225). -/
def ownDraws (n : Nat) (s : State) : State :=
  if s.drbgOk then (List.range n).foldl (fun s _ => (s.drbgBytes 32).2) s else s

/-- n segments that end well, `keyed` of them at level 2: operations of the core they go to (16 R363). -/
def ownSegs (hash : Bool) (keyed n : Nat) (s : State) : State :=
  let s := wakeOwn hash 16 s
  match s.ownUnit hash with
  | none => s
  | some i =>
    let k := s.chan (ownBase hash + i)
    ownDraws keyed (setChan (ownBase hash + i) { k with ops := k.ops + n } s)

/-- The sealing or opening of a context, a record or a card sector: one segment of each kind of core, at level 2. -/
def ownSealing (s : State) : State := ownSegs true 1 1 (ownSegs false 1 1 s)

/-- The i-th of several lane jobs of the device's own, one to a lane, the powered lanes first: an operation of its lane,
and source 276 + lane at its end (11 R231). -/
def ownLane (i : Nat) (s : State) : State :=
  let ok := (List.range 16).filter fun l => s.chanOk (24 + l)
  let lanes := (ok.filter fun l => s.unitOn (46 + l)) ++ ok.filter fun l => !s.unitOn (46 + l)
  match lanes[i % lanes.length]? with
  | none => s
  | some l =>
    let s := wakeEngine (24 + l) (46 + l) s
    if s.chanOk (24 + l) then raise (276 + l) (chanOp (24 + l) false s) else s

end Sys2Proof.Machine
end

