-- ==== Sys2Proof/Machine/Rows.lean ====
section
/-! DEFINITION. The Cellar: its map, the records of the Press log that await application, rows and banks that fail,
uncorrectable groups (12, 16 R363), and the use of a slot whose record is refused (08 R162). -/

namespace Sys2Proof.Machine

/-! ### The Cellar map (R250) -/

def bankSize : Nat := 0x1000000

/-- Base of user partition p. -/
def partBase (p : Nat) : Nat := 0x0800000 + bankSize * (p / 2) + 0x400000 * (p % 2)

def slotAddr (n : Nat) : Nat := 0x1000000 + 256 * n
def counterAddr (n : Nat) : Nat := 0x0218000 + 32 * n
def useCountAddr (n : Nat) : Nat := 0x0220000 + 32 * n
def entryAddr (i : Nat) : Nat := 0x02A0000 + 64 * i
def headAddr (b : Nat) : Nat := 0x0320000 + 512 * b
def lastAddr (n : Nat) : Nat := 0x0210000 + 4096 * n
def wheelAddr (b : Nat) : Nat := 0x0330000 + 12288 * b

/-- A wheel place of a book: 6 KiB each of its 12 KiB (13 R297; log 166). -/
def placeAddr (b place : Nat) : Nat := wheelAddr b + 6144 * place

/-- Firmware and microcode, copy 0 and copy 1. -/
def microArea0 : Nat × Nat := (0x0000000, 0x200000)
def microArea1 : Nat × Nat := (0x2000000, 0x200000)

/-- The control page, the life-cycle page, the officer set, the health table, the time record, the applet directory with
the block map, the counter-entry directory, the card-volume records, the certificate, the pair record: address and
size. -/
def controlPage : Nat × Nat := (0x0200000, 0x1000)
def lifePage : Nat × Nat := (0x0201000, 0x1000)
def officerArea : Nat × Nat := (0x0202000, 0xB000)
def healthPage : Nat × Nat := (0x020E000, 0x1000)
def timePage : Nat × Nat := (0x020F000, 0x1000)
def appletDirectory : Nat × Nat := (0x0214000, 0x4000)
def entryDirectory : Nat × Nat := (0x0328000, 0x4000)
/-- The volume record of channel c; the rest of its 4 KiB is zero, and 0x032_F000 to 0x032_FFFF is reserved (15 R337). -/
def volumeAddr (c : Nat) : Nat := 0x032C000 + 0x1000 * c
def certArea : Nat × Nat := (0x03F0000, 0x4000)
def pairArea : Nat × Nat := (0x03F4000, 0x4000)

/-- Block k of the applet store, 5,120 blocks of 4 KiB in four pieces. -/
def blockAddr (k : Nat) : Nat :=
  if k < 1024 then 0x0400000 + 4096 * k
  else if k < 1792 then 0x1500000 + 4096 * (k - 1024)
  else if k < 3328 then 0x2200000 + 4096 * (k - 1792)
  else 0x3100000 + 4096 * (k - 3328)

/-- Position pos of the log ring: the half in bank 1, then the half in bank 3. -/
def ringAddr (pos : Nat) : Nat := if pos < 0x100000 then 0x1400000 + pos else 0x3000000 + (pos - 0x100000)

/-- The bank of a Cellar address. -/
def bankOf (addr : Nat) : Nat := addr / bankSize

/-- The Cellar ranges an item writes at its application, address and length. -/
def PItem.spans (i : PItem) : List (Nat × Nat) :=
  match i with
  | .write p off data => [(partBase p + off, data.length)]
  | .clearPart p => [(partBase p, 0x400000), controlPage]
  | .protect _ _ | .unprotect _ _ | .updInc | .updSet _ => [controlPage]
  | .ctrAdd n _ | .ctrSet n _ => [(counterAddr n, 32)]
  | .voided => []
  | .slotWrite h span _ _ _ _ _ _ _ => [(slotAddr h, 256 * span), (useCountAddr h, 32), entryDirectory]
  | .slotFree h span _ => [(slotAddr h, 256 * span), entryDirectory]
  | .officers _ _ _ => [officerArea, lifePage]
  | .lifeCycle _ | .retire _ _ | .permit _ | .pendLast _ => [lifePage]
  | .last n _ => [(lastAddr n.toNat, 4096)]
  | .cert _ => [certArea]
  | .applet a => appletDirectory :: a.places.map fun k => (blockAddr k, 4096)
  | .appletRm _ _ => [appletDirectory]
  | .wheel b _ _ no _ => [(placeAddr b (no % 2), 4800)]
  | .gapRecords => [(0x0320000, 0x8000)]
  | .timeConfig _ _ _ _ _ _ | .slew _ _ _ _ _ _ | .step _ _ _ _ | .bins => [timePage]
  | .bookOpen b _ _ _ _ | .bookConfig b _ _ _ _ | .bookClose b => [(headAddr b, 512)]
  | .health _ _ => [healthPage]
  | .volErase c _ | .volFormat c | .volReady c _ _ | .volWrite c _ _ | .archive c _ _ => [(volumeAddr c, 128)]
  | .weltPair _ _ _ | .weltUnpair | .weltMode _ | .weltHandover | .weltSecret _ | .weltPromote => [pairArea]
  | .weltTakeover => [pairArea, controlPage, (0x0218000, 0x88000)]

/-- The banks an item's home lies in. -/
def PItem.banks (i : PItem) : List Nat := i.spans.map fun x => bankOf x.1

/-! ### Records that await application (R261) -/

/-- Two ranges share a byte. -/
def spansMeet (a b : Nat × Nat) : Bool := decide (a.1 < b.1 + b.2) && decide (b.1 < a.1 + a.2)

/-- A committed record that has not been applied changes a byte of the range: a read of it waits. -/
def State.awaits (s : State) (addr len : Nat) : Bool :=
  s.press.log.any fun r => r.items.any fun i => i.spans.any fun x => spansMeet x (addr, len)

/-- The item changes the record of slot n. -/
def PItem.ofSlot (n : Nat) (i : PItem) : Bool :=
  match i with
  | .slotWrite h span _ _ _ _ _ _ _ | .slotFree h span _ => decide (h ≤ n ∧ n < h + span)
  | _ => false

/-- An update press on slot n is open: requests that name the slot wait for its commit (01 R21; log 162), and a read of
its record for the application of the change (12 R261). -/
def State.slotOpen (s : State) (n : Nat) : Bool :=
  s.press.queue.any (fun p => p.items.any (PItem.ofSlot n)) || s.press.log.any fun r => r.items.any (PItem.ofSlot n)

/-- The banks with a write in progress: those a record is being applied to (R253; log 167). -/
def State.bankBusy (s : State) (b : Nat) : Bool := s.press.log.any fun r => r.items.any fun i => i.banks.contains b

def wakeBanks (items : List PItem) (s : State) : State :=
  (items.map PItem.banks).flatten.foldl (fun s b => wakeBank b s) s

/-- The part of the ring in use: its first and its end position. -/
def PressSt.ring (p : PressSt) : Nat × Nat :=
  if p.half0 then (0x100000, 0x200000) else if p.half1 then (0, 0x100000) else (0, 0x200000)

/-- Where a record ends. -/
def LogRecord.stop (r : LogRecord) : Nat := r.pos + r.len

/-- The next position: the end of the latest record written. -/
def PressSt.tail (p : PressSt) : Nat := (p.log.getLast?.map LogRecord.stop).getD p.pos

/-- Where a record starts: the next position, or the beginning of the ring where less than a longest record is left. -/
def PressSt.place (p : PressSt) : Nat :=
  let (lo, hi) := p.ring
  if p.tail < lo ∨ hi < p.tail + 65584 then lo else p.tail

/-- A log record written, up to its trailer: the epoch advances, and the record awaits application (R260, R261). -/
def PressSt.write (p : PressSt) (e len core frame : Nat) (items : List PItem) : PressSt :=
  let r : LogRecord := ⟨len, e, items, p.place, core, frame⟩
  { p with epoch := e, log := p.log ++ [r], left := (r :: p.left).take 4 }

/-- The log state written to the control page. -/
def PressSt.pressed (p : PressSt) : PressSt := { p with state := p.state.update ⟨p.pos, p.half0, p.half1, p.applied⟩ }

/-- The log state written, while bank 0 takes writes (R274). -/
def pressState (s : State) : State :=
  if s.bankRetired 0 then s else wakeBank 0 { s with press := s.press.pressed }

/-- The oldest committed record is in place, and the log state follows. -/
def applyRecord (s : State) : State :=
  match s.press.log with
  | [] => s
  | r :: rest => pressState { s with press := { s.press with log := rest, applied := r.epoch, pos := r.stop } }

/-- Every committed record applied (16, GUARD step 4). -/
def applyAll (s : State) : State := s.press.log.foldl (fun s _ => applyRecord s) s

/-! ### Recovery at start (R264) -/

/-- The record that stands at position p and produces epoch x: what valid(record_at(p), x) finds. A record the Press has
written whole carries its magic, its length, both epoch fields and its check (log 214). -/
def PressSt.recordAt (s : PressSt) (p x : Nat) : Option LogRecord :=
  s.left.find? fun r => r.pos == p && r.epoch == x && decide (r.stop ≤ s.ring.2)

/-- The loop of R264 from applied epoch e and position p: each record found is in place again, with the result it had
(R262), and the log state follows. -/
def recoverFrom (n e p : Nat) (s : State) : State :=
  match n with
  | 0 => { s with press := { s.press with epoch := e } }
  | n + 1 =>
    let (lo, hi) := s.press.ring
    match (s.press.recordAt p (e + 1)).orElse fun _ =>
        if hi < p + 65584 then s.press.recordAt lo (e + 1) else none with
    | some r => recoverFrom n (e + 1) r.stop (pressState { s with press := { s.press with applied := e + 1, pos := r.stop } })
    | none => { s with press := { s.press with epoch := e } }

/-- The Press's recovery at a start and at an exit from DORMANT (R264), from the log state read under R258; where that is
lost, from what the Press held last (log 215). -/
def recover (s : State) : State :=
  let l := s.press.state.read.getD ⟨s.press.pos, s.press.half0, s.press.half1, s.press.applied⟩
  recoverFrom 4 l.applied l.pos { s with press := { s.press with
    log := [], pos := l.pos, half0 := l.half0, half1 := l.half1, applied := l.applied } }

/-! ### Rows and banks (R272 to R274, 16 R363) -/

/-- A bank retires (R274): it refuses every further write; a half of the ring in it retires once the pending records
are applied (R263). -/
def retireBank (b : Nat) (s : State) : State :=
  let s := { s with cellar := { s.cellar with retiredBanks := b :: s.cellar.retiredBanks } }
  let s := if b = 1 ∨ b = 3 then
      let s := applyAll s
      pressState { s with press := { s.press with half0 := s.press.half0 || b == 1, half1 := s.press.half1 || b == 3 } }
    else s
  retire (56 + b) 3 s

/-- A row that meets the permanent criterion is remapped to a spare row, or its bank retires (R273, R274). The remap
table's entry is a two-copy record. -/
def remapRow (row : Nat) (s : State) : State :=
  let b := row / 16384
  let spare := vget s.cellar.spares b 0
  let s := { s with cellar := { s.cellar with rows := s.cellar.rows.filter fun x => x.1 != row } }
  if spare = 0 then (if s.bankRetired b then s else retireBank b s)
  else
    let t := ((look row s.cellar.remapped).getD TwoCopy.zero).update (328 - spare)
    healthLog 0x0E (56 + b) (row * 64) { s with cellar := { s.cellar with
      spares := vset s.cellar.spares b (spare - 1), remapped := put row t s.cellar.remapped } }

/-- A fault of a row in its operation o: its own counter set decides, the bank's record sums (R363, R364). -/
def rowFault (row : Nat) (s : State) : State :=
  let b := row / 16384
  let (f, s) := s.freeNat
  let c := (look row s.cellar.rows).getD Chan.fresh
  let o := c.ops + f + 1
  let k := s.chan (56 + b)
  let s := setChan (56 + b) { k with faults := k.faults + 1, latest := k.ops, f1 := c.f2, f2 := some o } s
  if c.permanent o then remapRow row (healthLog 1 (56 + b) (row * 64) s)
  else { s with cellar := { s.cellar with
    rows := put row { c with ops := o, faults := c.faults + 1, latest := o, f1 := c.f2, f2 := some o } s.cellar.rows } }

/-- The row of a Cellar address. -/
def rowOf (addr : Nat) : Nat := addr / 1024

/-! ### Uncorrectable groups (R254) -/

/-- The first uncorrectable group of the Cellar range. -/
def State.badGroup (s : State) (addr len : Nat) : Option Nat :=
  s.cellar.bad.find? fun g => decide (addr < 16 * g + 16 ∧ 16 * g < addr + len)

/-- Some group of the Cellar range is uncorrectable. -/
def State.badRange (s : State) (addr len : Nat) : Bool := (s.badGroup addr len).isSome

/-- A read of the range meets an uncorrectable group: the fault counts against its row, and source 275 is raised. -/
def badRead (addr len : Nat) (s : State) : State :=
  match s.badGroup addr len with
  | none => s
  | some g => rowFault (rowOf (16 * g)) (healthLog 0x0A (56 + bankOf (16 * g)) g s)

/-- A two-copy record after copy i has become invalid, with the health-log record of one that is lost by it (R258). -/
def spoilLog {α : Type} (t : Copies α) (copy detail : Nat) (s : State) : State :=
  if t.read.isSome && (t.spoil copy).read.isNone then healthLog 0x0B 0xFF detail s else s

/-- An uncorrectable group at Cellar address a: the object that holds it (R254). Readers of the records without a second
copy look at the range itself. -/
def spoilGroup (a : Nat) (s : State) : State :=
  let c := { s.cellar with bad := if s.cellar.bad.contains (a / 16) then s.cellar.bad else a / 16 :: s.cellar.bad }
  let s := { s with cellar := c }
  let half := a / 16 % 2
  if 0x1000000 ≤ a ∧ a < 0x1400000 then
    let n := (a - 0x1000000) / 256
    { s with cellar := { c with slots := c.slots.map fun k =>
        if k.n ≤ n ∧ n < k.n + k.span then { k with tagOk := false } else k } }
  else if 0x0218000 ≤ a ∧ a < 0x0220000 then
    let n := (a - 0x0218000) / 32
    let t := (look n c.counters).getD TwoCopy.zero
    spoilLog t half n { s with cellar := { c with counters := put n (t.spoil half) c.counters } }
  else if 0x0220000 ≤ a ∧ a < 0x02A0000 then
    let n := (a - 0x0220000) / 32
    let t := (look n c.useCounts).getD TwoCopy.zero
    spoilLog t half n { s with cellar := { c with useCounts := put n (t.spoil half) c.useCounts } }
  else if 0x02A0000 ≤ a ∧ a < 0x0320000 then
    let i := (a - 0x02A0000) / 64
    let copy := (a - 0x02A0000) / 32 % 2
    match s.brine.entries.find? fun e => e.idx == i with
    | none => s
    | some e => spoilLog e.dur copy e.slot { s with brine := { s.brine with
        entries := updFirst (fun x => x.idx == i) (fun x => { x with dur := x.dur.spoil copy }) s.brine.entries } }
  else if 0x0320000 ≤ a ∧ a < 0x0328000 then
    let b := (a - 0x0320000) / 512
    let off := (a - 0x0320000) % 512
    if 288 ≤ off then s
    else
      let k := s.book b
      spoilLog k.durable (off / 144) b (setBook b { k with durable := k.durable.spoil (off / 144) } s)
  else if 0x0210000 ≤ a ∧ a < 0x0214000 then
    let n := (a - 0x0210000) / 4096
    { s with lasts := vmap (fun i l =>
        if i.val = n then l.map fun (r : Last) => { r with digestOk := false } else l) s.lasts }
  else if a < 0x0200000 then { s with cellar := { c with micro0 := false } }
  else if 0x2000000 ≤ a ∧ a < 0x2200000 then { s with cellar := { c with micro1 := false } }
  else s

/-- A read of the group at Cellar address a (R254; 02 R30): its bank is switched on; an error of one or two bits is
corrected, and counts against the row; one beyond that makes the group uncorrectable. -/
def groupRead (ecc : Ecc) (a : Nat) (s : State) : State :=
  let s := wakeBank (bankOf a) s
  match ecc with
  | .good => s
  | .corrected => rowFault (rowOf a) s
  | .uncorrectable => spoilGroup a s

/-! ### A slot whose record is refused (08 R162) -/

/-- The fault of a failed record tag counts against the bank row of the record whose group is bad, the head's where none
is known to be; it is logged and raises source 275, as a missing counter entry does. -/
def slotRefused (n : Nat) (st : Status) (s : State) : State :=
  if st != .faultPermanent then s
  else
    let s := healthLog 8 57 n s
    match (s.slot n).filter fun k => !k.tagOk with
    | none => s
    | some k => rowFault (rowOf (((s.badGroup (slotAddr n) (256 * k.span)).map (16 * ·)).getD (slotAddr n))) s

/-- Checks and use of slot n together: what admission to a serving block runs on the slot (R188). -/
def useSlot (rq : Rq) (n : Nat) (need : Need) (session : BitVec 32) (inv : Bool) (s : State) : Use :=
  match s.slotCheck rq n need session with
  | .error e => .no e (slotRefused n e s)
  | .ok k => drawUse k inv s

end Sys2Proof.Machine
end

