-- ==== Sys2Proof/Machine/Operands.lean ====
section
/-! DEFINITION. Operands of Yehepel instructions: the address space, buffers, hazards, grants, and the execution of
one instruction by the running frame of a core (06, 07). -/

namespace Sys2Proof.Machine

/-! ### The shared page (06 R115) -/

/-- The 4 KiB of the shared page. -/
def State.sharedPage (s : State) : Bytes :=
  let p := s.time.sh
  fit (le s.time.shSeq 8 ++ le p.frac 8 ++ le p.sec 8 ++ le p.unc 4 ++ le (b2n p.ref) 4 ++ le p.epoch 8) 0x100
    ++ fit (capList s) 0xF00

/-- A rewrite under way: TSEQ is odd, and of the fields those that bits 0 to 3 of k name are rewritten (R115). -/
def beginShared (k : Nat) (s : State) : State :=
  let new := s.sharedNow
  let old := s.time.sh
  { s with time := { s.time with
      shSeq := s.time.shSeq / 2 * 2 + 1
      sh := { old with frac := if bit k 0 then new.frac else old.frac, sec := if bit k 1 then new.sec else old.sec
                       unc := if bit k 2 then new.unc else old.unc, ref := if bit k 3 then new.ref else old.ref } } }

/-- Before an access the page is rewritten where its latest rewrite lies 1 µs back or more. Whether a rewrite has come
earlier, and whether one is under way at the access, are free choices (R115; log 9). -/
def touchShared (s : State) : State :=
  let (k, s) := s.freeNat
  let s := sampleTime s
  let s := if decide (second ≤ 1000000 * (s.time.t - s.time.shT)) || bit k 0 then rewriteShared s else s
  if bit k 1 then beginShared (k / 4) s else s

/-! ### The address space (06 R112) -/

/-- The order of the frame names a live general session. -/
def State.generalSession (s : State) (fr : Fr) : Option Session :=
  (s.session fr.session).filter fun x => x.vol.isNone

def Fr.dataBase (fr : Fr) : Nat := if fr.mode == .s then 0 else 0x40000000

/-- Backed bytes of the data region; in S mode the supervisor SRAM (log 13). -/
def Fr.dataSize (fr : Fr) : Nat := if fr.mode == .s then 0x80000 else fr.dataLen

/-- Address space number of the data region, the session page, the shared page and window n in a `Range`. -/
def spData : Nat := 0
def spPage : Nat := 1
def spShared : Nat := 2
def spWindow (n : Nat) : Nat := 16 + n

/-- The bytes a to a + len − 1 as a range of one region, readable or writable as asked; none where R112 or R133
raises ACCESS. -/
def State.place (s : State) (fr : Fr) (a len : Nat) (wr : Bool) : Option Range :=
  if fr.dataBase ≤ a ∧ a + len ≤ fr.dataBase + fr.dataSize then some ⟨spData, a - fr.dataBase, len, wr⟩
  else if 0x80000000 ≤ a ∧ a < 0xF0000000 then
    let n := (a - 0x80000000) / 0x07000000
    let x := (a - 0x80000000) % 0x07000000
    match vget fr.windows n none with
    | none => none
    | some w =>
      let b := vget fr.slides n 0 * 0x01000000 + x
      if x + len ≤ 0x07000000 ∧ b + len ≤ w.len ∧ (if wr then w.wr else w.rd) = true then some ⟨spWindow n, b, len, wr⟩
      else none
  else if 0xF0000000 ≤ a ∧ a + len ≤ 0xF0001000 then
    if wr then none else some ⟨spShared, a - 0xF0000000, len, false⟩
  else if 0xF0001000 ≤ a ∧ a + len ≤ 0xF0001800 then
    if (s.generalSession fr).isNone ∨ (wr = true ∧ a < 0xF0001100) then none
    else some ⟨spPage, a - 0xF0001000, len, wr⟩
  else none

/-- The bytes of a range. -/
def State.readRange (s : State) (c : Nat) (fr : Fr) (r : Range) : Bytes :=
  if r.len = 0 then []
  else if r.space = spData then (s.dataOf c fr).read r.lo r.len
  else if r.space = spPage then ((s.session fr.session).map (·.page)).elim [] fun m => m.read r.lo r.len
  else if r.space = spShared then sl s.sharedPage r.lo r.len
  else
    match vget fr.windows (r.space - 16) none with
    | some w => s.hostMem.read (w.addr + r.lo) r.len
    | none => []

/-- The range as a place to write. -/
def dstOf (c f : Nat) (fr : Fr) (r : Range) : Dst :=
  if r.len = 0 then .none
  else if r.space = spData then .data c f r.lo
  else if r.space = spPage then .page fr.session r.lo
  else
    match vget fr.windows (r.space - 16) none with
    | some w => .host (w.addr + r.lo)
    | none => .none

/-! ### Buffers and hazards (07 R133, R139) -/

/-- A buffer of an address and a length; one of length 0 has no bytes and its address is not examined. -/
def State.buffer (s : State) (fr : Fr) (a : Word) (len : Nat) (wr : Bool) : Option Range :=
  if len = 0 then some ⟨spData, 0, 0, wr⟩ else s.place fr a.toNat len wr

def Range.overlaps (a b : Range) : Bool :=
  a.space == b.space && decide (a.lo < b.lo + b.len) && decide (b.lo < a.lo + a.len) && (a.wr || b.wr)

/-- The ranges the busy tokens of a frame touch. -/
def State.busyRanges (s : State) (uid : Nat) : List Range :=
  let own := fun (r : Ref) => match r with
    | .token _ _ u _ => u == uid
    | _ => false
  let js := s.eng.vat.jobs ++ s.eng.digest.jobs ++ s.eng.lanes.jobs ++ s.eng.compares
  ((js.filter fun j => own j.ref).map (·.ranges)).flatten
    ++ (s.cards.ch.toList.map fun c => ((c.queue.filter fun r => own r.ref).map (·.ranges)).flatten).flatten
    ++ (s.books.toList.map fun b => ((b.waiting.filter fun w => own w.ref).map (·.ranges)).flatten).flatten
    ++ ((s.welt.waits.filter fun w => own w.ref).map (·.ranges)).flatten

/-- A hazard between an access and a busy token of the frame (R139). -/
def State.hazard (s : State) (uid : Nat) (acc : List Range) : Bool :=
  acc.any fun a => (s.busyRanges uid).any fun b => a.overlaps b

/-! ### Grants (06) -/

/-- The image of the applet a frame runs. -/
def State.image (s : State) (c : Nat) (fr : Fr) : Option Applet :=
  ((s.core c).resident.find? fun r => r.img.id == fr.applet).map (·.img)

/-- The grant of a kind that covers object n with right bit r (0 read, 1 write or press, 2 seal). S mode needs none. -/
def State.granted (s : State) (c : Nat) (fr : Fr) (kind n : Nat) (r : Option Nat) : Bool :=
  match fr.mode with
  | .s => true
  | .j => false
  | .a => (s.image c fr).elim false fun a => a.grants.any fun g =>
      g.kind == kind && decide (g.first ≤ n) && decide (n < g.first + g.count) && r.elim true (fun i => g.rights.getLsbD i)

/-! ### One instruction -/

/-- What an instruction does: retire with the frame and state given, then run `k`; retire at another pc; leave the
state given, keeping pc; trap; or wait, with no effect. -/
inductive IRes where
  | ok (fr : Fr) (s : State) (k : State → State)
  | jump (fr : Fr) (pc : BitVec 32) (s : State)
  | keep (s : State)
  | trap (cause : Cause) (addr : Nat)
  | stall

/-- The frame that executes on core c: none while the core is halted without a STEP, waits in WAITI, runs no frame, or
its frame waits for a press. -/
def State.runningFrame (s : State) (c : Nat) : Option (Nat × Fr) :=
  let k := s.core c
  if !s.awake || (k.halted && !k.stepping) || k.waiti then none
  else
    match k.running with
    | none => none
    | some f =>
      match s.frame c f with
      | some fr => if fr.pressing || !fr.runnable then none else some (f.val, fr)
      | none => none

/-- A STEP's one instruction has been executed (18 R404). -/
def endStep (c : Nat) (s : State) : State :=
  if (s.core c).stepping then setCore c { s.core c with stepping := false } s else s

/-- Execution by core c of an instruction of `words` words at pc (R112, R125). Where no frame executes, nothing
happens (log 6). A frame whose EXIT has been granted within the guard of its run limit traps on any other instruction
(R111). -/
def runInstr (c words : Nat) (s : State) (body : Nat → Fr → IRes) : State :=
  match s.runningFrame c with
  | none => s
  | some (f, fr) =>
    if fr.exitDue then endStep c (trap c f .runLimit 0 s)
    else if fr.mode != .s && decide (fr.codeLen < fr.pc.toNat + 4 * words) then endStep c (trap c f .access fr.pc.toNat s)
    else
      match body f fr with
      | .ok fr' s' k =>
        endStep c (k (setFrame c f (some { fr' with pc := fr.pc + BitVec.ofNat 32 (4 * words), icount := fr'.icount + 1 })
          s'))
      | .jump fr' pc s' => endStep c (setFrame c f (some { fr' with pc := pc, icount := fr'.icount + 1 }) s')
      | .keep s' => endStep c s'
      | .trap cause a => endStep c (trap c f cause a s)
      | .stall => s

/-- Retire with g d written. -/
def IRes.wr (fr : Fr) (d : BitVec 5) (v : Word) (s : State) : IRes := .ok (fr.setReg d v) s id

/-- The reference of token t of a frame. -/
def tokRef (c f : Nat) (fr : Fr) (t : BitVec 3) : Ref := .token c f fr.uid t.toNat

/-- Issue (R134): the token becomes busy, the instruction retires, and the request goes on to its block. -/
def IRes.issue (fr : Fr) (t : BitVec 3) (s : State) (k : State → State) : IRes := .ok (fr.setTok t .busy) s k

/-- An issue check that ends in a status: the token is done at once, and no byte has been touched. -/
def IRes.refuse (c f : Nat) (fr : Fr) (t : BitVec 3) (st : Status) (s : State) : IRes :=
  .issue fr t s (finish (tokRef c f fr t) st 0 0)

/-- The shared page is brought up to date before an engine instruction one of whose registers points into it (06 R115;
log 221). -/
def touchOperands (c : Nat) (s : State) : State :=
  match s.runningFrame c with
  | some (_, fr) =>
    if fr.g.toList.any fun a => decide (0xF0000000 ≤ a.toNat ∧ a.toNat < 0xF0001000) then touchShared s else s
  | none => s

/-- An engine issue whose token field names an empty token (R134). -/
def engIssue (c : Fin 9) (t : BitVec 3) (s : State) (body : State → Nat → Fr → IRes) : State :=
  let s := touchOperands c s
  runInstr c 1 s fun f fr => if fr.tok t != .empty then .trap .illegal 0 else body s f fr

/-- The key slot that handle register h names. -/
def Fr.keyOf (fr : Fr) (h : BitVec 4) : Option Nat :=
  match fr.hnd h with
  | .keySlot n => some n
  | _ => none

/-- A length register above the function's maximum, or with bits 63:32 set (R134). -/
def tooLong (w : Word) (max : Nat) : Bool := decide (max < w.toNat) || decide (2 ^ 32 ≤ w.toNat)

/-- A request of the frame that its block refuses after admission: it ends in its turn (R138). -/
def lateVat (c f : Nat) (fr : Fr) (t : BitVec 3) (st : Status) : State → State :=
  vatAdmit ((Job.base (tokRef c f fr t) fr.cls (.frame c f) 0).refused st)

def lateDigest (c f : Nat) (fr : Fr) (t : BitVec 3) (st : Status) : State → State :=
  digestAdmit ((Job.base (tokRef c f fr t) fr.cls (.frame c f) 0x3F00).refused st)

/-- A request of a class whose requests end in any order: its token is done at once. -/
def lateNow (c f : Nat) (fr : Fr) (t : BitVec 3) (st : Status) : State → State := finish (tokRef c f fr t) st 0 0

/-- A use of slot n by a frame: the checks of R162 and R166, the function's own checks, then the use and, where asked,
the invocation value (R188). A refusal goes the way `late` gives it. The instruction waits for a press open on the slot
(R21), and a follower without a grant for one (R379). -/
def withKey (fr : Fr) (t : BitVec 3) (s : State) (n : Nat) (need : Need) (inv : Bool) (late : Status → State → State)
    (fcheck : Slot → Option Status) (go : Slot → Nat → State → IRes) : IRes :=
  let no (st : Status) (s : State) : IRes := .issue fr t s (late st)
  if s.slotOpen n then .stall
  else
    match s.slotCheck (Rq.ofMode fr.mode) n need fr.session with
    | .error e => no e (slotRefused n e s)
    | .ok k =>
      match s.spent k with
      | some st => no st s
      | none =>
        match fcheck k with
        | some st => no st s
        | none =>
          match drawUse k inv s with
          | .no st s => no st s
          | .wait s => .keep s
          | .got k v s => go k v s

end Sys2Proof.Machine
end

