-- ==== Sys2Proof/Machine/Alu.lean ====
section
/-! DEFINITION. Integer, logic, shift and compare instructions (06, Integer and logic instructions). -/

namespace Sys2Proof.Machine

/-- A binary instruction: g d := op a b. -/
def aluBin (c : Fin 9) (d a b : BitVec 5) (op : Word → Word → Word) (s : State) : State :=
  runInstr c 1 s fun _ fr => .wr fr d (op (fr.reg a) (fr.reg b)) s

/-- A binary instruction that traps where `bad` holds of its operands, before g d is written (R106, R120). -/
def aluTrap (c : Fin 9) (d a b : BitVec 5) (bad : Word → Word → Bool) (cause : Cause) (op : Word → Word → Word)
    (s : State) : State :=
  runInstr c 1 s fun _ fr =>
    if bad (fr.reg a) (fr.reg b) then .trap cause 0 else .wr fr d (op (fr.reg a) (fr.reg b)) s

/-- A conditional move: g d := b where `p` holds of a. -/
def aluMov (c : Fin 9) (d a b : BitVec 5) (p : Word → Bool) (s : State) : State :=
  runInstr c 1 s fun _ fr => if p (fr.reg a) then .wr fr d (fr.reg b) s else .ok fr s id

/-- A unary instruction. -/
def aluUn (c : Fin 9) (d a : BitVec 5) (op : Word → Word) (s : State) : State :=
  runInstr c 1 s fun _ fr => .wr fr d (op (fr.reg a)) s

/-- An immediate form; the immediate is sign-extended to 64 bits. -/
def aluImm (c : Fin 9) (d a : BitVec 5) (imm : BitVec 14) (op : Word → Word → Word) (s : State) : State :=
  runInstr c 1 s fun _ fr => .wr fr d (op (fr.reg a) (imm.signExtend 64)) s

/-- A shift by an immediate amount. -/
def aluShift (c : Fin 9) (d a : BitVec 5) (sh : BitVec 6) (op : Word → Nat → Word) (s : State) : State :=
  runInstr c 1 s fun _ fr => .wr fr d (op (fr.reg a) sh.toNat) s

/-- ADD: a + b. -/
def execAdd (c : Fin 9) (d a b : BitVec 5) (s : State) : Host.Outcome State Fault Refusal :=
  .next (aluBin c d a b (fun x y => x + y) s)

/-- SUB: a − b. -/
def execSub (c : Fin 9) (d a b : BitVec 5) (s : State) : Host.Outcome State Fault Refusal :=
  .next (aluBin c d a b (fun x y => x - y) s)

/-- ADDV: a + b; OVERFLOW on signed overflow. -/
def execAddv (c : Fin 9) (d a b : BitVec 5) (s : State) : Host.Outcome State Fault Refusal :=
  .next (aluTrap c d a b addOverflow .overflow (fun x y => x + y) s)

/-- SUBV: a − b; OVERFLOW on signed overflow. -/
def execSubv (c : Fin 9) (d a b : BitVec 5) (s : State) : Host.Outcome State Fault Refusal :=
  .next (aluTrap c d a b subOverflow .overflow (fun x y => x - y) s)

/-- CRY: carry out of u(a) + u(b). -/
def execCry (c : Fin 9) (d a b : BitVec 5) (s : State) : Host.Outcome State Fault Refusal :=
  .next (aluBin c d a b (fun x y => flag (carryOut x y)) s)

/-- BRW: 1 if u(a) < u(b). -/
def execBrw (c : Fin 9) (d a b : BitVec 5) (s : State) : Host.Outcome State Fault Refusal :=
  .next (aluBin c d a b (fun x y => flag (borrowOut x y)) s)

/-- MUL: low 64 bits of a × b. -/
def execMul (c : Fin 9) (d a b : BitVec 5) (s : State) : Host.Outcome State Fault Refusal :=
  .next (aluBin c d a b (fun x y => x * y) s)

/-- MULHU: high 64 bits of u(a) × u(b). -/
def execMulhu (c : Fin 9) (d a b : BitVec 5) (s : State) : Host.Outcome State Fault Refusal :=
  .next (aluBin c d a b mulHighU s)

/-- MULHS: high 64 bits of s(a) × s(b). -/
def execMulhs (c : Fin 9) (d a b : BitVec 5) (s : State) : Host.Outcome State Fault Refusal :=
  .next (aluBin c d a b mulHighS s)

/-- DIVU: u(a) / u(b); DIVIDE where b = 0 (R120). -/
def execDivu (c : Fin 9) (d a b : BitVec 5) (s : State) : Host.Outcome State Fault Refusal :=
  .next (aluTrap c d a b (fun _ y => y == 0) .divide (fun x y => x / y) s)

/-- DIVS: s(a) / s(b) toward zero; DIVIDE where b = 0 (R120). -/
def execDivs (c : Fin 9) (d a b : BitVec 5) (s : State) : Host.Outcome State Fault Refusal :=
  .next (aluTrap c d a b (fun _ y => y == 0) .divide divSigned s)

/-- REMU: u(a) mod u(b); DIVIDE where b = 0 (R120). -/
def execRemu (c : Fin 9) (d a b : BitVec 5) (s : State) : Host.Outcome State Fault Refusal :=
  .next (aluTrap c d a b (fun _ y => y == 0) .divide (fun x y => x % y) s)

/-- REMS: remainder with the sign of a; DIVIDE where b = 0 (R120). -/
def execRems (c : Fin 9) (d a b : BitVec 5) (s : State) : Host.Outcome State Fault Refusal :=
  .next (aluTrap c d a b (fun _ y => y == 0) .divide remSigned s)

/-- AND. -/
def execAnd (c : Fin 9) (d a b : BitVec 5) (s : State) : Host.Outcome State Fault Refusal :=
  .next (aluBin c d a b (fun x y => x &&& y) s)

/-- OR. -/
def execOr (c : Fin 9) (d a b : BitVec 5) (s : State) : Host.Outcome State Fault Refusal :=
  .next (aluBin c d a b (fun x y => x ||| y) s)

/-- XOR. -/
def execXor (c : Fin 9) (d a b : BitVec 5) (s : State) : Host.Outcome State Fault Refusal :=
  .next (aluBin c d a b (fun x y => x ^^^ y) s)

/-- ANDN: a AND NOT b. -/
def execAndn (c : Fin 9) (d a b : BitVec 5) (s : State) : Host.Outcome State Fault Refusal :=
  .next (aluBin c d a b (fun x y => x &&& ~~~y) s)

/-- ORN: a OR NOT b. -/
def execOrn (c : Fin 9) (d a b : BitVec 5) (s : State) : Host.Outcome State Fault Refusal :=
  .next (aluBin c d a b (fun x y => x ||| ~~~y) s)

/-- XNOR: NOT (a XOR b). -/
def execXnor (c : Fin 9) (d a b : BitVec 5) (s : State) : Host.Outcome State Fault Refusal :=
  .next (aluBin c d a b (fun x y => ~~~(x ^^^ y)) s)

/-- SLL: a shifted left by b 5:0. -/
def execSll (c : Fin 9) (d a b : BitVec 5) (s : State) : Host.Outcome State Fault Refusal :=
  .next (aluBin c d a b (fun x y => x <<< shiftAmount y) s)

/-- SRL: a shifted right, zeros in. -/
def execSrl (c : Fin 9) (d a b : BitVec 5) (s : State) : Host.Outcome State Fault Refusal :=
  .next (aluBin c d a b (fun x y => x >>> shiftAmount y) s)

/-- SRA: a shifted right, sign in. -/
def execSra (c : Fin 9) (d a b : BitVec 5) (s : State) : Host.Outcome State Fault Refusal :=
  .next (aluBin c d a b (fun x y => x.sshiftRight (shiftAmount y)) s)

/-- ROL: a rotated left. -/
def execRol (c : Fin 9) (d a b : BitVec 5) (s : State) : Host.Outcome State Fault Refusal :=
  .next (aluBin c d a b (fun x y => x.rotateLeft (shiftAmount y)) s)

/-- ROR: a rotated right. -/
def execRor (c : Fin 9) (d a b : BitVec 5) (s : State) : Host.Outcome State Fault Refusal :=
  .next (aluBin c d a b (fun x y => x.rotateRight (shiftAmount y)) s)

/-- SEQ: 1 if a = b. -/
def execSeq (c : Fin 9) (d a b : BitVec 5) (s : State) : Host.Outcome State Fault Refusal :=
  .next (aluBin c d a b (fun x y => flag (x == y)) s)

/-- SNE: 1 if a ≠ b. -/
def execSne (c : Fin 9) (d a b : BitVec 5) (s : State) : Host.Outcome State Fault Refusal :=
  .next (aluBin c d a b (fun x y => flag (x != y)) s)

/-- SLT: 1 if s(a) < s(b). -/
def execSlt (c : Fin 9) (d a b : BitVec 5) (s : State) : Host.Outcome State Fault Refusal :=
  .next (aluBin c d a b (fun x y => flag (x.slt y)) s)

/-- SLTU: 1 if u(a) < u(b). -/
def execSltu (c : Fin 9) (d a b : BitVec 5) (s : State) : Host.Outcome State Fault Refusal :=
  .next (aluBin c d a b (fun x y => flag (x.ult y)) s)

/-- MOVNZ: b if a ≠ 0, else d unchanged. -/
def execMovnz (c : Fin 9) (d a b : BitVec 5) (s : State) : Host.Outcome State Fault Refusal :=
  .next (aluMov c d a b (fun x => x != 0) s)

/-- MOVZ: b if a = 0, else d unchanged. -/
def execMovz (c : Fin 9) (d a b : BitVec 5) (s : State) : Host.Outcome State Fault Refusal :=
  .next (aluMov c d a b (fun x => x == 0) s)

/-- CLZ: leading zero bits, 0 to 64. -/
def execClz (c : Fin 9) (d a : BitVec 5) (s : State) : Host.Outcome State Fault Refusal :=
  .next (aluUn c d a (fun x => BitVec.ofNat 64 (clzN x 64)) s)

/-- CTZ: trailing zero bits, 0 to 64. -/
def execCtz (c : Fin 9) (d a : BitVec 5) (s : State) : Host.Outcome State Fault Refusal :=
  .next (aluUn c d a (fun x => BitVec.ofNat 64 (ctzN x 0 64)) s)

/-- POPC: set bits. -/
def execPopc (c : Fin 9) (d a : BitVec 5) (s : State) : Host.Outcome State Fault Refusal :=
  .next (aluUn c d a (fun x => BitVec.ofNat 64 (popN x 64)) s)

/-- BSWAP: bytes in reverse order. -/
def execBswap (c : Fin 9) (d a : BitVec 5) (s : State) : Host.Outcome State Fault Refusal :=
  .next (aluUn c d a byteSwap s)

/-- ADDI: a + imm. -/
def execAddi (c : Fin 9) (d a : BitVec 5) (imm : BitVec 14) (s : State) : Host.Outcome State Fault Refusal :=
  .next (aluImm c d a imm (fun x y => x + y) s)

/-- ANDI. -/
def execAndi (c : Fin 9) (d a : BitVec 5) (imm : BitVec 14) (s : State) : Host.Outcome State Fault Refusal :=
  .next (aluImm c d a imm (fun x y => x &&& y) s)

/-- ORI. -/
def execOri (c : Fin 9) (d a : BitVec 5) (imm : BitVec 14) (s : State) : Host.Outcome State Fault Refusal :=
  .next (aluImm c d a imm (fun x y => x ||| y) s)

/-- XORI. -/
def execXori (c : Fin 9) (d a : BitVec 5) (imm : BitVec 14) (s : State) : Host.Outcome State Fault Refusal :=
  .next (aluImm c d a imm (fun x y => x ^^^ y) s)

/-- SLLI: a shifted left by imm 5:0. -/
def execSlli (c : Fin 9) (d a : BitVec 5) (sh : BitVec 6) (s : State) : Host.Outcome State Fault Refusal :=
  .next (aluShift c d a sh (fun x n => x <<< n) s)

/-- SRLI: a shifted right, zeros in. -/
def execSrli (c : Fin 9) (d a : BitVec 5) (sh : BitVec 6) (s : State) : Host.Outcome State Fault Refusal :=
  .next (aluShift c d a sh (fun x n => x >>> n) s)

/-- SRAI: a shifted right, sign in. -/
def execSrai (c : Fin 9) (d a : BitVec 5) (sh : BitVec 6) (s : State) : Host.Outcome State Fault Refusal :=
  .next (aluShift c d a sh (fun x n => x.sshiftRight n) s)

/-- SLTI: 1 if s(a) < imm. -/
def execSlti (c : Fin 9) (d a : BitVec 5) (imm : BitVec 14) (s : State) : Host.Outcome State Fault Refusal :=
  .next (aluImm c d a imm (fun x y => flag (x.slt y)) s)

/-- SLTIU: 1 if u(a) < u(imm). -/
def execSltiu (c : Fin 9) (d a : BitVec 5) (imm : BitVec 14) (s : State) : Host.Outcome State Fault Refusal :=
  .next (aluImm c d a imm (fun x y => flag (x.ult y)) s)

/-- LIW's result from literal word L (06); none where the form is ILLEGAL: mode 0b11, or a non-zero a outside mode
0b10. -/
def liwValue (a : BitVec 5) (x : Word) (mode : BitVec 2) (lit : BitVec 32) : Option Word :=
  match mode.toNat with
  | 0 => if a = 0 then some (lit.signExtend 64) else none
  | 1 => if a = 0 then some (lit.zeroExtend 64) else none
  | 2 => some ((x <<< 32) ||| lit.zeroExtend 64)
  | _ => none

/-- LIW: the literal word is the second word of the instruction; pc advances by 8 (R121). -/
def execLiw (c : Fin 9) (d a : BitVec 5) (mode : BitVec 2) (lit : BitVec 32) (s : State) :
    Host.Outcome State Fault Refusal :=
  .next (runInstr c 2 s fun _ fr =>
    match liwValue a (fr.reg a) mode lit with
    | some v => .wr fr d v s
    | none => .trap .illegal 0)

/-- BFX: bits lo + w to lo of a, where w is the field's width minus 1; ILLEGAL beyond 64 bits (R121). -/
def execBfx (c : Fin 9) (d a : BitVec 5) (lo w : BitVec 6) (sx : Bool) (s : State) :
    Host.Outcome State Fault Refusal :=
  .next (runInstr c 1 s fun _ fr =>
    if lo.toNat + (w.toNat + 1) > 64 then .trap .illegal 0
    else .wr fr d (bitField (fr.reg a) lo.toNat (w.toNat + 1) sx) s)

/-- BFI: the field of d replaced by the low bits of a; ILLEGAL beyond 64 bits (R121). -/
def execBfi (c : Fin 9) (d a : BitVec 5) (lo w : BitVec 6) (s : State) : Host.Outcome State Fault Refusal :=
  .next (runInstr c 1 s fun _ fr =>
    if lo.toNat + (w.toNat + 1) > 64 then .trap .illegal 0
    else .wr fr d (bitInsert (fr.reg d) (fr.reg a) lo.toNat (w.toNat + 1)) s)

end Sys2Proof.Machine
end

