-- ==== Sys2Proof/Machine/Events.lean ====
section
/-! DEFINITION. The event controller's commands and the log indexes (14, 16 R368). -/

namespace Sys2Proof.Machine

/-- The host reaches BAR0: the device serves, the link is up, and the function is not in D3hot. -/
def State.hostReach (s : State) : Bool := s.awake && decide (s.linkWidth ≠ 0) && !s.link.d3hot

/-- The target of the members of group g; 15 when it has none. -/
def State.groupTarget (s : State) (g : Nat) : Nat :=
  match s.members g with
  | n :: _ => (s.src n).target
  | [] => 15

/-! ### Claims (R308, R314) -/

/-- Among the asserted sources that satisfy p, the one of the highest priority, ties to the lowest number; 0 for
none. A source disabled while it was active can stand asserted at priority 0, and is the last to be claimed. -/
def claimPick (p : Source → Bool) (xs : List Source) : Nat :=
  ((xs.zipIdx).foldl (fun (best : Nat × Nat) (x, n) =>
    if x.asserted && p x && decide (x.priority + 1 > best.2) then (n, x.priority + 1) else best) (0, 0)).1

/-- Claim of source n (R304). -/
def claimed (n : Nat) (s : State) : State := setSrc n { s.src n with act := true, pend := false, deliv := false } s

/-- Vector v is armed again, and signalled again if a source on it is asserted (R314). -/
def rearm (v : Nat) (s : State) : State :=
  signalVec v { s with msix := { s.msix with disarmed := s.msix.disarmed.filter (· != v) } }

/-- Every vector is armed again. -/
def rearmAll (s : State) : State := s.msix.disarmed.foldl (fun s v => rearm v s) s

/-- The sources that T0, or the host over all vectors or on one, may claim. -/
def claimFor (p : Source → Bool) (dis : Bool) (s : State) : Nat := if dis then 0 else claimPick p s.ev.sources

/-- A read of EV_CLAIM: the number, and the state after the claim. -/
def claimRead (host : Bool) (s : State) : Nat × State :=
  let n := if host then claimFor (fun x => x.target == 9) s.ev.gdisHost s
    else claimFor (fun x => x.target == 0) s.ev.gdisT0 s
  if n = 0 then (0, if host then rearmAll s else s) else (n, claimed n s)

/-- The supervisor core executes: T0's registers are its system words, in S mode only (R316). -/
def State.supervisorRuns (s : State) : Bool :=
  match s.runningFrame 8 with
  | some (_, fr) => fr.mode == .s
  | none => false

/-- EV_CLAIM (R308): what the read returns stands in hostRead. -/
def execEvClaim (host : Bool) (s : State) : Host.Outcome State Fault Refusal :=
  .next (if (if host then s.hostReach else s.supervisorRuns) then
    let (n, s) := claimRead host s
    { s with hostRead := BitVec.ofNat 32 n }
  else s)

/-- A read of EV_VCLAIM[v]. -/
def vclaimRead (v : Nat) (s : State) : Nat × State :=
  let n := claimFor (fun x => x.target == 9 && x.vector == v) s.ev.gdisHost s
  if n = 0 then (0, rearm v s) else (n, claimed n s)

/-- EV_VCLAIM (R308, R314). -/
def execEvVclaim (v : Fin 2048) (s : State) : Host.Outcome State Fault Refusal :=
  .next (if s.hostReach then
    let (n, s) := vclaimRead v s
    { s with hostRead := BitVec.ofNat 32 n }
  else s)

/-! ### Completion (R309) -/

/-- End of service of source n: a level-triggered source is re-sampled (R304), unless priority 0 suspends the sampling
(log 151). A source of T9 is signalled by the re-arming of its vector (R314), any other source at once. -/
def completed (n : Nat) (s : State) : State :=
  let x := { s.src n with act := false }
  let s :=
    match (if x.priority == 0 then none else s.condOf n) with
    | none => setSrc n x s
    | some c =>
      let y := { x with cond := c }
      if !x.level then setSrc n y s
      else if !c then setSrc n y.withdrawn s
      else if x.grouped then
        let g := s.group x.groupNo
        setGroup x.groupNo { g with timer := g.timer || !x.pend } (setSrc n { y with pend := true } s)
      else setSrc n { y with pend := true, deliv := true } s
  if x.target == 9 then s else notify n s

/-- A write of EV_COMPLETE: bits 8:0 name the source; on the host side a write that ends no service sets BADCOMP. -/
def completeWrite (host : Bool) (v : Nat) (s : State) : State :=
  let n := v % 512
  let x := s.src n
  if n = 0 ∨ x.target ≠ (if host then 9 else 0) ∨ x.act = false then
    if host then { s with ev := { s.ev with stat := { s.ev.stat with badcomp := true } } } else s
  else
    let s := completed n s
    if host then rearm x.vector s else s

/-- EV_COMPLETE (R309). -/
def execEvComplete (host : Bool) (v : BitVec 32) (s : State) : Host.Outcome State Fault Refusal :=
  .next (if (if host then s.hostReach else s.supervisorRuns) then completeWrite host v.toNat s else s)

/-! ### Global disable (R312) -/

/-- Every asserted source of T9 is signalled, vector by vector. -/
def signalAll (s : State) : State :=
  (s.ev.sources.filter fun x => x.asserted && x.target == 9).foldl (fun s x => signalVec x.vector s) s

def gdisWrite (host : Bool) (dis : Bool) (s : State) : State :=
  if host then
    let s1 := { s with ev := { s.ev with gdisHost := dis } }
    if s.ev.gdisHost && !dis then signalAll s1 else s1
  else
    let s1 := { s with ev := { s.ev with gdisT0 := dis } }
    if s.ev.gdisT0 && !dis then wakeT0 s1 else s1

/-- EV_GDIS (R312). -/
def execEvGdisWrite (host : Bool) (v : BitVec 32) (s : State) : Host.Outcome State Fault Refusal :=
  .next (if (if host then s.hostReach else s.supervisorRuns) then gdisWrite host (v.getLsbD 0) s else s)

/-- A write of EV_RING: the event of doorbell source 320 to 511 (R316). -/
def ringWrite (v : Nat) (s : State) : State := if 320 ≤ v % 512 then raise (v % 512) s else s

/-- EV_RING. -/
def execEvRing (v : BitVec 64) (s : State) : Host.Outcome State Fault Refusal :=
  .next (if s.supervisorRuns then ringWrite v.toNat s else s)

/-- GROUP_TIMER_EXPIRY (R311): the timer of the group, running, reaches TIME. -/
def execGroupTimerExpiry (g : Fin 64) (s : State) : Host.Outcome State Fault Refusal :=
  .next (if s.awake && (s.group g).timer then deliver g s else s)

/-! ### Source and group words (R306, R307, R310) -/

/-- A source that the Sole can raise, or one routed to T9 (R317). -/
def wakeAllowed (n target : Nat) : Bool :=
  target == 9 || (261 ≤ n && n ≤ 266) || n == 271 || n == 272 || n == 274

def State.wakeCount (s : State) (but : Nat) : Nat :=
  ((List.range 512).filter fun n => n != but && (s.src n).wake).length

/-- The write breaks a rule of R306. -/
def srcWriteBad (n : Nat) (v : BitVec 32) (s : State) : Bool :=
  let x := s.src n
  let y : Source := { x with cfg := v }
  x.target != 9 || (271 ≤ n && n ≤ 275 && y.priority == 0) || (y.groupNo != 0 && !y.grouped)
    || (y.grouped && s.groupTarget y.groupNo != 9 && s.groupTarget y.groupNo != 15)
    || (y.wake && (!wakeAllowed n x.target || decide (s.wakeCount n ≥ 64)))
    || v.extractLsb' 4 4 != 0

def refusedWrite (n : Nat) (grp : Bool) (full : Bool) (s : State) : State :=
  { s with ev := { s.ev with stat := { s.ev.stat with
      refused := true, last := BitVec.ofNat 9 n, lastGrp := grp, wakefull := s.ev.stat.wakefull || full } } }

/-- The effect of a write of EV_SRC[n] (R307). TARGET is read only. -/
def srcApply (n : Nat) (v : BitVec 32) (s : State) : State :=
  let x := s.src n
  let y : Source := { x with cfg := (x.cfg &&& 0xF0000000) ||| (v &&& 0x0FFFFFFF) }
  let y := if y.priority == 0 && x.pend && !x.act then y.withdrawn else y
  let left := x.grouped && (!y.grouped || y.groupNo != x.groupNo) && y.pend && !y.deliv
  let y := if left then { y with deliv := true } else y
  let s := setSrc n y s
  let s := if x.priority == 0 && y.priority != 0 then
      sample n (setSrc n { y with cond := false } s)
    else s
  if (s.src n).asserted && (left || y.vector != x.vector) then notify n s else s

/-- A write of EV_SRC[n] by the host (R306): one that breaks a rule is discarded whole. -/
def srcWrite (n : Nat) (v : BitVec 32) (s : State) : State :=
  if srcWriteBad n v s then
    refusedWrite n false (({ s.src n with cfg := v } : Source).wake && decide (s.wakeCount n ≥ 64)) s
  else srcApply n v s

/-- A write breaks a rule that R306 gives for host writes and the supervisor's copy has too: TARGET is not one the
supervisor writes, GROUP without GRP_EN or of another target, WAKE, VECTOR, or a reserved bit (log 218). -/
def supWriteBad (n : Nat) (v : BitVec 32) (s : State) : Bool :=
  let x := s.src n
  let y : Source := { x with cfg := v }
  n == 0 || x.target == 9 || (y.groupNo != 0 && !y.grouped)
    || (y.grouped && s.groupTarget y.groupNo != x.target && s.groupTarget y.groupNo != 15)
    || (y.wake && (!wakeAllowed n x.target || decide (s.wakeCount n ≥ 64)))
    || y.vector != 0 || v.extractLsb' 4 4 != 0

/-- A write of EV_SRC[n] by the supervisor firmware, which writes the sources of T0 to T8 (R306): one that breaks a
rule is discarded, and leaves the host's EV_STAT as it is (log 218). -/
def supSrcWrite (n : Nat) (v : BitVec 32) (s : State) : State := if supWriteBad n v s then s else srcApply n v s

/-- EV_SRC_WRITE (R306). -/
def execEvSrcWrite (n : Fin 512) (v : BitVec 32) (s : State) (host : Bool := true) : Host.Outcome State Fault Refusal :=
  .next (if host then (if s.hostReach then srcWrite n v s else s)
    else if s.supervisorRuns then supSrcWrite n v s else s)

/-- A write of EV_GRP[g] by the host. The thresholds apply from the next delivery (R310), which takes them up (R311). -/
def grpWrite (g : Nat) (v : BitVec 32) (s : State) : State :=
  let t := s.groupTarget g
  let x := s.group g
  let w := v &&& 0x00FFFFFF
  if (t != 9 && t != 15) || v.extractLsb' 8 16 == 0 then refusedWrite g true false s
  else setGroup g { x with next := some w } s

/-- EV_GRP_WRITE (R310). -/
def execEvGrpWrite (g : Fin 64) (v : BitVec 32) (s : State) : Host.Outcome State Fault Refusal :=
  .next (if s.hostReach then grpWrite g v s else s)

/-! ### Log read indexes (16 R368) -/

/-- A write of R, ignored unless (W − R) mod 256 stays within the log's count. -/
def RLog.setR (l : RLog) (cap : Nat) (r : BitVec 8) : RLog := if (l.w - r).toNat ≤ cap then { l with r := r } else l

/-- LOG_INDEX_WRITE: HC_LOGR or RD_LOGR, bits 7:0. -/
def execLogIndexWrite (rindLog : Bool) (v : BitVec 32) (s : State) : Host.Outcome State Fault Refusal :=
  .next (if s.hostReach then
    if rindLog then sample 271 { s with rind := { s.rind with log := s.rind.log.setR 64 (v.extractLsb' 0 8) } }
    else sample 275 { s with health := { s.health with log := s.health.log.setR 128 (v.extractLsb' 0 8) } }
  else s)

end Sys2Proof.Machine
end

