-- ==== Sys2Proof/Machine/Fetch.lean ====
section
/-! DEFINITION. Work orders as the queues hold them: entries, descriptors, fetch checks, and the fetch (05 R83, R86 to
R88, R97). -/

namespace Sys2Proof.Machine

/-! ### Entries -/

def kindOf (n : Nat) : Option OKind :=
  match n with
  | 1 => some .call
  | 2 => some .run
  | 3 => some .sector
  | 4 => some .seal
  | 5 => some .openS
  | 6 => some .closeS
  | 7 => some .park
  | 8 => some .unpark
  | 15 => some .admin
  | _ => none

/-- The descriptor at offset `off` of an entry. -/
def descAt (e : Bytes) (off : Nat) : Desc :=
  ⟨fld e off 8, fld e (off + 8) 4, e.getD (off + 12) 0, e.getD (off + 13) 0⟩

def Desc.empty (d : Desc) : Bool := d.addr == 0 && d.len == 0 && d.access == 0

/-- A descriptor as an entry carries it: where it lies, the access its kind requires, whether it maps a window. -/
structure DescRule where
  entry : Nat
  off : Nat
  need : Byte
  win : Bool
  deriving DecidableEq, Repr

/-- The ADMIN functions. -/
def adminFns : List Nat := [1, 2, 3, 4, 5, 6, 0x10, 0x11, 0x20]

/-- The descriptors an order of the kind has in its entries (05, Kinds). -/
def descRules (k : OKind) (fn ext : Nat) : List DescRule :=
  let exts := (List.range ext).flatMap fun i => [⟨i + 1, 16, 0, true⟩, ⟨i + 1, 32, 0, true⟩, ⟨i + 1, 48, 0, true⟩]
  match k with
  | .call => ⟨0, 32, 0, true⟩ :: ⟨0, 48, 0, true⟩ :: exts
  | .run => ⟨0, 32, 1, false⟩ :: ⟨0, 48, 0, true⟩ :: exts
  | .sector => [⟨0, 48, 3, false⟩]
  | .seal => [⟨0, 32, 1, false⟩, ⟨0, 48, 2, false⟩]
  | .park => [⟨0, 32, 2, false⟩]
  | .unpark => [⟨0, 32, 1, false⟩]
  | .admin => (if fn = 4 then [] else [⟨0, 32, 1, false⟩]) ++ [⟨0, 48, 2, false⟩]
  | .openS | .closeS => []

def ruleDesc (es : List Bytes) (r : DescRule) : Desc := descAt (es.getD r.entry []) r.off

/-- Reserved ranges of an entry: offset and length (05, Kinds). -/
def reservedOf (k : OKind) (fn : Nat) (general : Bool) : List (Nat × Nat) :=
  match k with
  | .call => [(30, 2)]
  | .run => []
  | .sector => [(37, 11)]
  | .seal => [(25, 7)]
  | .openS => [(33, 3), (40, 24)] ++ (if general then [(36, 4)] else [])
  | .closeS => [(24, 40)]
  | .park => [(24, 8), (48, 16)]
  | .unpark => [(48, 16)]
  | .admin => (26, 6) :: if fn = 4 then [(40, 8)] else []

/-- R86 and R87 of one descriptor. -/
def descOk (es : List Bytes) (r : DescRule) : Bool :=
  let e := es.getD r.entry []
  let d := ruleDesc es r
  zeroAt e (r.off + 14) 2 && d.access.toNat < 4 && (r.win || d.window == 0)
    && (d.empty || (d.access != 0 && (d.access &&& r.need) == r.need && decide (d.addr + d.len ≤ 2 ^ 64)
          && decide (d.window.toNat < 16)))

/-- The first fetch check: every BAD_FORMAT rule of R6, R7 and R86 to R88 (R97). -/
def formatOk (es : List Bytes) : Bool :=
  let e := es.headD []
  let ext := es.length - 1
  match kindOf (fld e 0 2) with
  | none => false
  | some k =>
    let fn := fld e 24 2
    let rules := descRules k fn ext
    let used := (rules.filter fun r => !(ruleDesc es r).empty)
    let wins := (used.filter (·.win)).map fun r => (ruleDesc es r).window
    decide (fld e 2 2 < 4) && (!bit (fld e 2 2) 0 || k == .call || k == .run) && decide (ext ≤ 5)
      && (es.drop 1).all (fun x => fld x 0 2 == 0x000E && fld x 2 2 < 2 && zeroAt x 4 12)
      && (reservedOf k fn (e.getD 32 0 == 0)).all (fun r => zeroAt e r.1 r.2)
      && (k != .sector || e.getD 36 0 == 1 || e.getD 36 0 == 2) && (k != .openS || (e.getD 32 0).toNat < 2)
      && (k != .admin || adminFns.contains fn) && rules.all (descOk es) && decide wins.Nodup
      && decide (used.length ≤ 16)

/-- The order that GUARD still serves: OFFICER with LC_CHANGE to RETIRED (16 R359). -/
def guardServes (s : State) (es : List Bytes) : Bool :=
  let e := es.headD []
  let d := descAt e 32
  let b := s.hostMem.read d.addr 51
  fld e 0 2 == 15 && fld e 24 2 == 0x20 && decide (51 ≤ d.len) && fld b 48 2 == 0x10 && b.getD 50 0 == 7

/-- The fetch checks in order (R97): the status of the first that fails. -/
def fetchCheck (s : State) (es : List Bytes) : Option Status :=
  let e := es.headD []
  if !formatOk es then some .badFormat
  else if fld e 16 8 = 2 ^ 64 - 1 then some .operandRange
  else if (descRules ((kindOf (fld e 0 2)).getD .call) (fld e 24 2) (es.length - 1)).any fun r =>
      (ruleDesc es r).len == 0xFFFFFFFF then some .lengthRange
  else if s.rind.guard && !guardServes s es then some .guardActive
  else none

/-! ### Fetch -/

/-- Completion of a fetched order that never became outstanding: both fields zero (R97, R91). -/
def completeRaw (n : BitVec 8) (tag : BitVec 64) (st : Status) (s : State) : State :=
  match s.qp? n with
  | none => s
  | some q => closeQp n (payHalt n (writeCq { q with reserved := q.reserved - 1 } tag st s.press.epoch 0 0 s))

def entryTag (es : List Bytes) : BitVec 64 := BitVec.ofNat 64 (fld (es.headD []) 8 8)

/-- The order its entries spell. -/
def orderOf (s : State) (n : BitVec 8) (es : List Bytes) : Order :=
  let e := es.headD []
  let k := (kindOf (fld e 0 2)).getD .call
  { uid := s.nextUid, qp := n, kind := k, fence := bit (fld e 2 2) 1, session := BitVec.ofNat 32 (fld e 4 4)
    tag := entryTag es, deadline := fld e 16 8, body := sl e 24 40
    descs := (descRules k (fld e 24 2) (es.length - 1)).map (ruleDesc es), st := .held, closeCall := false
    retried := false, epoch := none }

/-- An order whose last entry has arrived: refused by a fetch check, or held for admission. -/
def takeOrder (n : BitVec 8) (es : List Bytes) (s : State) : State :=
  match fetchCheck s es with
  | some st => completeRaw n (entryTag es) st s
  | none => { s with orders := s.orders ++ [orderOf s n es], nextUid := s.nextUid + 1 }

/-- Orders of queue pair n fetched and not admitted. -/
def State.heldOf (s : State) (n : BitVec 8) : Nat := (s.orders.filter fun o => o.qp == n && o.st == .held).length

/-- The queue pair may fetch its next entry (R83, R85). -/
def State.fetchable (s : State) (q : Qp) : Bool :=
  !q.halted && !q.deleting && q.sqHead != q.sqTail
    && (!q.gathered.isEmpty || (q.hasSlot && decide (s.heldOf q.n < 8)))

/-- The next SQ entry fetched: an order, its first entry with extensions to come, or an extension entry (R88). -/
def fetchEntry (q : Qp) (s : State) : State :=
  let e := s.hostMem.read (q.sqBase + 64 * q.sqHead) 64
  let q := { q with sqHead := (q.sqHead + 1) % q.sqD }
  if q.gathered.isEmpty then
    let q := { q with reserved := q.reserved + 1 }
    let k := fld e 0 2
    if bit (fld e 2 2) 0 && (k == 1 || k == 2) then setQp { q with gathered := [e] } s else takeOrder q.n [e] (setQp q s)
  else
    let es := q.gathered ++ [e]
    let s0 := setQp { q with gathered := [], timedOut := false } s
    if fld e 0 2 == 0x000E && bit (fld e 2 2) 0 && decide (es.length ≤ 6) then setQp { q with gathered := es } s
    else if q.timedOut then s0
    else takeOrder q.n es s0

/-- EXTENSION_TIMEOUT (R85): an extension entry is missing after 1 ms. -/
def execExtensionTimeout (qp : BitVec 8) (s : State) : Host.Outcome State Fault Refusal :=
  .next (match s.liveQp qp with
    | some q => if q.gathered.isEmpty || !s.awake then s else haltQp qp 0xFFFFFFFC s
    | none => s)

/-- ADMISSION_DEADLINE (R29): the deadline wins, and the order completes with TIMEOUT; or its admission, within the
guard, is granted, the timeout is withdrawn (02 R27), and the order is a close call. A deadline that expires while
extension entries are awaited wins: the entries still to come belong to no order (R86). -/
def execAdmissionDeadline (qp : BitVec 8) (tag : BitVec 64) (wins : Bool) (s : State) :
    Host.Outcome State Fault Refusal :=
  .next (
    if !s.awake then s
    else
      match s.orders.find? fun o => o.qp == qp && o.tag == tag && o.st == .held && o.deadline != 0 with
      | some o => if wins then refuse o.uid .timeout s else setOrder { o with closeCall := true, deadline := 0 } s
      | none =>
        match s.liveQp qp with
        | some q =>
          if wins && !q.gathered.isEmpty && !q.timedOut && entryTag q.gathered == tag
              && fld (q.gathered.headD []) 16 8 != 0 then
            completeRaw qp tag ((fetchCheck s q.gathered).getD .timeout) (setQp { q with timedOut := true } s)
          else s
        | none => s)

end Sys2Proof.Machine
end

