-- ==== Sys2Proof/Machine/Clock.lean ====
section
/-! DEFINITION. The time alarm (13 R278). -/

namespace Sys2Proof.Machine

/-- When the seconds of T reach or pass a non-zero alarm, source 266 is raised once and TM_ALARM becomes 0. -/
def checkAlarm (s : State) : State :=
  if s.time.alarm != 0 && decide (s.time.alarm ≤ s.time.t / second) then
    raise 266 { s with time := { s.time with alarm := 0 } }
  else s

/-- A write of TM_ALARM, bits 47:0; a second already passed raises the alarm at once. -/
def alarmWrite (v : Nat) (s : State) : State :=
  checkAlarm { s with time := { s.time with alarm := v % 2 ^ 48 } }

end Sys2Proof.Machine
end

