-- ==== Sys2Proof/Machine/Derive.lean ====
section
/-! DEFINITION. The key tree (03, Derivation). -/

namespace Sys2Proof.Machine

/-- A child root: KMAC256 of 256 bits with the customisation "JEXVOR KEY TREE". -/
def kdf (parent : Bytes) (x : Bytes) : Bytes := Config.kmac parent x 256 (ascii "JEXVOR KEY TREE")

/-- Label of a state root. -/
def Lifecycle.label : Lifecycle → Bytes
  | .manufacture => ascii "MANUFACTURE"
  | .issued => ascii "ISSUED"
  | .service => ascii "SERVICE"
  | .recovery => ascii "RECOVERY"
  | .test => ascii "TEST"
  | .retired => []

/-- The domain root of the state given. -/
def domainRoot (s : State) (l : Lifecycle) (domain : String) : Bytes := kdf (kdf (rootOf s) l.label) (ascii domain)

/-- A per-object key: label, one zero byte, the object index as 4 bytes. -/
def objectKey (parent : Bytes) (label : String) (index : Nat) : Bytes :=
  kdf parent (ascii label ++ [0] ++ le index 4)

/-- The transport key pair's private parts under a TRANSPORT domain root: ECDH P-384 and ML-KEM-1024 (R49). -/
def transportEc (dom : Bytes) : Bytes :=
  scalarOf (Config.kmac dom (ascii "TRANSPORT-P384") 512 (ascii "JEXVOR KEY TREE"))
def transportKem (dom : Bytes) : Bytes := Config.kmac dom (ascii "TRANSPORT-MLKEM1024") 512 (ascii "JEXVOR KEY TREE")

/-- The certificate request: bytes 0 to 4,407 of the certificate, key index and issue time zero (03, Identity). -/
def certRequest (root : Bytes) : Bytes :=
  let dom := kdf (kdf root (ascii "SERVICE")) (ascii "TRANSPORT")
  let ids := identityKeys root
  ascii "JXCT" ++ le 1 2 ++ le 9131 2 ++ identityOf root ++ le 0x8800 2 ++ [0x11, 0] ++ zeros 12 ++ ids.take 97
    ++ zeros 7 ++ ids.drop 97 ++ fit (Config.pkPublic 0x0503 (transportKem dom)) 1568
    ++ fit (Config.pkPublic 0x0402 (transportEc dom)) 97 ++ zeros 7

/-- The state whose root gives the WELT and TRANSPORT domains (R47). -/
def State.sharedState (s : State) : Lifecycle := if s.vault.lc == .test then .test else .service

end Sys2Proof.Machine
end

