-- ==== Sys2Proof/Machine/Seals.lean ====
section
/-! DEFINITION. Books, seals, wheels and time tokens (13), and outcomes that wait for the twin (17 R376). -/

namespace Sys2Proof.Machine

/-! ### Outcomes and the twin -/

/-- An order whose result is fixed now but completes later carries the epoch current now (R22). -/
def fixEpoch (ref : Ref) (s : State) : State :=
  match ref with
  | .order uid => if ((s.order? uid).bind (·.epoch)).isSome then s else noteEpoch ref s.press.epoch s
  | _ => s

/-- An outcome with its outputs: at once, or on a SYNC lead once the twin has acknowledged the frame that mirrors it
(R376). Its busy token touches the ranges `rs`. -/
def settleOn (rs : List Range) (ref : Ref) (st : Status) (count v : Nat) (outs : List (Dst × Bytes)) (s : State) : State :=
  match (if s.syncLead then s.lastUnacked else none) with
  | some q =>
    let w : WeltWait := ⟨q, false, outs, .none, ref, st, v, count, v, rs, false⟩
    let s := fixEpoch ref s
    { s with welt := { s.welt with waits := s.welt.waits ++ [w] } }
  | none => finish ref st count v (writeOuts ref outs s)

def settle (ref : Ref) (st : Status) (count v : Nat) (outs : List (Dst × Bytes)) (s : State) : State :=
  settleOn [] ref st count v outs s

/-- A request forwarded to the lead (R378): its outcome is awaited under the frame's sequence. -/
def forward (ref : Ref) (dst : Dst) (s : State) (rs : List Range := []) : State :=
  let w : WeltWait := ⟨s.welt.txSeq, true, [], dst, ref, .ok, 0, 0, 0, rs, false⟩
  weltSend 0x20 { s with welt := { s.welt with waits := s.welt.waits ++ [w] } }

/-- Card writes of the frame behind `r` whose presses have not yet reached the Press (R150). -/
def State.cardWritesOf (s : State) (r : Ref) : List Ref :=
  match r with
  | .token c f uid _ | .instr c f uid _ _ =>
    ((s.cards.ch.toList.map (·.queue)).flatten.filter fun q =>
      q.kind == .write && q.phase != .press && q.phase != .home && q.phase != .applied &&
        (match q.ref with
          | .token c' f' u _ => c' == c && f' == f && u == uid
          | _ => false)).map (·.ref)
  | _ => []

/-- A card write's press reaches the Press ahead of the presses of its frame that wait behind it (R150, R156; 15
R340). -/
def enqueueAhead (p : Press) (s : State) : State :=
  let q := s.press.queue
  let n := (findIx (fun (x : Press) => x.behind.contains p.origin) q).getD q.length
  { s with press := { s.press with queue := q.take n ++ p :: q.drop n } }

/-- A press handed over by a frame: committed here, forwarded to the lead, or refused on a stale follower or under
debug (R60, R378, R381). -/
def pressFrom (p : Press) (s : State) : State :=
  if s.staleFollower || s.debugBars then
    finish p.origin .lifecycle 0 0 { s with press := { s.press with bufUsed := s.press.bufUsed - p.reserve } }
  else if s.syncFollower then
    forward p.origin .none { s with press := { s.press with bufUsed := s.press.bufUsed - p.reserve } }
  else enqueue { p with behind := s.cardWritesOf p.origin } s

/-! ### Layouts (13) -/

def Head.bytes (h : Head) : Bytes :=
  le h.c 8 ++ fit h.h 32 ++ le h.t 12 ++ le h.u 4 ++ le h.w 8 ++ le h.first 8 ++ le h.lastPressed 8 ++ le h.pressedNo 8
    ++ le h.gen 4 ++ le (b2n h.gap) 4 ++ zeros 32

def BookSt.code : BookSt → Nat
  | .closed => 0
  | .opened => 1
  | .halted => 2

def Book.config (k : Book) : Bytes :=
  le k.n 4 ++ le k.slot 2 ++ le k.arch 1 ++ le k.st.code 1 ++ le k.gen 4 ++ zeros 4 ++ fit k.label 16 ++ zeros 32

/-- Receipt bytes 0 to 79. -/
def receiptHead (magic : String) (book flags gen len n t u w : Nat) (d : Bytes) : Bytes :=
  ascii magic ++ le 1 2 ++ le book 1 ++ le flags 1 ++ le gen 4 ++ le len 4 ++ le n 8 ++ le t 12 ++ le u 4 ++ le w 8
    ++ fit d 32

/-- The per-book tag key K_{b,g} (R295). -/
def sealKey (s : State) (b g : Nat) : Bytes :=
  objectKey (domainRoot s s.vault.lc "SEAL") "SEAL-TAG" (b + 64 * g)

/-- Chain value over receipt bytes 0 to 79, and the whole receipt with its tag (R295). -/
def chainAndTag (s : State) (b g : Nat) (prev r80 : Bytes) : Bytes × Bytes :=
  let h := Config.sha3 (prev ++ r80)
  (h, r80 ++ fit h 32 ++ fit (Config.kmac (sealKey s b g) (r80 ++ fit h 32) 128 (ascii "JEXVOR SEAL")) 16)

/-- H_0 of a generation (R293). -/
def genesisH (s : State) (b g : Nat) (p : Bytes) : Bytes :=
  Config.sha3 (ascii "JEXVOR BOOK" ++ s.identity ++ le b 1 ++ le g 4 ++ fit p 32)

/-- The counters the merged wheel covers hold those of a gap record (R299, R300). -/
def Book.gapHeld (k : Book) : Bool :=
  k.head.gap || k.gapRec.elim false fun r => fld r 8 4 == k.gen && decide (k.head.lastPressed < fld r 16 8)

/-- The wheel message (R297). -/
def wheelMsg (b : Nat) (k : Book) (merged final : Bool) (no covered lastCtr : Nat) : Bytes :=
  let gap := if merged then k.gapHeld else k.head.gap
  ascii "JXWH" ++ le b 1 ++ le (b2n gap + 2 * b2n merged + 4 * b2n final) 1 ++ zeros 2 ++ le k.gen 4
    ++ le covered 4 ++ le lastCtr 8 ++ le no 8 ++ fit k.head.h 32

/-! ### Use of a slot by the device itself -/

/-- The checks of R162 and R166 on the wheel slot, without a use (R294, R296). -/
def sealSlotCheck (s : State) (n : Nat) : Except Status Slot :=
  match s.slotCheck .device n needSeal 0 with
  | .error e => .error e
  | .ok k =>
    match s.spent k with
    | some st => .error st
    | none => .ok k

/-- The wheel message goes to the lanes for its signature, a use of the wheel slot (R297), once no update press is open on
that slot (01 R21). Where the use is refused, or no lane or no noise source is healthy (R16, R248), the wheel stays
unsigned, and so unpressed. -/
def signWheel (b slot : Nat) (msg : Bytes) (s : State) : State :=
  if !s.lanesOk || !s.drbgOk || s.slotOpen slot then s else
  match useSlot .device slot needSeal 0 false s with
  | .got k _ s => laneAdmit (hybridJob (.wheel b) 1 (2 + b) k msg [] .none (.wheelSig b msg) 0) s
  | .no _ s => s
  | .wait s => s

/-- The message is at the lanes. -/
def State.signing (s : State) (b : Nat) (msg : Bytes) : Bool := s.eng.lanes.jobs.any fun j => j.fin == .wheelSig b msg

/-- The unsigned wheels of book b that are not at the lanes go there, in order. -/
def signWheels (b : Nat) (s : State) : State :=
  (s.book b).wheels.foldl (fun s w =>
    if w.signed.isSome || s.signing b w.msg then s else signWheel b (s.book b).slot w.msg s) s

/-- The book with its open wheel closed after its last counter (R297): the wheel joins the unpressed ones, and the head
passes to the next wheel. N, slot and archive given by BOOK_CONFIG apply from here. -/
def Book.shut (b : Nat) (k : Book) (merged final : Bool) (no covered : Nat) : Book :=
  let last := k.head.c
  { k with
    wheels := k.wheels ++ [⟨wheelMsg b k merged final no covered last, no, last, none, false, k.arch⟩]
    head := { k.head with w := no + 1, first := last + 1, gap := false }
    n := k.nextN.getD k.n, nextN := none }

/-- Closing the book would close a wheel: it is open and its open wheel holds a seal. A halted book has
lost its head, and with it the wheel (R293). -/
def Book.closes (k : Book) : Bool := k.st == .opened && decide (k.head.first ≤ k.head.c)

/-- A wheel closed by itself, a change of the head in the Brine (12 R267), and its message on its way to the lanes. -/
def closeWheel (b : Nat) (merged final : Bool) (no covered : Nat) (s : State) : State :=
  let k := s.book b
  signWheel b k.slot (wheelMsg b k merged final no covered k.head.c)
    (mirrorBrine (putBook b (k.shut b merged final no covered) s))

/-- The merged wheels of R299, at a start and at a return to SERVICE: one for every open book whose pressed wheel number
is below w − 1, and for those in `gaps`. In RECOVERY no wheel closes (03, Changing state). -/
def mergeWheels (gaps : List Nat) (s : State) : State :=
  if s.vault.lc != .service || s.debugOn then s
  else
    (List.range 64).foldl (fun s b =>
      let k := s.book b
      if k.st == .opened && k.wheels.isEmpty && decide (k.head.lastPressed < k.head.c)
          && (decide (k.head.pressedNo + 1 < k.head.w) || gaps.contains b) then
        closeWheel b true false (k.head.pressedNo + 1) (k.head.c - k.head.lastPressed) s
      else s) s

/-- The gap record of book b for an incomplete save or a Brine error, cause 0 or 1 (R300): 2^20 counters passed over,
the open wheel's gap flag set. -/
def writeGap (b cause : Nat) (s : State) : State :=
  let s := sampleTime s
  let k := s.book b
  if k.st == .halted then s
  else
    let a := k.head.c + 1
    let t := max k.head.t s.time.t
    let r80 := receiptHead "JXGP" b (16 + 32 * cause + 2 * b2n (!s.time.qualified) + 4 * b2n s.time.qualified
      + 8 * b2n s.time.timeSet) k.gen (2 ^ 20) a t s.time.unc k.head.w (zeros 32)
    let (h, rec) := chainAndTag s b k.gen k.head.h r80
    let head := { k.head with c := min (2 ^ 64 - 1) (a + 2 ^ 20 - 1), h := h, t := t, u := s.time.unc, gap := true }
    let pend := if k.arch < 3 then k.pend ++ [(2, k.gen, rec)] else k.pend
    let k := { k with head := head, gapRec := some rec, pend := pend }
    if s.bankRetired 0 then setBook b { k with dist := k.dist + 1 } s else wakeBank 0 (setBook b k.makeDurable s)

/-! ### Seals (R295, R296) -/

/-- R296: the status of the first condition that refuses a seal. -/
def sealRefused (s : State) (b : Nat) : Option Status :=
  let k := s.book b
  if k.st == .closed then some .operandRange
  else if k.st == .halted then some .faultPermanent
  else
    match sealSlotCheck s k.slot with
    | .error e => some e
    | .ok _ =>
      if !s.keyedOk || !s.lanesOk then some .noHealthyChannel
      else if k.head.c ≥ 2 ^ 64 - 1 then some .operandRange
      else if s.stuckBook { k with head := { k.head with c := k.head.c + 1 } } then some .faultPermanent
      else none

/-- The seal waits: it would close a seventeenth unpressed wheel, or a merged wheel is not yet pressed (R298, R299). -/
def sealWaits (s : State) (b : Nat) : Bool :=
  let k := s.book b
  let closes := decide (k.head.c + 1 - k.head.first + 1 ≥ k.n)
  (closes && decide (k.wheels.length ≥ 16)) || k.wheels.any fun w => bit (fld w.msg 5 1) 1

/-- T and U of a chain element: a lead behind the head's T stamps the head's T and adds the difference to U (R385). -/
def sealTime (s : State) (k : Book) : Nat × Nat :=
  if s.time.t < k.head.t then
    (k.head.t, min 0xFFFFFFFF (s.time.unc + ((k.head.t - s.time.t) * 1000000000 + (second - 1)) / second))
  else (s.time.t, s.time.unc)

/-- Receipt flags 1 to 3: HOLDOVER, REFOSC, TIME_SET. -/
def TimeBase.sealFlags (t : TimeBase) : Nat := 2 * b2n (!t.qualified) + 4 * b2n t.qualified + 8 * b2n t.timeSet

/-- One seal (R295): the receipt, its counter, and the state with the new head; the N-th seal closes the wheel. The
posting's digest, the chain value and the tag, which is keyed, are segments of a hash core (10 R216, R225). -/
def doSeal (b : Nat) (posting : Bytes) (s : State) : Bytes × Nat × State :=
  let s := sampleTime (ownSegs true 1 (digestSegs 136 posting.length + 2) s)
  let k := s.book b
  let (t, u) := sealTime s k
  let n := k.head.c + 1
  let covered := n - k.head.first + 1
  let closes := decide (covered ≥ k.n)
  let r80 := receiptHead "JXRC" b (b2n closes + s.time.sealFlags) k.gen posting.length n t u k.head.w
    (Config.sha3 posting)
  let (h, receipt) := chainAndTag s b k.gen k.head.h r80
  let k := { k with head := { k.head with c := n, h := h, t := t, u := u } }
  if closes then (receipt, n, closeWheel b false false k.head.w covered (setBook b k s))
  else (receipt, n, mirrorBrine (putBook b k s))

/-- A seal refused by the record of the wheel slot is a fault of its row (08 R162). -/
def sealFault (b : Nat) (st : Status) (s : State) : State :=
  if (s.book b).st == .opened then slotRefused (s.book b).slot st s else s

/-- Seals of Yehepel code that waited run on, in order, while nothing keeps them waiting (01 R21; R298). -/
def drainSeals (b : Nat) (s : State) : State :=
  ((s.book b).waiting).foldl (fun s w =>
    if ((s.book b).waiting.head?) != some w || sealWaits s b || s.slotOpen (s.book b).slot then s
    else
      let s := setBook b { s.book b with waiting := (s.book b).waiting.drop 1 } s
      let s := wakeOwn true 8 s
      match sealRefused s b with
      | some st => finish w.ref st 0 0 (sealFault b st s)
      | none =>
        let (r, n, s) := doSeal b w.posting s
        settleOn w.ranges w.ref (if w.retried then .okRetried else .ok) 128 n [(w.dst, r)] s) s

/-- The books whose wheel slot no update press is open on any more go on: seals that waited, and wheels to be signed
(01 R21). -/
def resumeBooks (before s : State) : State :=
  (List.range 64).foldl (fun s b =>
    if before.slotOpen (before.book b).slot && !s.slotOpen (s.book b).slot then drainSeals b (signWheels b s) else s) s

/-! ### Time tokens (R292) -/

/-- The 128-byte token message. -/
def tokenMsg (s : State) (id data : Bytes) (slot : Nat) : Bytes :=
  ascii "JXTT" ++ le 1 2 ++ le 4851 2 ++ s.identity ++ fit id 8 ++ timeBytes s.time.t ++ le s.time.unc 4
    ++ le s.press.epoch 8 ++ le slot 2 ++ le (s.time.stat % 64) 1 ++ le data.length 1 ++ zeros 4 ++ fit data 64

/-- Eight bytes of the DRBG as a token identifier, never 0. -/
def tokenId (raw : Bytes) : Bytes := if allZero raw then le 1 8 else raw

/-- A time token asked for by `ref` over the data, to be written at `dst`, in the class of its order (R138); its busy
token touches the ranges `rs`, and its outcome carries the value v. -/
def timeToken (ref : Ref) (cls : BitVec 2) (rs : List Range) (data : Bytes) (dst : Dst) (v : Nat) (s : State) : State :=
  if s.debugOn then finish ref .lifecycle 0 0 s
  else
    match s.time.cfg.slot with
    | none => finish ref .keyEmpty 0 0 s
    | some n =>
      if !s.drbgOk || !s.lanesOk then finish ref .noHealthyChannel 0 0 s
      else
        match useSlot .device n needSeal 0 false s with
        | .no st s => finish ref st 0 0 s
        | .wait s => s
        | .got k _ s =>
          let (raw, s) := s.drbgBytes 8
          let s := sampleTime s
          let id := tokenId raw
          let msg := tokenMsg s id data n
          let e : TokenEntry := ⟨id, s.time.t, s.time.a, s.time.slewTotal⟩
          laneAdmit { hybridJob ref cls 1 k msg msg dst (.token e) v with ranges := rs } s

end Sys2Proof.Machine
end

