-- ==== Sys2Proof/Machine/System.lean ====
section
/-! DEFINITION. System words, handles, TRET, WAITI and the run limit (06). -/

namespace Sys2Proof.Machine

/-! ### System words -/

/-- How a mode reaches a system word: not at all, reading only, reading and writing. -/
inductive Reach where
  | denied | ro | rw
  deriving DecidableEq, Repr

/-- The access column of word n for a mode; none where no chapter defines the number (R109). -/
def wordReach (n : Nat) (m : Mode) : Option Reach :=
  if n = 0 ∨ n = 1 ∨ n = 2 ∨ n = 0x10 ∨ (0x100 ≤ n ∧ n ≤ 0x104) ∨ (0x110 ≤ n ∧ n ≤ 0x12F) ∨ n = 0x300 ∨ n = 0x301
      ∨ n = 0x401 ∨ n = 0x600 then some .ro
  else if n = 0x105 ∨ (0x130 ≤ n ∧ n ≤ 0x13F) ∨ (0x310 ≤ n ∧ n ≤ 0x317) then some .rw
  else if 0x200 ≤ n ∧ n ≤ 0x202 then some (if m == .s then .rw else .denied)
  else if n = 0x400 then some (if m == .j then .denied else .rw)
  else if n = 0x500 then some (if m == .s then .ro else .denied)
  else if 0x501 ≤ n ∧ n ≤ 0x503 then some (if m == .s then .rw else .denied)
  else none

/-- Order kinds as the work-order entry codes them (05). -/
def OKind.code : OKind → Nat
  | .call => 1
  | .run => 2
  | .sector => 3
  | .seal => 4
  | .openS => 5
  | .closeS => 6
  | .park => 7
  | .unpark => 8
  | .admin => 15

/-- Banks with a write in progress, bit b for bank b (12 R253). -/
def State.busyMask (s : State) : Nat := ((List.range 4).map fun b => b2n (s.bankBusy b) * 2 ^ b).sum

/-- PR_STAT (12). -/
def State.prStat (s : State) : Nat :=
  s.press.log.length * 2 ^ 40 + b2n s.press.half1 * 2 ^ 33 + b2n s.press.half0 * 2 ^ 32
    + b2n (s.brine.mode == .writeThrough) * 2 ^ 16 + s.bankMask * 2 ^ 8 + s.busyMask

def WMode.code : WMode → Nat
  | .detached => 0
  | .sync => 1
  | .copying => 2

/-- WL_STAT (17). -/
def State.wlStat (s : State) : Nat :=
  let w := s.welt
  w.term.toNat * 2 ^ 32 + s.laneMask * 2 ^ 16
    + b2n ((w.role == .lead && w.lease) || (w.role == .follower && w.granted)) * 2 ^ 12 + b2n w.stale * 2 ^ 11
    + b2n w.forked * 2 ^ 10 + w.role.code * 2 ^ 6 + w.mode.code * 2 ^ 2 + b2n w.link * 2 + b2n (w.role != .unpaired)

/-- PR_PARTn: ORIGIN in bits 10:8, PROTECT in bits 1:0. -/
def State.partWord (s : State) (p : Nat) : Nat :=
  ((s.part p).origin.elim 0 Lifecycle.code) * 2 ^ 8 + (s.part p).protect

/-- The value a read of word n returns. -/
def wordValue (s : State) (c : Nat) (fr : Fr) (n : Nat) : Nat :=
  let w := vget fr.windows (n % 16) none
  if n = 0 then c
  else if n = 1 then fr.mode.code
  else if n = 2 then fr.icount
  else if n = 0x10 then s.lcStatus
  else if n = 0x100 then fr.kind.code
  else if n = 0x101 then fr.tag.toNat
  else if n = 0x102 then fr.session.toNat
  else if n = 0x103 then (if fr.kind == .call then fr.applet * 2 ^ 32 + fr.entry else 0)
  else if n = 0x104 then fr.cls.toNat
  else if n = 0x105 then fr.odBytes.toNat
  else if 0x110 ≤ n ∧ n ≤ 0x11F then w.elim 0 (·.len)
  else if 0x120 ≤ n ∧ n ≤ 0x12F then w.elim 0 fun w => b2n w.rd + 2 * b2n w.wr
  else if 0x130 ≤ n ∧ n ≤ 0x13F then vget fr.slides (n % 16) 0
  else if n = 0x200 then s.tp.cause.toNat
  else if n = 0x201 then s.tp.pc.toNat
  else if n = 0x202 then s.tp.addr.toNat
  else if n = 0x300 then s.prStat
  else if n = 0x301 then s.press.epoch
  else if 0x310 ≤ n ∧ n ≤ 0x317 then s.partWord (n - 0x310)
  else if n = 0x400 then s.time.alarm
  else if n = 0x401 then s.time.stat
  else if n = 0x502 then b2n s.ev.gdisT0
  else if n = 0x600 then s.wlStat
  else 0

/-- SWR (R109): d := the word. A read of EV_CLAIM claims (R316); a word that is write only reads zero. -/
def execSwr (c : Fin 9) (d : BitVec 5) (n : BitVec 19) (s : State) : Host.Outcome State Fault Refusal :=
  .next (runInstr c 1 s fun _ fr =>
    match wordReach n.toNat fr.mode with
    | none => .trap .illegal 0
    | some .denied => .trap .privileged 0
    | some _ =>
      if n = 0x500 then
        let (v, s) := claimRead false s
        .wr fr d (BitVec.ofNat 64 v) s
      else .wr fr d (BitVec.ofNat 64 (wordValue s c fr n.toNat)) s)

/-- A write of PR_PARTp (R256): refused with ACCESS, without effect, or a press of one item that the instruction
waits for. -/
def partWrite (c f : Nat) (fr : Fr) (p : Nat) (v : Word) (s : State) : IRes :=
  let cur := (s.part p).protect
  let lvl := (v.extractLsb' 0 2).toNat
  let clr := v.getLsbD 16
  let full := (List.range 1024).all fun pg => s.granted c fr (0x10 + p) pg (some 1)
  if s.debugOn || !s.serving || s.bankRetired (p / 2) then .trap .access 0
  else if fr.mode == .a && !full then .trap .access 0
  else if clr && (lvl != cur || cur != 0) then .trap .access 0
  else if decide (lvl < cur) && (s.vault.lc != .recovery || fr.mode == .j) then .trap .access 0
  else if !clr && lvl == cur then .ok fr s id
  else
    let it : PItem := if clr then .clearPart p else if cur < lvl then .protect p lvl else .unprotect p lvl
    let press := { Press.of [it] (.instr c f fr.uid 0 none) with core := c }
    .keep (pressFrom press (setFrame c f (some { fr with pressing := true }) s))

/-- A write of word n with v, where the mode may write it. -/
def wordWrite (c f : Nat) (fr : Fr) (n : Nat) (v : Word) (s : State) : IRes :=
  if n = 0x105 then .ok { fr with odBytes := v.extractLsb' 0 32 } s id
  else if 0x130 ≤ n ∧ n ≤ 0x13F then
    if 9 < v.toNat then .trap .access 0
    else
      .ok { fr with slides := vset fr.slides (n - 0x130) v.toNat } s id
  else if n = 0x200 then .ok fr { s with tp := { s.tp with cause := v &&& 0x000000FFFFFFFFFF } } id
  else if n = 0x201 then .ok fr { s with tp := { s.tp with pc := v } } id
  else if n = 0x202 then .ok fr { s with tp := { s.tp with addr := v } } id
  else if 0x310 ≤ n ∧ n ≤ 0x317 then partWrite c f fr (n - 0x310) v s
  else if n = 0x400 then .ok fr s (alarmWrite v.toNat)
  else if n = 0x501 then .ok fr s (completeWrite false v.toNat)
  else if n = 0x502 then .ok fr s (gdisWrite false (v.getLsbD 0))
  else if n = 0x503 then .ok fr s (ringWrite v.toNat)
  else .trap .access 0

/-- SWW checks of R109, then the write. -/
def swwRes (c f : Nat) (fr : Fr) (n : Nat) (v : Word) (s : State) : IRes :=
  match wordReach n fr.mode with
  | none => .trap .illegal 0
  | some .denied => .trap .privileged 0
  | some .ro => .trap .access 0
  | some .rw => wordWrite c f fr n v s

/-- SWW (R109). -/
def execSww (c : Fin 9) (d : BitVec 5) (n : BitVec 19) (s : State) : Host.Outcome State Fault Refusal :=
  .next (runInstr c 1 s fun f fr => swwRes c f fr n.toNat (fr.reg d) s)

/-- PR_PART_CLEAR: an SWW to PR_PARTp whose value has CLEAR set (R256). -/
def execPrPartClear (c : Fin 9) (d : BitVec 5) (p : Fin 8) (s : State) : Host.Outcome State Fault Refusal :=
  .next (runInstr c 1 s fun f fr => partWrite c f fr p (fr.reg d ||| 0x10000) s)

/-- PR_PART_PROTECT: an SWW to PR_PARTp whose value has CLEAR 0 (R256). -/
def execPrPartProtect (c : Fin 9) (d : BitVec 5) (p : Fin 8) (s : State) : Host.Outcome State Fault Refusal :=
  .next (runInstr c 1 s fun f fr => partWrite c f fr p (fr.reg d &&& ~~~(0x10000 : Word)) s)

/-- TM_ALARM_WRITE: an SWW to TM_ALARM (R278). -/
def execTmAlarmWrite (c : Fin 9) (d : BitVec 5) (s : State) : Host.Outcome State Fault Refusal :=
  .next (runInstr c 1 s fun f fr => swwRes c f fr 0x400 (fr.reg d) s)

/-! ### Handles -/

/-- HBIND's object of type `ty` and number n, or the status of the first condition that fails (R124). -/
def bindObject (s : State) (c : Nat) (fr : Fr) (ty n : Nat) : Except Status Handle :=
  let have_ (ok : Bool) (h : Handle) : Except Status Handle := if ok then .ok h else .error .operandRange
  match ty with
  | 0 => .ok .empty
  | 1 =>
    if s.debugOn then .error .lifecycle
    else if !(Rq.ofMode fr.mode).reaches s.active n then .error .keyAttr
    else if 16383 < n then .error .operandRange
    else if (s.liveSlot n).isNone then .error .keyEmpty
    else .ok (.keySlot n)
  | 2 => have_ (n == 0 && (s.session fr.session).isSome) .session
  | 3 => have_ (decide (n ≤ 7)) (.operand n)
  | 4 => have_ (decide (n ≤ 1023) && s.granted c fr 4 n none && s.volumeExists n) (.volume n)
  | 5 => have_ (decide (n ≤ 3) && s.granted c fr 5 n none) (.channel n)
  | 6 => have_ (decide (n ≤ 1023) && s.granted c fr 6 n none) (.counter n)
  | 7 => have_ (decide (n ≤ 63) && s.granted c fr 7 n none) (.book n)
  | _ => have_ (decide (n ≤ 15) && (vget fr.windows n none).isSome) (.window n)

/-- A handle register's number; none for 16 and above, which is ILLEGAL (R119). -/
def handleNo (r : BitVec 5) : Option (BitVec 4) := if r.toNat < 16 then some (r.extractLsb' 0 4) else none

/-- HBIND (R124): the status to g b; h d is bound only where it is OK. -/
def execHbind (c : Fin 9) (d a b : BitVec 5) (ty : BitVec 4) (s : State) : Host.Outcome State Fault Refusal :=
  .next (runInstr c 1 s fun _ fr =>
    match handleNo d with
    | none => .trap .illegal 0
    | some h =>
      if 8 < ty.toNat then .trap .illegal 0
      else
        match bindObject s c fr ty.toNat (fr.reg a).toNat with
        | .ok o => .ok ((fr.setHnd h o).setReg b (BitVec.ofNat 64 Status.ok.code)) s id
        | .error st => .wr fr b (BitVec.ofNat 64 st.code) s)

/-- HCLR: h d := empty. -/
def execHclr (c : Fin 9) (d : BitVec 5) (s : State) : Host.Outcome State Fault Refusal :=
  .next (runInstr c 1 s fun _ fr =>
    match handleNo d with
    | none => .trap .illegal 0
    | some h => .ok (fr.setHnd h .empty) s id)

/-- HMOV: h d := h a. -/
def execHmov (c : Fin 9) (d a : BitVec 5) (s : State) : Host.Outcome State Fault Refusal :=
  .next (runInstr c 1 s fun _ fr =>
    match handleNo d, handleNo a with
    | some h, some k => .ok (fr.setHnd h (fr.hnd k)) s id
    | _, _ => .trap .illegal 0)

/-- Type and object number of a handle, as HTYPE shows them. -/
def Handle.word : Handle → Nat
  | .empty => 0
  | .keySlot n => 1 + n * 256
  | .session => 2
  | .operand n => 3 + n * 256
  | .volume n => 4 + n * 256
  | .channel n => 5 + n * 256
  | .counter n => 6 + n * 256
  | .book n => 7 + n * 256
  | .window n => 8 + n * 256

/-- HTYPE: g d := bits 3:0 type, bits 39:8 object number of h a (R107). -/
def execHtype (c : Fin 9) (d a : BitVec 5) (s : State) : Host.Outcome State Fault Refusal :=
  .next (runInstr c 1 s fun _ fr =>
    match handleNo a with
    | none => .trap .illegal 0
    | some h => .wr fr d (BitVec.ofNat 64 (fr.hnd h).word) s)

/-! ### Privileged instructions and the run limit -/

/-- TRET: return from a supervisor trap to TP_PC, in S mode only; pc stays a multiple of 4. -/
def execTret (c : Fin 9) (s : State) : Host.Outcome State Fault Refusal :=
  .next (runInstr c 1 s fun _ fr =>
    if fr.mode == .s then
      .jump fr (s.tp.pc.extractLsb' 0 32 &&& 0xFFFFFFFC) s else .trap .privileged 0)

/-- WAITI: the core waits until a T0 source is asserted while DISABLE of T0 is 0 (R316); S mode only. -/
def execWaiti (c : Fin 9) (s : State) : Host.Outcome State Fault Refusal :=
  .next (runInstr c 1 s fun _ fr =>
    if fr.mode == .s then .ok fr s fun s => wakeT0 (setCore c { s.core c with waiti := true } s)
    else .trap .privileged 0)

/-- RUN_LIMIT (R111; 02 R27): the limit of a frame that has one is reached. An EXIT within the guard is granted, and the
timeout withdrawn: one already executed, or the next instruction of the frame that runs, which must then be that EXIT.
Otherwise the expiry is granted, and traps (log 8). An order whose EXIT came before the expiry has met its limit. -/
def execRunLimit (c : Fin 9) (fr : Fin 4) (wins : Bool) (s : State) : Host.Outcome State Fault Refusal :=
  .next (match s.frame c fr with
    | none => s
    | some x =>
      if !s.awake || x.runMs = 0 || x.ending.isSome then s
      else if x.exiting.isSome then
        if wins then s else setFrame c fr (some { x with closeCall := true, runMs := 0 }) s
      else if !wins && x.runnable && !x.pressing && (s.core c).running == some fr then
        setFrame c fr (some { x with exitDue := true, closeCall := true, runMs := 0 }) s
      else trap c fr .runLimit 0 s)

end Sys2Proof.Machine
end

