-- ==== Sys2Proof/Machine/PressI.lean ====
section
/-! DEFINITION. Press, counter, time and book instructions (07). -/

namespace Sys2Proof.Machine

/-! ### Open presses -/

def Fr.openPress (fr : Fr) (p : BitVec 2) : Option OpenPress := vget fr.presses p.toNat none

def Fr.setPress (fr : Fr) (p : BitVec 2) (x : Option OpenPress) : Fr :=
  { fr with presses := vset fr.presses p.toNat x }

/-- A status as a register receives it. -/
def stWord (st : Status) : Word := BitVec.ofNat 64 st.code

/-- PROPEN (R147): reserves press-buffer space; waits while the buffer of 1 MiB lacks room. -/
def execPropen (c : Fin 9) (d a : BitVec 5) (p : BitVec 2) (s : State) : Host.Outcome State Fault Refusal :=
  .next (runInstr c 1 s fun _ fr =>
    let n := (fr.reg a).toNat
    if (fr.openPress p).isSome then .trap .illegal 0
    else if n = 0 then .wr fr d (stWord .operandRange) s
    else if 65536 < n then .wr fr d (stWord .pressTooLarge) s
    else if 1048576 < s.press.bufUsed + n then .stall
    else .ok ((fr.setPress p (some ⟨n, 0, [], []⟩)).setReg d (stWord .ok))
      { s with press := { s.press with bufUsed := s.press.bufUsed + n } } id)

/-- An item that consumes `need` of the reserve joins an open press; PRESS_TOO_LARGE leaves the press as it was. -/
def addItem (fr : Fr) (p : BitVec 2) (o : OpenPress) (need : Nat) (items : List PItem) (conds : List (Nat × Word)) :
    Fr × Status :=
  if o.reserve < o.used + need then (fr, .pressTooLarge)
  else (fr.setPress p (some { o with used := o.used + need, items := o.items ++ items, conds := o.conds ++ conds }), .ok)

/-- A Cellar address: partition and offset (07, Presses); none where another bit is set. -/
def cellarAddr (w : Word) : Option (Nat × Nat) :=
  let n := w.toNat
  if n / 2 ^ 35 = 0 ∧ n / 2 ^ 22 % 2 ^ 10 = 0 then some (n / 2 ^ 32, n % 2 ^ 22) else none

/-- Pages 4 KiB of the bytes off to off + len − 1. -/
def pagesOf (off len : Nat) : List Nat := (List.range ((off + len - 1) / 4096 + 1)).filter fun p => decide (off / 4096 ≤ p)

/-- First protected page of a block-protect level (R255). -/
def protectFrom (level : Nat) : Nat :=
  match level with
  | 0 => 1024
  | 1 => 768
  | 2 => 512
  | _ => 0

/-- The pages are under block protection of the level. -/
def underProtect (level : Nat) (pages : List Nat) : Bool := pages.any fun p => decide (protectFrom level ≤ p)

/-- The STORE domain root is not derived (03 R47, R60): a partition's keys do not exist. -/
def State.storeBars (s : State) : Bool :=
  s.debugBars || !(s.vault.lc == .service || s.vault.lc == .recovery || s.vault.lc == .test)

/-- A partition range checked for PRREAD and PRWRITE (R148, R149, R251; 03 R47, R60): a trap cause, a status, or the
range. -/
def partRange (s : State) (c : Nat) (fr : Fr) (addr : Word) (len : Nat) (right : Nat) :
    Except (Cause ⊕ Status) (Nat × Nat) :=
  match cellarAddr addr with
  | none => .error (if fr.mode == .j then .inl .access else .inr .operandRange)
  | some (p, off) =>
    if len = 0 ∨ 65536 < len ∨ 2 ^ 22 < off + len then .error (.inr .operandRange)
    else if fr.mode == .a && !(pagesOf off len).all fun pg => s.granted c fr (0x10 + p) pg (some right) then
      .error (.inl .access)
    else if s.storeBars then .error (.inr .lifecycle)
    else if (s.part p).origin.isSome && (s.part p).origin != some s.vault.lc then .error (.inr .lifecycle)
    else .ok (p, off)

/-- A range of the data region or the session page. -/
def onChip (s : State) (fr : Fr) (a : Word) (len : Nat) (wr : Bool) : Option Range :=
  (s.place fr a.toNat len wr).filter fun r => r.space == spData || r.space == spPage

/-- PRWRITE (R148). -/
def execPrwrite (c : Fin 9) (d a b : BitVec 5) (p : BitVec 2) (s : State) : Host.Outcome State Fault Refusal :=
  .next (runInstr c 1 s fun _ fr =>
    let len := (fr.reg d).toNat
    match fr.openPress p with
    | none => .trap .illegal 0
    | some o =>
      match (if len = 0 ∨ 65536 < len then some ⟨spData, 0, 0, false⟩ else onChip s fr (fr.reg b) len false) with
      | none => .trap .access (fr.reg b).toNat
      | some r =>
        if s.hazard fr.uid [r] then .stall
        else
          match partRange s c fr (fr.reg a) len 1 with
          | .error (.inl cause) => .trap cause (fr.reg a).toNat
          | .error (.inr st) => .wr fr d (stWord st) s
          | .ok (q, off) =>
            if underProtect (s.part q).protect (pagesOf off len) then .wr fr d (stWord .mediaWriteProtected) s
            else
              let (fr, st) := addItem fr p o (roundUp (len + 16) 16) [.write q off (s.readRange c fr r)] []
              .wr fr d (stWord st) s)

/-- PRREAD (R149): committed bytes only. It waits for a record that changes them to be applied (R261); an uncorrectable
group gives FAULT_PERMANENT (R254). -/
def execPrread (c : Fin 9) (d a b : BitVec 5) (s : State) (ecc : Ecc := .good) : Host.Outcome State Fault Refusal :=
  .next (runInstr c 1 s fun f fr =>
    let len := (fr.reg d).toNat
    match (if len = 0 ∨ 65536 < len then some ⟨spData, 0, 0, true⟩ else onChip s fr (fr.reg b) len true) with
    | none => .trap .access (fr.reg b).toNat
    | some r =>
      if s.hazard fr.uid [r] then .stall
      else
        match partRange s c fr (fr.reg a) len 0 with
        | .error (.inl cause) => .trap cause (fr.reg a).toNat
        | .error (.inr st) => .wr fr d (stWord st) s
        | .ok (q, off) =>
          let at_ := partBase q + off
          let woken := groupRead ecc at_ s
          if s.awaits at_ len then .stall
          else if woken.badRange at_ len then .wr fr d (stWord .faultPermanent) (badRead at_ len woken)
          else .ok (fr.setReg d (stWord .ok)) woken (writeDst (dstOf c f fr r) ((s.part q).mem.read off len)))

/-! ### Counters -/

/-- The counter a handle register names: the trap HANDLE where it is empty or of another type, ACCESS where the right
is missing. -/
def counterOf (s : State) (c : Nat) (fr : Fr) (a : BitVec 5) (right : Nat) : Except Cause Nat :=
  match handleNo a with
  | none => .error .illegal
  | some h =>
    match fr.hnd h with
    | .counter n => if s.granted c fr 6 n (some right) then .ok n else .error .access
    | _ => .error .handle

/-- PRCOND: a counter condition joins the press (R147). -/
def execPrcond (c : Fin 9) (d a b : BitVec 5) (p : BitVec 2) (s : State) : Host.Outcome State Fault Refusal :=
  .next (runInstr c 1 s fun _ fr =>
    match fr.openPress p with
    | none => .trap .illegal 0
    | some o =>
      match counterOf s c fr a 0 with
      | .error cause => .trap cause 0
      | .ok n =>
        let (fr', st) := addItem fr p o 32 [] [(n, fr.reg b)]
        .wr fr' d (stWord st) s)

/-- CTRRD (R152): the committed value to d, then the status to b. It waits for a record that changes the counter to be
applied (R261). A lost counter gives FAULT_PERMANENT; the value the
spec then leaves open is a free one (log 4). -/
def execCtrrd (c : Fin 9) (d a b : BitVec 5) (s : State) : Host.Outcome State Fault Refusal :=
  .next (runInstr c 1 s fun _ fr =>
    match counterOf s c fr a 0 with
    | .error cause => .trap cause 0
    | .ok n =>
      if s.awaits (counterAddr n) 32 then .stall
      else match s.counter n with
      | some v => .wr (fr.setReg d (BitVec.ofNat 64 v)) b (stWord .ok) s
      | none =>
        let (v, s) := s.freeNat
        .wr (fr.setReg d (BitVec.ofNat 64 v)) b (stWord .faultPermanent) s)

/-- CTRADD (R152): in a press, an item; at once, a press of one item that the instruction waits for. -/
def execCtradd (c : Fin 9) (d a b : BitVec 5) (inPress : Bool) (p : BitVec 2) (s : State) :
    Host.Outcome State Fault Refusal :=
  .next (runInstr c 1 s fun f fr =>
    let amount := (fr.reg d).toNat
    if inPress && (fr.openPress p).isNone then .trap .illegal 0
    else
      match counterOf s c fr a 1 with
      | .error cause => .trap cause 0
      | .ok n =>
        if amount = 0 ∨ 2 ^ 32 < amount then .wr (fr.setReg d (stWord .operandRange)) b 0 s
        else if inPress then
          match fr.openPress p with
          | none => .trap .illegal 0
          | some o =>
            let (fr', st) := addItem fr p o 32 [.ctrAdd n amount] []
            .wr (fr'.setReg d (stWord st)) b 0 s
        else
          let press := { Press.of [.ctrAdd n amount] (.instr c f fr.uid d (some b)) with core := c }
          .keep (pressFrom press (setFrame c f (some { fr with pressing := true }) s)))

/-- PRCOMMIT (R150): the press closes and its token becomes busy. -/
def execPrcommit (c : Fin 9) (t : BitVec 3) (p : BitVec 2) (s : State) : Host.Outcome State Fault Refusal :=
  .next (runInstr c 1 s fun f fr =>
    match fr.openPress p with
    | none => .trap .illegal 0
    | some o =>
      if fr.tok t != .empty then .trap .illegal 0
      else
        let press := { Press.of o.items (tokRef c f fr t) with conds := o.conds, core := c, reserve := o.reserve }
        .issue (fr.setPress p none) t s (pressFrom press))

/-- PRABANDON (R151): the press is discarded and its reserve released. -/
def execPrabandon (c : Fin 9) (p : BitVec 2) (s : State) : Host.Outcome State Fault Refusal :=
  .next (runInstr c 1 s fun _ fr =>
    match fr.openPress p with
    | none => .trap .illegal 0
    | some o => .ok (fr.setPress p none) { s with press := { s.press with bufUsed := s.press.bufUsed - o.reserve } } id)

/-! ### Time -/

/-- TMSTAMP (R153): T and the uncertainty, sampled once, to 16 bytes of the data region or the session page. -/
def execTmstamp (c : Fin 9) (a : BitVec 5) (imm : BitVec 14) (s : State) : Host.Outcome State Fault Refusal :=
  .next (runInstr c 1 s fun f fr =>
    let ea := fr.reg a + imm.signExtend 64
    if ea.toNat % 8 != 0 then .trap .misaligned ea.toNat
    else
      match onChip s fr ea 16 true with
      | none => .trap .access ea.toNat
      | some r =>
        if s.hazard fr.uid [r] then .stall
        else
          .ok fr s fun s =>
            let s := sampleTime s
            writeDst (dstOf c f fr r) (timeBytes s.time.t ++ le s.time.unc 4) s)

/-- TMTOKEN (R154, R292). -/
def execTmtoken (c : Fin 9) (t : BitVec 3) (s : State) : Host.Outcome State Fault Refusal :=
  .next (engIssue c t s fun s f fr =>
    let n := (fr.reg 17).toNat
    let cap := (fr.reg 19).toNat
    if tooLong (fr.reg 17) 64 || decide (2 ^ 32 ≤ cap) then .refuse c f fr t .lengthRange s
    else
      match s.buffer fr (fr.reg 16) n false, s.buffer fr (fr.reg 18) cap true with
      | some src, some dst =>
        if cap < 4851 then .refuse c f fr t .bufferShort s
        else if s.hazard fr.uid [src, dst] || s.time.cfg.slot.elim false s.slotOpen then .stall
        else
          .issue fr t s (timeToken (tokRef c f fr t) fr.cls [src, dst] (s.readRange c fr src) (dstOf c f fr dst) 0)
      | _, _ => .trap .access (fr.reg 16).toNat)

/-! ### Books -/

/-- The book a handle register names. -/
def bookOf (fr : Fr) (h : BitVec 4) : Option Nat :=
  match fr.hnd h with
  | .book n => some n
  | _ => none

/-- BKISS HEAD (R302): head and configuration, with the value c. -/
def execBkissHead (c : Fin 9) (t : BitVec 3) (h : BitVec 4) (s : State) : Host.Outcome State Fault Refusal :=
  .next (runInstr c 1 s fun f fr =>
    let cap := (fr.reg 19).toNat
    if fr.tok t != .empty then .trap .illegal 0
    else
      match bookOf fr h with
      | none => .trap .handle 0
      | some b =>
        if decide (2 ^ 32 ≤ cap) then .refuse c f fr t .lengthRange s
        else if !s.granted c fr 7 b (some 0) then .trap .access 0
        else
          match s.buffer fr (fr.reg 18) cap true with
          | none => .trap .access (fr.reg 18).toNat
          | some dst =>
            if cap < 192 then .refuse c f fr t .bufferShort s
            else if s.hazard fr.uid [dst] then .stall
            else
              let k := s.book b
              .issue fr t s fun s =>
                finish (tokRef c f fr t) .ok 192 k.head.c
                  (writeOut (tokRef c f fr t) (dstOf c f fr dst) (k.head.bytes ++ k.config) s))

end Sys2Proof.Machine
end

