-- ==== Sys2Proof/Machine/CardOps.lean ====
section
/-! DEFINITION. Card requests on a channel: admission, service, end (15). -/

namespace Sys2Proof.Machine

def State.card (s : State) (c : Nat) : CardCh := vget s.cards.ch c CardCh.absent

def setCard (c : Nat) (k : CardCh) (s : State) : State := { s with cards := { s.cards with ch := vset s.cards.ch c k } }

/-- The contents of a volume sector: zeros where nothing was written (R338). -/
def CardCh.sector (k : CardCh) (n : Nat) : Bytes := ((look n k.disk).map fun b => fit b 4096).getD (zeros 4096)

def CardCh.sectors (k : CardCh) (first count : Nat) : Bytes := ((List.range count).map fun i => k.sector (first + i)).flatten

/-- Card sectors of tag level 0, and of each level above, for S data sectors (R336). -/
def tagSectors (n : Nat) : Nat :=
  let l0 := (n + 255) / 256
  let l1 := (l0 + 127) / 128
  l0 + l1 + (l1 + 127) / 128 + 1

/-- The largest S for which 66,049 + L3 + L2 + L1 + L0 + S ≤ M, found bit by bit from 2^31 down (R336). -/
def dataSectors (m : Nat) : Nat :=
  (List.range 32).foldl (fun best i => if 66049 + tagSectors (best + 2 ^ (31 - i)) + best + 2 ^ (31 - i) ≤ m then best + 2 ^ (31 - i) else best) 0

/-- First card sectors of levels 3, 2, 1, 0 and of the data region, for S data sectors (R336). -/
def levelStarts (n : Nat) : List Nat :=
  let l0 := (n + 255) / 256
  let l1 := (l0 + 127) / 128
  let l2 := (l1 + 127) / 128
  [66049, 66050, 66050 + l2, 66050 + l2 + l1, 66050 + l2 + l1 + l0]

/-- The card sectors of one tag level that lie on the paths of volume sectors first to first + n − 1: the level starts at
`base`, and one of its sectors covers `cover` volume sectors. -/
def levelPath (base cover first n : Nat) : List Nat :=
  (List.range ((first + n - 1) / cover - first / cover + 1)).map fun i => base + first / cover + i

/-- The tag sectors on the path of n sectors, from level 0 up (R338, R340). -/
def journalTags (v : VolRec) (first n : Nat) : List Nat :=
  let st := levelStarts v.sectors
  levelPath (st.getD 3 0) 256 first n ++ levelPath (st.getD 2 0) (256 * 128) first n
    ++ levelPath (st.getD 1 0) (256 * 128 * 128) first n ++ levelPath (st.getD 0 0) (256 * 128 * 128 * 128) first n

/-- The channel with the verified tag sectors given among the 64 it keeps (R338). -/
def CardCh.keep (k : CardCh) (tags : List Nat) : CardCh :=
  { k with kept := (tags ++ k.kept.filter fun x => !tags.contains x).take 64 }

/-- SDR50 and SDR104 are tuned (R326). -/
def tunedMode (m : Nat) : Bool := decide (m = 3 ∨ m = 4)

/-- The head request is in service: card commands are under way. -/
def CardCh.inService (k : CardCh) : Bool := k.queue.head?.elim false fun r => r.phase != .queued && r.phase != .press

/-- A tuning falls due: it runs at once, or at the end of the card command (R328). -/
def CardCh.due (k : CardCh) : CardCh :=
  if k.st == .identified && tunedMode k.mode && k.tune == .good then
    { k with tune := if k.inService then .due else .running }
  else k

/-- A card command has ended: a tuning that is due runs (R328). -/
def CardCh.between (k : CardCh) : CardCh := if k.tune == .due then { k with tune := .running } else k

/-- Tunings that are due: after 60 s of the time base, and after a change of the die temperature by more than 10 °C
(R328). -/
def tuneAll (s : State) : State :=
  let old (k : CardCh) : Bool := decide (k.tunedAt + 60 ≤ s.time.t / second) || decide (10 < (s.cards.dieC - k.tunedC).natAbs)
  { s with cards := { s.cards with ch := s.cards.ch.map fun k => if old k then k.due else k } }

/-- Sectors an archive entry of the kind takes: a wheel record 2, a gap record or a genesis 1 (13). -/
def entrySectors (kind : Nat) : Nat := if kind = 1 then 2 else 1

/-- The 4,800-byte wheel record (13 R297). -/
def wheelRecord (msg sig : Bytes) : Bytes := fit msg 64 ++ fit sig 4723 ++ zeros 13

/-- The archive entries owed with the next wheel of a book: its pending genesis and gap, then the wheel (R301). -/
def archiveRecs (k : Book) : List (Nat × Nat × Bytes) :=
  k.pend ++ match k.wheels with
    | w :: _ => [(1, fld w.msg 8 4, wheelRecord w.msg (w.signed.getD []))]
    | [] => []

/-- The sectors of an append fit the volume. The archive header takes sector 0. -/
def appendFits (v : VolRec) (recs : List (Nat × Nat × Bytes)) : Bool :=
  decide (max 1 v.append + (recs.map fun r => entrySectors r.1).sum ≤ v.sectors)

/-- The request reads or writes volume sectors: cipher and hash work of the device's own at level 2 (R335). -/
def CardReq.keyed (r : CardReq) : Bool :=
  match r.kind with
  | .read | .write | .append _ => true
  | .officerLog _ | .erase _ => false

/-- The first status of R332 that applies to a request about to be served, then the range of R141. Without a cipher
core, a hash core or the DRBG that its level 2 needs there is no healthy channel for it (09 R209, R211; 10 R230). An
officer-log append is refused by the conditions of R347. A volume record whose group is uncorrectable cannot be read
(12 R254). Under the active role an archive volume takes no write of host software or Yehepel code (R322). -/
def cardRefused (s : State) (ch : Nat) (r : CardReq) : Option Status :=
  let k := s.card ch
  let base := [(!s.chanOk (48 + ch) || (r.keyed && !s.deviceCores), .noHealthyChannel),
    (k.st != .identified || !k.present, .mediaGone), (k.locked, .mediaLocked)]
  let vol := [(s.badRange (volumeAddr ch) 128, .faultPermanent), (k.vol.state != 3, .operandRange), (k.vol.origin != s.vault.lc, .lifecycle), (!k.headerOk, .mediaTagFail)]
  match r.kind with
  | .read => firstOfCard (base ++ vol ++ [(decide (k.vol.sectors < r.first + r.count), .operandRange)])
  | .write => firstOfCard (base ++ vol ++ [(s.active.roles.getD ch 0 == 2 || k.csdWp, .mediaWriteProtected),
      (decide (k.vol.sectors < r.first + r.count), .operandRange)])
  | .append b => firstOfCard (base ++ vol ++ [(k.csdWp, .mediaWriteProtected),
      (!appendFits k.vol (archiveRecs (s.book b)), .operandRange)])
  | .officerLog _ => firstOfCard (base ++ [(s.cards.tab || k.csdWp, .mediaWriteProtected),
      (!s.cards.medium.headerOk, .mediaTagFail), (decide (k.m < 1 + 2 * (s.cards.medium.entries + 1)), .operandRange)])
  | .erase _ => firstOfCard (base.take 2)
where
  firstOfCard (l : List (Bool × Status)) : Option Status := (l.find? fun e => e.1).map Prod.snd

/-- A card write has reached the Press, or has ended without: later presses of its frame no longer wait for it. -/
def freeBehind (r : Ref) (s : State) : State :=
  { s with press := { s.press with queue := s.press.queue.map fun p => { p with behind := p.behind.filter (· != r) } } }

/-- The outcome of a card request. A failed append leaves its wheel unpressed; a missed officer-log entry is counted;
the end of an erase raises source 257 + c. -/
def cardOutcome (ch : Nat) (r : CardReq) (st : Status) (count v : Nat) (s : State) : State :=
  let st := if st == .ok then okClass false r.retried r.closeCall else st
  match r.kind with
  | .read => finish r.ref st count v s
  | .write => finish r.ref st count v (freeBehind r.ref s)
  | .append _ => s
  | .officerLog _ =>
    if st.isOk then s
    else { s with cards := { s.cards with medium := { s.cards.medium with missed := s.cards.medium.missed + 1 } } }
  | .erase _ => raise (257 + ch) s

/-- A request that cannot be served is refused; where its volume record cannot be read, that read counts (12 R254). -/
def turnAway (ch : Nat) (r : CardReq) (st : Status) (s : State) : State :=
  cardOutcome ch r st 0 0 (if st == .faultPermanent then badRead (volumeAddr ch) 128 s else s)

/-- The head of the queue leaves it with its outcome. -/
def dropHead (ch : Nat) (st : Status) (count v : Nat) (s : State) : State :=
  let k := s.card ch
  match k.queue with
  | r :: rest => cardOutcome ch r st count v (setCard ch { k with queue := rest } s)
  | [] => s

/-- The volume sectors a request writes: the first, and how many. -/
def CardReq.extent (r : CardReq) (s : State) (ch : Nat) : Nat × Nat :=
  match r.kind with
  | .append b =>
    let n := ((archiveRecs (s.book b)).map fun e => entrySectors e.1).sum
    let v := (s.card ch).vol
    if v.append = 0 then (0, n + 1) else (v.append, n)
  | _ => (r.first, r.count)

/-- The first step of a request. A write whose path lies in verified tag sectors that are kept reads none of them again
(R338). -/
def cardPhaseOf (s : State) (ch : Nat) (r : CardReq) : CardPhase :=
  match r.kind with
  | .read => .read
  | .write | .append _ =>
    let (first, n) := r.extent s ch
    let k := s.card ch
    if (journalTags k.vol first n).all k.kept.contains then .payload else .path
  | .officerLog _ => .payload
  | .erase _ => .erase

/-- The channel takes its next request; one that cannot be served ends at once. The erase of a locked card begins with a
CMD42 forced erase (R345). -/
def serveHead (ch : Nat) (s : State) : State :=
  let k := s.card ch
  match k.queue with
  | r :: rest =>
    if r.phase != .queued || k.st == .identifying then s
    else if r.stop then dropHead ch .aborted 0 0 s
    else
      match cardRefused s ch r with
      | some st => turnAway ch r st (setCard ch { k with queue := rest } s)
      | none =>
        let s := wakeDomainN (9 + ch) (setCard ch { k with queue := { r with phase := cardPhaseOf s ch r } :: rest } s)
        match r.kind with
        | .erase _ => if k.locked then { s with tx := s.tx ++ [.cmd42 ch .forceErase []] } else s
        | _ => s
  | [] => s

/-- The channel serves one request at a time, in admission order (R332). -/
def cardServe (ch : Nat) (s : State) : State :=
  (List.range (s.card ch).queue.length).foldl (fun s _ => serveHead ch s) s

/-- Requests waiting in the queue that were asked to stop end at once; one in service stops at its next boundary. -/
def reapCard (ch : Nat) (s : State) : State :=
  let k := s.card ch
  let gone := k.queue.filter fun r => r.stop && r.phase == .queued
  let s := setCard ch { k with queue := k.queue.filter fun r => !(r.stop && r.phase == .queued) } s
  gone.foldl (fun s r => cardOutcome ch r .aborted 0 0 s) s

/-- Every channel with an idle head takes it. -/
def cardServeAll (s : State) : State := (List.range 4).foldl (fun s c => cardServe c s) s

def reapCards (s : State) : State := (List.range 4).foldl (fun s c => reapCard c s) s

/-- A new request. -/
def CardReq.new (kind : CardReqKind) (ref : Ref) (first count : Nat) : CardReq :=
  ⟨kind, ref, first, count, [], .none, .queued, 0, 0, false, false, false, [], 0⟩

/-- Admission of a request: refused at once where the channel or card is not usable, unless identification runs or 64
requests are there already; those behind them wait for their admission (R100, R332). -/
def cardAdmit (ch : Nat) (r : CardReq) (s : State) : State :=
  let k := s.card ch
  let r := { r with seq := s.eng.nextJob }
  match (if k.st == .identifying || decide (64 ≤ k.queue.length) then none else cardRefused s ch r) with
  | some st => turnAway ch r st s
  | none => cardServe ch (setCard ch { k with queue := k.queue ++ [r] } (bumpJob s))

/-- Card writes of the request's frame, issued before it, that have not reached the Press (07 R150). -/
def State.writesBefore (s : State) (r : CardReq) : List Ref :=
  let late := s.cardWritesOf r.ref
  ((s.cards.ch.toList.map (·.queue)).flatten.filter fun q => late.contains q.ref && decide (q.seq < r.seq)).map (·.ref)

/-- Wheels whose append waited are tried again when the channel's state changes (R301). -/
def retryAppends (ch : Nat) (s : State) : State :=
  cardServe ch ((List.range 64).foldl (fun s b => if ((s.book b).wheels.head?.map (·.arch)) = some ch then wheelNext b s else s) s)

/-- Every request of a channel ends with the status given (R343): a write whose press stands in the queue, or has
committed, runs on. -/
def failCard (ch : Nat) (st : CardReq → Status) (s : State) : State :=
  let k := s.card ch
  let stays (r : CardReq) : Bool := r.phase == .press
  let done (r : CardReq) : Bool := r.phase == .home || r.phase == .applied
  let s := setCard ch { k with queue := k.queue.filter stays } s
  (k.queue.filter fun r => !stays r && !done r).foldl (fun s r =>
    cardOutcome ch r (st r) (if r.kind == .read then 4096 * r.pos else 0) 0 s) s

/-- A channel that has retired serves nothing more (R332). -/
def cardsRetired (ch : Nat) (s : State) : State :=
  if s.chanOk (48 + ch) then s else failCard ch (fun _ => .noHealthyChannel) s

/-- The sectors of n bytes. -/
def chunk4096 (b : Bytes) : List Bytes := (List.range (b.length / 4096)).map fun i => sl b (4096 * i) 4096

end Sys2Proof.Machine
end

