-- ==== Sys2Proof/Machine/Sessions.lean ====
section
/-! DEFINITION. Session contexts (05 R92), the boot nonce and the session-store key (01 R408), the end of a life-cycle
state (03 R53) and retirement (03 R56). -/

namespace Sys2Proof.Machine

/-! ### Contexts -/

/-- The generation of context i: drawn at each start, advanced at each free (R92). -/
def State.genOf (s : State) (i : Nat) : Nat :=
  (look i s.gens).getD (1 + leN ((List.range 4).map fun j => Config.drbg (s.genBase + 4 * i + j)) % 0xFFFFE)

/-- Generations run 1 to 0xF_FFFE and wrap to 1. -/
def nextGen (g : Nat) : Nat := if 0xFFFFE ≤ g then 1 else g + 1

/-- The handle of a live session. -/
def Session.handle (x : Session) : BitVec 32 := BitVec.ofNat 32 (x.gen * 4096 + x.idx)

/-- A session ends and its context is free. -/
def endSession (x : Session) (s : State) : State :=
  { s with sessions := s.sessions.filter (fun y => y.idx != x.idx), gens := put x.idx (nextGen x.gen) s.gens }

/-- Every live session that satisfies p ends. -/
def endSessions (p : Session → Bool) (s : State) : State :=
  (s.sessions.filter p).foldl (fun s x => endSession x s) s

/-! ### R408 -/

/-- A new boot nonce, or none where the DRBG cannot generate. -/
def newBootNonce (s : State) : State :=
  if s.drbgOk then
    let (b, s) := s.drbgBytes 16
    { s with keys := { s.keys with bootNonce := some b, parkSerial := 0 } }
  else { s with keys := { s.keys with bootNonce := none, parkSerial := 0 } }

/-- A new session-store key, or none where the DRBG cannot generate. -/
def newStoreKey (s : State) : State :=
  if s.drbgOk then
    let (b, s) := s.drbgBytes 32
    { s with keys := { s.keys with sessionKey := some b } }
  else { s with keys := { s.keys with sessionKey := none } }

/-- New state keys of the digest dispatch (R220). Its write serial runs on within a boot: only what renews the boot
nonce starts it afresh. -/
def newStateKeys (s : State) : State :=
  if s.drbgOk then
    let (b, s) := s.drbgBytes 64
    { s with keys := { s.keys with stateKeys := some (b.take 32, b.drop 32) } }
  else { s with keys := { s.keys with stateKeys := none } }

/-- Every loaned slot is emptied (R185). -/
def emptyLoans (s : State) : State :=
  { s with loaned := [], eng := { s.eng with schedules := s.eng.schedules.filter fun x => x.2.space != 1 } }

/-! ### Steps 4 and 5 of a change between SERVICE and RECOVERY (R53) -/

/-- The vault word is written, every live session ends, session-store key and boot nonce are drawn afresh, the key
cache and the loaned slots are emptied. -/
def changeState (l : Lifecycle) (s : State) : State :=
  let s := endSessions (fun _ => true) { s with vault := s.vault.become l }
  let s := newBootNonce (newStoreKey s)
  emptyLoans { s with eng := { s.eng with schedules := [] } }

/-! ### Retirement (R56) -/

/-- The retirement record; the prior state is 0xFF where nothing tells it. -/
def retirementRecord (s : State) (cause : Nat) (reason : Byte) (prior : Nat) : Bytes :=
  le cause 2 ++ [reason] ++ le prior 1 ++ zeros 4 ++ le s.press.epoch 8 ++ timeBytes s.time.t ++ zeros 4

/-- The job holds a key in a working register. -/
def Job.keyed (j : Job) : Bool :=
  j.key.isSome || j.work.elim false (fun w => !w.key.isEmpty) || match j.fin with
    | .hashSet r => r.keyed
    | _ => false

/-- Step 2 of an ordered retirement as it meets the engines: requests that hold a key end with LIFECYCLE, keyed hash
streams and retained operand slots are zeroised (R56; log 172). -/
def endKeyed (s : State) : State :=
  let s := ((s.eng.vat.jobs ++ s.eng.digest.jobs ++ s.eng.lanes.jobs).filter Job.keyed).foldl
    (fun s j => endJob j .lifecycle s) s
  engFill { s with eng := { s.eng with streams := s.eng.streams.filter fun r => !r.keyed, retained := [] } }

/-- The vault is erased, the keys are zeroised, the wipe of the key-slot area and the Brine begins. -/
def retireDevice (cause : Nat) (reason : Byte) (s : State) : State :=
  let s := sampleTime s
  let r := retirementRecord s cause reason s.vault.lc.code
  let s := endSessions (fun _ => true) s
  { s with
    vault := Vault.erased
    keys := { s.keys with sessionKey := none, bootNonce := none }
    loaned := []
    eng := { s.eng with schedules := [] }
    lc := { s.lc with retirement := some r, wipe := true } }

end Sys2Proof.Machine
end

