-- ==== Sys2Proof/Machine/Commit.lean ====
section
/-! DEFINITION. What a press changes at its commit point, item by item (12 R260, R262), and what follows a commit. -/

namespace Sys2Proof.Machine

/-! ### Partitions -/

/-- The groups of the Cellar range that are written whole are good again (R254, R273). -/
def mend (addr len : Nat) (s : State) : State :=
  { s with cellar := { s.cellar with
    bad := s.cellar.bad.filter fun g => !decide (addr ≤ 16 * g ∧ 16 * g + 16 ≤ addr + len) } }

def setPart (p : Nat) (x : Part) (s : State) : State :=
  { s with cellar := { s.cellar with parts := vset s.cellar.parts p x } }

/-- A write to partition p that a clear has ended (R256). -/
def PItem.clearedBy (p : Nat) (i : PItem) : PItem :=
  match i with
  | .write q _ _ => if q = p then .voided else i
  | _ => i

/-- Every write to partition p in presses not yet committed ends: those queued and those still open in a frame. -/
def voidWrites (p : Nat) (s : State) : State :=
  let op (o : Option OpenPress) : Option OpenPress := o.map fun x => { x with items := x.items.map (PItem.clearedBy p) }
  let fr (x : Option Fr) : Option Fr := x.map fun f => { f with presses := f.presses.map op }
  { s with
    press := { s.press with queue := s.press.queue.map fun x => { x with items := x.items.map (PItem.clearedBy p) } }
    cores := s.cores.map fun k => { k with frames := k.frames.map fr } }

/-! ### Slots -/

/-- The generation record i carries: that of the key that covers it, or the one left in it (R179). -/
def State.recordGen (s : State) (i : Nat) : Nat :=
  (s.cellar.slots.filter fun k => decide (k.n ≤ i ∧ i < k.n + k.span)).foldl (fun g k => max g k.gen)
    ((look i s.cellar.gens).getD 0)

/-- The generation the next write of the span gives it (R179). -/
def State.nextSpanGen (s : State) (head span : Nat) : Nat :=
  1 + (List.range span).foldl (fun g i => max g (s.recordGen (head + i))) 0

/-- The generation g left in each record of a span. -/
def leaveGen (first span g : Nat) (s : State) : State :=
  (List.range span).foldl (fun s i =>
    { s with cellar := { s.cellar with
      gens := put (first + i) (max g ((look (first + i) s.cellar.gens).getD 0)) s.cellar.gens } }) s

/-- Slot n's key is gone; its records keep their generation, those of the span of a head whose tag has failed too. Its
counter entry and cached copies go with it. -/
def dropSlot (n : Nat) (s : State) : State :=
  let s := match s.slot n with
    | some k => leaveGen n k.span k.gen
        { s with cellar := { s.cellar with slots := s.cellar.slots.filter fun k => k.n != n } }
    | none => s
  { s with brine := { s.brine with entries := s.brine.entries.filter fun e => e.slot != n }
           eng := { s.eng with schedules := s.eng.schedules.filter fun x => x.2.n != n || x.2.space == 1 } }

/-- The slots loaded under a master key in a written or deleted record are emptied (R185). -/
def flushMasters (first span : Nat) (s : State) : State :=
  let gone := s.loaned.filter fun l => decide (first ≤ 16380 + l.master ∧ 16380 + l.master < first + span)
  { s with
    loaned := s.loaned.filter fun l => !gone.contains l
    eng := { s.eng with schedules := s.eng.schedules.filter fun x => x.2.space != 1 || !gone.any fun l => l.n == x.2.n } }

/-- The lowest free index of a counter entry (log 168). -/
def State.freeEntry (s : State) : Nat :=
  ((List.range 8192).find? fun i => !s.brine.entries.any fun e => e.idx == i).getD 0

/-- The entry's durable copy is of generation gen or a later one: an item BRINE of that generation changes nothing
(R262). -/
def Entry.holds (gen : Nat) (e : Entry) : Bool := e.dur.read.elim false fun d => decide (gen ≤ d.gen)

/-- The record of a slot as a press writes it; use count and counter entry are set only where what is stored is of an
earlier generation (R262). -/
def writeSlot (e head span : Nat) (attr : BitVec 64) (init gen : Nat) (owner : BitVec 64) (nonce : Option Bytes)
    (fixed : BitVec 32) (material : Bytes) (s : State) : State :=
  let old := s.entry head
  let s := mend (slotAddr head) (256 * span) (flushMasters head span (dropSlot head s))
  let k : Slot := ⟨head, span, attr, init, s.vault.lc, gen, fixed, owner, nonce, e, material, true⟩
  let s := { s with cellar := { s.cellar with slots := s.cellar.slots ++ [k] } }
  let s := if attrNeedsEntry attr then
      let uses := if attr.getLsbD 23 then init else 0
      let fresh := Entry.new s.freeEntry head uses gen
      { s with brine := { s.brine with entries := (old.filter (Entry.holds gen)).getD fresh :: s.brine.entries } }
    else s
  let t := (look head s.cellar.useCounts).getD TwoCopy.zero
  if attr.getLsbD 22 && !attr.getLsbD 23 && decide (t.read.getD 0 / 2 ^ 32 < gen) then
    { s with cellar := { s.cellar with useCounts := put head (t.update (gen * 2 ^ 32 + init)) s.cellar.useCounts } }
  else s

/-! ### Card volumes (15 R335 to R337) -/

def volIndex (ch serial : Nat) : Nat := ch * 0x1000000 + serial

/-- A key of the volume of channel ch (R335). -/
def volKey (s : State) (ch : Nat) (v : VolRec) (label : String) : Bytes :=
  objectKey (domainRoot s v.origin "STORE") label (volIndex ch v.serial)

/-- Leaf entry of volume sector n: its CMAC, or zeros where nothing was written (R336). -/
def volLeaf (s : State) (ch : Nat) (k : CardCh) (n : Nat) : Bytes :=
  match look n k.disk with
  | none => zeros 16
  | some d => Config.aesCmac (volKey s ch k.vol "CARD-MAC") (le n 8 ++
      Config.xtsEnc (volKey s ch k.vol "CARD-XTS1" ++ volKey s ch k.vol "CARD-XTS2") n (fit d 4096))

/-- Sector j of the tag level built on the level below. -/
def tagLevel (below : Nat → Bytes) (j : Nat) : Bytes :=
  ((List.range 128).map fun i =>
    let b := below (128 * j + i)
    if allZero b then zeros 32 else fit (Config.sha3 b) 32).flatten

/-- The Merkle root of a volume. -/
def volRoot (s : State) (ch : Nat) (k : CardCh) : Bytes :=
  let l0 (j : Nat) : Bytes := ((List.range 256).map fun i => fit (volLeaf s ch k (256 * j + i)) 16).flatten
  Config.sha3 (tagLevel (tagLevel (tagLevel l0)) 0 ++ le (volIndex ch k.vol.serial) 4)

/-- The CMD42 password of a volume (R335, R344). -/
def volPassword (s : State) (ch : Nat) (v : VolRec) : Bytes := (volKey s ch v "CARD-PWD").take 16

/-- Volume header bytes 0 to 127 (R336). -/
def volHeader (s : State) (ch : Nat) (v : VolRec) (m : Nat) : Bytes :=
  let st := levelStarts v.sectors
  let h := ascii "JXSV" ++ le 1 2 ++ le v.role 1 ++ le ch 1 ++ fit s.identity 16 ++ le (volIndex ch v.serial) 4
    ++ le v.origin.code 1 ++ zeros 3 ++ le v.sectors 8 ++ le m 8 ++ ((st.take 4).map fun x => le x 4).flatten
    ++ le (st.getD 4 0) 8 ++ zeros 24
  h ++ fit (Config.kmac (volKey s ch v "CARD-TAG") h 256 (ascii "JEXVOR CARD")) 32

/-- The volume's sectors with those given in place of the ones from `first` on. -/
def CardCh.overlay (k : CardCh) (first : Nat) (data : List Bytes) : List (Nat × Bytes) :=
  (data.zip (List.range data.length)).foldl (fun d e => put (first + e.2) e.1 d) k.disk

/-- The journal of a write of sectors from `first` on: under the next write sequence, with the new root (R340). -/
def journalOf (s : State) (ch first : Nat) (data : List Bytes) : Journal :=
  let k := s.card ch
  ⟨1, k.vol.seq + 1, first, data, journalTags k.vol first data.length, volRoot s ch { k with disk := k.overlay first data }⟩

/-- The journal written to the card of channel ch. -/
def putJournal (ch first : Nat) (data : List Bytes) (s : State) : State :=
  setCard ch { s.card ch with journal := some (journalOf s ch first data) } s

/-- The press of a write (R340 step 5): the record takes the sequence and the root of the journal, and tag sectors
kept under the old root are read again (R338). The sectors go home after it. -/
def writeVolume (ch first : Nat) (data : List Bytes) (s : State) : State :=
  let j := journalOf s ch first data
  let k := s.card ch
  setCard ch { k with vol := { k.vol with seq := j.seq, root := j.root }, journal := some j, kept := [] } s

/-- The 64-byte header of an archive entry (13). -/
def archiveHeader (kind book index epoch len gen : Nat) : Bytes :=
  ascii "JXAE" ++ le 1 2 ++ le kind 1 ++ le book 1 ++ le index 8 ++ le epoch 8 ++ le len 4 ++ le gen 4 ++ zeros 32

/-- The sectors of an append (R301): the archive's header where it has none, then the entries. -/
def archiveSectors (e ch book : Nat) (recs : List (Nat × Nat × Bytes)) (s : State) : List Bytes :=
  let v := (s.card ch).vol
  let head : Bytes := fit (ascii "JXAV" ++ le 1 2 ++ fit s.identity 16 ++ le ch 1) 4096
  let sects := ((recs.zip (List.range recs.length)).map fun r =>
    chunk4096 (fit (archiveHeader r.1.1 book (v.entryIx + r.2) e r.1.2.2.length r.1.2.1 ++ r.1.2.2)
      (4096 * entrySectors r.1.1))).flatten
  if v.append = 0 then head :: sects else sects

/-- Archive entries appended to the volume of channel ch, after its header in sector 0 (R301). -/
def writeArchive (e ch book : Nat) (recs : List (Nat × Nat × Bytes)) (s : State) : State :=
  let v := (s.card ch).vol
  let sects := archiveSectors e ch book recs s
  let s := writeVolume ch v.append sects s
  let k := s.card ch
  let k := { k with vol := { k.vol with append := v.append + sects.length, entryIx := v.entryIx + recs.length } }
  let s := setCard ch k s
  let owed := (recs.filter fun r => r.1 != 1).length
  setBook book { s.book book with pend := (s.book book).pend.drop owed } s

/-! ### Time (13) -/

/-- C in units of 2^-48 ns: the slew applied since the token (R289). -/
def TimeBase.sinceToken (t : TimeBase) (slewAt : Int) : Int := t.slewTotal - slewAt

/-- R290 at its commit point. -/
def TimeBase.slew (t : TimeBase) (rate um : Nat) (delta tm slewAt : Int) (aTm : Nat) : TimeBase :=
  { t with r := delta * (2 ^ 48 : Nat) - t.sinceToken slewAt, rate := rate, um := um, tm := tm.toNat, aTm := aTm }

/-- R291 at its commit point: T moves forward by Δ − C. `measured` is t_m and A at t_m; without a token they are those of
the commit, and C is zero. No edge of PPS_OUT or TCODE_OUT follows before the first boundary at least 1 s after the
commit (R286). -/
def TimeBase.step (t : TimeBase) (um : Nat) (delta slewAt : Int) (measured : Option (Nat × Nat)) : TimeBase :=
  let c := if measured.isNone then 0 else t.sinceToken slewAt
  let by_ := ((delta * (2 ^ 48 : Nat) - c) / 1000000000).toNat
  let t' := t.t + by_
  { t with t := t', r := 0, timeSet := true, lost := false, saturated := false, um := um
           tm := measured.elim t' Prod.fst, aTm := measured.elim t.a Prod.snd
           ppsFrom := (t' + second + (second - 1)) / second }

/-! ### Books (13) -/

/-- H of the last pressed wheel of the book's generation, or 32 zero bytes (R293). -/
def Book.lastWheelH (k : Book) : Bytes :=
  let p := [k.place0, k.place1].filterMap id
  match p.find? fun w => fld w 8 4 == k.gen && fld w 24 8 == k.head.pressedNo && k.head.pressedNo != 0 with
  | some w => sl w 32 32
  | none => zeros 32

/-- A new generation of book b (R293). -/
def openBook (b n slot arch : Nat) (label : Bytes) (s : State) : State :=
  let k := s.book b
  let g := k.gen + 1
  let h := genesisH s b g k.lastWheelH
  let head : Head := { Head.zero with h := h, gen := g, t := k.head.t, u := k.head.u }
  let k := { k with
    st := .opened, n := n, nextN := none, slot := slot, arch := arch, gen := g, label := label, h0 := h
    head := head, durable := k.durable.update head, dist := 0 }
  setBook b { k with pend := if arch < 3 then k.pend ++ [(3, g, k.config.take 64 ++ h)] else k.pend } s

/-- The press of a wheel (R297): the record goes to its place; the head's pressed wheel follows where the wheel is of
the book's generation. -/
def pressWheel (b : Nat) (msg sig : Bytes) (no lastCtr : Nat) (s : State) : State :=
  let k := s.book b
  let r := wheelRecord msg sig
  let k := if no % 2 = 0 then { k with place0 := some r } else { k with place1 := some r }
  let k := { k with wheels := dropFirst (fun w => w.msg == msg) k.wheels }
  let k := if fld msg 8 4 = k.gen then s.keptBook { k with head := { k.head with lastPressed := lastCtr, pressedNo := no } }
    else k
  setBook b k s

/-! ### Fork effects (17 R384) -/

/-- WELT_TAKEOVER's effects on the mirrored objects and the new term. -/
def forkEffects (s : State) : State :=
  let c := { s.cellar with
    counters := s.cellar.counters.map fun (x : Nat × TwoCopy) => (x.1, match x.2.read with
      | some v => x.2.update (min (2 ^ 64 - 1) (v + 2 ^ 40))
      | none => x.2)
    useCounts := s.cellar.useCounts.map fun (x : Nat × TwoCopy) => (x.1, match x.2.read with
      | some v => x.2.update (v / 2 ^ 32 * 2 ^ 32)
      | none => x.2) }
  let fresh := (List.range 1024).filter fun n => (look n s.cellar.counters).isNone
  let c := { c with counters := c.counters ++ fresh.map fun n => (n, TwoCopy.zero.update (2 ^ 40)) }
  let s := { s with
    cellar := c
    lc := { s.lc with updateCounter := match s.updateCounter with
      | some v => s.lc.updateCounter.update (min (2 ^ 64 - 1) (v + 2 ^ 20))
      | none => s.lc.updateCounter }
    brine := { s.brine with
      entries := s.brine.entries.map fun e => ({ e with inv := 2 ^ 64 - 1, uses := 0 } : Entry).makeDurable }
    welt := { s.welt with role := .lead, term := s.welt.term + 1, forked := true, stale := false, grants := []
                          mode := .detached } }
  (List.range 64).foldl (fun s b =>
    let k := s.book b
    if k.st == .opened then openBook b k.n k.slot k.arch k.label s else s) s

/-! ### Items -/

/-- Blocks of 4 KiB an image takes in the applet store (12). -/
def Applet.blocks (a : Applet) : Nat := (512 + a.codeLen + a.dataLen + 4095) / 4096

/-- The items as the log record holds them: counters with the value each advance leads to (R262). `acc` holds what the
items before have made of them. -/
def absolute (s : State) (acc : List (Nat × Nat)) : List PItem → List PItem
  | [] => []
  | .ctrAdd n amount :: is =>
    let v := ((look n acc).orElse fun _ => s.counter n).getD 0 + amount
    .ctrSet n v :: absolute s (put n v acc) is
  | .updInc :: is => .updSet (s.updateCounter.getD 0 + 1) :: absolute s acc is
  | i :: is => i :: absolute s acc is

/-- One item of a committed press of epoch e takes effect. -/
def applyItem (e : Nat) (s : State) (i : PItem) : State :=
  match i with
  | .voided => s
  | .write p off data =>
    let k := s.part p
    mend (partBase p + off) data.length
      (setPart p { k with mem := k.mem.write off data, origin := some (k.origin.getD s.vault.lc)
                          written := addSpan off (off + data.length) k.written } s)
  | .clearPart p =>
    voidWrites p (mend (partBase p) 0x400000 (setPart p { s.part p with mem := [], origin := none, written := [] } s))
  | .protect p level => setPart p { s.part p with protect := max level (s.part p).protect } s
  | .unprotect p level => setPart p { s.part p with protect := level } s
  | .ctrAdd n amount =>
    let t := (look n s.cellar.counters).getD TwoCopy.zero
    { s with cellar := { s.cellar with counters := put n (t.update (t.read.getD 0 + amount)) s.cellar.counters } }
  | .ctrSet n v =>
    let t := (look n s.cellar.counters).getD TwoCopy.zero
    { s with cellar := { s.cellar with counters := put n (t.update v) s.cellar.counters } }
  | .updInc => { s with lc := { s.lc with
      updateCounter := s.lc.updateCounter.update ((s.lc.updateCounter.read.getD 0) + 1) } }
  | .updSet v => { s with lc := { s.lc with updateCounter := s.lc.updateCounter.update v } }
  | .slotWrite head span attr init gen owner nonce fixed material =>
    writeSlot e head span attr init gen owner nonce fixed material s
  | .slotFree first span gen => leaveGen first span gen (flushMasters first span (dropSlot first s))
  | .officers os k tag =>
    mend officerArea.1 officerArea.2 { s with lc := { s.lc with officers := os, k := k, bankTag := tag } }
  | .lifeCycle l => { s with lc := { s.lc with lcRecord := some l } }
  | .retire _ _ => { s with lc := { s.lc with lcRecord := some .retired } }
  | .permit b => { s with lc := { s.lc with permit := b } }
  | .pendLast v => { s with lc := { s.lc with pendLast := v }
                            power := { s.power with pfSincePend := s.power.pfSincePend && v.isNone } }
  | .last n r => mend (lastAddr n.toNat) 4096 { s with lasts := vset s.lasts n.toNat (some r) }
  | .cert b => mend certArea.1 certArea.2 { s with lc := { s.lc with cert := some b } }
  | .applet a => a.places.foldl (fun s k => mend (blockAddr k) 4096 s)
      { s with cellar := { s.cellar with applets := s.cellar.applets ++ [a] } }
  | .appletRm id ver =>
    let gone := s.cellar.applets.filter fun a => a.id == id && a.ver == ver
    { s with cellar := { s.cellar with
      applets := s.cellar.applets.filter fun a => !(a.id == id && a.ver == ver)
      removed := s.cellar.removed ++ (gone.map (·.places)).flatten } }
  | .wheel b msg sig no lastCtr => mend (placeAddr b (no % 2)) 6144 (pressWheel b msg sig no lastCtr s)
  | .gapRecords => s
  | .timeConfig slot rref trim tai next leap => { s with time := { s.time with
      cfg := ⟨if slot = 0xFFFF then none else some slot, rref, trim, tai, next, leap⟩ } }
  | .slew rate um delta tm slewAt aTm => { s with time := s.time.slew rate um delta tm slewAt aTm }
  | .step um delta slewAt measured => outputsLow { s with time := s.time.step um delta slewAt measured }
  | .bookOpen b n slot arch label => openBook b n slot arch label s
  | .bookConfig b n slot arch label =>
    setBook b { s.book b with nextN := some n, slot := slot, arch := arch, label := label } s
  | .bookClose _ => s
  | .bins => { s with time := { s.time with binsRec := s.time.bins } }
  | .health chan cause => { s with health := { s.health with
      pressed := s.health.pressed + 1
      table := put chan (cause, s.time.t / second, e) s.health.table } }
  | .volErase ch _ =>
    let k := s.card ch
    setCard ch { k with vol := { VolRec.none with
      state := 1, role := s.active.roles.getD ch 0, origin := s.vault.lc, serial := k.vol.serial + 1 } } s
  | .volFormat ch =>
    let k := s.card ch
    setCard ch { k with vol := { k.vol with state := 2 } } s
  | .volReady ch sectors ready =>
    let k := s.card ch
    let v := { k.vol with state := if ready then 3 else 0, sectors := sectors }
    let k := { k with vol := v, disk := [], journal := none, kept := [] }
    setCard ch { k with vol := { v with root := if ready then volRoot s ch k else v.root
                                        hdr := if ready then Config.sha3 (volHeader s ch v k.m) else v.hdr }
                        headerOk := ready } s
  | .volWrite ch first data => writeVolume ch first data s
  | .archive ch b recs => writeArchive e ch b recs s
  | .weltPair twin cert role =>
    { s with welt := { Welt.unpaired with
      role := if role = 1 then .lead else .joining, twin := twin, twinCert := cert, stale := decide (role ≠ 1) } }
  | .weltUnpair => { s with welt := { s.welt with role := .unpaired } }
  | .weltMode sync => { s with welt := { s.welt with prefSync := sync } }
  | .weltHandover => s
  | .weltSecret b => { s with welt := { s.welt with secret := some b } }
  | .weltPromote => { s with welt := { s.welt with role := .lead, term := s.welt.term + 1, grants := [], stale := false
                                                   mode := .detached } }
  | .weltTakeover => forkEffects s

end Sys2Proof.Machine
end

