-- ==== Sys2Proof/Machine/WeltOps.lean ====
section
/-! DEFINITION. The Welt pairing's shared operations: link sessions, acknowledgements, modes and roles (17). -/

namespace Sys2Proof.Machine

/-- An outcome that waited for the twin is written. -/
def deliverWait (w : WeltWait) (s : State) : State :=
  let st := if w.status == .ok && w.closeCall then .okCloseCall else w.status
  finish w.ref st w.bytes w.value (writeOuts w.ref w.outs s)

/-- The twin has acknowledged every frame up to `n` (R376): their waiting outcomes are written, in order, and requests
that waited for a mirrored draw go on (R196). -/
def ackUpTo (n : Nat) (s : State) : State :=
  let w := s.welt
  let ready := w.waits.filter fun x => !x.fwd && decide (x.seq ≤ n)
  let s := { s with welt := { w with
    unacked := w.unacked.filter fun u => decide (n < u.1)
    waits := w.waits.filter fun x => x.fwd || decide (n < x.seq)
    timeouts := 0, closeCall := false } }
  engFill (sendUnsent (ready.foldl (fun s x => deliverWait x s) s))

/-- Role or mode has changed (R390). -/
def modeChanged (s : State) : State := raise 268 s

/-- A link session ends (R390): LINK is 0, and what was gathered or copied in it is gone; a broken copy starts again
from its beginning (R389). -/
def endLink (s : State) : State :=
  if s.welt.link then
    let s := if s.welt.mode == .copying then modeChanged { s with welt := { s.welt with mode := .detached } } else s
    sample 269 (raiseSample 267 { s with welt := { s.welt with
      link := false, linkKey := [], gathered := 0, copied := [], timeBad := false } })
  else s

/-- The lead's pairing enters DETACHED (R377, R381): every waiting outcome is written as it would have been. -/
def leadDetached (s : State) : State :=
  if s.welt.mode == .detached then s
  else
    let ready := s.welt.waits.filter fun x => !x.fwd
    let s := { s with welt := { s.welt with mode := .detached, unacked := [], unsent := [], waits := []
                                            timeouts := 0, closeCall := false } }
    modeChanged (engFill (ready.foldl (fun s x => deliverWait { x with closeCall := false } s) s))

/-- Requests forwarded to the lead whose outcome can no longer come complete with ABORTED (R380). -/
def abortForwards (s : State) : State :=
  let gone := s.welt.waits.filter fun x => x.fwd
  gone.foldl (fun s x => finish x.ref .aborted 0 0 s) { s with welt := { s.welt with waits := [] } }

/-- The follower is no longer level (R381): it is stale, abandons its grants and its forwarded requests. -/
def followerStale (s : State) : State :=
  let s := if s.welt.mode == .detached then s
    else modeChanged { s with welt := { s.welt with mode := .detached, unacked := [], unsent := [] } }
  let s := abortForwards { s with welt := { s.welt with grants := [] } }
  if s.welt.stale then s else raiseSample 270 { s with welt := { s.welt with stale := true } }

/-- The lead starts the bulk copy at once while the link is up and its mode preference is SYNC (R381, R389). -/
def startCopy (s : State) : State :=
  if s.welt.role == .lead && s.welt.link && s.welt.prefSync && s.welt.mode == .detached then
    weltSend 0x30 (modeChanged { s with welt := { s.welt with mode := .copying } })
  else s

/-- A frame that waits for no acknowledgement of its own: an ACK, a NAK, a lease or a time comparison. -/
def weltCtl (type : Nat) (s : State) : State :=
  if s.welt.link then
    { s with welt := { s.welt with txSeq := s.welt.txSeq + 1 }, tx := s.tx ++ [.welt type s.welt.txSeq] }
  else s

/-- What a HELLO carries (R374): identity, term, role, life-cycle code, epoch and nonce, then the tag under the pair
secret. The pairing HELLO, before there is a secret, carries what its exchange makes in place of the tag: its form the
spec does not give (R388; log 184). -/
def helloBytes (nonce : Bytes) (s : State) : Bytes :=
  let head := fit s.identity 16 ++ le s.welt.term.toNat 4 ++ le s.welt.role.code 1 ++ le s.vault.lc.code 1
    ++ le s.press.epoch 8 ++ nonce
  head ++ s.welt.secret.elim [] fun k => fit (Config.kmac k head 256 (ascii "JEXVOR WELT HELLO")) 32

/-- HELLO with a fresh nonce (R374, R388): sent over a trained lane by a paired device that is not in GUARD, and whose
record has not had its pairing refused. -/
def sendHello (s : State) : State :=
  if s.welt.role == .unpaired || (s.welt.secret.isNone && s.welt.pairRefused) || s.welt.lanes.isEmpty || !s.drbgOk || s.debugBars || s.rind.guard then s
  else
    let (n, s) := s.drbgBytes 32
    { s with welt := { s.welt with nonce := n }, tx := s.tx ++ [.hello (helloBytes n s)] }

/-- A departure of this device (R383): DEPART follows every earlier frame, and the session ends with it. -/
def depart (s : State) : State :=
  if s.welt.role == .unpaired then s
  else
    let s := weltSend 0x50 s
    let s := if s.welt.role == .lead then leadDetached s else followerStale s
    endLink { s with welt := { s.welt with lease := false, granted := false } }

/-- A level follower that has every frame up to a DEPART presses the next term and its role of lead (R383). -/
def promote (s : State) : State :=
  if s.welt.role == .follower && s.welt.mode == .sync && s.power.pwrfailN && s.ringOk then
    enqueue (Press.of [.weltPromote] .none)
      { s with welt := { s.welt with grants := [], waits := s.welt.waits } }
  else s

/-- A higher term is met (R371): a lead stops at once, and the device is a stale follower of its sender. -/
def higherTerm (t : BitVec 32) (s : State) : State :=
  let s := if s.welt.role == .lead then leadDetached s else s
  let s := modeChanged { s with welt := { s.welt with role := .follower, term := t, forked := true, lease := false } }
  followerStale s

end Sys2Proof.Machine
end

