-- ==== Sys2Proof/Machine/Store.lean ====
section
/-! DEFINITION. The Press's commit and application, the Brine checkpoint, the Cellar scrub and the DRBG's own events
(12, 01 R14 to R16). -/

namespace Sys2Proof.Machine

/-! ### Checks at commit (R150, R260, R263, R274) -/

/-- The counter advances of a press, in item order, onto what stands: the status of the first that cannot be made. -/
def advancesFail (s : State) : List PItem → List (Nat × Nat) → Option Status
  | [], _ => none
  | .ctrAdd n amount :: is, acc =>
    match s.counter n with
    | none => some .faultPermanent
    | some v =>
      let d := (look n acc).getD 0 + amount
      if 2 ^ 64 - 1 < v + d then some .operandRange else advancesFail s is (put n d acc)
  | _ :: is, acc => advancesFail s is acc

/-- The first counter condition that is not met. -/
def condsFail (s : State) (cs : List (Nat × Word)) : Option Status :=
  cs.findSome? fun c =>
    match s.counter c.1 with
    | none => some .faultPermanent
    | some v => if v = c.2.toNat then none else some .compareFail

/-- A write that has come under protection since it was added, or that a clear has ended (R255, R256). -/
def PItem.blocked (s : State) (i : PItem) : Bool :=
  match i with
  | .voided => true
  | .write p off data => underProtect (s.part p).protect (pagesOf off data.length)
  | _ => false

/-- The status with which a press fails at commit; none where it commits. -/
def pressFails (s : State) (p : Press) : Option Status :=
  if s.debugBars then some .lifecycle
  else if !s.ringOk then some .faultPermanent
  else
    match condsFail s p.conds with
    | some st => some st
    | none =>
      match advancesFail s p.items [] with
      | some st => some st
      | none =>
        if p.items.any (PItem.blocked s) then some .mediaWriteProtected
        else if p.items.any fun i => i.banks.any s.bankRetired then some .faultPermanent
        else none

/-! ### Failure -/

/-- The card request whose press has failed leaves its channel; its journal is discarded at the next identification. -/
def cardPressGone (s : State) (i : PItem) : State :=
  match i with
  | .volWrite ch _ _ | .archive ch _ _ | .volReady ch _ _ | .volFormat ch =>
    let k := s.card ch
    cardServe ch (setCard ch { k with queue := k.queue.filter fun r => r.phase != .press } s)
  | _ => s

/-- The wheel whose press has gone can be pressed again (13 R298, R301). -/
def wheelWaits (r : Ref) (s : State) : State :=
  match r with
  | .wheel b => setBook b { s.book b with
      wheels := updFirst (fun w => w.pressing) (fun w => { w with pressing := false }) (s.book b).wheels } s
  | _ => s

/-- A press fails: its reserve is released, its outcome carries count 0 and the current epoch (R150, R152). -/
def failPress (p : Press) (st : Status) (s : State) : State :=
  let v := match p.origin with
    | .instr _ _ _ _ _ => 0
    | _ => if st == .lifecycle then 0 else s.press.epoch
  let s := wheelWaits p.origin (finish p.origin st 0 v s)
  p.items.foldl cardPressGone s

/-! ### After the commit point -/

/-- The card request in its press step goes on to the home copy, from its first sector (15 R340). On a card that has left
its channel the copy waits for the next identification (R341). -/
def cardCommitted (ch : Nat) (s : State) : State :=
  let k := s.card ch
  if k.st == .identified && s.chanOk (48 + ch) then
    let q := updFirst (fun r => r.phase == .press) (fun r => { r with phase := .home, pos := 0 }) k.queue
    setCard ch { k with queue := q } s
  else cardServe ch (setCard ch { k with queue := k.queue.filter fun r => r.phase != .press } s)

/-- CARD_ERASE's press: every request of the channel not yet committed ends with OPERAND_RANGE, and the background work
is queued; without an identified card it has failed already (15 R345). -/
def eraseBegins (ch : Nat) (format : Bool) (s : State) : State :=
  let ends (p : Press) : Bool := p.items.any fun i => match i with
    | .volWrite c _ _ | .archive c _ _ | .volReady c _ _ | .volFormat c => c == ch
    | _ => false
  let gone := s.press.queue.filter ends
  let s := { s with press := { s.press with queue := s.press.queue.filter fun p => !ends p } }
  let s := gone.foldl (fun s p => wheelWaits p.origin s) s
  let k := s.card ch
  let gone := k.queue.filter fun r => r.phase != .home && r.phase != .applied
  let s := setCard ch { k with queue := k.queue.filter fun r => r.phase == .home || r.phase == .applied } s
  let s := gone.foldl (fun s r => match r.kind with
    | .erase _ => s
    | _ => cardOutcome ch r .operandRange 0 0 s) s
  let r := CardReq.new (.erase format) .none 0 0
  match cardRefused s ch r with
  | some st => turnAway ch r st s
  | none => cardAdmit ch r s

/-- What follows an item's effect outside the durable state. -/
def afterItem (s : State) (i : PItem) : State :=
  match i with
  | .lifeCycle l =>
    if l == s.vault.lc || s.vault.lc == .retired then s
    else if s.vault.lc == .issued then newBootNonce { s with vault := s.vault.become l }
    else mergeWheels [] (changeState l s)
  | .retire cause reason => retireDevice cause reason (endKeyed (depart s))
  | .wheel b _ _ _ _ => drainSeals b (cardServeAll (wheelNext b s))
  | .volWrite ch _ _ | .archive ch _ _ => cardCommitted ch s
  | .volErase ch format => eraseBegins ch format s
  | .volFormat ch =>
    let k := s.card ch
    setCard ch { k with queue := updFirst (fun r => r.phase == .press) (fun r => { r with phase := .format }) k.queue } s
  | .volReady ch _ _ =>
    let k := s.card ch
    let s := setCard ch { k with queue := k.queue.filter fun r => r.phase != .press } s
    retryAppends ch (cardServe ch (raise (257 + ch) s))
  | .bookClose b =>
    let k := s.book b
    let s := if k.closes then closeWheel b false true k.head.w (k.head.c + 1 - k.head.first) s else s
    setBook b { s.book b with st := .closed } s
  | .step _ _ _ _ => checkAlarm s
  | .weltPair _ _ _ => modeChanged (wakeDomain 13 s)
  | .weltUnpair => modeChanged (domainOffN 13 { endLink (leadDetached s) with welt := Welt.unpaired })
  | .weltSecret _ => sendHello s
  | .weltMode sync => if sync then startCopy s else leadDetached s
  | .weltHandover =>
    let s := depart s
    followerStale (modeChanged { s with welt := { s.welt with role := .follower } })
  | .weltPromote => modeChanged (abortForwards s)
  | .weltTakeover => raiseSample 270 (modeChanged (abortForwards s))
  | _ => s

/-- The part of the officer-log entry fixed at the commit: its bytes 24 to 89 (15 R347). -/
def officerEntryBody (digestType : Bytes) (s : State) : Bytes :=
  le (s.updateCounter.getD 0) 8 ++ le s.press.epoch 8 ++ timeBytes s.time.t ++ le s.time.unc 4 ++ fit digestType 34

/-- The officer-log entry of a committed officer order is appended on CC3; the order does not wait for it (R347). -/
def logOfficer (p : Press) (s : State) : State :=
  match p.log with
  | none => s
  | some d =>
    let s := sampleTime s
    cardAdmit 3 (CardReq.new (.officerLog (officerEntryBody d s)) .none 0 0) s

/-- KEY_REPORT's 64 bytes for one slot, as its counters stand (08). -/
def keyReport (s : State) (n : Nat) : Bytes :=
  match s.liveSlot n with
  | none => le n 2 ++ zeros 62
  | some k =>
    le n 2 ++ [1] ++ le k.origin.code 1 ++ le k.span 2 ++ zeros 2 ++ le k.attr.toNat 8 ++ le k.gen 4
      ++ le (if k.counted then (s.remaining k).getD 0 else 0) 4 ++ le ((s.entry n).elim 0 (·.inv)) 8
      ++ le k.installEpoch 8 ++ le k.owner.toNat 8 ++ zeros 16

/-- Bytes the items write: the count of a committed press (R150). -/
def PItem.bytes (i : PItem) : Nat :=
  match i with
  | .write _ _ d => d.length
  | .volWrite _ _ d => 4096 * d.length
  | _ => 0

/-- Pieces of a press of `len` bytes in pair form (17 R376). -/
def pieces (len : Nat) : Nat := (len + 4079) / 4080

/-- The press is mirrored in PRESS frames, all in sequence (R376). -/
def mirrorPress (len : Nat) (s : State) : State :=
  if s.syncLead then (List.range (pieces len)).foldl (fun s i => weltSend (if i = 0 then 0x10 else pressMore) s) s else s

/-- Value of a committed press's outcome: the new epoch, the counter after an immediate CTRADD, an order's result. -/
def pressValue (p : Press) (s : State) : Nat :=
  match p.origin with
  | .instr _ _ _ _ _ =>
    match p.items with
    | .ctrAdd n _ :: _ => (s.counter n).getD 0
    | _ => 0
  | .order _ => p.result.getD ((s.updateCounter.getD 0) % 2 ^ 32)
  | _ => s.press.epoch

/-- The frame a press came from, as its log record names it. -/
def Ref.frameNo : Ref → Nat
  | .token _ f _ _ | .instr _ f _ _ _ => f
  | _ => 0

/-- A press commits: the epoch advances, the items take effect, the shared page shows the epoch (06 R115), the outcome
follows (R260), OK_RETRIED after a corrected fault or a card write's retry (R150; 15 R331). -/
def commitPress (retried : Bool) (p : Press) (s : State) : State :=
  let e := s.press.epoch + 1
  let items := absolute s [] p.items
  let s := { s with press := s.press.write e p.len p.core p.origin.frameNo items }
  let s := wakeBanks p.items (rewriteShared (items.foldl (applyItem e) s))
  let s := mirrorPress p.len (noteEpoch p.origin e s)
  let outs := p.outs.map fun o => (Dst.host o.1, o.2)
  let rep := match p.report with
    | some (a, ns) => [(Dst.host a, (ns.map (keyReport s)).flatten)]
    | none => []
  let count := match p.origin with
    | .order _ => if p.items.any (fun i => i.bytes != 0) then (p.items.map PItem.bytes).sum else p.outBytes
    | _ => (p.items.map PItem.bytes).sum
  let v := pressValue p s
  let s := p.items.foldl afterItem s
  logOfficer p (settle p.origin (okClass false (retried || p.retried) p.closeCall) count v (outs ++ rep) s)

/-- The press changes the state between SERVICE and RECOVERY. -/
def Press.changes (s : State) (p : Press) : Bool :=
  s.serving && p.items.any fun i => match i with
    | .lifeCycle _ => true
    | _ => false

/-- No other order is between admission and completion: what a change of state waits for (03, Changing state). -/
def State.drained (s : State) (p : Press) : Bool :=
  !p.changes s || !(s.orders.any fun o => o.st != .held && p.origin != .order o.uid)

/-- The press of a follower's promotion (17 R383). -/
def Press.promotes (p : Press) : Bool := p.items.any fun i => i == .weltPromote

/-- The press closes a wheel that would be the seventeenth unpressed one of its book: it waits for one to be pressed (13
R298). -/
def Press.crowded (s : State) (p : Press) : Bool :=
  p.items.any fun i => match i with
    | .bookClose b => (s.book b).closes && decide (16 ≤ (s.book b).wheels.length)
    | _ => false

/-- The press at the head: the first that nothing of its frame, of a change of state or of its book holds back (R150). A
SYNC follower commits none of its own but its promotion (01 R23; 17 R383). -/
def State.nextPress (s : State) : Option Press :=
  s.press.queue.find? fun p => p.behind.isEmpty && s.drained p && !p.crowded s && (!s.syncFollower || p.promotes)

/-- The press at the head commits or fails; none does while two records await application (R150, R260, R261). A permanent
fault of the press buffer fails it before its log write (16 R367). -/
def pressCommit (how : PressEnd) (s : State) : State :=
  (match s.nextPress with
    | none => s
    | some p =>
      if !s.awake || decide (2 ≤ s.press.log.length) then s
      else
        let s := { s with press := { s.press with
          queue := dropFirst (fun q => q == p) s.press.queue, bufUsed := s.press.bufUsed - p.reserve } }
        match pressFails s p with
        | some st => failPress p st s
        | none =>
          if p.items.isEmpty && p.conds.isEmpty then finish p.origin .ok 0 s.press.epoch s
          else if how == .bufferFault then failPress p .faultPermanent (healthLog 0x0F 0xFF 0 s)
          else commitPress (how == .corrected) p s)

/-! ### Brine -/

/-- An entry or a book head differs from its durable copy. -/
def State.dirty (s : State) : Bool := s.brine.entries.any (fun e => e.dist != 0) || s.books.toList.any fun k => k.dist != 0

/-- Every dirty entry and book head written to its durable copy, while bank 0 takes writes (R274). -/
def writeDurable (s : State) : State :=
  if s.bankRetired 0 then s
  else wakeIf s.dirty { s with
    brine := { s.brine with entries := s.brine.entries.map fun e => if e.dist = 0 then e else e.makeDurable }
    books := s.books.map fun k => if k.dist = 0 then k else k.makeDurable }

/-- A counter entry loaded from its durable copy, or from the record when the slot was rewritten after that copy. -/
def loadEntry (s : State) (margin : Bool) (e : Entry) : Option Entry :=
  match s.slot e.slot, e.dur.read with
  | some k, some d =>
    let old := d.gen == k.gen
    let inv := if old then d.inv else 0
    let uses := if old then d.uses else k.init
    let m := if margin then 2 ^ 20 else 0
    some (Entry.makeDurable { e with
      gen := k.gen, inv := min (2 ^ 64 - 1) (inv + m), uses := if k.inBrine then uses - m else uses })
  | _, _ => none

/-- A book loaded from its durable head; one whose head is lost is halted. -/
def loadBook (k : Book) : Book :=
  match k.durable.read with
  | some h => { k with head := h, dist := 0 }
  | none => { k with st := .halted, dist := 0 }

/-- Object o, hit by an uncorrectable error in operation, is loaded from its durable copy with the margin of an
incomplete save (R270); a book head gets a gap record of cause 1. -/
def reloadBrine (o : BrineObj) (s : State) : State :=
  match o with
  | .entry n =>
    if (s.entry n.val).isNone then s
    else
      let load (e : Entry) : Option Entry := if e.slot = n.val then loadEntry s true e else some e
      mirrorBrine (healthLog 0x0C 0xFF n.val { s with brine := { s.brine with
        entries := s.brine.entries.filterMap load } })
  | .head b =>
    let s := healthLog 0x0C 0xFF b.val (setBook b.val (loadBook (s.book b.val)) s)
    if (s.book b.val).st == .halted then s else mirrorBrine (pressOwn [.gapRecords] (writeGap b.val 1 s))

/-- BRINE_CHECKPOINT (R267): first the objects that prove uncorrectable are reloaded, in either mode (log 154). -/
def execBrineCheckpoint (bad : List BrineObj) (s : State) : Host.Outcome State Fault Refusal :=
  .next (
    if !s.awake then s
    else
      let s := if s.debugBars || s.rind.guard then s else bad.foldl (fun s o => reloadBrine o s) s
      if s.brine.mode == .holdup && !s.debugBars then writeDurable s else s)

/-! ### Cellar scrub (R272 to R274) -/

/-- The record of an object has no valid copy left (R258, R259, R269). The life-cycle word and the last records are read
at starts alone, and slot records have no copies. -/
def loseRecord (o : LostObj) (s : State) : State :=
  match o with
  | .updateCounter =>
    healthLog 0x0B 0xFF 0 { s with lc := { s.lc with updateCounter := s.lc.updateCounter.lose } }
  | .brineStateWord => healthLog 0x0B 0xFF 0 { s with brine := { s.brine with word := s.brine.word.lose } }
  | .bookHead b =>
    let k := { s.book b with durable := (s.book b).durable.lose }
    healthLog 0x0B 0xFF b.val (setBook b { k with st := .halted } s)
  | .counterEntry n => healthLog 0x0B 0xFF n.val { s with brine := { s.brine with
      entries := s.brine.entries.map fun e => if e.slot = n.val then { e with dur := e.dur.lose } else e } }
  | .useCount n => healthLog 0x0B 0xFF n.val { s with cellar := { s.cellar with
      useCounts := put n.val ((look n.val s.cellar.useCounts).getD TwoCopy.zero).lose s.cellar.useCounts } }
  | .generalCounter n => healthLog 0x0B 0xFF n.val { s with cellar := { s.cellar with
      counters := put n.val ((look n.val s.cellar.counters).getD TwoCopy.zero).lose s.cellar.counters } }
  | .timeMark => healthLog 0x0B 0xFF 0 { s with time := { s.time with mark := s.time.mark.lose } }
  | .logState => healthLog 0x0B 0xFF 0 { s with press := { s.press with state := s.press.state.lose } }
  | .remapEntry r => healthLog 0x0B 0xFF r.toNat { s with cellar := { s.cellar with
      remapped := s.cellar.remapped.map fun x => if x.1 = r.toNat then (x.1, x.2.lose) else x } }
  | .microcode c => { s with cellar := { s.cellar with
      micro0 := s.cellar.micro0 && decide (c ≠ 0), micro1 := s.cellar.micro1 && decide (c ≠ 1) } }
  | .lifeCycleWord | .slotRecord _ | .lastRecord _ => s

/-- One copy of a two-copy record has become invalid: the other is read; where that was the last valid one, the record is
lost, which is logged (R258). The records kept otherwise have no second copy to lose. -/
def spoilCopy (s : State) (x : LostObj × Fin 2) : State :=
  let i := x.2.val
  match x.1 with
  | .lifeCycleWord => spoilLog s.vault.word i 0 { s with vault := { s.vault with word := s.vault.word.spoil i } }
  | .updateCounter =>
    spoilLog s.lc.updateCounter i 0 { s with lc := { s.lc with updateCounter := s.lc.updateCounter.spoil i } }
  | .brineStateWord => spoilLog s.brine.word i 0 { s with brine := { s.brine with word := s.brine.word.spoil i } }
  | .bookHead b => spoilLog (s.book b).durable i b.val (setBook b { s.book b with durable := (s.book b).durable.spoil i } s)
  | .counterEntry n =>
    match s.entry n.val with
    | none => s
    | some e => spoilLog e.dur i n.val { s with brine := { s.brine with
        entries := updFirst (fun e => e.slot == n.val) (fun e => { e with dur := e.dur.spoil i }) s.brine.entries } }
  | .useCount n =>
    let t := (look n.val s.cellar.useCounts).getD TwoCopy.zero
    spoilLog t i n.val { s with cellar := { s.cellar with useCounts := put n.val (t.spoil i) s.cellar.useCounts } }
  | .generalCounter n =>
    let t := (look n.val s.cellar.counters).getD TwoCopy.zero
    spoilLog t i n.val { s with cellar := { s.cellar with counters := put n.val (t.spoil i) s.cellar.counters } }
  | .timeMark => spoilLog s.time.mark i 0 { s with time := { s.time with mark := s.time.mark.spoil i } }
  | .logState => spoilLog s.press.state i 0 { s with press := { s.press with state := s.press.state.spoil i } }
  | .remapEntry r =>
    match look r.toNat s.cellar.remapped with
    | none => s
    | some t => spoilLog t i r.toNat { s with cellar := { s.cellar with
        remapped := put r.toNat (t.spoil i) s.cellar.remapped } }
  | .microcode c => loseRecord (.microcode c) s
  | .slotRecord _ | .lastRecord _ => s

/-- The row the scrub takes next: that of its position, past the banks that are retired (R272, R274). -/
def State.scrubRow (s : State) : Nat :=
  (List.range 4).foldl (fun r _ => if s.bankRetired (r / 16384) then (r / 16384 + 1) % 4 * 16384 else r) s.cellar.scrubAt

/-- CELLAR_SCRUB (R272): the row at the scrub's position is read, corrected and written back, and the position, kept in
the control page, moves on round the Cellar. The operations of rows and banks beside the scrub's own are free values
(log 21). -/
def execCellarScrub (row : BitVec 16) (found : GroupRead) (s : State) : Host.Outcome State Fault Refusal :=
  .next (
    let r := row.toNat
    let b := r / 16384
    if !s.awake || s.bankRetired b || r != s.scrubRow then s
    else
      let (f, s) := (wakeBank b s).freeNat
      let k := s.chan (56 + b)
      let s := setChan (56 + b) { k with ops := k.ops + f + 8 } s
      let s := { s with cellar := { s.cellar with scrubAt := (r + 1) % 65536 } }
      match found with
      | .good => s
      | .corrected => rowFault r s
      | .uncorrectable g loses spoils =>
        let a := r * 1024 + 16 * g.val
        let s := healthLog 0x0A (56 + b) (a / 16) (spoilGroup a s)
        rowFault r (spoils.elim (loses.elim s fun o => loseRecord o s) (spoilCopy s)))

/-! ### DRBG (01 R14, R16) -/

/-- The reseed uses up the gathered seed. -/
def reseed (s : State) : State := { s with drbg := { s.drbg with requests := 0, seedReady := false, due := false } }

/-- DRBG_RESEED: the reseed falls due; it waits for a seed that is not yet gathered. -/
def execDrbgReseed (s : State) : Host.Outcome State Fault Refusal :=
  .next (if !s.drbgOk then s else if s.drbg.seedReady then reseed s else { s with drbg := { s.drbg with due := true } })

/-- DRBG_SEED_READY: the next seed has been gathered from the healthy sources; a reseed that waits for it takes it. -/
def execDrbgSeedReady (s : State) : Host.Outcome State Fault Refusal :=
  .next (if !s.drbgOk then s else if s.drbg.due then reseed s else { s with drbg := { s.drbg with seedReady := true } })

/-- NOISE_SOURCE_FAIL: the source is disabled until the next reset; the seed is gathered anew from the other one. With
none left, every waiting request that needs a random value completes with NO_HEALTHY_CHANNEL (R16). -/
def execNoiseSourceFail (n : Fin 2) (s : State) : Host.Outcome State Fault Refusal :=
  .next (if (if n = 0 then s.drbg.noise0 else s.drbg.noise1) then
      engFill (healthLog 4 0xFF n.val { s with drbg := { s.drbg with
        noise0 := s.drbg.noise0 && decide (n ≠ 0), noise1 := s.drbg.noise1 && decide (n ≠ 1), seedReady := false } })
    else s)

end Sys2Proof.Machine
end

