-- ==== Sys2Proof/Machine/RindOps.lean ====
section
/-! DEFINITION. The Rind's response tiers: ALERT, GUARD, ERASE, and the dual-rail rate monitor (16). -/

namespace Sys2Proof.Machine

/-- The tier a trip of class c takes now (R351, R355): 1 ALERT, 2 GUARD, 3 ERASE, 0 disabled. -/
def State.tierOf (s : State) (c : Nat) : Nat :=
  match s.vault.lc with
  | .manufacture | .test | .retired => if s.active.tamper.tiers.getD c 0 = 0 then 0 else 1
  | _ =>
    if c = 8 ∧ s.power.st ≠ .battery then 1 else (s.active.tamper.tiers.getD c 0).toNat

/-- Class c is sensed in the present power state (R348, R350, R351); of class 9, `detail` 1 is the XT32_IN check, the
only one outside ACTIVE and IDLE, and of classes 11 and 12 it is the number of the loop or switch, which is enabled. -/
def State.senses (s : State) (c : Nat) (detail : Nat) : Bool :=
  let awake := s.awake
  if s.power.st == .off then false
  else if c = 5 ∨ c = 6 ∨ c = 10 then awake
  else if c = 7 then awake && (List.range 4).any fun i =>
      s.active.roles.getD i 0 != 0 && ((s.card i).st == .identifying || (s.card i).st == .identified)
  else if c = 9 then awake || detail == 1
  else if c = 11 then decide (detail < 4) && bit s.active.tamper.loops.toNat detail
  else if c = 12 then decide (detail < 4) && bit s.active.tamper.switches.toNat detail
  else true

/-- The Brine state word's save count; a lost word counts from 0. -/
def State.saveCount (s : State) : Nat := (s.brine.word.read.getD 1) / 256

/-- A complete save (R266): every durable copy written and the state word CLEAN with the save count plus 1. Under debug
and in a start in GUARD the Brine is not loaded, and stays as it is (R60, R362). A retired bank 0 takes no save, and the
state word stays (R274). -/
def saveBrine (s : State) : State :=
  if s.debugBars || s.bankRetired 0 then s
  else
    let s1 := wakeBank 0 (writeDurable s)
    { s1 with brine := { s1.brine with word := s1.brine.word.update ((s.saveCount + 1) * 256) } }

/-- Step 2 of GUARD (R357): the working keys, the session-store key and the state keys are zeroised. -/
def zeroise (s : State) : State :=
  { s with keys := { s.keys with sessionKey := none, stateKeys := none }
           eng := { s.eng with schedules := [] } }

/-- Every card request of channel ch ends with the status given, those waiting for their press too (R343). A request
past its commit is finished at the next identification. -/
def dropCards (st : Status) (ch : Nat) (s : State) : State :=
  let k := s.card ch
  let open_ := k.queue.filter fun r => r.phase != .home && r.phase != .applied
  let s := setCard ch { k with queue := [] } s
  open_.foldl (fun s r => cardOutcome ch r st 0 0 s) s

/-- The books forget the seals and wheels that wait (R299 closes a merged wheel at the next start). -/
def dropWheels (s : State) : State := { s with books := s.books.map fun k => { k with wheels := [], waiting := [] } }

/-- Steps 3 to 7 of GUARD (R357, R358). With `saved` the Brine is saved already (R361). -/
def guardSteps (saved : Bool) (s : State) : State :=
  let s := dropJobs (fun _ => true) { s with welt := { s.welt with waits := [] } }
  let s := depart s
  let s := (List.range 4).foldl (fun s c => dropCards .guardActive c s) s
  let s := (List.range 8).foldl (fun s c =>
    (List.range 4).foldl (fun s f => cutFrame c f .guardActive 0 s) s) s
  let s := { s with press := { s.press with queue := [], bufUsed := 0 }
                    eng := { s.eng with streams := [], retained := [], staged := 0 }
                    loaned := [] }
  let s := applyAll (dropWheels s)
  let s := if saved then s else raiseSample 273 (saveBrine s)
  let s := s.orders.foldl (fun s o => refuse o.uid .guardActive s) s
  let s := if s.mb.busy then mbFinish 6 .guardActive [] s else s
  endSessions (fun _ => true) { s with rind := { s.rind with wiping := true } }

/-- The log write in progress at a trip ends at its commit point (R357 step 4), after the departure of 17 R383: its press
takes effect, and its order completes as every order does, with GUARD_ACTIVE (R358). -/
def endLogInGuard (s : State) : State :=
  let s := depart { s with welt := { s.welt with waits := [] } }
  let bare (q : List Press) : List Press := match s.nextPress with
    | none => q
    | some p => updFirst (fun x => x == p) (fun x => { x with origin := .none, log := none, report := none, outs := [] }) q
  zeroise (pressCommit .good { s with press := { s.press with queue := bare s.press.queue } })

/-- GUARD entered by a trip of class c in ACTIVE or IDLE (R357, R358), or at an exit from DORMANT (R361). With `logWrite`
the press at the head is in its log write. -/
def guardTrip (c : Nat) (s : State) (saved : Bool := false) (logWrite : Bool := false) : State :=
  let s := zeroise (raiseSample 272 { s with rind := { s.rind with guard := true, cls := BitVec.ofNat 4 c }
                                             smb := { s.smb with alert := true } })
  guardSteps saved (if logWrite then endLogInGuard s else s)

/-- ERASE (R360): step 2 of GUARD, the root vault erased, then GUARD. -/
def eraseTrip (c : Nat) (s : State) (logWrite : Bool := false) : State :=
  let s := retireDevice 2 0 (zeroise (depart { s with welt := { s.welt with waits := [] } }))
  if s.rind.guard then { s with rind := { s.rind with cls := BitVec.ofNat 4 c } } else guardTrip c s false logWrite

/-- A tripped oscillator cross-check (R352): REFOSC_IN loses qualification; XT32_IN, with REFOSC_IN not qualified,
costs T its accuracy. -/
def oscillatorTrip (detail : Nat) (s : State) : State :=
  if detail = 0 then quietTime { s with time := { s.time.lose with refTripped := true } }
  else if detail = 1 then
    let t := { s.time with xtTripped := true }
    quietTime { s with
      time := t.onInternal
      power := { s.power with soleInvalid := s.power.soleInvalid || (s.power.st == .battery && !t.qualified) } }
  else s

/-- A trip of class c takes tier `tier` (R355 to R361). -/
def respond (c tier : Nat) (detail : BitVec 32) (s : State) (logWrite : Bool := false) : State :=
  match s.power.st with
  | .battery | .inReset =>
    let s := rindLog c tier (b2n (tier == 2)) detail s
    if tier = 3 then retireDevice 2 0 (zeroise s)
    else if tier = 2 then { s with rind := { s.rind with latchedTrip := some (Fin.ofNat 13 c) } }
    else s
  | .dormant =>
    let s := rindLog c tier 0 detail s
    if tier = 1 then raise 271 s
    else
      let s := raise 272 { s with keys := { s.keys with bootNonce := none }, ev := { s.ev with wakeExit := true } }
      if tier = 3 then
        let s := retireDevice 2 0 (zeroise s)
        { s with rind := { s.rind with guard := true, cls := BitVec.ofNat 4 c, wiping := true } }
      else { s with rind := { s.rind with latchedTrip := some (Fin.ofNat 13 c) } }
  | _ =>
    let s := rindLog c tier 0 detail s
    if tier = 1 then raiseSample 271 s
    else
      let s := sample 271 s
      if tier = 3 then eraseTrip c s logWrite else if s.rind.guard then s else guardTrip c s false logWrite

/-- One invalid code word (R353): ALERT when the sliding window's count reaches the alert count, the class's tier when
it reaches the guard count. -/
def detection (s : State) : State :=
  let s := sampleTime s
  let a := s.active.tamper
  let ds := s.time.t :: s.rind.detections.filter fun d => decide (s.time.t < d + a.windowUs * second / 1000000)
  let s := { s with rind := { s.rind with detections := ds } }
  let n := ds.length
  if n = a.guardCount then
    respond 10 (s.tierOf 10) (BitVec.ofNat 32 n) { s with rind := { s.rind with
      tripped := 10 :: s.rind.tripped.filter (· != 10) } }
  else if n = a.alertCount then respond 10 1 (BitVec.ofNat 32 n) s
  else s

end Sys2Proof.Machine
end

