-- ==== Sys2Proof/Machine/Start.lean ====
section
/-! DEFINITION. What a reset clears, and the start at RESET_N release: straps, last, life cycle, first start, Rind check,
Brine, keys, channels, applets (01 to 04, 12, 13, 16). -/

namespace Sys2Proof.Machine

/-! ### What does not survive a reset -/

/-- The SRAM of a reset device: no frame, no job, no order, no queue pair, no session. -/
def clearVolatile (s : State) : State :=
  let s := outputsLow (endSessions (fun _ => true) s)
  { s with
    link := ⟨false, false, false, false, 0, [], LinkCfg.default⟩
    lc := { s.lc with debug := false, firstStart := false }
    keys := ⟨none, none, 0, none⟩
    hl := ⟨0, 0, 0, 0, false, false, 0⟩
    qps := []
    orders := []
    turns := Vector.replicate 4 Turns.fresh
    msix := ⟨false, false, [], [], []⟩
    mb := Mailbox.idle
    loaned := []
    cores := State.reset.cores
    tp := ⟨0, 0, 0⟩
    supSram := []
    eng := Engines.empty
    press := { s.press with queue := [], bufUsed := 0 }
    books := s.books.map fun k => { k with wheels := [], waiting := [] }
    time := s.time.atReset
    ev := Events.ofLast s.active
    drbg := ⟨false, false, false, 0, false⟩
    health := { s.health with
      chans := List.replicate 60 Chan.fresh, retirements := s.health.pressed, log := RLog.empty, katDue := [] }
    rind := { s.rind with guard := false, cls := 0, latched := false, tripped := [], detections := [], wiping := false }
    cards := { s.cards with
      ch := s.cards.ch.map fun k => CardCh.off { k with queue := [] }
      medium := { s.cards.medium with headerOk := false, missed := 0, firstSinceStart := true } }
    welt := { s.welt with
      link := false, lanes := [], mode := .detached, lease := false, granted := false, forked := false, nonce := []
      linkKey := [], txSeq := 0, rxSeq := 0, unacked := [], unsent := [], timeouts := 0, closeCall := false, waits := [], gathered := 0, grants := []
      copied := [], timeBad := false }
    dbg := ⟨0, 0⟩ }

/-! ### Records found bad (12 R258) -/

/-- The retirement of a device whose life-cycle word cannot be read (03 R42, R56): cause 3, with the prior state of the
committed life-cycle record, 0xFF where its page cannot be read or it has none. -/
def vaultLost (s : State) : State :=
  let known := if s.badRange lifePage.1 lifePage.2 then none else s.lc.lcRecord
  let r := retirementRecord (sampleTime s) 3 0 (known.elim 0xFF Lifecycle.code)
  let s := retireDevice 3 0 s
  { s with lc := { s.lc with retirement := some r } }

/-- The life-cycle word read at a start (03 R42): the state it names, or RETIRED where neither copy passes its check. -/
def readVault (s : State) : State :=
  match s.vault.word.read with
  | some l => { s with vault := { s.vault with lc := l } }
  | none => if s.vault.lc == .retired then s else vaultLost s

/-- What a start does about one unreadable record. -/
def loseObj (s : State) (o : LostObj) : State :=
  match o with
  | .bookHead b => healthLog 0x0B 0xFF b.val (setBook b { s.book b with durable := (s.book b).durable.lose } s)
  | .lifeCycleWord => healthLog 0x0B 0xFF 0 { s with vault := { s.vault with word := s.vault.word.lose } }
  | .slotRecord n => { s with cellar := { s.cellar with
      slots := s.cellar.slots.map fun k => if k.n = n.val then { k with tagOk := false } else k } }
  | .lastRecord n => { s with lasts := vmap (fun i l =>
      if i = n then l.map fun (r : Last) => { r with digestOk := false } else l) s.lasts }
  | o => loseRecord o s

/-! ### The last (04 R62 to R64) -/

/-- A press made before the device serves: it commits and is applied at once. -/
def startPress (items : List PItem) (s : State) : State :=
  let e := s.press.epoch + 1
  let s := wakeBanks items { s with press := s.press.write e (recordLen items) 8 0 items }
  rewriteShared (applyAll (items.foldl (applyItem e) s))

/-- Selection and application of a last (R62, R64): on a warm restart the pending one, else the one the balls name; the
base last where the record is empty or its digest does not match. -/
def selectLast (balls : BitVec 2) (pend : Option (BitVec 2)) (s : State) : State :=
  let n := pend.getD balls
  let r := vget s.lasts n.toNat none
  let (l, base) := match r with
    | some l => if l.digestOk then (l, false) else ({ baseLast with number := n }, true)
    | none => ({ baseLast with number := n }, true)
  let s := { s with active := { l with number := n }, ls := ⟨n, base, pend.isSome⟩, ev := Events.ofLast l
                    power := { s.power with holdWarm := l.holdWarm } }
  if base then healthLog 6 0xFF n.toNat s else s

/-! ### Domains at start (02) -/

/-- Domain d is on at the end of a start: what is never gated or carries something, the first healthy channels up to the
warm minimum, every healthy one under HOLD_WARM (R31, R32). -/
def State.startsOn (s : State) (d : Nat) : Bool :=
  if 9 ≤ d ∧ d ≤ 12 then (s.card (d - 9)).present && s.chanOk (48 + (d - 9))
  else if d = 13 then s.welt.role != .unpaired
  else
    match domainClass d with
    | none => d != 2 && (d != 7 || s.chanOk 54) && (d != 8 || s.chanOk 55)
    | some (base, _, ch, w) =>
      let i := d - base
      let before := ((List.range i).filter fun j => s.chanOk (ch + j)).length
      s.chanOk (ch + i) && (s.power.holdWarm || decide (before < s.active.warm.getD w 1))

def setDomains (s : State) : State :=
  { s with power := { s.power with domainsOff := (List.finRange 64).filter fun d => !s.startsOn d.val } }

/-! ### Applets (06 R130) -/

/-- Bytes of residency an image takes. -/
def Applet.residency (a : Applet) : Nat := a.codeLen + a.dataLen + a.zeroFill

/-- The image an applet-set entry names: the highest installed version of the current state's origin, not below the
minimum, whose required algorithms are all enabled. -/
def State.pickApplet (s : State) (e : AppletSel) : Option Applet :=
  (s.cellar.applets.filter fun a => a.id == e.id && decide (e.minVer ≤ a.ver) && a.origin == s.vault.lc
      && (a.algs &&& s.active.enables) == a.algs).foldl
    (fun (b : Option Applet) a => match b with
      | some x => if x.ver < a.ver then some a else b
      | none => some a) none

def Core.room (k : Core) : Nat := 1572864 - (k.resident.map fun r => r.img.residency).sum

/-- The image does not verify: a group of it in the applet store is uncorrectable (R130; 12 R254). -/
def State.imageBad (s : State) (a : Applet) : Bool :=
  a.places.zipIdx.any fun x => s.badRange (blockAddr x.1) (min 4096 (512 + a.codeLen + a.data.length - 4096 * x.2))

/-- An image loaded onto core c, or skipped there. -/
def loadOn (a : Applet) (c : Nat) (s : State) : State :=
  let k := s.core c
  if !s.chanOk (40 + c) then s
  else if a.residency ≤ k.room && !s.imageBad a then setCore c { k with resident := k.resident ++ [a.fresh] } s
  else healthLog 7 (40 + c) a.id s

/-- The applet set, in entry order, core by core. -/
def loadApplets (s : State) : State :=
  s.active.applets.foldl (fun s e =>
    match if e.id = 0 then none else s.pickApplet e with
    | none => s
    | some a => (List.range 8).foldl (fun s c => if e.mask.getLsbD c then loadOn a c s else s) s) s

/-! ### Brine (12 R266, R269; 08 R170) -/

/-- The value of the state word while the device runs: DIRTY, or WRITE_THROUGH (R266). -/
def BrineMode.code : BrineMode → Nat
  | .holdup => 1
  | .writeThrough => 2

/-- The mode of the hold-up test (R265, R271). -/
def setBrineMode (s : State) : State :=
  { s with brine := { s.brine with mode := if s.power.holdup then .holdup else .writeThrough } }

/-- The state word of a Brine in use: DIRTY, or WRITE_THROUGH, with the save count (R266). -/
def writeWord (s : State) : State :=
  if s.bankRetired 0 then s
  else wakeBank 0 { s with brine := { s.brine with word := s.brine.word.update (s.saveCount * 256 + s.brine.mode.code) } }

/-- The Brine loaded at a start or an exit from DORMANT (R266), with the margins and gap records of an incomplete save
(R269); the numbers of the books that got one. -/
def loadBrine (s : State) : List Nat × State :=
  let v := s.brine.word.read
  let bad := match v with
    | some x => x % 256 == 1
    | none => true
  let s := { s with
    brine := { s.brine with entries := s.brine.entries.filterMap (loadEntry s bad) }
    books := s.books.map loadBook }
  let gaps := if bad then (List.range 64).filter fun b => (s.book b).st != .halted else []
  let s := gaps.foldl (fun s b => writeGap b 0 s) s
  let s := if bad && s.ringOk then startPress [.gapRecords] s else s
  (gaps, writeWord s)

/-! ### Time at start (13 R283) -/

/-- The Sole's time base is invalid: T is the time mark plus 2 s. A time mark that is lost with both its copies leaves T
as it is (log 183). -/
def soleRestart (s : State) : State :=
  if s.power.soleInvalid then
    { s with
      power := { s.power with soleInvalid := false }
      time := { s.time with t := s.time.mark.read.elim s.time.t fun m => m + 2 * second, timeSet := false, lost := true
                            saturated := true, qualified := false, gates := 0, r := 0, rate := 0
                            bins := s.time.binsRec } }
  else s

/-! ### Life cycle at start (03 R42, R43, R54; 12 R259, R263) -/

/-- First start (03): root, Cellar, ISSUED. It waits for both noise sources (R16), and first erases what an interrupted
first start left in the vault; one cut before step 7 leaves its root there, under MANUFACTURE (R45). T counts from
zero (13 R276; log 82), and the time mark with it; the time record of step 6 holds the bin table as measured so far
(log 173). -/
def firstStart (cut : Bool) (s : State) : State :=
  let v := if s.vault.lc == .manufacture then s.vault else s.vault.become .manufacture
  let s := { s with vault := { v with root0 := none, root1 := none } }
  if s.drbg.noise0 && s.drbg.noise1 then
    let (root, s) := s.drbgBytes 32
    let s := { s with vault := { s.vault with root0 := some root, root1 := some root } }
    if cut then { s with lc := { s.lc with firstStart := true } } else
    { s with
      vault := s.vault.become .issued
      lc := { s.lc with firstStart := false, permit := false, lcRecord := some .issued, officers := [], k := 0
                        bankTag := zeros 8, updateCounter := TwoCopy.zero, request := certRequest root, cert := none, retirement := none, wipe := false
                        pendLast := none }
      press := { s.press with epoch := 0, applied := 0, queue := [], log := [], left := [], pos := 0
                              state := Copies.both ⟨0, s.press.half0, s.press.half1, 0⟩ }
      cellar := { s.cellar with parts := Vector.replicate 8 ⟨none, 0, [], []⟩, counters := [], slots := [], gens := []
                                useCounts := [], applets := [], bad := [] }
      brine := { s.brine with word := TwoCopy.zero, entries := [] }
      books := Vector.replicate 64 Book.zero
      time := { s.time with
        t := 0, timeSet := false, lost := false, cfg := TimeCfg.default, binsRec := s.time.bins, mark := s.time.mark.update 0 }
      health := { s.health with table := [], retirements := 0, pressed := 0 }
      cards := { s.cards with ch := s.cards.ch.map fun k => { k with vol := VolRec.none } }
      welt := Welt.unpaired }
  else { s with lc := { s.lc with firstStart := true } }

/-- The transitions of a RESET_N release. A start that finds the root of an interrupted first start erases it (R45), also
where it goes to TEST. -/
def startLifecycle (testEn cut : Bool) (s : State) : State :=
  match s.vault.lc with
  | .manufacture | .test =>
    if testEn then { s with vault := { s.vault.become .test with root0 := none, root1 := none } } else firstStart cut s
  | .retired => s
  | _ =>
    let s := match s.lc.lcRecord with
      | some .retired => retireDevice 1 0 s
      | some l => { s with vault := s.vault.become l }
      | none => s
    if s.vault.lc == .service && (s.updateCounter.isNone || !s.ringOk) then
      { s with vault := s.vault.become .recovery }
    else s

/-! ### The Rind at start (16 R361, R362) -/

/-- The generator of the mesh sequences is reseeded (16 R349), with 32 bytes (log 186). Without a healthy noise source it
runs on from its own state. -/
def seedMesh (s : State) : State :=
  if s.drbgOk then
    let (b, s) := s.drbgBytes 32
    { s with rind := { s.rind with mesh := b } }
  else s

/-- The first trip of each class in the list. -/
def firstTrips (l : List (Fin 13 × BitVec 32)) : List (Fin 13 × BitVec 32) :=
  l.foldl (fun acc c => if acc.any fun x => x.1 == c.1 then acc else acc ++ [c]) []

/-- Trips found at start, and the latched one: one record for each class, source 271 for one of tier ALERT (R356), and
the highest tier among them. -/
def rindCheck (tripped : List (Fin 13 × BitVec 32)) (s : State) : Nat × Nat × State :=
  let sensed := tripped.filter fun c => s.senses c.1.val c.2.toNat && s.tierOf c.1.val != 0
  let found := firstTrips sensed
  let s := { s with rind := { s.rind with tripped := found.map Prod.fst } }
  let s := (sensed.filter fun c => c.1 == 9).foldl (fun s c => oscillatorTrip c.2.toNat s) s
  let s := found.foldl (fun s c =>
    let s := rindLog c.1.val (s.tierOf c.1.val) 2 c.2 s
    if s.tierOf c.1.val = 1 then raise 271 s else s) s
  let all := (found.map fun c => (c.1.val, s.tierOf c.1.val)) ++
    (match s.rind.latchedTrip with
      | some c => [(c.val, min 2 (s.tierOf c.val))]
      | none => [])
  let top := all.foldl (fun (b : Nat × Nat) x => if b.2 < x.2 then x else b) (0, 0)
  (top.1, top.2, { s with rind := { s.rind with latchedTrip := none } })

/-! ### The whole start -/

/-- Channels at start: fresh counts, the pressed retirements, failed known-answer tests (R364, R370). -/
def startChannels (katFail : List (Fin 60)) (s : State) : State :=
  let s := { s with health := { s.health with
    chans := (List.range 60).map fun i =>
      match look i s.health.table with
      | some (cause, _, _) => { Chan.fresh with retired := true, cause := cause }
      | none => Chan.fresh } }
  katFail.foldl (fun s i => if s.chanOk i.val then retire i.val 2 (healthLog 3 i.val 0 s) else s) s

/-- The conditions of the level sources sampled: those of the queue pairs, and of the device (14 R304, R318). -/
def sampleAll (s : State) : State :=
  (s.qps.map (fun (q : Qp) => q.n.toNat + 1) ++ [261, 262, 263, 264, 267, 269, 270, 271, 272, 274, 275, 292]).foldl (fun s n => sample n s) s

/-- Cards found inserted are identified (15, Identification). -/
def identifyCards (s : State) : State :=
  let ident (i : Fin 4) (k : CardCh) : CardCh :=
    if k.present && k.st == .none && s.chanOk (48 + i.val) then { k with st := .identifying } else k
  { s with cards := { s.cards with ch := vmap ident s.cards.ch } }

/-- A microcode copy that fails its check is logged (R237). -/
def microFault (copy : Nat) (s : State) : State := healthLog 0x09 0xFF copy s

/-- The check of the microcode image at a start and at an exit from DORMANT (11 R237): the first copy; where it fails the
second, from which the first is rewritten, while bank 0 takes writes (12 R274); with both bad no lane is usable. -/
def checkMicrocode (s : State) : State :=
  let use (b : Bool) (s : State) : State := { s with eng := { s.eng with microcodeOk := b } }
  if s.cellar.micro0 then use true s
  else if s.cellar.micro1 then
    let s := microFault 0 s
    if s.bankRetired 0 then use true s
    else use true (wakeBank 0 (mend microArea0.1 microArea0.2 { s with cellar := { s.cellar with micro0 := true } }))
  else use false (microFault 1 (microFault 0 s))

/-- A start in GUARD (R362): Press recovery, nothing derived, no Brine, no order but the one of R359, which needs a
lane. -/
def startGuard (f : StartFacts) (c tier : Nat) (s : State) : State :=
  let s := { s with rind := { s.rind with guard := true, cls := BitVec.ofNat 4 c, latched := true }
                    smb := { s.smb with alert := true } }
  let s := startChannels f.katFail (checkMicrocode s)
  raise 272 (if tier = 3 then retireDevice 2 0 s else s)

/-- A start that is not in GUARD, after the checks: keys, Brine, wheels, channels, applets. -/
def startServe (f : StartFacts) (permit : Bool) (s : State) : State :=
  let debug := f.testEn && (s.vault.lc == .retired || (permit && s.serving))
  let s := { s with lc := { s.lc with debug := debug } }
  let s := startChannels f.katFail (checkMicrocode s)
  let s := newStateKeys (newStoreKey (newBootNonce s))
  let s := { s with genBase := s.freeCtr, freeCtr := s.freeCtr + 16384, gens := [] }
  let (gaps, s) := if s.debugBars then ([], s) else if s.vault.lc == .retired then ([], writeWord s) else loadBrine s
  let s := mergeWheels gaps s
  let s := if s.welt.role == .follower then { s with welt := { s.welt with stale := true } } else s
  identifyCards (loadApplets s)

/-- The records a start reads that have no second copy: the life-cycle page, the officer set, the health table, the time
record, the pair record (12 R250). -/
def startPages : List (Nat × Nat) := [lifePage, officerArea, healthPage, timePage, pairArea]

/-- Those records read at a start: an uncorrectable group counts against its row (12 R254), and the device goes on with
what it holds (log 228). -/
def readPages (s : State) : State := startPages.foldl (fun s p => badRead p.1 p.2 s) s

/-- RESET_N release (R62): the start sequence. The press that clears a pending selection needs a ring to write to; a
selection it cannot clear is used at every warm restart (log 189). -/
def start (f : StartFacts) (s : State) : State :=
  let s := clearVolatile s
  let s := { s with
    power := { s.power with req := false, refused := false, reason := 0, pwrfailN := true, testEn := f.testEn
                            balls := f.lastSel, holdup := decide (4750 ≤ f.vholdMv ∧ f.vholdDropUv ≤ 23600) }
    drbg := ⟨f.noise0, f.noise1, false, 0, false⟩
    cellar := { s.cellar with removed := [] } }
  let s := readVault (soleRestart (f.lost.foldl loseObj (f.spoiled.foldl spoilCopy s)))
  let s := (if f.noise0 then s else healthLog 4 0xFF 0 s)
  let s := (if f.noise1 then s else healthLog 4 0xFF 1 s)
  let s := setBrineMode (recover (readPages s))
  let permit := s.lc.permit
  let warm := if s.vault.lc == .manufacture || s.vault.lc == .test || s.power.pfSincePend then none else s.lc.pendLast
  let clears := (permit || s.lc.pendLast.isSome) && s.ringOk
  let s := if clears then startPress [.permit false, .pendLast none] s else s
  let s := selectLast f.lastSel warm s
  let s := startLifecycle f.testEn f.firstCut { s with power := { s.power with st := .active } }
  let (c, tier, s) := rindCheck f.tripped (seedMesh s)
  let s := if 2 ≤ tier then startGuard f c tier s else startServe f (permit && clears) s
  let s := if s.health.log.w != 0 then raise 275 s else s
  latchTime (sampleAll (setDomains s))

end Sys2Proof.Machine
end

