-- ==== Sys2Proof/Machine/Power.lean ====
section
/-! DEFINITION. Reset, power and sleep: RESET_N, power fail, host-link reset, domains, DORMANT, D3hot, retirement wipe
(02, 03, 05 R77, 12, 14, 18). -/

namespace Sys2Proof.Machine

/-! ### Starts and resets -/

/-- RESET_N_RELEASE (R62): the start sequence, from reset. -/
def execResetNRelease (f : StartFacts) (s : State) : Host.Outcome State Fault Refusal :=
  .next (if s.power.st == .inReset then start f s else s)

/-- Step 2 of the power-down save: an order that has not completed by now receives no completion (R268). -/
def stopOrders (s : State) : State := { s with orders := [], qps := [], welt := { s.welt with waits := [] } }

/-- The log write in progress ends at its commit point (12, Power-down save, step 3). -/
def endLogWrite (s : State) : State := pressCommit .good (stopOrders s)

/-- RESET_N_ASSERT (R395): steps 2 to 5 of the save on main power, then reset. With `logWrite` the press at the head is in
its log write. -/
def execResetNAssert (s : State) (logWrite : Bool := false) : Host.Outcome State Fault Refusal :=
  .next (match s.power.st with
    | .active | .idle | .dormant =>
      let s := if logWrite && s.awake && !s.rind.guard then endLogWrite s else s
      let s := if s.power.st == .dormant || s.rind.guard then s else saveBrine s
      let s := clearVolatile s
      { s with power := { s.power with st := .inReset } }
    | _ => s)

/-- The Sole has lost its rail (R283, R368). -/
def soleLoss (s : State) : State :=
  { s with power := { s.power with soleInvalid := true }
           rind := { s.rind with log := RLog.empty, latchedTrip := none }
           time := { s.time with alarm := 0 } }

/-- The first n of the elements that satisfy `due` become `full`, the next of them `last`, in list order. -/
def saveSome {α : Type} (due : α → Bool) (full last : α → α) (n : Nat) : List α → List α
  | [] => []
  | x :: xs =>
    if !due x then x :: saveSome due full last n xs
    else
      match n with
      | 0 => last x :: xs
      | n + 1 => full x :: saveSome due full last n xs

/-- A save that VHOLD did not last to end (R252, R268): it stops at the group being written. The dirty objects before it
are saved, those after it are not; of the one in hand the copy being written is cut in its data groups, and then invalid,
or not yet begun. The order is that of the entries, then of the books (log 216); the state word stays. -/
def partialSave (s : State) : State :=
  if s.bankRetired 0 then s
  else
    let (f, s) := s.freeNat
    let (g, s) := s.freeNat
    let cutE (e : Entry) : Entry := if g % 2 = 0 then e else { e with dur := e.dur.cut }
    let cutB (k : Book) : Book := if g % 2 = 0 then k else { k with durable := k.durable.cut }
    let des := (s.brine.entries.filter fun e => e.dist != 0).length
    let dbs := (s.books.toList.filter fun k => k.dist != 0).length
    let n := f % (des + dbs + 1)
    let s := { s with brine := { s.brine with
      entries := saveSome (fun e => e.dist != 0) Entry.makeDurable cutE n s.brine.entries } }
    if n < des then s
    else
      let ks := saveSome (fun (k : Book) => k.dist != 0) Book.makeDurable cutB (n - des) s.books.toList
      { s with books := Vector.ofFn fun i => ks.getD i.val Book.zero }

/-- POWER_FAIL (R39, R268, R383): the declaration, the log write, the departure after every committed press, the save,
BATTERY. With `logWrite` the press at the head is in its log write, which ends at its commit point. -/
def execPowerFail (saveEnds : Bool) (s : State) (logWrite : Bool := false) : Host.Outcome State Fault Refusal :=
  .next (
    if s.power.st == .battery || s.power.st == .off then s
    else
      let awake := s.awake
      let s := raiseSample 274 { s with power := { s.power with pwrfailN := false, pfSincePend := true } }
      let s := if awake then stopOrders s else s
      let s := if logWrite && awake && !s.rind.guard then endLogWrite s else s
      let s := if awake then depart s else s
      let s := if !awake || s.rind.guard || s.brine.mode == .writeThrough || s.debugBars then s
        else if saveEnds then saveBrine s else partialSave s
      let s := if awake then
          markTime (sampleTime s)
        else s
      let s := clearVolatile (if awake then keepStatus s else s)
      let s := { s with power := { s.power with
                          st := if s.power.vbat then .battery else .off
                          domainsOff := (List.finRange 64).filter fun d => d.val != 0 || !s.power.vbat } }
      if s.power.vbat then s else soleLoss s)

/-- POWER_UP (R394): main power is back, with RESET_N low. -/
def execPowerUp (s : State) : Host.Outcome State Fault Refusal :=
  .next (match s.power.st with
    | .battery | .off => { s with power := { s.power with st := .inReset, pwrfailN := true } }
    | _ => s)

/-- VHOLD_LOW (R271): hold-up is lost; write-through from here. Under debug and in GUARD the Brine is not in use, and its
durable copies and state word stay (R60, R362; log 217). -/
def execVholdLow (s : State) : Host.Outcome State Fault Refusal :=
  .next (
    if !s.awake || s.brine.mode == .writeThrough then s
    else
      let s := if s.debugBars || s.rind.guard then s else writeDurable s
      let s := { s with brine := { s.brine with mode := .writeThrough } }
      let s := if s.debugBars || s.rind.guard then s else writeWord s
      healthLog 0x0D 0xFF 0 { s with power := { s.power with holdup := false } })

/-! ### Host-link reset (R77, R321) -/

/-- What waits for a request of the host or of a frame, rather than for the device itself. -/
def Ref.ofHost : Ref → Bool
  | .order _ | .token _ _ _ _ | .instr _ _ _ _ _ | .mailbox => true
  | _ => false

/-- Jobs that satisfy p leave the engines without a scrub: host-memory access has stopped (R206). -/
def forgetJobs (p : Job → Bool) (s : State) : State :=
  engFill { s with eng := { s.eng with
      vat := s.eng.vat.drop p, digest := s.eng.digest.drop p, lanes := s.eng.lanes.drop p
      compares := s.eng.compares.filter fun j => !p j
      staged := s.eng.staged - ((s.eng.vat.jobs.filter fun j => p j && j.reserved).map Job.stagedBytes).sum } }

/-- The host side of the event controller and the MSI-X table at their reset values (R321). -/
def resetHostEvents (s : State) : State :=
  let fresh := Events.ofLast s.active
  let src (n : Nat) (x : Source) : Source :=
    if x.target = 9 then fresh.sources.getD n ⟨0, false, false, false, false⟩ else x
  let grp (g : Nat) (x : Group) : Group :=
    if s.groupTarget g = 9 ∨ s.groupTarget g = 15 then fresh.groups.getD g ⟨0, none, 0, false⟩ else x
  { s with
    ev := { s.ev with sources := (s.ev.sources.zipIdx).map fun x => src x.2 x.1
                      groups := (s.ev.groups.zipIdx).map fun x => grp x.2 x.1
                      gdisHost := true, stat := fresh.stat }
    msix := ⟨false, false, [], [], []⟩ }

/-- A host-link reset counts as a removal for a channel with a request under way (15 R343): its requests end, and its card
is identified again, which does what a committed write still owes its home (15 R341). -/
def cardsReset (ch : Nat) (s : State) : State :=
  let k := s.card ch
  if k.queue.isEmpty then s
  else
    let s := failCard ch (fun _ => .aborted) s
    let again := k.st == .identified && s.chanOk (48 + ch)
    let s := if again then setCard ch { (s.card ch).rest with st := .identifying } s else s
    retryAppends ch s

/-- HOST_LINK_RESET (R77): every order stops without a completion; queue pairs, sessions, loaned slots and the boot
nonce go. Presses handed over stand. Of the registers R77 does not name, those of the mailbox and the latch of
HL_EPOCH_HI are reset as well (log 191). -/
def execHostLinkReset (s : State) (cfg : LinkCfg := LinkCfg.default) : Host.Outcome State Fault Refusal :=
  .next (
    if !s.awake then s
    else
      let s := forgetJobs (fun j => j.ref.ofHost) { s with orders := [], qps := [], turns := Vector.replicate 4 Turns.fresh }
      let s := (List.range 8).foldl (fun s c =>
        (List.range 4).foldl (fun s f => cutFrame c f .aborted 0 s) s) s
      let s := (List.range 4).foldl (fun s c => cardsReset c s) s
      let s := endSessions (fun _ => true) s
      let s := { s with
        books := s.books.map fun (k : Book) => { k with waiting := k.waiting.filter fun w => !w.ref.ofHost }
        welt := { s.welt with waits := s.welt.waits.filter fun w => !w.ref.ofHost }
        eng := { s.eng with streams := [], retained := [], schedules := [], serial := 0 }
        loaned := []
        mb := Mailbox.idle
        hl := ⟨0, 0, 0, 0, false, false, 0⟩
        link := { s.link with d3hot := false, pmeEn := false, pmeStatus := false, cfg := cfg }
        time := { s.time with tokens := [] } }
      let s := if s.rind.guard then { s with keys := { s.keys with bootNonce := none } }
        else newStateKeys (newBootNonce s)
      sampleAll (resetHostEvents s))

/-! ### Domains (R30, R31) -/

/-- Domain d holds no pending work. -/
def State.domainIdle (s : State) (d : Nat) : Bool :=
  if 3 ≤ d ∧ d ≤ 6 then !s.bankBusy (d - 3)
  else if 9 ≤ d ∧ d ≤ 12 then !(s.card (d - 9)).present && (s.card (d - 9)).queue.isEmpty
  else if 14 ≤ d ∧ d ≤ 21 then (s.core (d - 14)).frames.toList.all Option.isNone
  else if 22 ≤ d ∧ d ≤ 37 then !s.eng.vat.busy (d - 22)
  else if 38 ≤ d ∧ d ≤ 45 then !s.eng.digest.busy (d - 38)
  else if 46 ≤ d ∧ d ≤ 61 then
    let l := d - 46
    !s.eng.lanes.busy l && (look l s.eng.lanes.susp).isNone && !s.eng.retained.any fun r => r.lane == l
  else if d = 63 then
    s.eng.vat.jobs.isEmpty && s.eng.digest.jobs.isEmpty && s.eng.lanes.jobs.isEmpty && s.eng.compares.isEmpty &&
      s.eng.staged == 0 &&
      (List.finRange 64).all fun x => !(decide (22 ≤ x.val ∧ x.val ≤ 61)) || s.power.domainsOff.contains x
  else false

/-- Switching domain d off keeps the warm minimum of its class, and HOLD_WARM is clear (R31). -/
def State.aboveWarm (s : State) (d : Nat) : Bool :=
  match domainClass d with
  | none => true
  | some (base, n, ch, w) =>
    let healthy := (List.range n).filter fun i => s.chanOk (ch + i)
    let on := healthy.filter fun i => base + i != d && !(s.power.domainsOff.any fun x => x.val == base + i)
    !s.power.holdWarm && decide (min (s.active.warm.getD w 1) healthy.length ≤ on.length)

/-- DOMAIN_POWER_OFF (R30): an idle automatic domain switches off; a cipher core's key schedules go with it. -/
def execDomainPowerOff (d : Fin 64) (s : State) : Host.Outcome State Fault Refusal :=
  .next (
    if s.awake && s.domainIdle d && s.aboveWarm d && !s.power.domainsOff.contains d then
      { s with power := { s.power with domainsOff := d :: s.power.domainsOff }
               eng := { s.eng with schedules := s.eng.schedules.filter fun x => x.1 + 22 != d.val } }
    else s)

/-- HOLD_WARM_WRITE (R31): PW_CTL.HOLD_WARM; while set, every healthy engine domain is on. -/
def holdWarm (on : Bool) (s : State) : State :=
  let s := { s with power := { s.power with holdWarm := on } }
  if on then
    let stays (d : Fin 64) : Bool := (domainClass d.val).isNone || !s.startsOn d.val
    testPowered { s with power := { s.power with domainsOff := s.power.domainsOff.filter stays } }
  else s

def execHoldWarmWrite (on : Bool) (s : State) : Host.Outcome State Fault Refusal :=
  .next (if s.hostReach then holdWarm on s else s)

/-! ### DORMANT (R35 to R38) -/

/-- The first reason that refuses DORMANT (R35). -/
def State.dormantBar (s : State) : Option Nat :=
  if !s.sessions.isEmpty then some 1
  else if !s.orders.isEmpty || s.qps.any (fun q => !q.gathered.isEmpty) then some 2
  else if !s.active.dormantOk then some 3
  else if s.welt.mode == .sync then some 4
  else none

/-- A refused request: REQ 0b00, REFUSED set, the reason recorded. -/
def refuseDormant (r : Nat) (s : State) : State :=
  { s with power := { s.power with req := false, refused := true, reason := BitVec.ofNat 4 r } }

/-- A request for DORMANT, by PW_CTL.REQ or by D3hot. -/
def requestDormant (s : State) : State :=
  match s.dormantBar with
  | some r => refuseDormant r s
  | none => { s with power := { s.power with req := true } }

/-- PW_CTL.REQ written (R35). A reserved value leaves REQ as it is and records reason 5. -/
def writeReq (req : Nat) (s : State) : State :=
  if req = 0 then { s with power := { s.power with req := false } }
  else if req = 1 then requestDormant s
  else { s with power := { s.power with refused := true, reason := 5 } }

/-- PW_CTL_REQ_WRITE (R35). -/
def execPwCtlReqWrite (req : BitVec 2) (s : State) : Host.Outcome State Fault Refusal :=
  .next (if s.hostReach then writeReq req.toNat s else s)

/-- Every group of T9 delivers as though a threshold had been reached (R319). -/
def flushGroups (s : State) : State :=
  (List.range 64).foldl (fun s g => if s.groupTarget g = 9 then deliver g s else s) s

/-- Work is under way beside the orders: some automatic domain has not drained (R34), and entry to DORMANT waits for it.
A committed record that awaits application is a write of its bank. -/
def State.working (s : State) : Bool :=
  !s.press.queue.isEmpty || !s.press.log.isEmpty || !s.eng.compares.isEmpty || !s.eng.vat.jobs.isEmpty || !s.eng.digest.jobs.isEmpty || !s.eng.lanes.jobs.isEmpty
    || s.mb.busy || s.cards.ch.toList.any fun k => !k.queue.isEmpty

/-- DORMANT_ENTRY (R36 to R38): the link has reached L1.2 with a request standing; an exit trigger granted before the
Brine save abandons entry with reason 2. -/
def execDormantEntry (exitTrigger : Bool) (s : State) : Host.Outcome State Fault Refusal :=
  .next (
    if !s.awake || !s.power.req then s
    else
      match s.dormantBar with
      | some r => refuseDormant r s
      | none =>
        if exitTrigger then refuseDormant 2 s
        else if s.working then s
        else
          let s := flushGroups s
          let s := if s.rind.guard then s else raise 273 (saveBrine s)
          let s := markTime (sampleTime (keepStatus (endLink (applyAll s))))
          { s with
            power := { s.power with st := .dormant, domainsOff := (List.finRange 64).filter fun d => d.val != 0 }
            link := { s.link with l12 := true }
            keys := { s.keys with sessionKey := none, stateKeys := none }
            loaned := []
            eng := { s.eng with schedules := [], streams := [], retained := [] }
            cards := { s.cards with ch := s.cards.ch.map CardCh.off }
            time := { s.time with tokens := [] } })

/-- What a normal exit restores: keys, the applets each core held (R36, R130), the Brine from its durable copies
(12 R266). -/
def resume (s : State) : State :=
  let s := newStateKeys (newStoreKey s)
  let reload (k : Core) : Core := { k with resident := k.resident.map fun r => r.img.fresh }
  let s := { s with cores := s.cores.map reload }
  if s.debugBars then s
  else if s.vault.lc == .retired then writeWord s
  else
    let (gaps, s) := loadBrine s
    mergeWheels gaps s

/-- After DORMANT every cipher core, hash core and lane owes its known-answer test at its first power-on; those that are
switched on at the exit run it there (R36). -/
def katsDue (katFail : List (Fin 60)) (s : State) : State :=
  testPowered { s with health := { s.health with
    katDue := (List.range 40).filterMap fun i =>
      if s.chanOk i then some (i, katFail.any fun k => k.val == i) else none } }

/-- DORMANT_EXIT (R36, R317, R361): the link leaves L1.2, or the wake watcher or a trip has started the exit. A GUARD-tier
trip latched in DORMANT is entered at once, before anything is restored. -/
def execDormantExit (katFail : List (Fin 60)) (s : State) (byWake : Bool := false) : Host.Outcome State Fault Refusal :=
  .next (
    if s.power.st != .dormant || (byWake && !s.ev.wakeExit) then s
    else
      let wake := s.ev.wakePend
      let s := setDomains { s with
        power := { s.power with st := .active, req := false }
        link := { s.link with l12 := false }
        ev := { s.ev with wakePend := [], wakeExit := false } }
      let s := checkMicrocode (recover s)
      let s := match s.rind.latchedTrip with
        | some c => guardTrip c.val { s with rind := { s.rind with latchedTrip := none } } true
        | none => s
      let s := katsDue katFail (if s.rind.guard then s else identifyCards (resume s))
      sampleAll (wake.foldl (fun s n => raise n s) s))

/-! ### Sleep of the host (R319, R320) -/

/-- D3HOT_ENTRY: the groups flush before the configuration completion; DORMANT is requested as by REQ (R35). -/
def execD3hotEntry (pmeEn : Bool) (s : State) : Host.Outcome State Fault Refusal :=
  .next (
    if !s.hostReach then s
    else
      let s := flushGroups s
      requestDormant { s with link := { s.link with d3hot := true, pmeEn := pmeEn } })

/-- L1_ENTRY: the groups flush before the L1 request. -/
def execL1Entry (s : State) : Host.Outcome State Fault Refusal :=
  .next (if s.awake then flushGroups s else s)

/-- D0_RETURN: every armed vector with an asserted source is signalled. -/
def execD0Return (s : State) : Host.Outcome State Fault Refusal :=
  .next (if s.awake && s.link.d3hot then
    signalAll { s with link := { s.link with d3hot := false }, power := { s.power with req := false } }
  else s)

/-- PME_STATUS_CLEAR: software clears PME_Status; with a WAKE source still asserted in D3hot it is set again. -/
def execPmeStatusClear (s : State) : Host.Outcome State Fault Refusal :=
  .next (if s.awake then raisePme { s with link := { s.link with pmeStatus := false } } else s)

/-- PME_RESEND: the timeout of the PCI Express Base specification. -/
def execPmeResend (s : State) : Host.Outcome State Fault Refusal :=
  .next (if s.awake && s.link.d3hot && s.link.pmeStatus && !s.ev.gdisHost then { s with tx := s.tx ++ [.pme] } else s)

/-! ### The wipe of a retired device (03 R56) -/

/-- RETIREMENT_WIPE: the key-slot area and the Brine are overwritten with zero. -/
def execRetirementWipe (s : State) : Host.Outcome State Fault Refusal :=
  .next (
    if s.vault.lc == .retired && s.lc.wipe && s.awake then
      { s with
        lc := { s.lc with wipe := false }
        cellar := { s.cellar with slots := [], gens := [] }
        brine := { s.brine with entries := [] }
        books := s.books.map fun k => { k with head := Head.zero, durable := Copies.both Head.zero, dist := 0 } }
    else s)

end Sys2Proof.Machine
end

