-- ==== Sys2Proof/Machine/HostLink.lean ====
section
/-! DEFINITION. The BAR0 registers, queue pairs, doorbells and MSI-X (05, 13 R277, 14 R313). -/

namespace Sys2Proof.Machine

/-! ### The health window (16) -/

/-- The 32 bytes of a log record. -/
def LogRec.bytes (r : LogRec) : Bytes :=
  [r.log, r.subject, r.event, r.flags] ++ le r.detail.toNat 4 ++ le r.epoch 8 ++ timeBytes r.t ++ le r.repeats 2 ++ zeros 2

/-- The record at entry j of a log of `cap` entries: the latest whose index is j modulo the count. -/
def RLog.entry (l : RLog) (cap j : Nat) : Bytes :=
  let n := l.recs.length
  let back := (l.w.toNat + 255 - j) % cap
  if back < n then ((l.recs[n - 1 - back]?).map LogRec.bytes).getD (zeros 32) else zeros 32

/-- Faults within the window of R364, 0 to 2. -/
def Chan.window (c : Chan) : Nat :=
  ([c.f1, c.f2].filterMap id).countP fun o => decide (c.ops < o + 1000)

/-- The 16 bytes of a channel record. -/
def Chan.bytes (c : Chan) : Bytes :=
  le c.ops 4 ++ le c.faults 4 ++ le c.latest 4 ++ le (b2n c.retired) 1 ++ le c.cause 1 ++ le c.window 1 ++ zeros 1

/-- RD_SENSE's mask. -/
def State.sense (s : State) : Nat := ((List.range 13).map fun c => if s.rind.tripped.any (·.val == c) then 2 ^ c else 0).sum

/-- Word at offset `off` of the health window, as the host and the SMBus port read it. -/
def healthWord (s : State) (off : Nat) : Nat :=
  if off = 0 then (s.health.chans.filter (·.retired)).length * 256 + b2n s.rind.log.ovf * 2 + b2n s.health.log.ovf
  else if off = 4 then s.rind.cls.toNat * 2 ^ 16 + b2n s.rind.latched * 256 + b2n s.rind.guard
  else if off = 8 then s.sense
  else if off = 0x10 then s.health.log.w.toNat
  else if off = 0x14 then s.health.log.r.toNat
  else if off = 0x18 then s.rind.log.w.toNat
  else if off = 0x1C then s.rind.log.r.toNat
  else if 0x100 ≤ off ∧ off < 0x4C0 then fld (s.chan ((off - 0x100) / 16)).bytes (off % 16) 4
  else if 0x1000 ≤ off ∧ off < 0x2000 then fld (s.health.log.entry 128 ((off - 0x1000) / 32)) (off % 32) 4
  else if 0x2000 ≤ off ∧ off < 0x2800 then fld (s.rind.log.entry 64 ((off - 0x2000) / 32)) (off % 32) 4
  else 0

/-! ### BAR0 as it reads (05 R78) -/

/-- PW_STAT. IDLE: no order outstanding and no engine with work (R34). -/
def State.pwStat (s : State) : Nat :=
  let st := if s.power.req then 2 else if s.orders.isEmpty && !s.working then 1 else 0
  b2n s.power.holdup * 2 ^ 16 + s.power.reason.toNat * 2 ^ 12 + b2n s.power.refused * 2 ^ 8 + st

/-- EV_STAT. -/
def EvStat.word (e : EvStat) : Nat :=
  e.last.toNat * 2 ^ 16 + b2n e.lastGrp * 16 + b2n e.badcomp * 8 + b2n e.wakefull * 4 + b2n e.refused * 2

/-- Bit mask of the k in 0 to 31 with p (32w + k). -/
def mask32 (w : Nat) (p : Nat → Bool) : Nat := ((List.range 32).map fun k => if p (32 * w + k) then 2 ^ k else 0).sum

/-- Word `i` of an MSI-X table entry. -/
def MsixEntry.word (e : MsixEntry) (i : Nat) : Nat :=
  match i with
  | 0 => e.addr.toNat % 2 ^ 32
  | 1 => e.addr.toNat / 2 ^ 32
  | 2 => e.data.toNat
  | _ => b2n e.masked

/-- Two's complement of n in `w` bits. -/
def wrapInt (n : Int) (w : Nat) : Nat := (n % (2 ^ w : Nat)).toNat

/-- The 32-bit word at BAR0 offset `off`; registers whose read has an effect of its own have their commands. -/
def bar0Word (s : State) (off : Nat) : Nat :=
  if off = 0 then 0x88001F6C
  else if off = 4 then 0x11
  else if off = 0x40 then s.lcStatus
  else if off = 0x80 then s.press.epoch % 2 ^ 32
  else if off = 0x84 then s.hl.epochHi.toNat
  else if 0x100 ≤ off ∧ off < 0x10000 then fld (capList s) (off - 0x100) 4
  else if off = 0x11000 then s.hl.sqBase.toNat % 2 ^ 32
  else if off = 0x11004 then s.hl.sqBase.toNat / 2 ^ 32
  else if off = 0x11008 then s.hl.cqBase.toNat % 2 ^ 32
  else if off = 0x1100C then s.hl.cqBase.toNat / 2 ^ 32
  else if off = 0x11010 then s.hl.qcfg.toNat
  else if off = 0x11018 then b2n s.hl.lost * 256 + s.hl.result.toNat * 16 + b2n s.hl.busy
  else if 0x11100 ≤ off ∧ off < 0x11120 then
    mask32 ((off - 0x11100) / 4) fun n => s.qps.any fun q => q.n.toNat == n && !q.deleting
  else if 0x11120 ≤ off ∧ off < 0x11140 then
    mask32 ((off - 0x11120) / 4) fun n => s.qps.any fun q => q.n.toNat == n && q.halted
  else if 0x20000 ≤ off ∧ off < 0x20800 then if off = 0x20000 then 0 else (s.src ((off - 0x20000) / 4)).cfg.toNat
  else if 0x20800 ≤ off ∧ off < 0x20900 then
    let g := (off - 0x20800) / 4
    s.groupTarget g * 2 ^ 28 + ((s.group g).next.getD (s.group g).word).toNat % 2 ^ 24
  else if off = 0x20908 then b2n s.ev.gdisHost
  else if off = 0x2090C then s.ev.stat.word
  else if 0x20A00 ≤ off ∧ off < 0x20A40 then
    mask32 ((off - 0x20A00) / 4) fun n => (s.src n).target == 9 && (s.src n).asserted
  else if 0x20A40 ≤ off ∧ off < 0x20A80 then mask32 ((off - 0x20A40) / 4) fun n => (s.src n).target == 9 && (s.src n).act
  else if 0x27F00 ≤ off ∧ off < 0x28000 then mask32 ((off - 0x27F00) / 4) fun v => s.msix.pba.contains v
  else if 0x28000 ≤ off ∧ off < 0x30000 then (s.msixEntry ((off - 0x28000) / 16)).word (off / 4 % 4)
  else if off = 0x30000 then s.time.latT % 2 ^ 32
  else if off = 0x30004 then s.time.latT % second / 2 ^ 32
  else if off = 0x30008 then s.time.latT / second % 2 ^ 32
  else if off = 0x3000C then s.time.latT / second / 2 ^ 32 % 2 ^ 16
  else if off = 0x30010 then s.time.latU
  else if off = 0x30014 then s.time.latStat.toNat
  else if off = 0x30018 then s.time.latR.toNat % 2 ^ 32
  else if off = 0x3001C then s.time.latR.toNat / 2 ^ 32
  else if 0x40000 ≤ off ∧ off < 0x50000 then healthWord s (off - 0x40000)
  else if off = 0x50000 then s.lsStat
  else if off = 0x50040 then b2n s.power.holdWarm * 256 + b2n s.power.req
  else if off = 0x50044 then s.pwStat
  else 0

/-! ### Configuration space (05 R73, R69) -/

/-- The Device Serial Number: bytes 0 to 7 of the device identity. -/
def State.deviceSerial (s : State) : Nat := fld s.identity 0 8

/-- Bytes of memory that BARn asks for: BAR0 with BAR1 16 MiB, BAR2 64 KiB under the Asinfel personality (R69). -/
def State.barSize (s : State) (n : Nat) : Nat :=
  if n = 0 then 0x1000000 else if n = 2 ∧ s.active.asinfel = true then 0x10000 else 0

/-- Type bits of BARn: BAR0 is 64 bits wide, BAR2 32, neither prefetchable. -/
def barType (n : Nat) : Nat := if n = 0 then 4 else 0

/-- What the identification words of the configuration header read, by offset: device and vendor, class code and
revision, subsystem, Interrupt Pin 0. -/
def cfgWord (off : Nat) : Nat :=
  if off = 0 then 0x88001F6C else if off = 8 then 0x10800011 else if off = 0x2C then 0x88001F6C else 0

/-- What BARn reads back after all ones have been written to it: the size it reports. -/
def State.barProbe (s : State) (n : Nat) : Nat :=
  if s.barSize n = 0 then (if n = 1 then 0xFFFFFFFF else 0) else 2 ^ 32 - s.barSize n + barType n

/-! ### Latching reads -/

/-- HL_EPOCH_LO_READ (R79). -/
def execHlEpochLoRead (s : State) : Host.Outcome State Fault Refusal :=
  .next (if s.hostReach then
    { s with hostRead := BitVec.ofNat 32 s.press.epoch
             hl := { s.hl with epochHi := BitVec.ofNat 32 (s.press.epoch / 2 ^ 32) } }
  else s)

/-- TM_FRAC_LO_READ (13 R277): T, the uncertainty, TM_STAT and R are sampled together. -/
def execTmFracLoRead (s : State) : Host.Outcome State Fault Refusal :=
  .next (if s.hostReach then
    let s := latchTime (sampleTime s)
    { s with hostRead := BitVec.ofNat 32 s.time.t }
  else s)

/-! ### Orders stopped (R101) -/

/-- Where an order's frame runs. -/
def State.frameOf (s : State) (uid : Nat) : Option (Nat × Nat) :=
  (List.range 32).findSome? fun i =>
    match s.frame (i / 4) (i % 4) with
    | some fr => if fr.uid == uid then some (i / 4, i % 4) else none
    | none => none

/-- Card requests with the reference given are asked to stop (15 R343). -/
def stopCards (r : Ref) (s : State) : State :=
  reapCards { s with cards := { s.cards with ch := s.cards.ch.map fun k => { k with
    queue := k.queue.map fun q => if q.ref == r then { q with stop := true } else q } } }

/-- An outstanding order is aborted: the outcome's code (R101) and the state. The completion of a stopped CALL or RUN
reports the output its frame has left in place (R91). -/
def abortOrder (o : Order) (s : State) : Nat × State :=
  match o.st with
  | .held => (1, refuse o.uid .aborted s)
  | .forwarded => (3, s)
  | .admitted =>
    match o.kind with
    | .sector => (2, stopCards (.order o.uid) (stopJobs (fun j => j.ref == .order o.uid) s))
    | .call | .run =>
      match s.frameOf o.uid with
      | some (c, f) =>
        (2, reapCards (endFrame c f .aborted s))
      | none => (3, s)
    | _ => (3, s)

/-! ### Queue pairs (R80 to R82) -/

def depthOf (n : Nat) : Nat := if n = 0 then 65536 else n

/-- A queue pair as a create makes it. -/
def Qp.new (n : BitVec 8) (sqBase cqBase sqD cqD : Nat) (cls : BitVec 2) : Qp where
  n := n
  sqBase := sqBase
  cqBase := cqBase
  sqD := sqD
  cqD := cqD
  cls := cls
  sqHead := 0
  sqTail := 0
  cqHead := 0
  cqTail := 0
  phase := true
  reserved := 0
  halted := false
  haltOwed := none
  gathered := []
  timedOut := false
  deleting := false
  cqFails := false

def result (r : BitVec 4) (s : State) : State := { s with hl := { s.hl with result := r } }

/-- Create (R80). Of several refusals at once the lowest RESULT is reported (log 190). -/
def createQp (n : BitVec 8) (cls : BitVec 2) (s : State) : State :=
  let sqD := s.hl.qcfg.toNat % 65536
  let cqD := s.hl.qcfg.toNat / 65536
  let sb := s.hl.sqBase.toNat
  let cb := s.hl.cqBase.toNat
  if (s.qp? n).isSome then result 1 s
  else if sqD = 1 ∨ cqD = 1 then result 2 s
  else if sb % 4096 ≠ 0 ∨ cb % 4096 ≠ 0 ∨ 2 ^ 64 < sb + 64 * depthOf sqD ∨ 2 ^ 64 < cb + 32 * depthOf cqD then result 3 s
  else result 0 { s with qps := s.qps ++ [Qp.new n sb cb (depthOf sqD) (depthOf cqD) cls] }

/-- Delete (R81): fetching stops, every fetched order is aborted, the sessions bound to the queue pair end; BUSY is 1
until the last completion has been written. -/
def deleteQp (n : BitVec 8) (s : State) : State :=
  match s.liveQp n with
  | none => result 4 s
  | some q =>
    let s := result 0 { s with hl := { s.hl with busy := true } }
    let own := !q.gathered.isEmpty && !q.timedOut
    let s := setQp { q with deleting := true, gathered := [], timedOut := false, haltOwed := none } s
    let s := if own then
        match s.qp? n with
        | some q' => writeCq { q' with reserved := q'.reserved - 1 } (entryTag q.gathered) .aborted s.press.epoch 0 0 s
        | none => s
      else s
    let s := (s.orders.filter fun o => o.qp == n).foldl (fun s o => (abortOrder o s).2) s
    closeQp n (endSessions (fun x => x.qp == n) s)

/-- A write of HL_QCMD. While BUSY is 1 it is ignored and sets LOST. -/
def queueCmd (op : Nat) (cls : BitVec 2) (n : BitVec 8) (s : State) : State :=
  if s.hl.busy then { s with hl := { s.hl with lost := true } }
  else
    match op with
    | 1 => createQp n cls s
    | 2 => deleteQp n s
    | _ => result 7 s

/-- QUEUE_CREATE (R80). -/
def execQueueCreate (qp : BitVec 8) (cls : BitVec 2) (s : State) : Host.Outcome State Fault Refusal :=
  .next (if s.hostReach then queueCmd 1 cls qp s else s)

/-- QUEUE_DELETE (R81). -/
def execQueueDelete (qp : BitVec 8) (s : State) : Host.Outcome State Fault Refusal :=
  .next (if s.hostReach then queueCmd 2 0 qp s else s)

/-- QCMD_NO_ACTION (R80): OP 0b00 or 0b11. -/
def execQcmdNoAction (op3 : Bool) (qp : BitVec 8) (s : State) : Host.Outcome State Fault Refusal :=
  .next (if s.hostReach then queueCmd (if op3 then 3 else 0) 0 qp s else s)

/-- HL_QCMD_WHILE_BUSY (R80): the word of an HL_QCMD write. -/
def execHlQcmdWhileBusy (v : BitVec 32) (s : State) : Host.Outcome State Fault Refusal :=
  .next (if s.hostReach && s.hl.busy then queueCmd (v.toNat / 2 ^ 30) (v.extractLsb' 16 2) (v.extractLsb' 0 8) s else s)

/-- A write of HL_SQTDB (R82). -/
def sqTail (n : BitVec 8) (ix : Nat) (s : State) : State :=
  match s.liveQp n with
  | none => s
  | some q => if q.sqD ≤ ix then haltQp n 0xFFFFFFFE s else setQp { q with sqTail := ix } s

/-- A write of HL_CQHDB (R82). -/
def cqHead (n : BitVec 8) (ix : Nat) (s : State) : State :=
  match s.liveQp n with
  | none => s
  | some q =>
    if q.cqD ≤ ix then haltQp n 0xFFFFFFFE s
    else if q.used < (ix + q.cqD - q.cqHead) % q.cqD then haltQp n 0xFFFFFFFB s
    else payHalt n (sample (n.toNat + 1) (setQp { q with cqHead := ix } s))

/-- SQ_TAIL_DOORBELL (R82): what the driver has written to host memory stands there before the doorbell. -/
def execSqTailDoorbell (qp : BitVec 8) (index : BitVec 16) (wr : List (Nat × Bytes)) (s : State) :
    Host.Outcome State Fault Refusal :=
  .next (
    let s := wr.foldl (fun s w => { s with hostMem := s.hostMem.write w.1 w.2 }) s
    if s.hostReach then sqTail qp index.toNat s else s)

/-- CQ_HEAD_DOORBELL (R82, R83). -/
def execCqHeadDoorbell (qp : BitVec 8) (index : BitVec 16) (s : State) : Host.Outcome State Fault Refusal :=
  .next (if s.hostReach then cqHead qp index.toNat s else s)

/-! ### MSI-X (14 R313) -/

def setMsix (e : MsixEntry) (s : State) : State :=
  { s with msix := { s.msix with table := (s.msix.table.filter fun x => x.v != e.v) ++ [e] } }

/-- The mask of vector v may have been cleared: a pending message is sent if its sources are still asserted, else the
vector is armed again. While DISABLE or D3hot holds messages back the vector is armed again too, so that it is
signalled when the hold ends (R312, R320; log 219). -/
def unmasked (v : Nat) (s : State) : State :=
  if !s.msix.pba.contains v || s.vecMasked v then s
  else
    let p := s.msix.pba.filter (· != v)
    if s.vecAsserted v && !s.ev.gdisHost && !s.link.d3hot then
      { s with msix := { s.msix with pba := p }, tx := s.tx ++ [.msix v (s.msixEntry v).addr (s.msixEntry v).data] }
    else { s with msix := { s.msix with pba := p, disarmed := s.msix.disarmed.filter (· != v) } }

/-- A write of Message Control: MSI-X Enable and Function Mask. Vectors that it unmasks are treated one by one. -/
def msixControl (enable funcMask : Bool) (s : State) : State :=
  let s := { s with msix := { s.msix with enable := enable, funcMask := funcMask } }
  s.msix.pba.foldl (fun s v => unmasked v s) s

/-- MSIX_UNMASK (R313): the mask bit of a table entry; Message Control; or MSI-X Enable set with the function mask
clear. Message Control lies in configuration space, which answers in D3hot too. -/
def execMsixUnmask (v : Option (Fin 2048)) (s : State) (control : Option (Bool × Bool) := none) :
    Host.Outcome State Fault Refusal :=
  .next (
    match control, v with
    | some c, _ => if s.awake && decide (s.linkWidth ≠ 0) then msixControl c.1 c.2 s else s
    | none, some v => if s.hostReach then unmasked v (setMsix { s.msixEntry v with masked := false } s) else s
    | none, none => if s.awake && decide (s.linkWidth ≠ 0) then msixControl true false s else s)

/-- A write of word i of an MSI-X table entry. -/
def writeMsix (n i : Nat) (v : BitVec 32) (s : State) : State :=
  let e := s.msixEntry n
  match i with
  | 0 => setMsix { e with addr := (e.addr.extractLsb' 32 32) ++ v } s
  | 1 => setMsix { e with addr := v ++ (e.addr.extractLsb' 0 32) } s
  | 2 => setMsix { e with data := v } s
  | _ => unmasked n (setMsix { e with masked := v.getLsbD 0 } s)

/-! ### Register writes (R78) -/

/-- A whole-DWORD write at BAR0 offset `off`. -/
def bar0Write (off : Nat) (v : BitVec 32) (s : State) : State :=
  let n := v.toNat
  if 0x10000 ≤ off ∧ off < 0x10800 then
    let q := BitVec.ofNat 8 ((off - 0x10000) / 8)
    if off % 8 = 0 then sqTail q (n % 65536) s else cqHead q (n % 65536) s
  else if off = 0x11000 then { s with hl := { s.hl with sqBase := (s.hl.sqBase.extractLsb' 32 32) ++ v } }
  else if off = 0x11004 then { s with hl := { s.hl with sqBase := v ++ (s.hl.sqBase.extractLsb' 0 32) } }
  else if off = 0x11008 then { s with hl := { s.hl with cqBase := (s.hl.cqBase.extractLsb' 32 32) ++ v } }
  else if off = 0x1100C then { s with hl := { s.hl with cqBase := v ++ (s.hl.cqBase.extractLsb' 0 32) } }
  else if off = 0x11010 then { s with hl := { s.hl with qcfg := v } }
  else if off = 0x11014 then queueCmd (n / 2 ^ 30) (v.extractLsb' 16 2) (v.extractLsb' 0 8) s
  else if off = 0x11018 then if v.getLsbD 8 then { s with hl := { s.hl with lost := false } } else s
  else if 0x20000 ≤ off ∧ off < 0x20800 then srcWrite ((off - 0x20000) / 4) v s
  else if 0x20800 ≤ off ∧ off < 0x20900 then grpWrite ((off - 0x20800) / 4) v s
  else if off = 0x20904 then completeWrite true n s
  else if off = 0x20908 then gdisWrite true (v.getLsbD 0) s
  else if off = 0x2090C then
    let e := s.ev.stat
    { s with ev := { s.ev with stat := { e with
        refused := e.refused && !v.getLsbD 1, wakefull := e.wakefull && !v.getLsbD 2
        badcomp := e.badcomp && !v.getLsbD 3 } } }
  else if 0x28000 ≤ off ∧ off < 0x30000 then writeMsix ((off - 0x28000) / 16) (off / 4 % 4) v s
  else if off = 0x40000 then
    { s with health := { s.health with log := { s.health.log with ovf := s.health.log.ovf && !v.getLsbD 0 } }
             rind := { s.rind with log := { s.rind.log with ovf := s.rind.log.ovf && !v.getLsbD 1 } } }
  else if off = 0x40014 then
    sample 275 { s with health := { s.health with log := s.health.log.setR 128 (v.extractLsb' 0 8) } }
  else if off = 0x4001C then
    sample 271 { s with rind := { s.rind with log := s.rind.log.setR 64 (v.extractLsb' 0 8) } }
  else if off = 0x50040 then writeReq (n % 4) (holdWarm (v.getLsbD 8) s)
  else if off = 0x50044 then
    if v.getLsbD 8 then { s with power := { s.power with refused := false, reason := 0 } } else s
  else s

/-- The 32-bit word at BAR2 offset `off`: nothing without the Asinfel personality; the response buffer reads zero while
BUSY is 1 (R69, R103). -/
def bar2Word (s : State) (off : Nat) : Nat :=
  if !s.active.asinfel then 0
  else if off = 4 then
    s.mb.native.toNat * 2 ^ 16 + s.mb.result.toNat * 2 ^ 8 + b2n s.mb.overrun * 4 + b2n s.mb.done * 2 + b2n s.mb.busy
  else if off = 8 then b2n s.mb.irqEn
  else if off = 0xC then s.mb.rlen
  else if 0x1000 ≤ off ∧ off < 0x8000 then leN (s.mb.request.read (off - 0x1000) 4)
  else if 0x8000 ≤ off ∧ off < 0x10000 ∧ s.mb.busy = false then fld s.mb.response (off - 0x8000) 4
  else 0

/-- A whole-DWORD write at BAR2 offset `off`: MB_STAT's W1C bits, MB_CTL, and the request buffer, whose writes are
discarded while BUSY is 1 (R103). MB_CMD comes with the mailbox commands. -/
def bar2Write (off : Nat) (v : BitVec 32) (s : State) : State :=
  if !s.active.asinfel then s
  else if off = 4 then
    sample 292 { s with mb := { s.mb with done := s.mb.done && !v.getLsbD 1, overrun := s.mb.overrun && !v.getLsbD 2 } }
  else if off = 8 then sample 292 { s with mb := { s.mb with irqEn := v.getLsbD 0 } }
  else if 0x1000 ≤ off ∧ off < 0x8000 then mbStore (off - 0x1000) (le v.toNat 4) s
  else s

/-- REGISTER_WRITE (R78): a write in which not all four byte enables are set is discarded. -/
def execRegisterWrite (off : BitVec 25) (v : BitVec 32) (be : BitVec 4) (s : State) :
    Host.Outcome State Fault Refusal :=
  .next (
    if !s.hostReach || be != 0xF then s
    else if off.getLsbD 24 then bar2Write (off.toNat - 2 ^ 24) v s
    else bar0Write off.toNat v s)

end Sys2Proof.Machine
end

