-- ==== Sys2Proof/Machine/Card.lean ====
section
/-! DEFINITION. The card events: presence, the tab, answers, timeouts and tuning (15). -/

namespace Sys2Proof.Machine

/-! ### Access modes (R326, R331) -/

/-- The lowest mode of a card: default speed, or MMC legacy at 1 bit (R331). -/
def CardCh.lowest (k : CardCh) : Bool := decide (k.mode = 0 ∨ k.mode = 5 ∧ k.width = 1)

/-- The card steps down one mode (R328, R331); a card at its lowest mode stays there. LV follows the signalling, and a
mode that is tuned is tuned before it is used. Below MMC legacy at 4 bits stands MMC legacy at 1 bit (log 176). -/
def stepDown (ch : Nat) (s : State) : State :=
  let k := s.card ch
  if k.lowest then s
  else if k.mode = 5 then raise (257 + ch) (setCard ch { k with width := 1, narrow := true } s)
  else raise (257 + ch) (setCard ch { k with
    mode := k.mode - 1, cap := k.mode - 1, lv := k.lv && decide (2 ≤ k.mode - 1)
    tune := if tunedMode (k.mode - 1) then .due else .good } s)

/-- Access mode and signalling of an identified card on a channel that may use mode `cap` at most (R325 to R327): an
MMC card runs at 3.3 V in the MMC modes; an SD card at 1.8 V from SDR25 up, at 3.3 V in high speed at most, as after a
voltage switch that failed (`s18off`). -/
def identMode (i : CardIdent) (cap : Nat) (s18off : Bool := false) : Nat × Bool :=
  match i.media with
  | .mmc => (max 5 (min i.fastest.val cap), false)
  | .sd =>
    let m := min (min i.fastest.val 4) cap
    if i.lv && !s18off && decide (2 ≤ cap) then (max 2 m, true) else (min 1 m, false)

/-- The sampling phase a tuning chooses: the centre of the longest run of passing phases, which begins at `first`
(R328). -/
def tunedPhase (first run : Nat) : Nat := (first + run / 2) % 32

/-- The mode after the tuning of the identification: SDR25 where fewer than 6 phases pass in a row (R328). -/
def tunedIdent (m run : Nat) : Nat := if tunedMode m ∧ run < 6 then 2 else m

/-- Data lines of an identified card: 4, but 1 on an MMC card whose bus test fails or that has stepped down (R325). -/
def identWidth (i : CardIdent) (narrow : Bool) : Nat := if i.media = .mmc ∧ (i.busTest = false ∨ narrow = true) then 1 else 4

/-! ### Answers during a request -/

/-- The head request of the channel is replaced. -/
def setHead (ch : Nat) (r : CardReq) (s : State) : State :=
  let k := s.card ch
  setCard ch { k with queue := r :: k.queue.drop 1 } s

/-- The head request has ended: the channel takes the next one. -/
def endHead (ch : Nat) (st : Status) (count : Nat) (s : State) : State := cardServe ch (dropHead ch st count 0 s)

/-- The sectors of a journal payload: the data sectors, then the tag sectors (R340). -/
def CardReq.payload (s : State) (ch : Nat) (r : CardReq) : Nat :=
  let (first, n) := r.extent s ch
  n + (journalTags (s.card ch).vol first n).length

/-- One verified sector is released (R339). -/
def readStep (ch : Nat) (r : CardReq) (s : State) : State :=
  let s := writeOut r.ref (r.dst.shift (4096 * r.pos)) ((s.card ch).sector (r.first + r.pos)) s
  let s := setCard ch ((s.card ch).keep (journalTags (s.card ch).vol (r.first + r.pos) 1)) s
  let n := r.pos + 1
  if r.count ≤ n then endHead ch .ok (4096 * r.count) s
  else if r.stop then endHead ch .aborted (4096 * n) s
  else setHead ch { r with pos := n } s

/-- The identity key pair as hybrid key material: the two derived halves (R49). -/
def identityMaterial (s : State) : Bytes := identityScalar (rootOf s) ++ identitySeed (rootOf s)

/-- Bytes 0 to 127 of an officer-log entry (R347). -/
def officerEntryHead (entry : Bytes) (s : State) : Bytes :=
  fit (ascii "JXOL" ++ le 1 2 ++ le (b2n s.cards.medium.firstSinceStart) 1 ++ [0] ++ fit s.identity 16 ++ fit entry 66
    ++ zeros 2 ++ le s.cards.medium.missed 4) 128

/-- One card sector of an officer-log entry has been written (R347). The entry is signed with the identity keys before its
first sector; without a lane or random bytes to sign it, it is missed. The write command of its second sector is not
sent while the tab is set (R346). -/
def officerStep (entry : Bytes) (r : CardReq) (s : State) : State :=
  let m := s.cards.medium
  let at_ := 1 + 2 * m.entries
  if r.pos = 0 then
    if !s.lanesOk || !s.drbgOk then endHead 3 .noHealthyChannel 0 s
    else
      let head := officerEntryHead entry s
      let (rnd, s) := (ownLane 0 s).drbgBytes 32
      let all := fit (head ++ fit (Config.pk 0x0500 (identityMaterial s) 0 [head] rnd) 4723) 8192
      let k := s.card 3
      let s := setCard 3 { k with disk := put at_ (all.take 4096) k.disk } s
      if s.cards.tab then endHead 3 .mediaWriteProtected 0 s
      else setHead 3 { r with pos := 1, data := [all.drop 4096] } s
  else
    let k := s.card 3
    let s := setCard 3 { k with disk := put (at_ + 1) (r.data.headD []) k.disk } s
    endHead 3 .ok 0 { s with cards := { s.cards with
      medium := { m with entries := m.entries + 1, missed := 0, firstSinceStart := false } } }

/-- Step 4 has ended: the journal stands on the card, and the write's own press reaches the Press, behind the card writes
its frame issued earlier and ahead of the presses it issued later (R340; 07 R150). An archive entry carries the epoch
its press will have (log 222). -/
def cardPress (ch : Nat) (r : CardReq) (s : State) : State :=
  let s := setHead ch { r with phase := .press } s
  match r.kind with
  | .append b =>
    let k := s.book b
    match k.wheels with
    | w :: ws =>
      let recs := archiveRecs k
      let s := putJournal ch (s.card ch).vol.append (archiveSectors (s.press.epoch + 1) ch b recs s) s
      enqueue (Press.of [.wheel b w.msg (w.signed.getD []) w.no w.lastCtr, .archive ch b recs]
        (.wheel b)) (setBook b { k with wheels := { w with pressing := true } :: ws } s)
    | [] => s
  | _ =>
    let s := putJournal ch r.first r.data s
    freeBehind r.ref (enqueueAhead { Press.of [.volWrite ch r.first r.data] r.ref with
      behind := s.writesBefore r, retried := r.retried, closeCall := r.closeCall } s)

/-- One payload sector of the committed journal has been written to its home: data sectors first, then tag sectors
(R340 step 6). -/
def homeStep (ch : Nat) (r : CardReq) (s : State) : State :=
  let k := s.card ch
  match k.journal with
  | none => setHead ch { r with phase := .applied } s
  | some j =>
    let s := if r.pos < j.data.length then
        setCard ch { k with disk := put (j.first + r.pos) (j.data.getD r.pos []) k.disk } s
      else s
    if j.data.length + j.homes.length ≤ r.pos + 1 then setHead ch { r with phase := .applied, pos := 0 } s
    else setHead ch { r with pos := r.pos + 1 } s

/-- The background erase has ended (R345): everything on the card is gone, its lock with it. -/
def erased (ch : Nat) (s : State) : State :=
  setCard ch { s.card ch with locked := false, disk := [], journal := none, kept := [] } s

/-- The current step of the request in service has ended well. A stop asked for takes effect at the next sector
boundary, and no more once step 4 has ended (R343). A request whose cipher or hash work has lost its last core, or the
DRBG, ends (09 R208, R211; 10 R230); each sector is a segment of a cipher core and of a hash core (R335; log 159). -/
def goodStep (ch : Nat) (r : CardReq) (s : State) : State :=
  let r := { r with tries := 0 }
  let s := if r.keyed && (r.phase == .read || r.phase == .path || r.phase == .payload) then ownSealing s else s
  if r.keyed && !s.deviceCores && (r.phase == .read || r.phase == .path || r.phase == .payload || r.phase == .header) then
    endHead ch .noHealthyChannel (if r.phase == .read then 4096 * r.pos else 0) s
  else match r.phase with
  | .read => readStep ch r s
  | .path =>
    let (first, n) := r.extent s ch
    let s := setCard ch ((s.card ch).keep (journalTags (s.card ch).vol first n)) s
    if r.stop then endHead ch .aborted 0 s else setHead ch { r with phase := .payload, pos := 0 } s
  | .payload =>
    match r.kind with
    | .officerLog entry => officerStep entry r s
    | _ =>
      if r.stop then endHead ch .aborted 0 s
      else if r.payload s ch ≤ r.pos + 1 then setHead ch { r with phase := .header, pos := r.pos + 1 } s
      else setHead ch { r with pos := r.pos + 1 } s
  | .header => cardPress ch r s
  | .home => homeStep ch r s
  | .applied =>
    let k := s.card ch
    let k := { k with queue := k.queue.drop 1, journal := k.journal.map fun j => { j with state := 2 } }
    retryAppends ch (setCard ch k s)
  | .erase =>
    let s := erased ch s
    match r.kind with
    | .erase true => enqueue (Press.of [.volFormat ch] .none) (setHead ch { r with phase := .press } s)
    | _ => enqueue (Press.of [.volReady ch 0 false] .none) (setHead ch { r with phase := .press } s)
  | .format =>
    let s := { s with tx := s.tx ++ [.cmd42 ch .setPwdLock (volPassword s ch (s.card ch).vol)] }
    enqueue (Press.of [.volReady ch (dataSectors (s.card ch).m) true] .none) (setHead ch { r with phase := .press } s)
  | .press | .queued => s

/-- The card is quarantined after four failed attempts (R331): powered off, absent until removed. The request in
service completes with FAULT_PERMANENT, the others with MEDIA_GONE. A write past its commit has completed, and what it
owes its home is left to the next identification (R341). -/
def quarantine (ch : Nat) (r : CardReq) (s : State) : State :=
  let s := if r.phase == .home || r.phase == .applied then
      setCard ch { s.card ch with queue := (s.card ch).queue.drop 1 } s
    else dropHead ch .faultPermanent (if r.phase == .read then 4096 * r.pos else 0) 0 s
  let k := s.card ch
  raise (257 + ch) (failCard ch (fun _ => .mediaGone)
    (setCard ch { k.rest with st := .quarantined, locked := false, lv := false } s))

/-- A transfer fault (R329, R331): two retries, then one attempt a mode lower, then quarantine; in a tuned mode the
channel tunes again before the second retry. Only a fault at the lowest mode is one of the channel. A write command to
CC3 is not sent again while the tab is set (R346). -/
def transferFault (ch : Nat) (s : State) : State :=
  let k := s.card ch
  match k.queue with
  | r :: _ =>
    if k.st != .identified || r.phase == .queued || r.phase == .press then s
    else
      let s := if k.lowest then cardsRetired ch (chanOp (48 + ch) true s) else s
      let n := r.tries + 1
      if !s.chanOk (48 + ch) then s
      else if 4 ≤ n then quarantine ch r s
      else if ch = 3 ∧ s.cards.tab = true then endHead ch .mediaWriteProtected 0 s
      else
        let s := setHead ch { r with tries := n, retried := true } s
        if n = 3 then stepDown ch s else if n = 2 then setCard ch (s.card ch).due s else s
  | [] => s

/-- A transfer fault of the identification (R330, R331): four attempts, then the card is quarantined. -/
def identFault (ch : Nat) (s : State) : State :=
  let k := s.card ch
  if 4 ≤ k.idTries + 1 then
    raise (257 + ch) (failCard ch (fun _ => .mediaGone)
      (setCard ch { k.rest with st := .quarantined, locked := false, lv := false } s))
  else setCard ch { k with idTries := k.idTries + 1 } s

/-- A failed tag or Merkle check: a read's whole destination is zeroed and counted (R156, R339); a write has written
nothing. -/
def checkFailed (ch : Nat) (s : State) : State :=
  let k := s.card ch
  match k.queue with
  | r :: _ =>
    match r.phase with
    | .read => endHead ch .mediaTagFail (4096 * r.count) (writeOut r.ref r.dst (zeros (4096 * r.count)) s)
    | .path => endHead ch .mediaTagFail 0 s
    | _ => s
  | [] => s

/-! ### Identification (R324, R341, R344, R347) -/

/-- The card is rejected: powered off, and gone for every request (R324). -/
def rejectCard (ch : Nat) (s : State) : State :=
  let k := s.card ch
  raise (257 + ch) (failCard ch (fun _ => .mediaGone)
    (setCard ch { k.rest with st := .rejected, locked := false, lv := false } s))

/-- The officer medium's header: written to a blank medium with the tab clear, else compared; the append position is
what was found (R347). -/
def officerMedium (i : CardIdent) (s : State) : State :=
  let blank := i.omBlank && !s.cards.tab && !i.csdWp
  let m := s.cards.medium
  let m := if blank then { m with headerOk := true, entries := 0 }
    else { m with headerOk := !i.omBlank && fit i.omIdentity 16 == s.identity, entries := i.omEntries }
  let s := { s with cards := { s.cards with medium := m } }
  if blank then
    let k := s.card 3
    setCard 3 { k with disk := [(0, fit (ascii "JXOM" ++ le 1 2 ++ zeros 2 ++ fit s.identity 16) 4096)] } s
  else s

/-- The greatest capacity accepted: 2 TB, in 512-byte blocks (R324). -/
def cardBlocks : Nat := 3906250000

/-- The journal on an identified card of this volume (R341): one of the record's sequence that has not been applied is
replayed to its homes; one whose press is still to commit stays; any other is discarded. -/
def recoverCard (journalOk : Bool) (k : CardCh) : CardCh :=
  match k.journal with
  | none => k
  | some j =>
    if journalOk && j.seq == k.vol.seq && j.state == 1 then
      { k with disk := k.overlay j.first j.data, journal := some { j with state := 2 } }
    else if k.queue.any fun r => r.phase == .press then k
    else { k with journal := none }

/-- Identification ends: accepted media of at most 2 TB serve (R324); the mode is the fastest that the card and its
tuning allow (R326 to R328); a locked card of a ready volume is unlocked with its password (R344); and the journal is
checked, which does what a committed write still owed its home (R341). -/
def identified (ch : Nat) (i : CardIdent) (s : State) : State :=
  if !i.accepted || decide (cardBlocks < i.blocks) then rejectCard ch s
  else
    let k := s.card ch
    let owed (r : CardReq) : Bool := r.phase == .home || r.phase == .applied
    let (mode, lv) := identMode i k.cap k.s18off
    let unlocks := i.locked && k.vol.state == 3 && ch != 3
    let k := { k.rest with
      st := .identified, media := i.media, m := i.blocks / 8, mode := tunedIdent mode i.tuneRun, lv := lv
      width := identWidth i k.narrow
      locked := i.locked && !(i.unlocked && unlocks)
      csdWp := i.csdWp, class7 := i.class7, headerOk := i.headerOk
      phaseAt := tunedPhase i.tuneFirst.val i.tuneRun, tunedAt := s.time.t / second, tunedC := s.cards.dieC
      queue := k.queue.filter fun r => !owed r }
    let k := if i.headerOk && ch != 3 then recoverCard i.journalOk k else k
    let s := if unlocks then { s with tx := s.tx ++ [.cmd42 ch .unlock (volPassword s ch k.vol)] } else s
    let s := raise (257 + ch) (setCard ch k s)
    retryAppends ch (if ch = 3 then officerMedium i s else s)

/-! ### The commands -/

/-- The channel has its supply: a card on it is powered and identified (R323, R343). -/
def cardsOn (s : State) (ch : Nat) : Bool := s.awake && !s.rind.guard && s.chanOk (48 + ch)

/-- The Sole samples the channel's pins (R323): in every power state except BATTERY. -/
def State.sampling (s : State) : Bool := s.power.st != .battery && s.power.st != .off

/-- CARD_PRESENT (R323): CCn_CD_N has been low for 10 ms. The domain of a channel that identifies the card is switched
on (02 R30). -/
def execCardPresent (ch : Fin 4) (s : State) : Host.Outcome State Fault Refusal :=
  .next (
    let k := s.card ch.val
    if !s.sampling || k.present then s
    else
      let st := if cardsOn s ch.val then CardSt.identifying else .none
      let s := if cardsOn s ch.val then wakeDomainN (9 + ch.val) s else s
      raiseSample (261 + ch.val) (setCard ch.val { k with present := true, st := st } s))

/-- CARD_REMOVED (R323, R342); `busy`: a block is between its data phase and the end of its busy phase. -/
def execCardRemoved (ch : Fin 4) (busy : Bool) (s : State) : Host.Outcome State Fault Refusal :=
  .next (
    let k := s.card ch.val
    if !s.sampling || !k.present then s
    else
      let s := setCard ch.val { k.rest with
        present := false, st := .none, locked := false, lv := false, mode := 0, cap := 7, width := 4, narrow := false } s
      let s := failCard ch.val (fun r =>
        if busy && (r.phase == .payload || r.phase == .header) then .writeUnknown else .mediaGone) s
      raise (257 + ch.val) (raiseSample (261 + ch.val) s))

/-- CARD_TAB_CHANGE (R323, R346): the level of CC3_WP has been stable for 10 ms. -/
def execCardTabChange (set : Bool) (s : State) : Host.Outcome State Fault Refusal :=
  .next (if s.sampling then { s with cards := { s.cards with tab := set } } else s)

/-- The request in service has a step that ends well. -/
def cardGood (ch : Nat) (s : State) : State :=
  let k := s.card ch
  match k.st, k.queue with
  | .identified, q :: _ =>
    if q.phase == .queued || q.phase == .press then s
    else goodStep ch q (if k.lowest then chanOp (48 + ch) false s else s)
  | _, _ => s

/-- A CRC of the frame is wrong: the response's CRC7, a DAT line's CRC16, or what a negative status token reports. -/
def frameBad (f : CardFrame) : Bool := !f.crc7 || f.crc16.any (fun ok => !ok) || f.token == some false

/-- One response, with its block, in the step of the request in service (R329): a transfer fault, after which a tuned
mode is tuned again (R328); or one of the eight blocks of a sector. -/
def cardFrame (ch : Nat) (f : CardFrame) (s : State) : State :=
  let k := s.card ch
  let blocks := if k.queue.head?.elim false fun r => r.phase == .erase then 1 else 8
  if frameBad f then transferFault ch (setCard ch k.due s)
  else if f.errorBit then transferFault ch s
  else if k.st != .identified || !k.inService then s
  else if k.blk + 1 < blocks then setCard ch { k with blk := k.blk + 1 } s
  else cardGood ch (setCard ch { k with blk := 0 } s)

/-- A voltage switch fails its check: CCn_VDD goes off for 50 ms, and the card is identified again with S18R = 0
(R327). -/
def switchFails (ch : Nat) (s : State) : State :=
  let k := s.card ch
  if k.st == .identifying then setCard ch { k with s18off := true } s else s

/-- A card command has ended: a tuning that is due runs now (R328). -/
def cardBetween (ch : Nat) (s : State) : State := setCard ch (s.card ch).between s

/-- CARD_RESPONSE: the answer to identification, or to the current step of the request in service. While a tuning runs no
command is under way. -/
def execCardResponse (ch : Fin 4) (r : CardResp) (s : State) : Host.Outcome State Fault Refusal :=
  .next (
    let k := s.card ch.val
    if !cardsOn s ch.val || k.tune == .running then s
    else
      let s := setCard ch.val { k with withdrawn := false } s
      let ident := k.st == .identifying
      match r with
      | .identified i => if ident then identified ch.val i s else s
      | .switchFailed => switchFails ch.val s
      | .stepOk => cardBetween ch.val (cardGood ch.val s)
      | .frame f =>
        if ident then (if frameBad f || f.errorBit then identFault ch.val s else s)
        else cardBetween ch.val (cardFrame ch.val f s)
      | .fault => if ident then identFault ch.val s else cardBetween ch.val (transferFault ch.val s)
      | .tagFail => if k.st == .identified then cardBetween ch.val (checkFailed ch.val s) else s)

/-- CARD_TIMEOUT (R330), of what `wait` names: a card that does not become ready is rejected, an erase that does not end
fails the background work, anything else is a transfer fault. `wins` false: the awaited arrival was granted first, and
the timeout is withdrawn: it does not come again (02 R27, R28). -/
def execCardTimeout (ch : Fin 4) (wins : Bool) (s : State) (wait : Option CardWait := none) :
    Host.Outcome State Fault Refusal :=
  .next (
    let k := s.card ch.val
    if !cardsOn s ch.val || k.tune == .running || k.withdrawn then s
    else if k.st == .identifying then
      if !wins then setCard ch.val { k with withdrawn := true } s
      else if wait == none || wait == some .ready then rejectCard ch.val s
      else identFault ch.val s
    else if k.st != .identified || !k.inService then s
    else
      match k.queue with
      | r :: _ =>
        if !wins then setHead ch.val { r with closeCall := true } (setCard ch.val { k with withdrawn := true } s)
        else if r.phase == .erase && (wait == none || wait == some .eraseEnd) then endHead ch.val .faultPermanent 0 s
        else cardBetween ch.val (transferFault ch.val s)
      | [] => s)

/-- A tuning has ended (R328): the phase at the centre of the longest run, or a mode less. -/
def tuned (ch run first : Nat) (s : State) : State :=
  let k := s.card ch
  if run < 6 then cardBetween ch (stepDown ch (setCard ch { k with tune := .good } s))
  else setCard ch { k with
    tune := .good, phaseAt := tunedPhase first run, tunedAt := s.time.t / second, tunedC := s.cards.dieC } s

/-- CARD_TUNING (R328): the result of a tuning. One asked for during a card command waits for its end. -/
def execCardTuning (ch : Fin 4) (longestRun : Nat) (s : State) (first : Fin 32 := 0) : Host.Outcome State Fault Refusal :=
  .next (
    let k := s.card ch.val
    if !cardsOn s ch.val || k.st != .identified || !tunedMode k.mode then s
    else if k.tune == .running || !k.inService then tuned ch.val longestRun first.val s
    else setCard ch.val k.due s)

end Sys2Proof.Machine
end

