-- ==== Sys2Proof/Machine/CardI.lean ====
section
/-! DEFINITION. CVISS, CCSTAT and WCPY (07 Card volumes and channels, Buffer-window copies). -/

namespace Sys2Proof.Machine

/-- CVISS once issued: a write under debug, or on a follower, is a press's case (R60, R378); the volume's keys come
from a domain root, so a read under debug is refused too. -/
def cvissGo (ref : Ref) (ch : Nat) (write : Bool) (first : Nat) (rg : Range) (dst : Dst) (data : Bytes) (s : State) :
    State :=
  if s.debugBars || (write && s.staleFollower) then finish ref .lifecycle 0 0 s
  else if write && s.syncFollower then forward ref .none s [rg]
  else
    cardAdmit ch { CardReq.new (if write then .write else .read) ref first (rg.len / 4096) with
      data := if write then chunk4096 data else [], dst := dst, ranges := [rg] } s

/-- CVISS READ and WRITE (R156). -/
def cvissIssue (c : Fin 9) (t : BitVec 3) (h : BitVec 4) (write : Bool) (s : State) : State :=
  engIssue c t s fun s f fr =>
    match fr.hnd h with
    | .volume v =>
      let len := (fr.reg 17).toNat
      if tooLong (fr.reg 17) (65536 * 4096) then .refuse c f fr t .lengthRange s
      else
        match s.buffer fr (fr.reg 16) len (!write) with
        | none => .trap .access (fr.reg 16).toNat
        | some rg =>
          if !s.granted c fr 4 v (some (if write then 1 else 0)) then .trap .access 0
          else
            match s.cardVolume v with
            | none => .refuse c f fr t .operandRange s
            | some ch =>
              if len % 4096 ≠ 0 ∨ len = 0 then .refuse c f fr t .operandRange s
              else if s.hazard fr.uid [rg] then .stall
              else .issue fr t s (cvissGo (tokRef c f fr t) ch write (fr.reg 22).toNat rg
                (if write then .none else dstOf c f fr rg) (if write then s.readRange c fr rg else []))
    | _ => .trap .handle 0

/-- CVISS READ. -/
def execCvissRead (c : Fin 9) (t : BitVec 3) (h : BitVec 4) (s : State) : Host.Outcome State Fault Refusal :=
  .next (cvissIssue c t h false s)

/-- CVISS WRITE. -/
def execCvissWrite (c : Fin 9) (t : BitVec 3) (h : BitVec 4) (s : State) : Host.Outcome State Fault Refusal :=
  .next (cvissIssue c t h true s)

/-- The channel status word of card channel n (07). -/
def State.cardWord (s : State) (n : Nat) : Nat :=
  let k := s.card n
  let here := k.st == .identified
  s.active.roles.getD n 0 * 2 ^ 8 + b2n (!s.chanOk (48 + n)) * 2 ^ 5 + b2n (here && k.locked) * 2 ^ 4
    + b2n (n == 3 && s.cards.tab) * 2 ^ 3 + b2n (here && k.lv) * 2 ^ 2
    + (if here then (if k.media == .sd then 1 else 2) else 0)

/-- CCSTAT (R157): needs the read right of a card-channel grant in A mode. -/
def execCcstat (c : Fin 9) (d a : BitVec 5) (s : State) : Host.Outcome State Fault Refusal :=
  .next (runInstr c 1 s fun _ fr =>
    match handleNo a with
    | none => .trap .illegal 0
    | some h =>
      match fr.hnd h with
      | .channel n =>
        if s.granted c fr 5 n (some 0) then .wr fr d (BitVec.ofNat 64 (s.cardWord n)) s else .trap .access 0
      | _ => .trap .handle 0)

/-- WCPY (R158): between a buffer window and the data region or the session page. A length of 0 is out of range
(R134). The copy and its token end within the command. -/
def wcpyIssue (c : Fin 9) (t : BitVec 3) (h : BitVec 4) (toWindow : Bool) (s : State) : State :=
  engIssue c t s fun s f fr =>
    match fr.hnd h with
    | .window n =>
      let len := (fr.reg 17).toNat
      let off := (fr.reg 18).toNat
      if tooLong (fr.reg 17) 4194304 then .refuse c f fr t .lengthRange s
      else
        match (if len = 0 then some ⟨spData, 0, 0, false⟩ else onChip s fr (fr.reg 16) len (!toWindow)),
            vget fr.windows n none with
        | some mem, some w =>
          if (if toWindow then w.wr else w.rd) = false then .trap .access 0
          else if w.len < off + len then .refuse c f fr t .bufferShort s
          else if len = 0 then .refuse c f fr t .operandRange s
          else
            let win : Range := ⟨spWindow n, off, len, toWindow⟩
            if s.hazard fr.uid [mem, win] then .stall
            else
              .issue fr t s fun s =>
                let src := if toWindow then mem else win
                let dst := if toWindow then win else mem
                finish (tokRef c f fr t) .ok len 0 (writeOut (tokRef c f fr t) (dstOf c f fr dst) (s.readRange c fr src) s)
        | none, _ => .trap .access (fr.reg 16).toNat
        | _, none => .trap .handle 0
    | _ => .trap .handle 0

/-- WCPY from a window. -/
def execWcpyFromWindow (c : Fin 9) (t : BitVec 3) (h : BitVec 4) (s : State) : Host.Outcome State Fault Refusal :=
  .next (wcpyIssue c t h false s)

/-- WCPY to a window. -/
def execWcpyToWindow (c : Fin 9) (t : BitVec 3) (h : BitVec 4) (s : State) : Host.Outcome State Fault Refusal :=
  .next (wcpyIssue c t h true s)

end Sys2Proof.Machine
end

