-- ==== Sys2Proof/Machine/CipherI.lean ====
section
/-! DEFINITION. Cipher functions of EISS (07 Cipher functions, 09). -/

namespace Sys2Proof.Machine

/-- Work at countermeasure levels 1 to 3 draws from the DRBG; with no noise source, or no healthy cipher core, it
completes with NO_HEALTHY_CHANNEL (R208, R211). -/
def vatCheck (s : State) (level : Nat) (random : Bool) : Option Status :=
  if !s.anyOk 0 16 || ((level != 0 || random) && !s.drbgOk) then some .noHealthyChannel else none

/-- The first status of a list of checks. -/
def firstOf (l : List (Bool × Status)) : Option Status := (l.find? fun e => e.1).map Prod.snd

/-- A Vat job of a frame with key slot k, used to encrypt or to decrypt. -/
def vatJob (c f : Nat) (fr : Fr) (t : BitVec 3) (fn : Nat) (enc : Bool) (k : Slot) (rs : List Range) (s : State) : Job :=
  { Job.base (tokRef c f fr t) fr.cls (.frame c f) fn with
    key := some ⟨0, k.n, enc, k.gen⟩, level := k.cmLevel, ranges := rs, mirror := s.mirrorSeq }

/-- Source, destination and auxiliary buffers of a cipher function, after the length check; ACCESS where one breaks
R133. `max` bounds the source, `aux` says whether g20 and g21 are used. -/
def cipherBuffers (c f : Nat) (fr : Fr) (t : BitVec 3) (s : State) (max : Nat) (dst aux : Bool)
    (k : Range → Range → Range → IRes) : IRes :=
  let none_ : Range := ⟨spData, 0, 0, false⟩
  if tooLong (fr.reg 17) max || (dst && tooLong (fr.reg 19) (2 ^ 37)) || (aux && tooLong (fr.reg 21) (2 ^ 32)) then
    .refuse c f fr t .lengthRange s
  else
    match s.buffer fr (fr.reg 16) (fr.reg 17).toNat false,
        (if dst then s.buffer fr (fr.reg 18) (fr.reg 19).toNat true else some none_),
        (if aux then s.buffer fr (fr.reg 20) (fr.reg 21).toNat false else some none_) with
    | some a, some b, some x => k a b x
    | none, _, _ => .trap .access (fr.reg 16).toNat
    | _, none, _ => .trap .access (fr.reg 18).toNat
    | _, _, none => .trap .access (fr.reg 20).toNat

/-- The tag length in g22: 0 means 16; none outside lo to 16 or with a reserved bit set. -/
def tagLen (w : Word) (lo : Nat) : Option Nat :=
  let n := w.toNat
  if n = 0 then some 16 else if lo ≤ n ∧ n ≤ 16 then some n else none

/-- Segments of AAD and payload together; a request with no payload is one segment (09, Segments and scheduling). -/
def gcmSegs (aad pay : Nat) : Nat := if pay = 0 then 1 else (aad + 4095) / 4096 + (pay + 4095) / 4096

/-- Those of the additional data, which run before the payload; a request over AAD only is one segment (09, Segments
and scheduling). -/
def aadSegs (aad pay : Nat) : Nat := if pay = 0 then 0 else (aad + 4095) / 4096

/-- GCM_ENC: IV ‖ ciphertext ‖ tag, the IV from the slot's invocation counter (R141, R195); the ciphertext is written
segment by segment, the tag after the last (R191). -/
def execGcmEnc (c : Fin 9) (t : BitVec 3) (h : BitVec 4) (s : State) : Host.Outcome State Fault Refusal :=
  .next (engIssue c t s fun s f fr =>
    match fr.keyOf h with
    | none => .trap .handle 0
    | some n =>
      cipherBuffers c f fr t s (2 ^ 36 - 32) true true fun src dst aad =>
        let tl := tagLen (fr.reg 22) 12
        if dst.len < 12 + src.len + tl.getD 16 then .refuse c f fr t .bufferShort s
        else
          match tl with
          | none => .refuse c f fr t .operandRange s
          | some T =>
            if s.hazard fr.uid [src, dst, aad] then .stall
            else
              withKey fr t s n (needAes 4 0) true (lateVat c f fr t) (fun k => vatCheck s k.cmLevel false) fun k v s' =>
                let iv := be k.fixed.toNat 4 ++ be v 8
                let p := s.readRange c fr src
                let a := s.readRange c fr aad
                let ct := Config.aesGcmEnc k.material iv a p
                let d := dstOf c f fr dst
                .issue fr t s' (vatAdmit { vatJob c f fr t 0x0001 true k [src, dst, aad] s' with
                  segs := gcmSegs aad.len src.len, aad := aadSegs aad.len src.len, width := 4, streamed := true, count := 12 + src.len + T
                  outs := [(d.shift 12, fit ct src.len), (d, iv),
                    (d.shift (12 + src.len), fit (Config.aesGcmTag k.material iv a ct) T)] }))

/-- GCM_DEC: a payload of 16 KiB or less is held, a longer one is provisional; either is scrubbed where it does not
end with an OK-class status (R142, R202 to R204). -/
def execGcmDec (c : Fin 9) (t : BitVec 3) (h : BitVec 4) (s : State) : Host.Outcome State Fault Refusal :=
  .next (engIssue c t s fun s f fr =>
    match fr.keyOf h with
    | none => .trap .handle 0
    | some n =>
      cipherBuffers c f fr t s (2 ^ 36) true true fun src dst aad =>
        let tl := tagLen (fr.reg 22) 12
        let pay := src.len - (12 + tl.getD 16)
        if 2 ^ 36 - 32 < pay then .refuse c f fr t .lengthRange s
        else if dst.len < pay then .refuse c f fr t .bufferShort s
        else
          match tl with
          | none => .refuse c f fr t .operandRange s
          | some T =>
            if s.hazard fr.uid [src, dst, aad] then .stall
            else
              let fc (k : Slot) := (vatCheck s k.cmLevel false).orElse fun _ =>
                firstOf [(decide (src.len < 12 + T), .operandRange)]
              withKey fr t s n (needAes 4 1) false (lateVat c f fr t) fc fun k _ s' =>
                let b := s.readRange c fr src
                let a := s.readRange c fr aad
                let ct := sl b 12 pay
                let good := fit (Config.aesGcmTag k.material (sl b 0 12) a ct) T == sl b (12 + pay) T
                let pt := fit (Config.aesGcmDec k.material (sl b 0 12) a ct) pay
                let held := decide (pay ≤ 16384)
                .issue fr t s' (vatAdmit { vatJob c f fr t 0x0002 false k [src, dst, aad] s' with
                  segs := gcmSegs aad.len pay, aad := aadSegs aad.len pay, width := 4, outs := [(dstOf c f fr dst, pt)], streamed := !held
                  status := if good then .ok else .tagFail, count := pay, scrub := pay
                  fin := if held then .staged (roundUp pay 256) else .plain }))

/-- CTR_ENC: initial counter block ‖ ciphertext (R195). -/
def execCtrEnc (c : Fin 9) (t : BitVec 3) (h : BitVec 4) (s : State) : Host.Outcome State Fault Refusal :=
  .next (engIssue c t s fun s f fr =>
    match fr.keyOf h with
    | none => .trap .handle 0
    | some n =>
      cipherBuffers c f fr t s (2 ^ 36) true false fun src dst _ =>
        if dst.len < 16 + src.len then .refuse c f fr t .bufferShort s
        else if s.hazard fr.uid [src, dst] then .stall
        else
          withKey fr t s n (needAes 1 0) true (lateVat c f fr t) (fun k => vatCheck s k.cmLevel false) fun k v s' =>
            let icb := be k.fixed.toNat 4 ++ be v 8 ++ zeros 4
            let d := dstOf c f fr dst
            .issue fr t s' (vatAdmit { vatJob c f fr t 0x0003 true k [src, dst] s' with
              segs := segsOf src.len, width := 4, streamed := true, count := 16 + src.len
              outs := [(d.shift 16, fit (Config.aesCtr k.material icb (s.readRange c fr src)) src.len), (d, icb)] }))

/-- CTR_DEC: the counter shall not run past 0xFFFF_FFFF (R197). -/
def execCtrDec (c : Fin 9) (t : BitVec 3) (h : BitVec 4) (s : State) : Host.Outcome State Fault Refusal :=
  .next (engIssue c t s fun s f fr =>
    match fr.keyOf h with
    | none => .trap .handle 0
    | some n =>
      cipherBuffers c f fr t s (2 ^ 36 + 16) true false fun src dst _ =>
        let pay := src.len - 16
        if dst.len < pay then .refuse c f fr t .bufferShort s
        else if s.hazard fr.uid [src, dst] then .stall
        else
          let b := s.readRange c fr src
          let fc (k : Slot) := (vatCheck s k.cmLevel false).orElse fun _ =>
            firstOf [(decide (src.len < 16), .operandRange),
              (decide (2 ^ 32 < beN (sl b 12 4) + (pay + 15) / 16), .operandRange)]
          withKey fr t s n (needAes 1 1) false (lateVat c f fr t) fc fun k _ s' =>
            .issue fr t s' (vatAdmit { vatJob c f fr t 0x0004 true k [src, dst] s' with
              segs := segsOf pay, width := 4, streamed := true, count := pay
              outs := [(dstOf c f fr dst, fit (Config.aesCtr k.material (sl b 0 16) (b.drop 16)) pay)] }))

/-- CBC_ENC: IV of 16 DRBG bytes ‖ ciphertext; chained, one segment at a time (R190, R195). -/
def execCbcEnc (c : Fin 9) (t : BitVec 3) (h : BitVec 4) (s : State) : Host.Outcome State Fault Refusal :=
  .next (engIssue c t s fun s f fr =>
    match fr.keyOf h with
    | none => .trap .handle 0
    | some n =>
      cipherBuffers c f fr t s (2 ^ 36) true false fun src dst _ =>
        if dst.len < 16 + src.len then .refuse c f fr t .bufferShort s
        else if s.hazard fr.uid [src, dst] then .stall
        else
          let fc (k : Slot) := (vatCheck s k.cmLevel true).orElse fun _ =>
            firstOf [(decide (src.len % 16 ≠ 0), .operandRange)]
          withKey fr t s n (needAes 1 0) false (lateVat c f fr t) fc fun k _ s' =>
            let (iv, s') := s'.drbgBytes 16
            let d := dstOf c f fr dst
            .issue fr t s' (vatAdmit { vatJob c f fr t 0x0005 true k [src, dst] s' with
              segs := segsOf src.len, streamed := true, count := 16 + src.len
              outs := [(d.shift 16, fit (Config.aesCbcEnc k.material iv (s.readRange c fr src)) src.len), (d, iv)] }))

/-- CBC_DEC (R141). -/
def execCbcDec (c : Fin 9) (t : BitVec 3) (h : BitVec 4) (s : State) : Host.Outcome State Fault Refusal :=
  .next (engIssue c t s fun s f fr =>
    match fr.keyOf h with
    | none => .trap .handle 0
    | some n =>
      cipherBuffers c f fr t s (2 ^ 36 + 16) true false fun src dst _ =>
        let pay := src.len - 16
        if dst.len < pay then .refuse c f fr t .bufferShort s
        else if s.hazard fr.uid [src, dst] then .stall
        else
          let b := s.readRange c fr src
          let fc (k : Slot) := (vatCheck s k.cmLevel false).orElse fun _ =>
            firstOf [(decide (src.len < 16 ∨ pay % 16 ≠ 0), .operandRange)]
          withKey fr t s n (needAes 1 1) false (lateVat c f fr t) fc fun k _ s' =>
            .issue fr t s' (vatAdmit { vatJob c f fr t 0x0006 false k [src, dst] s' with
              segs := segsOf pay, width := 4, streamed := true, count := pay
              outs := [(dstOf c f fr dst, fit (Config.aesCbcDec k.material (sl b 0 16) (b.drop 16)) pay)] }))

/-- CMAC_GEN: a tag of T bytes. -/
def execCmacGen (c : Fin 9) (t : BitVec 3) (h : BitVec 4) (s : State) : Host.Outcome State Fault Refusal :=
  .next (engIssue c t s fun s f fr =>
    match fr.keyOf h with
    | none => .trap .handle 0
    | some n =>
      cipherBuffers c f fr t s (2 ^ 36) true false fun src dst _ =>
        let tl := tagLen (fr.reg 22) 4
        if dst.len < tl.getD 16 then .refuse c f fr t .bufferShort s
        else
          match tl with
          | none => .refuse c f fr t .operandRange s
          | some T =>
            if s.hazard fr.uid [src, dst] then .stall
            else
              withKey fr t s n (needAes 5 7) false (lateVat c f fr t) (fun k => vatCheck s k.cmLevel false) fun k _ s' =>
                .issue fr t s' (vatAdmit { vatJob c f fr t 0x0007 true k [src, dst] s' with
                  segs := segsOf src.len, count := T
                  outs := [(dstOf c f fr dst, fit (Config.aesCmac k.material (s.readRange c fr src)) T)] }))

/-- CMAC_VER: OK or TAG_FAIL; the tag is the auxiliary buffer of T bytes. -/
def execCmacVer (c : Fin 9) (t : BitVec 3) (h : BitVec 4) (s : State) : Host.Outcome State Fault Refusal :=
  .next (engIssue c t s fun s f fr =>
    match fr.keyOf h with
    | none => .trap .handle 0
    | some n =>
      cipherBuffers c f fr t s (2 ^ 36) false true fun src _ aux =>
        match tagLen (fr.reg 22) 4 with
        | none => .refuse c f fr t .operandRange s
        | some T =>
          if s.hazard fr.uid [src, aux] then .stall
          else
            let fc (k : Slot) := (vatCheck s k.cmLevel false).orElse fun _ =>
              firstOf [(decide (aux.len ≠ T), .operandRange)]
            withKey fr t s n (needAes 5 7) false (lateVat c f fr t) fc fun k _ s' =>
              let good := fit (Config.aesCmac k.material (s.readRange c fr src)) T == s.readRange c fr aux
              .issue fr t s' (vatAdmit { vatJob c f fr t 0x0008 true k [src, aux] s' with
                segs := segsOf src.len, status := if good then .ok else .tagFail }))

/-! ### XTS on host volumes (R199, R200) -/

/-- The sectors of a buffer transformed one by one. -/
def xtsAll (enc : Bool) (key : Bytes) (first : Nat) (b : Bytes) (count : Nat) : Bytes :=
  ((List.range count).map fun i =>
    fit ((if enc then Config.xtsEnc else Config.xtsDec) key (first + i) (sl b (4096 * i) 4096)) 4096).flatten

/-- The two halves of an XTS key are equal (R200). -/
def xtsHalves (k : Slot) : Bool :=
  k.material.take (k.material.length / 2) == k.material.drop (k.material.length / 2)

/-- XTS_ENC and XTS_DEC: whole sectors of host volume v, each use a use of slot KS v. -/
def xtsIssue (c : Fin 9) (t : BitVec 3) (h : BitVec 4) (enc : Bool) (s : State) : State :=
  engIssue c t s fun s f fr =>
    match fr.hnd h with
    | .volume v =>
      cipherBuffers c f fr t s (65536 * 4096) true false fun src dst _ =>
        let first := (fr.reg 22).toNat
        let count := src.len / 4096
        let dst' := { dst with len := src.len }
        if !s.granted c fr 4 v (some (if enc then 1 else 0)) then .trap .access 0
        else if dst.len < src.len then .refuse c f fr t .bufferShort s
        else if (s.cardVolume v).isSome then .refuse c f fr t .operandRange s
        else if s.hazard fr.uid [src, dst] then .stall
        else
          let fc (k : Slot) := (vatCheck s k.cmLevel false).orElse fun _ => firstOf [(xtsHalves k, .keyAttr),
            (decide (src.len % 4096 ≠ 0 ∨ src.len = 0 ∨ 2 ^ 36 < first + count), .operandRange),
            (src.overlaps dst' && decide (src.lo ≠ dst.lo), .operandRange)]
          withKey fr t s v (needXts (if enc then 0 else 1)) false (lateVat c f fr t) fc fun k _ s' =>
            .issue fr t s' (vatAdmit { vatJob c f fr t (if enc then 0x0009 else 0x000A) enc k [src, dst] s' with
              key := some ⟨2, v, enc, k.gen⟩, segs := count, width := 4, streamed := true, count := src.len
              outs := [(dstOf c f fr dst, xtsAll enc k.material first (s.readRange c fr src) count)] })
    | _ => .trap .handle 0

/-- XTS_ENC. -/
def execXtsEnc (c : Fin 9) (t : BitVec 3) (h : BitVec 4) (s : State) : Host.Outcome State Fault Refusal :=
  .next (xtsIssue c t h true s)

/-- XTS_DEC. -/
def execXtsDec (c : Fin 9) (t : BitVec 3) (h : BitVec 4) (s : State) : Host.Outcome State Fault Refusal :=
  .next (xtsIssue c t h false s)

/-! ### TDEA (R212, R213) -/

def xorBytes (a b : Bytes) : Bytes := List.zipWith (· ^^^ ·) a b

/-- Key i of three, 8 bytes each: K1, K2, K3. -/
def tdeaKey (k : Bytes) (i : Nat) : Bytes := sl k (8 * i) 8

/-- One block encrypt-decrypt-encrypt under K1, K2, K3, and its inverse. -/
def tdeaEnc (k b : Bytes) : Bytes :=
  fit (Config.desEnc (tdeaKey k 2) (Config.desDec (tdeaKey k 1) (Config.desEnc (tdeaKey k 0) b))) 8
def tdeaDec (k b : Bytes) : Bytes :=
  fit (Config.desDec (tdeaKey k 0) (Config.desEnc (tdeaKey k 1) (Config.desDec (tdeaKey k 2) b))) 8

/-- The 8-byte blocks of a string. -/
def blocks8 (b : Bytes) : List Bytes := (List.range (b.length / 8)).map fun i => sl b (8 * i) 8

/-- CBC: the blocks enciphered so far, the last one chaining into the next. -/
def tdeaCbcEnc (k iv : Bytes) (b : Bytes) : Bytes :=
  ((blocks8 b).foldl (fun (r : Bytes × Bytes) x => let y := tdeaEnc k (xorBytes x r.2); (r.1 ++ y, y)) ([], iv)).1
def tdeaCbcDec (k iv : Bytes) (b : Bytes) : Bytes :=
  ((blocks8 b).foldl (fun (r : Bytes × Bytes) x => (r.1 ++ xorBytes (tdeaDec k x) r.2, x)) ([], iv)).1

/-- Padding method 1: zeros to a multiple of 8 bytes, an empty message one block of zeros. -/
def pad8 (b : Bytes) : Bytes := if b.isEmpty then zeros 8 else b ++ zeros (roundUp b.length 8 - b.length)

/-- MAC algorithm 3 of ISO/IEC 9797-1 under K = K1 and K′ = K2: a chain of encryptions under K, the last block
decrypted under K′ and encrypted under K again. -/
def tdeaMac (k msg : Bytes) : Bytes :=
  let h := (blocks8 (pad8 msg)).foldl (fun h x => fit (Config.desEnc (tdeaKey k 0) (xorBytes x h)) 8) (zeros 8)
  fit (Config.desEnc (tdeaKey k 0) (Config.desDec (tdeaKey k 1) h)) 8

/-- TDEA_CBC_DEC: the IV is the first 8 bytes of the source. -/
def execTdeaCbcDec (c : Fin 9) (t : BitVec 3) (h : BitVec 4) (s : State) : Host.Outcome State Fault Refusal :=
  .next (engIssue c t s fun s f fr =>
    match fr.keyOf h with
    | none => .trap .handle 0
    | some n =>
      cipherBuffers c f fr t s (2 ^ 36 + 8) true false fun src dst _ =>
        let pay := src.len - 8
        if dst.len < pay then .refuse c f fr t .bufferShort s
        else if s.hazard fr.uid [src, dst] then .stall
        else
          let b := s.readRange c fr src
          let fc (k : Slot) := (vatCheck s k.cmLevel false).orElse fun _ =>
            firstOf [(decide (src.len < 8 ∨ pay % 8 ≠ 0), .operandRange)]
          withKey fr t s n (needTdea 1) false (lateVat c f fr t) fc fun k _ s' =>
            .issue fr t s' (vatAdmit { vatJob c f fr t 0x0010 false k [src, dst] s' with
              segs := segsOf pay, streamed := true, count := pay
              outs := [(dstOf c f fr dst, fit (tdeaCbcDec k.material (sl b 0 8) (b.drop 8)) pay)] }))

/-- TDEA_CBC_ENC and TDEA_MAC_GEN issued by Yehepel code always complete with KEY_ATTR (R213). -/
def tdeaRefused (c : Fin 9) (t : BitVec 3) (h : BitVec 4) (s : State) : State :=
  engIssue c t s fun s f fr =>
    match fr.keyOf h with
    | none => .trap .handle 0
    | some _ => cipherBuffers c f fr t s (2 ^ 36) true false fun _ _ _ => .issue fr t s (lateVat c f fr t .keyAttr)

/-- TDEA_CBC_ENC. -/
def execTdeaCbcEnc (c : Fin 9) (t : BitVec 3) (h : BitVec 4) (s : State) : Host.Outcome State Fault Refusal :=
  .next (tdeaRefused c t h s)

/-- TDEA_MAC_GEN. -/
def execTdeaMacGen (c : Fin 9) (t : BitVec 3) (h : BitVec 4) (s : State) : Host.Outcome State Fault Refusal :=
  .next (tdeaRefused c t h s)

/-- TDEA_MAC_VER: the MAC is the last 8 bytes of the source. -/
def execTdeaMacVer (c : Fin 9) (t : BitVec 3) (h : BitVec 4) (s : State) : Host.Outcome State Fault Refusal :=
  .next (engIssue c t s fun s f fr =>
    match fr.keyOf h with
    | none => .trap .handle 0
    | some n =>
      cipherBuffers c f fr t s (2 ^ 36 + 8) false false fun src _ _ =>
        if s.hazard fr.uid [src] then .stall
        else
          let b := s.readRange c fr src
          let fc (k : Slot) := (vatCheck s k.cmLevel false).orElse fun _ =>
            firstOf [(decide (src.len < 8), .operandRange)]
          withKey fr t s n (needTdea 7) false (lateVat c f fr t) fc fun k _ s' =>
            let msg := sl b 0 (src.len - 8)
            let good := fit (tdeaMac k.material msg) 8 == sl b (src.len - 8) 8
            .issue fr t s' (vatAdmit { vatJob c f fr t 0x0013 true k [src] s' with
              segs := segsOf msg.length, status := if good then .ok else .tagFail }))

end Sys2Proof.Machine
end

