-- ==== Sys2Proof/Machine/Control.lean ====
section
/-! DEFINITION. Branches, jumps, EXIT, BREAK and undefined words (06, Control-flow and system instructions). -/

namespace Sys2Proof.Machine

/-- pc + 4 × offset. -/
def target14 (pc : BitVec 32) (off : BitVec 14) : BitVec 32 := pc + (off.signExtend 32 <<< 2)

/-- Go on at pc t with the registers of fr'; a t that is no multiple of 4 traps before any register is written
(R122). -/
def goTo (fr' : Fr) (t : BitVec 32) (s : State) : IRes :=
  if t.toNat % 4 != 0 then .trap .misaligned t.toNat else .jump fr' t s

/-- A branch: to its target where `p` holds of a and b, else to the next instruction. -/
def branch (c : Fin 9) (a b : BitVec 5) (off : BitVec 14) (p : Word → Word → Bool) (s : State) : State :=
  runInstr c 1 s fun _ fr =>
    if p (fr.reg a) (fr.reg b) then goTo fr (target14 fr.pc off) s else .ok fr s id

/-- BEQ. -/
def execBeq (c : Fin 9) (a b : BitVec 5) (off : BitVec 14) (s : State) : Host.Outcome State Fault Refusal :=
  .next (branch c a b off (fun x y => x == y) s)

/-- BNE. -/
def execBne (c : Fin 9) (a b : BitVec 5) (off : BitVec 14) (s : State) : Host.Outcome State Fault Refusal :=
  .next (branch c a b off (fun x y => x != y) s)

/-- BLT: s(a) < s(b). -/
def execBlt (c : Fin 9) (a b : BitVec 5) (off : BitVec 14) (s : State) : Host.Outcome State Fault Refusal :=
  .next (branch c a b off (fun x y => x.slt y) s)

/-- BGE: s(a) ≥ s(b). -/
def execBge (c : Fin 9) (a b : BitVec 5) (off : BitVec 14) (s : State) : Host.Outcome State Fault Refusal :=
  .next (branch c a b off (fun x y => !x.slt y) s)

/-- BLTU: u(a) < u(b). -/
def execBltu (c : Fin 9) (a b : BitVec 5) (off : BitVec 14) (s : State) : Host.Outcome State Fault Refusal :=
  .next (branch c a b off (fun x y => x.ult y) s)

/-- BGEU: u(a) ≥ u(b). -/
def execBgeu (c : Fin 9) (a b : BitVec 5) (off : BitVec 14) (s : State) : Host.Outcome State Fault Refusal :=
  .next (branch c a b off (fun x y => !x.ult y) s)

/-- The address after this instruction, as JAL and JALR write it. -/
def linkWord (fr : Fr) : Word := (fr.pc + 4).zeroExtend 64

/-- JAL: d := pc + 4; pc := pc + 4 × offset. -/
def execJal (c : Fin 9) (d : BitVec 5) (off : BitVec 19) (s : State) : Host.Outcome State Fault Refusal :=
  .next (runInstr c 1 s fun _ fr => goTo (fr.setReg d (linkWord fr)) (fr.pc + (off.signExtend 32 <<< 2)) s)

/-- JALR: t := a + imm; d := pc + 4; pc := t. A t that is no multiple of 4 traps before any register is written
(R122); one above 32 bits lies outside the backed code, so its fetch traps. -/
def execJalr (c : Fin 9) (d a : BitVec 5) (imm : BitVec 14) (s : State) : Host.Outcome State Fault Refusal :=
  .next (runInstr c 1 s fun _ fr =>
    let t := fr.reg a + imm.signExtend 64
    if t.toNat % 4 != 0 then .trap .misaligned t.toNat
    else if fr.mode != .s && decide (2 ^ 32 ≤ t.toNat) then .trap .access t.toNat
    else .jump (fr.setReg d (linkWord fr)) (t.extractLsb' 0 32) s)

/-- The statuses EXIT may carry: OK, or class 0x01 or 0x04 without PARK_INVALID and MEDIA_TAG_FAIL (R123). -/
def exitStatus (n : Nat) : Option Status :=
  [Status.ok, .lengthRange, .bufferShort, .shortInput, .badOrder, .operandRange, .notOnCurve, .badFormat, .tagFail,
    .compareFail].find? fun st => st.code == n

/-- The frame that runs on core c executes the EXIT that was granted against its run limit (R111). -/
def takeExit (c : Nat) (s : State) : State :=
  match s.runningFrame c with
  | none => s
  | some (f, fr) => setFrame c f (some { fr with exitDue := false }) s

/-- EXIT (R123): open presses are abandoned; the completion follows once no token of the frame is busy. The
supervisor's frame runs no order: its EXIT discards the presses, empties the handle registers (R108) and retires (R151;
log 13). -/
def execExit (c : Fin 9) (d : BitVec 5) (st : BitVec 19) (s : State) : Host.Outcome State Fault Refusal :=
  .next (
    let s := takeExit c s
    runInstr c 1 s fun f fr =>
      match exitStatus st.toNat with
      | none => .trap .illegal 0
      | some e =>
        let s' := { s with press := { s.press with bufUsed := s.press.bufUsed - fr.openReserve } }
        let fr := { fr with presses := Vector.replicate 4 none }
        if fr.mode == .s then .ok { fr with h := Vector.replicate 16 .empty } s' id
        else
          .ok { fr with exiting := some ((fr.reg d).extractLsb' 0 32, e) } s'
            fun s => (fun s => if (s.frame c f).isSome then yieldCore c s else s) (tryExit c f s))

/-- BREAK: halts the core for the debug port while debug is active or in TEST, else ILLEGAL. -/
def execBreakI (c : Fin 9) (s : State) : Host.Outcome State Fault Refusal :=
  .next (runInstr c 1 s fun _ fr =>
    if s.debugOn || s.vault.lc == .test then .ok fr s fun s => setCore c { s.core c with halted := true } s
    else .trap .illegal 0)

end Sys2Proof.Machine
end

