-- ==== Sys2Proof/Machine/DigestI.lean ====
section
/-! DEFINITION. Digest functions of EISS (07 Digest functions, 10). -/

namespace Sys2Proof.Machine

/-- The algorithm is disabled for this requester (R67). -/
def disabled (s : State) (fr : Fr) (bit : Nat) : Bool := (Rq.ofMode fr.mode).governed && !s.active.enables.getLsbD bit

/-- A digest job of a frame; its function word is operation × 256 + algorithm. -/
def digestJob (c f : Nat) (fr : Fr) (t : BitVec 3) (op alg : Nat) (rs : List Range) : Job :=
  { Job.base (tokRef c f fr t) fr.cls (.frame c f) (256 * op + alg) with ranges := rs }

/-- HMAC needs its own bit and that of its hash; KMAC its own. -/
def needMac (alg : Nat) : Need where
  fits k := if isKmac alg then k.alg == 0x0202 else k.alg == 0x0201
  usage k := k.usage 7
  enables _ := if isKmac alg then [12] else [11, ((digestAlg alg).map (·.bit)).getD 0]

/-- Keyed work at levels 1 to 3 draws from the DRBG; every hash core may be retired (R225, R230). -/
def hashCheck (s : State) (level : Nat) : Option Status :=
  if !s.anyOk 16 8 || (level != 0 && !s.drbgOk) then some .noHealthyChannel else none

/-- Source, destination and auxiliary buffers; `srcOn`, `dstOn` and `aux` say which are used, with the greatest
lengths of the first and the last. -/
def digestBuffers (c f : Nat) (fr : Fr) (t : BitVec 3) (s : State) (srcOn dstOn : Bool) (aux : Option Nat)
    (k : Range → Range → Range → IRes) : IRes :=
  let none_ : Range := ⟨spData, 0, 0, false⟩
  if (srcOn && tooLong (fr.reg 17) (2 ^ 64 - 2)) || (dstOn && decide (2 ^ 32 ≤ (fr.reg 19).toNat))
      || aux.elim false (tooLong (fr.reg 21)) then .refuse c f fr t .lengthRange s
  else
    match (if srcOn then s.buffer fr (fr.reg 16) (fr.reg 17).toNat false else some none_),
        (if dstOn then s.buffer fr (fr.reg 18) (fr.reg 19).toNat true else some none_),
        (if aux.isSome then s.buffer fr (fr.reg 20) (fr.reg 21).toNat false else some none_) with
    | some a, some b, some x => k a b x
    | none, _, _ => .trap .access (fr.reg 16).toNat
    | _, none, _ => .trap .access (fr.reg 18).toNat
    | _, _, none => .trap .access (fr.reg 20).toNat

/-- HASH. -/
def execHash (c : Fin 9) (t : BitVec 3) (alg : BitVec 8) (s : State) : Host.Outcome State Fault Refusal :=
  .next (engIssue c t s fun s f fr =>
    match digestAlg alg.toNat with
    | none => .trap .illegal 0
    | some a =>
      if isKmac alg.toNat then .trap .illegal 0
      else
        digestBuffers c f fr t s true true none fun src dst _ =>
          let len := if isShake alg.toNat then (fr.reg 22).toNat else a.out
          if dst.len < len then .refuse c f fr t .bufferShort s
          else if len = 0 ∨ 65536 < len then .refuse c f fr t .operandRange s
          else if s.hazard fr.uid [src, dst] then .stall
          else if disabled s fr a.bit then .issue fr t s (lateDigest c f fr t .badFormat)
          else
            let out := digestOut alg.toNat false [] (s.readRange c fr src) len []
            .issue fr t s (digestAdmit { digestJob c f fr t 0 alg.toNat [src, dst] with
              segs := digestSegs a.block src.len, outs := [(dstOf c f fr dst, out)], count := len }))

/-! ### Hash streams (R218 to R222) -/

/-- The auxiliary buffer of a state block: backed data region or writable session page (10, State blocks). -/
def blockBuffer (s : State) (fr : Fr) : Option Range :=
  let n := (fr.reg 21).toNat
  if n = 0 then some ⟨spData, 0, 0, true⟩
  else (s.place fr (fr.reg 20).toNat n true).filter fun r => r.space == spData || r.space == spPage

/-- What START, UPDATE and FINISH leave to their turn (R216, R221). -/
def deferred (op alg : Nat) (fr : Fr) (block input : Bytes) (len : Nat) : Deferred :=
  ⟨op, alg, block, input, len, ⟨0, 0, 0, fr.uid, alg, false, [], 0, 0, [], false, 0⟩⟩

/-- START (R143, R221, R224): the declared length in g22, the state block to the auxiliary buffer. A keyed START is
one use of its slot; with every earlier request done, a ninth open stream refuses it before the use (log 164). -/
def execStart (c : Fin 9) (t : BitVec 3) (h : BitVec 4) (keyed : Bool) (alg : BitVec 8) (s : State) :
    Host.Outcome State Fault Refusal :=
  .next (engIssue c t s fun s f fr =>
    match digestAlg alg.toNat with
    | none => .trap .illegal 0
    | some a =>
      if (!keyed && (isKmac alg.toNat || h != 0)) || (keyed && isShake alg.toNat) then .trap .illegal 0
      else if keyed && (fr.keyOf h).isNone then .trap .handle 0
      else if a.max < (fr.reg 22).toNat || decide (2 ^ 32 ≤ (fr.reg 21).toNat) then .refuse c f fr t .lengthRange s
      else
        match blockBuffer s fr with
        | none => .trap .access (fr.reg 20).toNat
        | some aux =>
          if aux.len < 512 then .refuse c f fr t .bufferShort s
          else if s.hazard fr.uid [aux] then .stall
          else
            let mine := (s.eng.streams.filter fun r => r.uid == fr.uid).length
            let idle := !((s.eng.digest.jobs ++ s.eng.compares).any fun j => j.stream == .frame c f)
            let go (key : Bytes) (level : Nat) (s : State) : IRes :=
              let d := deferred 1 alg.toNat fr [] [] 0
              .issue fr t s (digestAdmit { digestJob c f fr t 1 alg.toNat [{ aux with len := 512 }] with
                outs := [(dstOf c f fr aux, [])], level := level
                defer := some { d with opens := ⟨0, c, f, fr.uid, alg.toNat, keyed, key, level, (fr.reg 22).toNat, [],
                  false, 0⟩ } })
            if keyed then
              withKey fr t s ((fr.keyOf h).getD 0) (needMac alg.toNat) false (lateDigest c f fr t)
                (fun k => (hashCheck s k.cmLevel).orElse fun _ => firstOf [(idle && decide (8 ≤ mine), .operandRange)])
                fun k _ s => go (keyBytes k.material) k.cmLevel s
            else if disabled s fr a.bit then .issue fr t s (lateDigest c f fr t .badFormat)
            else go [] 0 s)

/-- UPDATE (R143, R218): absorbs up to the declared length; input beyond it is discarded with OK_TRUNCATED. -/
def execUpdate (c : Fin 9) (t : BitVec 3) (alg : BitVec 8) (s : State) : Host.Outcome State Fault Refusal :=
  .next (engIssue c t s fun s f fr =>
    match digestAlg alg.toNat with
    | none => .trap .illegal 0
    | some _ =>
      if tooLong (fr.reg 17) (2 ^ 32) || decide (2 ^ 32 ≤ (fr.reg 21).toNat) then .refuse c f fr t .lengthRange s
      else
        match s.buffer fr (fr.reg 16) (fr.reg 17).toNat false, blockBuffer s fr with
        | some src, some aux =>
          if aux.len < 512 then .refuse c f fr t .bufferShort s
          else if s.hazard fr.uid [src, aux] then .stall
          else
            let aux := { aux with len := 512 }
            .issue fr t s (digestAdmit { digestJob c f fr t 2 alg.toNat [src, aux] with
              outs := [(dstOf c f fr aux, [])]
              defer := some (deferred 2 alg.toNat fr (s.readRange c fr aux) (s.readRange c fr src) 0) })
        | none, _ => .trap .access (fr.reg 16).toNat
        | _, none => .trap .access (fr.reg 20).toNat)

/-- A FINISH refused at issue ends the hash stream that the first 512 bytes at its auxiliary address name, where they
lie in a legal place and no busy request touches them (R218; log 29). -/
def finishRefuse (c f : Nat) (fr : Fr) (t : BitVec 3) (alg : Nat) (st : Status) (s : State) : IRes :=
  match (s.place fr (fr.reg 20).toNat 512 true).filter fun r => r.space == spData || r.space == spPage with
  | none => .refuse c f fr t st s
  | some blk =>
    if s.hazard fr.uid [blk] then .stall
    else
      match (acceptBlock s fr.uid (s.readRange c fr blk)).filter fun r => r.alg == alg with
      | some r => .refuse c f fr t st (freeStreamRec r.idx s)
      | none => .refuse c f fr t st s

/-- FINISH (R218): digest or tag over exactly the declared bytes; SHORT_INPUT before they are all absorbed. -/
def execFinish (c : Fin 9) (t : BitVec 3) (alg : BitVec 8) (s : State) : Host.Outcome State Fault Refusal :=
  .next (engIssue c t s fun s f fr =>
    match digestAlg alg.toNat with
    | none => .trap .illegal 0
    | some a =>
      if decide (2 ^ 32 ≤ (fr.reg 19).toNat) || decide (2 ^ 32 ≤ (fr.reg 21).toNat) then
        finishRefuse c f fr t alg.toNat .lengthRange s
      else
        match s.buffer fr (fr.reg 18) (fr.reg 19).toNat true, blockBuffer s fr with
        | some dst, some aux =>
          let len := if a.out = 0 then (fr.reg 22).toNat else a.out
          let cap := if isShake alg.toNat then 65536 else 512
          if aux.len < 512 then finishRefuse c f fr t alg.toNat .bufferShort s
          else if s.hazard fr.uid [dst, aux] then .stall
          else if dst.len < len then finishRefuse c f fr t alg.toNat .bufferShort s
          else if a.out = 0 ∧ (len = 0 ∨ cap < len) then finishRefuse c f fr t alg.toNat .operandRange s
          else
            let aux := { aux with len := 512 }
            .issue fr t s (digestAdmit { digestJob c f fr t 3 alg.toNat [dst, aux] with
              outs := [(dstOf c f fr dst, [])]
              defer := some (deferred 3 alg.toNat fr (s.readRange c fr aux) [] len) })
        | none, _ => .trap .access (fr.reg 18).toNat
        | _, none => .trap .access (fr.reg 20).toNat)

/-! ### Keyed digests, compare, SLH-DSA -/

/-- HMAC: the full output of the hash (R223). -/
def execHmac (c : Fin 9) (t : BitVec 3) (h : BitVec 4) (alg : BitVec 8) (s : State) :
    Host.Outcome State Fault Refusal :=
  .next (engIssue c t s fun s f fr =>
    match digestAlg alg.toNat with
    | none => .trap .illegal 0
    | some a =>
      if a.out = 0 then .trap .illegal 0
      else
        match fr.keyOf h with
        | none => .trap .handle 0
        | some n =>
          digestBuffers c f fr t s true true none fun src dst _ =>
            if dst.len < a.out then .refuse c f fr t .bufferShort s
            else if s.hazard fr.uid [src, dst] then .stall
            else
              withKey fr t s n (needMac alg.toNat) false (lateDigest c f fr t) (fun k => hashCheck s k.cmLevel) fun k _ s' =>
                let out := digestOut alg.toNat true (keyBytes k.material) (s.readRange c fr src) a.out []
                .issue fr t s' (digestAdmit { digestJob c f fr t 4 alg.toNat [src, dst] with
                  segs := digestSegs a.block src.len, outs := [(dstOf c f fr dst, out)], count := a.out, level := k.cmLevel
                  mirror := s'.mirrorSeq }))

/-- KMAC: L bytes, 1 to 512, with the customisation string S in the auxiliary buffer (R223). -/
def execKmac (c : Fin 9) (t : BitVec 3) (h : BitVec 4) (alg : BitVec 8) (s : State) :
    Host.Outcome State Fault Refusal :=
  .next (engIssue c t s fun s f fr =>
    if !isKmac alg.toNat then .trap .illegal 0
    else
      match fr.keyOf h with
      | none => .trap .handle 0
      | some n =>
        digestBuffers c f fr t s true true (some 256) fun src dst aux =>
          let len := (fr.reg 22).toNat
          if dst.len < len then .refuse c f fr t .bufferShort s
          else if len = 0 ∨ 512 < len then .refuse c f fr t .operandRange s
          else if s.hazard fr.uid [src, dst, aux] then .stall
          else
            withKey fr t s n (needMac alg.toNat) false (lateDigest c f fr t) (fun k => hashCheck s k.cmLevel) fun k _ s' =>
              let out := digestOut alg.toNat true (keyBytes k.material) (s.readRange c fr src) len
                (s.readRange c fr aux)
              .issue fr t s' (digestAdmit { digestJob c f fr t 5 alg.toNat [src, dst, aux] with
                segs := digestSegs (if alg = 0x1C then 168 else 136) src.len, outs := [(dstOf c f fr dst, out)]
                count := len, level := k.cmLevel
                mirror := s'.mirrorSeq }))

/-- COMPARE (R144, R227): OK or COMPARE_FAIL, with count 0 and value 0. -/
def execCompare (c : Fin 9) (t : BitVec 3) (s : State) : Host.Outcome State Fault Refusal :=
  .next (engIssue c t s fun s f fr =>
    digestBuffers c f fr t s true false (some (2 ^ 32)) fun a _ b =>
      let n := (fr.reg 22).toNat
      if a.len < n ∨ b.len < n then .refuse c f fr t .bufferShort s
      else if n < 8 ∨ 64 < n then .refuse c f fr t .operandRange s
      else if s.hazard fr.uid [a, b] then .stall
      else
        let same := (s.readRange c fr a).take n == (s.readRange c fr b).take n
        .issue fr t s (compareAdmit { digestJob c f fr t 6 0 [a, b] with
          status := if same then .ok else .compareFail }))

/-- Signature lengths of FIPS 205 by parameter set (R228); none outside 0 to 11. -/
def slhLen (i : Nat) : Option Nat :=
  if i < 12 then [7856, 17088, 16224, 35664, 29792, 49856][i % 6]? else none

/-- Block or rate of the hash that takes in the message under a parameter set of FIPS 205: SHA-256 for the 128-bit
SHA2 sets, SHA-512 for the other SHA2 sets, SHAKE256 for the SHAKE sets. -/
def slhBlock (i : Nat) : Nat := if i < 2 then 64 else if i < 6 then 128 else 136

def needSlh (alg usage : Nat) : Need where
  fits k := k.alg == alg
  usage k := k.usage usage
  enables _ := [13]

/-- SLH_SIGN: hedged, opt_rand from the DRBG; up to four segments at once (R228). -/
def execSlhSign (c : Fin 9) (t : BitVec 3) (h : BitVec 4) (set : BitVec 8) (s : State) :
    Host.Outcome State Fault Refusal :=
  .next (engIssue c t s fun s f fr =>
    match slhLen set.toNat with
    | none => .trap .illegal 0
    | some len =>
      match fr.keyOf h with
      | none => .trap .handle 0
      | some n =>
        digestBuffers c f fr t s true true none fun src dst _ =>
          if dst.len < len then .refuse c f fr t .bufferShort s
          else if s.hazard fr.uid [src, dst] then .stall
          else
            let fc (_ : Slot) : Option Status := if !s.drbgOk || !s.anyOk 16 8 then some .noHealthyChannel else none
            withKey fr t s n (needSlh (0x0800 + set.toNat) 2) false (lateDigest c f fr t) fc fun k _ s' =>
              let (rnd, s') := s'.drbgBytes 32
              let sig := fit (Config.pk (0x0800 + set.toNat) k.material 0 [s.readRange c fr src] rnd) len
              .issue fr t s' (digestAdmit { digestJob c f fr t 8 set.toNat [src, dst] with
                segs := max 1 (Config.slhSignSegs set.toNat src.len), width := 4, level := k.cmLevel, outs := [(dstOf c f fr dst, sig)], count := len, mirror := s'.mirrorSeq }))

/-- SLH_VERIFY: the signature is the auxiliary buffer; any other length is OPERAND_RANGE (R228). -/
def execSlhVerify (c : Fin 9) (t : BitVec 3) (h : BitVec 4) (set : BitVec 8) (s : State) :
    Host.Outcome State Fault Refusal :=
  .next (engIssue c t s fun s f fr =>
    match slhLen set.toNat with
    | none => .trap .illegal 0
    | some len =>
      match fr.keyOf h with
      | none => .trap .handle 0
      | some n =>
        digestBuffers c f fr t s true false (some (2 ^ 32)) fun src _ aux =>
          if aux.len ≠ len then .refuse c f fr t .operandRange s
          else if s.hazard fr.uid [src, aux] then .stall
          else
            withKey fr t s n (needSlh (0x0810 + set.toNat) 3) false (lateDigest c f fr t) (fun _ => hashCheck s 0) fun k _ s' =>
              let good := Config.pkVerify (0x0810 + set.toNat) k.material 0 [s.readRange c fr src, s.readRange c fr aux]
              .issue fr t s' (digestAdmit { digestJob c f fr t 9 set.toNat [src, aux] with
                segs := digestSegs (slhBlock set.toNat) src.len
                status := if good then .ok else .tagFail, mirror := s'.mirrorSeq }))

end Sys2Proof.Machine
end

