-- ==== Sys2Proof/Machine/Engine.lean ====
section
/-! DEFINITION. Ends of segments, compares and lane jobs, and the yield points of long lane jobs (09, 10, 11). -/

namespace Sys2Proof.Machine

/-! ### Segments -/

/-- The output bytes of segment i of a job, at their own place: payload segments of 4,096 bytes come after those of the
additional data (R191, R201, R203). -/
def segWrite (j : Job) (i : Nat) (s : State) : Job × State :=
  match j.outs with
  | (d, b) :: _ =>
    if !j.streamed || i < j.aad then (j, s)
    else
      let piece := sl b (4096 * (i - j.aad)) 4096
      ({ j with written := j.written + piece.length }, writeOut j.ref (d.shift (4096 * (i - j.aad))) piece s)
  | [] => (j, s)

/-- Segment i of job j has ended well: its bytes, then the end of the job with its last segment. -/
def segDone (j : Job) (i : Nat) (put : Job → State → State) (s : State) : State :=
  let (j, s) := segWrite j i s
  let j := { j with ended := j.ended + 1 }
  if j.segs ≤ j.ended then endJob j j.status s else put j s

/-- Segment i ended with a fault: it is to run again, also where the job has been asked to stop, and the job's success
is a retried one (R210, R230). -/
def segFault (j : Job) (i : Nat) : Job := { j with redo := j.redo ++ [i], retried := true, faults := j.faults + 1 }

def putVat (j : Job) (s : State) : State := { s with eng := { s.eng with vat := s.eng.vat.setJob j } }
def putDigest (j : Job) (s : State) : State := { s with eng := { s.eng with digest := s.eng.digest.setJob j } }

/-- A faulted unit is one detection of the rate monitor (16 R353). -/
def rateCount (fault : Bool) (s : State) : State := if fault then detection s else s

/-- VAT_SEGMENT_END (R189, R210, R211). -/
def execVatSegmentEnd (core : Fin 16) (fault : Bool) (s : State) : Host.Outcome State Fault Refusal :=
  .next (match s.eng.vat.unitJob core with
    | none => s
    | some (j, i) =>
      let s := chanOp core fault { s with eng := { s.eng with vat := s.eng.vat.free core } }
      rateCount fault (engFill (if fault then putVat (segFault j i) s else segDone j i putVat s)))

/-- DIGEST_SEGMENT_END (R216, R230). -/
def execDigestSegmentEnd (core : Fin 8) (fault : Bool) (s : State) : Host.Outcome State Fault Refusal :=
  .next (match s.eng.digest.unitJob core with
    | none => s
    | some (j, i) =>
      let s := chanOp (16 + core) fault { s with eng := { s.eng with digest := s.eng.digest.free core } }
      rateCount fault (engFill (if fault then putDigest (segFault j i) s else segDone j i putDigest s)))

/-- COMPARE_UNIT_DONE (R227): the outcome is posted. -/
def execCompareUnitDone (unit : Fin 2) (s : State) : Host.Outcome State Fault Refusal :=
  .next (match s.eng.compares.find? fun j => j.lane == some unit.val with
    | none => s
    | some j => engFill (endJob j j.status s))

/-! ### Lanes -/

/-- The job with the result of its run (R234, R239 to R241): the outputs, the status, the count, the generated pair. -/
def Job.laneOutcome (j : Job) : Job :=
  match j.work with
  | none => j
  | some w =>
    let dst := (j.outs.head?.map Prod.fst).getD .none
    let rnd := if w.seeded then j.rnd else []
    let bad := (w.verify || w.decodes) && !Config.pkVerify j.fn w.key w.par w.inputs
    let r := Config.pk j.fn w.key w.par w.inputs rnd
    match w.invalid, w.pair with
    | some st, _ => { j with outs := [], status := st }
    | none, some (kind, privLen, pubLen) =>
      let priv := fit r privLen
      let pub := fit (Config.pkPublic kind priv) pubLen
      { j with
        outs := [(dst, pub)], count := pubLen
        fin := match j.fin with
          | .retain uid obj kind _ => .retain uid obj kind (priv ++ pub)
          | x => x }
    | none, none =>
      if bad then { j with outs := [], status := .tagFail }
      else if w.verify then { j with outs := [] }
      else
        let out := w.pre ++ if w.decodes then r.take w.out else fit r w.out
        { j with outs := [(dst, out)], count := out.length }

/-- The jobs of a lane that has retired: its suspended job runs again elsewhere, and every job bound to one of its
retained slots completes with FAULT_PERMANENT (R248). -/
def laneRetired (l : Nat) (s : State) : State :=
  if s.chanOk (24 + l) then s
  else
    let again : List Nat := (s.eng.lanes.susp.filter fun x => x.1 == l).map Prod.snd
    let q := { s.eng.lanes with
      susp := s.eng.lanes.susp.filter fun x => x.1 != l
      jobs := s.eng.lanes.jobs.map fun j => if again.contains j.id then { j with started := 0, retried := true } else j }
    let s := { s with eng := { s.eng with lanes := q } }
    (s.eng.lanes.jobs.filter fun j => j.lane == some l).foldl (fun s j => endJob j .faultPermanent s) s

/-- The end of a device-internal job is reported on source 276 + lane (R231). -/
def reportLane (l : Nat) (j : Job) (s : State) : State :=
  match j.stream with
  | .device _ => raise (276 + l) s
  | _ => s

/-- A corrected error in operand memory is logged, and the job's success is a retried one (R246). The event code of the
record is not stated (a free value, log 165). -/
def laneCorrected (l : Nat) (s : State) : State :=
  let (e, s) := s.freeNat
  healthLog (e % 256) (24 + l) 0 s

/-- A run of job j on lane l has faulted (R246, R247): it is run again, at most twice; a third fault, or a request to
stop, ends it. -/
def laneFault (l : Nat) (j : Job) (s : State) : State :=
  if j.stop then reportLane l j (endJob j .aborted s)
  else if 2 ≤ j.faults then reportLane l j (endJob j .faultPermanent s)
  else putLane { j with started := 0, retried := true, faults := j.faults + 1 } s

/-- LANE_JOB_END (R244, R246, R248): the job's end, or its rerun. -/
def execLaneJobEnd (lane : Fin 16) (how : LaneEnd) (s : State) : Host.Outcome State Fault Refusal :=
  .next (match s.eng.lanes.unitJob lane with
    | none => s
    | some (j, _) =>
      let s := addSuspension lane j.estT { s with eng := { s.eng with lanes := s.eng.lanes.free lane } }
      let s := chanOp (24 + lane) (how == .faulted) s
      let s := match how with
        | .faulted => laneFault lane j s
        | .corrected =>
          let j := { j.laneOutcome with retried := true }
          reportLane lane j (endJob j j.status (laneCorrected lane s))
        | .good =>
          let j := j.laneOutcome
          reportLane lane j (endJob j j.status s)
      rateCount (how == .faulted) (cardServeAll (engFill (laneRetired lane s))))

/-- LANE_YIELD_POINT (R245, R247): a job asked to stop ends at this stop point; a long one is set aside for a waiting
short job. -/
def execLaneYieldPoint (lane : Fin 16) (s : State) : Host.Outcome State Fault Refusal :=
  .next (match s.eng.lanes.unitJob lane with
    | none => s
    | some (j, _) =>
      if j.stop then
        engFill (reportLane lane j (endJob j .aborted (chanOp (24 + lane) false (addSuspension lane j.estT
          { s with eng := { s.eng with lanes := s.eng.lanes.free lane } }))))
      else if j.short || (look lane.val s.eng.lanes.susp).isSome then s
      else
        match wrrPick s.eng.lanes.wrr (s.shortFor lane j) with
        | none => s
        | some (x, w) =>
          let q := { (s.eng.lanes.free lane) with susp := (lane.val, j.id) :: s.eng.lanes.susp }
          laneStart lane x w { s with eng := { s.eng with lanes := q } })

end Sys2Proof.Machine
end

