-- ==== Sys2Proof/Machine/Fastpath.lean ====
section
/-! DEFINITION. The sealing fast path: the posting's digest on a hash core, and seals asked for by Yehepel code
(07, 10, 13). -/

namespace Sys2Proof.Machine

/-- Faulted runs of a segment of the device's own: each is an operation and a fault of its core, a detection of the rate
monitor, and takes a random value where the segment is keyed (09 R210; 10 R225, R230; 16 R353, R363). -/
def ownFaults (hash keyed : Bool) (n : Nat) (s : State) : State :=
  match n with
  | 0 => s
  | n + 1 =>
    let s := wakeOwn hash 16 s
    match s.ownUnit hash with
    | none => s
    | some i => ownFaults hash keyed n (rateCount true (engFill (chanOp (ownBase hash + i) true (ownDraws (b2n keyed) s))))

/-- Step 3 of the fast path and the seal itself (R19, R230, R295): `faults` runs of its segments fault before it ends. A
detection may raise GUARD, which has then ended the request; with no healthy hash core left no counter is consumed.
`count` is the completion's count. -/
def digestAndSeal (rs : List Range) (ref : Ref) (b : Nat) (posting : Bytes) (dst : Dst) (count faults : Nat)
    (s : State) : State :=
  let s := wakeOwn true 8 (ownFaults true false faults s)
  if s.rind.guard then s
  else if !s.keyedOk then finish ref .noHealthyChannel 0 0 s
  else
    let (r, n, s) := doSeal b posting s
    settleOn rs ref (if faults = 0 then .ok else .okRetried) count n [(dst, r)] s

/-- A seal asked for by Yehepel code (R155): refused, forwarded to the lead, waiting for a wheel (R298), or sealed. -/
def sealFrom (rs : List Range) (ref : Ref) (b : Nat) (posting : Bytes) (dst : Dst) (faults : Nat) (s : State) : State :=
  if s.vault.lc == .recovery || s.debugOn || s.staleFollower then finish ref .lifecycle 0 0 s
  else if s.syncFollower then forward ref dst s rs
  else
    match sealRefused s b with
    | some st => finish ref st 0 0 (sealFault b st s)
    | none =>
      if sealWaits s b || !(s.book b).waiting.isEmpty then
        let s := ownFaults true false faults s
        if s.rind.guard then s
        else setBook b { s.book b with waiting := (s.book b).waiting ++ [⟨ref, posting, dst, rs, faults != 0⟩] } s
      else digestAndSeal rs ref b posting dst 128 faults s

/-- BKISS SEAL (R155). -/
def execBkissSeal (c : Fin 9) (t : BitVec 3) (h : BitVec 4) (faults : Nat) (s : State) :
    Host.Outcome State Fault Refusal :=
  .next (engIssue c t s fun s f fr =>
    let n := (fr.reg 17).toNat
    let cap := (fr.reg 19).toNat
    match bookOf fr h with
    | none => .trap .handle 0
    | some b =>
      if tooLong (fr.reg 17) 65536 || decide (2 ^ 32 ≤ cap) then .refuse c f fr t .lengthRange s
      else if !s.granted c fr 7 b (some 2) then .trap .access 0
      else
        match s.buffer fr (fr.reg 16) n false, s.buffer fr (fr.reg 18) cap true with
        | some src, some dst =>
          if cap < 128 then .refuse c f fr t .bufferShort s
          else if n = 0 then .refuse c f fr t .operandRange s
          else if s.hazard fr.uid [src, dst] || s.slotOpen (s.book b).slot then .stall
          else .issue fr t s (sealFrom [src, dst] (tokRef c f fr t) b (s.readRange c fr src) (dstOf c f fr dst) faults)
        | _, _ => .trap .access (fr.reg 16).toNat)

end Sys2Proof.Machine
end

