-- ==== Sys2Proof/Machine/LaneI.lean ====
section
/-! DEFINITION. Big-number functions of EISS and RANDOM (07 Big-number functions, Random; 11). -/

namespace Sys2Proof.Machine

/-! ### What a function needs of its operands (R238, R241, R249) -/

/-- Lane cost of a job: footprint in lines of 64 bytes, nominal and worst-corner time in tenths of a nanosecond. -/
structure LaneCost where
  foot : Nat
  est : Nat
  worst : Nat
  deriving DecidableEq, Repr, Inhabited

/-- A request once its key is known: output length, whether a length or a parameter is out of range, the key, the
parameter word, the inputs, the validation rules in table order with the status of each, and the cost with the
message bytes hashed. -/
structure LanePlan where
  out : Nat
  long : Bool
  bad : Bool
  key : Bytes
  par : Nat
  inputs : List Bytes
  rules : List (Bool × Status)
  cost : LaneCost
  msg : Nat

/-- A big-number function. `verify` functions write nothing; `decodes` ones fail with TAG_FAIL; `isPrivate` ones are the
private operations of 11, Blinding; `seeded` ones have a result that depends on the DRBG (R239); `early` gives, for the
form with a key or without, the output length and the out-of-range test that need no key. -/
structure LaneFn where
  fn : Nat
  src : Option Nat
  dst : Bool
  aux : Option Nat
  isPrivate : Bool
  seeded : Bool
  verify : Bool
  decodes : Bool
  operand : Bool
  /-- need of a key slot, where the function takes one -/
  need : Option Need
  /-- enable bits of the form with no key slot, where the function has one -/
  bare : Option (Bytes → List Nat)
  early : Bool → Word → Nat → Nat → Nat × Bool
  plan : Option (Nat × Bytes) → Word → Bytes → Bytes → LanePlan

def LaneFn.base (fn : Nat) : LaneFn where
  fn := fn
  src := none
  dst := false
  aux := none
  isPrivate := false
  seeded := false
  verify := false
  decodes := false
  operand := false
  need := none
  bare := none
  early _ _ _ _ := (0, false)
  plan _ _ _ _ := ⟨0, false, false, [], 0, [], [], ⟨0, 0, 0⟩, 0⟩

/-- A row of the table of R249: footprint in KiB, times in tenths of a µs. -/
def kib (n est worst : Nat) : LaneCost := ⟨16 * n, 1000 * est, 1000 * worst⟩

/-- Reserved bits 63:32 of g22. -/
def parBad (w : Word) : Bool := decide (2 ^ 32 ≤ w.toNat)

/-- Output length of the hash that g22 bits 7:0 name (R238). -/
def parHash (w : Word) : Option Nat := ((digestAlg (w.toNat % 256)).map (·.out)).filter (· != 0)

/-- Hash number and byte 1 of g22. -/
def parByte1 (w : Word) : Nat := bits w.toNat 15 8

/-- Length 2 to the power of a maximum message, 2^32 − 1. -/
def maxMsg : Nat := 2 ^ 32 - 1

def keyNeed (fits : Nat → Bool) (usages : List Nat) (enables : Slot → List Nat) : Need where
  fits k := fits k.alg
  usage k := usages.any k.usage
  enables := enables

/-! ### RSA -/

def rsaK (mat : Bytes) : Nat := rsaBits mat / 8
def rsaN (mat : Bytes) : Nat := beN (sl mat 16 (rsaK mat))
def rsaE (mat : Bytes) : Nat := fld mat 8 8

def rsaPrivCost (mat : Bytes) : LaneCost :=
  let b := rsaBits mat
  if b ≤ 2048 then kib 6 4000 6900 else if b ≤ 4096 then kib 12 26600 45900 else if b ≤ 8192 then kib 24 190000 328000
  else kib 56 1600000 2760000

def rsaPubCost (mat : Bytes) : LaneCost :=
  let b := rsaBits mat
  if b ≤ 2048 then kib 3 140 242 else if b ≤ 4096 then kib 5 480 828 else kib 20 7000 12070

/-- A modular integer input: not 0, not 1, less than the modulus. -/
def modInt (x n : Nat) : Bool := decide (1 < x ∧ x < n)

/-- An RSA key block from a buffer. -/
def rsaBlockOk (mat : Bytes) : Bool :=
  let b := rsaBits mat
  let n := rsaN mat
  decide (1024 ≤ b ∧ b ≤ 16384 ∧ b % 64 = 0 ∧ 2 ^ (b - 1) ≤ n) && bit n 0 && bit (rsaE mat) 0
    && decide (3 ≤ rsaE mat ∧ rsaE mat < n) && zeroAt mat 2 6

/-- The key block at the head of an auxiliary buffer, and what follows it. -/
def splitBlock (aux : Bytes) : Bytes × Bytes := (aux.take (16 + rsaK aux), aux.drop (16 + rsaK aux))

/-- The public material and the rest of the auxiliary buffer, keyed or not, with the key block's rule. -/
def rsaPub (key : Option (Nat × Bytes)) (aux : Bytes) : Bytes × Bytes × List (Bool × Status) :=
  match key with
  | some (_, m) => (m, aux, [])
  | none => ((splitBlock aux).1, (splitBlock aux).2, [(rsaBlockOk (splitBlock aux).1, .operandRange)])

def rsaNeedPriv (usages : List Nat) : Need := keyNeed (· == 0x0301) usages fun k => [rsaBit k.material]
def rsaNeedPub (usage : Nat) : Need := keyNeed (· == 0x0302) [usage] fun k => [rsaBit k.material]
def rsaBare (aux : Bytes) : List Nat := [rsaBit aux]

/-- RSA_PRIVATE: input and output of k bytes. -/
def fnRsaPrivate : LaneFn :=
  { LaneFn.base 0x0101 with
    src := some maxMsg, dst := true, isPrivate := true, need := some (rsaNeedPriv [1, 2])
    plan := fun key _ src _ =>
      let m := (key.map Prod.snd).getD []
      { out := rsaK m, long := false, bad := src.length != rsaK m, key := m, par := 0, inputs := [src]
        rules := [(modInt (beN src) (rsaN m), .operandRange)], cost := rsaPrivCost m, msg := 0 } }

/-- The digest functions' shared early test: a hash of the list, its digest length, the PSS salt at most h. -/
def rsaEarly (pss _keyed : Bool) (w : Word) (src _aux : Nat) : Nat × Bool :=
  (0, parBad w || (match parHash w with
    | some h => src != h || (pss && decide (h < parByte1 w))
    | none => true))

def rsaPar (pss : Bool) (w : Word) : Nat := w.toNat % (if pss then 65536 else 256)

/-- RSA_PSS_SIGN and RSA_PKCS1_SIGN. -/
def fnRsaSign (fn : Nat) (pss : Bool) : LaneFn :=
  { LaneFn.base fn with
    src := some maxMsg, dst := true, isPrivate := true, seeded := pss, need := some (rsaNeedPriv [2]), early := rsaEarly pss
    plan := fun key w src _ =>
      let m := (key.map Prod.snd).getD []
      { out := rsaK m, long := false, bad := false, key := m, par := rsaPar pss w, inputs := [src]
        rules := [], cost := rsaPrivCost m, msg := 0 } }

/-- RSA_PSS_VERIFY and RSA_PKCS1_VERIFY. -/
def fnRsaVerify (fn : Nat) (pss : Bool) : LaneFn :=
  { LaneFn.base fn with
    src := some maxMsg, aux := some maxMsg, verify := true, need := some (rsaNeedPub 3), bare := some rsaBare
    early := rsaEarly pss
    plan := fun key w src aux =>
      let (m, sig, rs) := rsaPub key aux
      { out := 0, long := false, bad := sig.length != rsaK m || decide (m.length < 16), key := m
        par := rsaPar pss w, inputs := [src, sig], rules := rs ++ [(modInt (beN sig) (rsaN m), .operandRange)]
        cost := rsaPubCost m, msg := 0 } }

/-- RSA_OAEP_ENC: a message of at most k − 2h − 2 bytes, none where that is negative; a label of at most 256; a seed
from the DRBG (R239). -/
def fnOaepEnc : LaneFn :=
  { LaneFn.base 0x0114 with
    src := some maxMsg, dst := true, aux := some maxMsg, seeded := true, need := some (rsaNeedPub 0)
    bare := some rsaBare, early := fun _ w _ _ => (0, parBad w || (parHash w).isNone)
    plan := fun key w src aux =>
      let (m, label, rs) := rsaPub key aux
      let h := (parHash w).getD 0
      { out := rsaK m, long := decide (rsaK m < src.length + 2 * h + 2)
        bad := decide (256 < label.length ∨ m.length < 16 + rsaK m), key := m, par := rsaPar false w
        inputs := [src, label], rules := rs, cost := rsaPubCost m, msg := 0 } }

/-- RSA_OAEP_DEC: a capacity of at least k − 2h − 2. -/
def fnOaepDec : LaneFn :=
  { LaneFn.base 0x0115 with
    src := some maxMsg, dst := true, aux := some maxMsg, isPrivate := true, decodes := true
    need := some (rsaNeedPriv [1])
    early := fun _ w _ aux => (0, parBad w || (parHash w).isNone || decide (256 < aux))
    plan := fun key w src aux =>
      let m := (key.map Prod.snd).getD []
      { out := rsaK m - 2 * (parHash w).getD 0 - 2, long := false, bad := src.length != rsaK m, key := m
        par := rsaPar false w, inputs := [src, aux]
        rules := [(modInt (beN src) (rsaN m), .operandRange)], cost := rsaPrivCost m, msg := 0 } }

/-- MODEXP: time 0.60 µs × x × (m/256)^2 for an exponent of x bits, footprint 8m bytes in whole KiB. -/
def modexpCost (m exp : Nat) : LaneCost :=
  { kib ((8 * m + 1023) / 1024) 0 0 with
    est := 20000 + 6000 * (8 * exp) * m * m / 65536, worst := 35000 + 10400 * (8 * exp) * m * m / 65536 }

/-- MODEXP: base ‖ modulus, exponent. -/
def fnModexp : LaneFn :=
  { LaneFn.base 0x0100 with
    src := some maxMsg, dst := true, aux := some maxMsg, bare := some fun b => [if 512 < b.length / 2 then 17 else 16]
    early := fun _ w src aux =>
      let m := bits w.toNat 31 16
      (m, parBad w || decide (m < 8 ∨ 2048 < m ∨ m % 8 ≠ 0 ∨ src ≠ 2 * m ∨ aux = 0 ∨ m < aux))
    plan := fun _ w src aux =>
      let m := bits w.toNat 31 16
      let n := sl src m m
      { out := m, long := false, bad := false, key := [], par := m, inputs := [src, aux]
        rules := [(bit (beN n) 0 && !zeroAt n 0 8, .operandRange), (!allZero aux, .operandRange),
          (modInt (beN (src.take m)) (beN n), .operandRange)]
        cost := modexpCost m aux.length, msg := 0 } }

/-! ### Curves -/

/-- Field length of curves 1 to 3: P-256, P-384, P-521. -/
def curveF (c : Nat) : Option Nat := [0, 32, 48, 66][c]?.filter (· != 0)

/-- p and b of curves 1 to 3, y² = x³ − 3x + b mod p (FIPS 186-5 and SP 800-186; PRESUMED, log 180). -/
def curveParams (c : Nat) : Nat × Nat :=
  match c with
  | 1 => (2 ^ 256 - 2 ^ 224 + 2 ^ 192 + 2 ^ 96 - 1, 0x5ac635d8aa3a93e7b3ebbd55769886bc651d06b0cc53b0f63bce3c3e27d2604b)
  | 2 => (2 ^ 384 - 2 ^ 128 - 2 ^ 96 + 2 ^ 32 - 1,
      0xb3312fa7e23ee7e4988e056be3f82d19181d9c6efe8141120314088f5013875ac656398d8a2ed19d2a85c8edd3ec2aef)
  | 3 => (2 ^ 521 - 1, 0x51953eb9618e1c9a1f929a21a0b68540eea2da725b99b315f3b8b489918ef109 * 2 ^ 264
      + 0xe156193951ec7e937b1652c0bd3bb1bf073573df883d2c34f1ef451fd46b503f00)
  | _ => (1, 0)

/-- A SEC 1 point is the prefix 0x04 with x and y below p and on the curve (rule 6 of R241's table). -/
def pointOk (curve : Nat) (q : Bytes) : Bool :=
  let f := (curveF curve).getD 0
  let (p, b) := curveParams curve
  let x := beN (sl q 1 f)
  let y := beN (sl q (1 + f) f)
  q.head? == some 4 && decide (x < p ∧ y < p) && (y * y + 3 * x) % p == (x * x * x + b) % p

def pick3 (c : Nat) (a b d : LaneCost) : LaneCost := if c = 1 then a else if c = 2 then b else d

def ecNeed (base : Nat) (usage bit_ : Nat) : Need :=
  keyNeed (fun a => decide (base ≤ a ∧ a < base + 3)) [usage] fun _ => [bit_]

/-- ECDSA_SIGN: r ‖ s of 2f bytes. -/
def fnEcdsaSign : LaneFn :=
  { LaneFn.base 0x0200 with
    src := some maxMsg, dst := true, isPrivate := true, seeded := true, operand := true, need := some (ecNeed 0x0401 2 18)
    early := rsaEarly false
    plan := fun key w src _ =>
      let (alg, m) := key.getD (0x0401, [])
      let c := alg - 0x0400
      { out := 2 * (curveF c).getD 0, long := false, bad := false, key := m, par := w.toNat % 256 + 256 * c
        inputs := [src], rules := [], cost := pick3 c (kib 2 666 1150) (kib 3 1450 2500) (kib 4 3300 5690), msg := 0 } }

/-- A byte string as p, a, b, Gx, Gy and n of an explicit domain of field length f. -/
def domainField (dom : Bytes) (f i : Nat) : Nat := beN (sl dom (8 + i * f) f)

/-- The rules of an explicit domain: the block itself. -/
def domainOk (dom : Bytes) : Bool :=
  let f := fld dom 0 2
  let p := domainField dom f 0
  let a := domainField dom f 1
  let b := domainField dom f 2
  let n := domainField dom f 5
  decide (24 ≤ f ∧ f ≤ 72) && zeroAt dom 2 6 && bit p 0 && decide (p < 2 ^ 571) && !zeroAt dom 8 1
    && decide (a < p ∧ b < p ∧ domainField dom f 3 < p ∧ domainField dom f 4 < p)
    && (4 * a ^ 3 + 27 * b ^ 2) % p != 0 && bit n 0 && decide (1 < n)

/-- x and y below p and y² = x³ + ax + b mod p. -/
def onDomain (dom : Bytes) (x y : Nat) : Bool :=
  let f := fld dom 0 2
  let p := domainField dom f 0
  decide (x < p ∧ y < p) && y * y % p == (x * x * x + domainField dom f 1 * x + domainField dom f 2) % p

/-- r and s each 1 to n − 1. -/
def rsInDomain (dom rs : Bytes) : Bool :=
  let f := fld dom 0 2
  let n := domainField dom f 5
  let r := beN (rs.take f)
  let s := beN (rs.drop f)
  decide (0 < r ∧ r < n ∧ 0 < s ∧ s < n)

/-- r and s each 1 to n − 1 on a named curve (rule 7 of R241's table). -/
def rsOk (curve : Nat) (rs : Bytes) : Bool :=
  let f := (curveF curve).getD 0
  let n := curveOrder curve
  let r := beN (rs.take f)
  let s := beN (rs.drop f)
  decide (0 < r ∧ r < n ∧ 0 < s ∧ s < n)

/-- ECDSA_VERIFY with a key slot, with a named curve and Q in the buffer, or with an explicit domain. -/
def planEcdsaVerify (key : Option (Nat × Bytes)) (w : Word) (src aux : Bytes) : LanePlan :=
  let go (curve : Nat) (q rs : Bytes) (given : Bool) : LanePlan :=
    { out := 0, long := false, bad := rs.length != 2 * (curveF curve).getD 0, key := q
      par := w.toNat % 256 + 256 * curve, inputs := [src, rs]
      rules := (if given then [(pointOk curve q, .notOnCurve)] else []) ++ [(rsOk curve rs, .operandRange)]
      cost := pick3 curve (kib 2 1300 2250) (kib 3 2850 4920) (kib 4 6500 11210), msg := 0 }
  match key with
  | some (alg, m) => go (alg - 0x0410) m aux false
  | none =>
    if parByte1 w = 0x0F then
      let f := fld aux 0 2
      let dom := aux.take (8 + 6 * f)
      let q := sl aux (8 + 6 * f) (1 + 2 * f)
      let rs := aux.drop (8 + 6 * f + 1 + 2 * f)
      { out := 0, long := false, bad := decide (aux.length < 8) || rs.length != 2 * f, key := q
        par := w.toNat % 256 + 256 * 0x0F, inputs := [src, dom, rs]
        rules := [(domainOk dom, .operandRange),
          (onDomain dom (domainField dom f 3) (domainField dom f 4), .notOnCurve),
          (q.head? == some 4 && onDomain dom (beN (sl q 1 f)) (beN (sl q (1 + f) f)), .notOnCurve),
          (rsInDomain dom rs, .operandRange)]
        cost := kib 4 6500 11210, msg := 0 }
    else
      let f := (curveF (parByte1 w)).getD 0
      { go (parByte1 w) (aux.take (1 + 2 * f)) (aux.drop (1 + 2 * f)) true with
        bad := (curveF (parByte1 w)).isNone || aux.length != 1 + 4 * f }

def fnEcdsaVerify : LaneFn :=
  { LaneFn.base 0x0201 with
    src := some maxMsg, aux := some maxMsg, verify := true, need := some (ecNeed 0x0411 3 18)
    bare := some fun _ => [18], early := rsaEarly false, plan := planEcdsaVerify }

/-- ECDH: a peer point of 1 + 2f bytes, the x-coordinate of f bytes. -/
def fnEcdh : LaneFn :=
  { LaneFn.base 0x0202 with
    src := some maxMsg, dst := true, isPrivate := true, operand := true, need := some (ecNeed 0x0401 6 20)
    plan := fun key _ src _ =>
      let (alg, m) := key.getD (0x0401, [])
      let c := alg - 0x0400
      let f := (curveF c).getD 0
      { out := f, long := false, bad := src.length != 1 + 2 * f, key := m, par := c, inputs := [src]
        rules := [(pointOk c src, .notOnCurve)], cost := pick3 c (kib 2 600 1040) (kib 3 1300 2250) (kib 4 3000 5180)
        msg := 0 } }

/-- ED25519_SIGN: footprint 2 KiB and the message. -/
def fnEdSign : LaneFn :=
  { LaneFn.base 0x0210 with
    src := some 65536, dst := true, isPrivate := true, need := some (keyNeed (· == 0x0421) [2] fun _ => [19])
    early := fun _ _ _ _ => (64, false)
    plan := fun key _ src _ =>
      { out := 64, long := false, bad := false, key := (key.map Prod.snd).getD [], par := 0, inputs := [src], rules := []
        cost := ⟨32 + (src.length + 63) / 64, 533000, 920000⟩, msg := src.length } }

/-- The order of the Ed25519 group, and its field prime (RFC 8032). -/
def edL : Nat := 2 ^ 252 + 27742317777372353535851937790883648493
def edP : Nat := 2 ^ 255 - 19

/-- A canonical encoding of a curve point (rule 8 of R241's table). -/
def edPointOk (b : Bytes) : Bool := decide (leN b % 2 ^ 255 < edP) && Config.pkValid 8 0 [b]

/-- ED25519_VERIFY. -/
def fnEdVerify : LaneFn :=
  { LaneFn.base 0x0211 with
    src := some maxMsg, aux := some maxMsg, verify := true, need := some (keyNeed (· == 0x0422) [3] fun _ => [19])
    bare := some fun _ => [19], early := fun keyed _ _ aux => (0, aux != (if keyed then 64 else 96))
    plan := fun key _ src aux =>
      let a := (key.map Prod.snd).getD (aux.take 32)
      let sig := if key.isSome then aux else aux.drop 32
      { out := 0, long := false, bad := sig.length != 64 || a.length != 32, key := a, par := 0, inputs := [src, sig]
        rules := [(key.isSome || edPointOk a, .notOnCurve), (edPointOk (sig.take 32), .notOnCurve),
          (decide (leN (sig.drop 32) < edL), .operandRange)]
        cost := kib 6 1100 1900, msg := src.length } }

/-! ### ML-KEM and ML-DSA -/

def ekLen (s : Nat) : Nat := [800, 1184, 1568].getD s 0
def ctLen (s : Nat) : Nat := [768, 1088, 1568].getD s 0
def dsaPkLen (s : Nat) : Nat := [1312, 1952, 2592].getD s 0
def dsaSigLen (s : Nat) : Nat := [2420, 3309, 4627].getD s 0

/-- The modulus check of FIPS 203: every 12-bit coefficient before the 32-byte seed is below 3,329. -/
def ekOk (ek : Bytes) : Bool :=
  (List.range ((ek.length - 32) / 3)).all fun i =>
    let v := fld ek (3 * i) 3
    decide (v % 4096 < 3329 ∧ v / 4096 < 3329)

def kemCost (s : Nat) (op : Nat) : LaneCost :=
  let t := [[(450, 776), (500, 862), (600, 1040)], [(700, 1210), (800, 1380), (950, 1640)],
    [(1000, 1730), (1150, 1990), (1350, 2330)]]
  let (a, b) := (t.getD s []).getD op (0, 0)
  kib (8 + 4 * s) a b

def dsaCost (s : Nat) (op : Nat) : LaneCost :=
  let t := [[(600, 1040), (1700, 2940), (700, 1210)], [(1000, 1730), (2660, 4590), (1060, 1830)],
    [(1500, 2590), (4200, 7250), (1700, 2940)]]
  let (a, b) := (t.getD s []).getD op (0, 0)
  kib (24 + 8 * s) a b

/-- MLKEM_ENCAPS: c ‖ K; a private operation for its message m. -/
def fnEncaps (s : Nat) : LaneFn :=
  { LaneFn.base (0x0320 + s) with
    src := some maxMsg, dst := true, isPrivate := true, seeded := true
    need := some (keyNeed (· == 0x0511 + s) [0] fun _ => [21]), bare := some fun _ => [21]
    early := fun keyed _ src _ => (ctLen s + 32, src != (if keyed then 0 else ekLen s))
    plan := fun key _ src _ =>
      let ek := (key.map Prod.snd).getD src
      { out := ctLen s + 32, long := false
        bad := src.length != (if key.isSome then 0 else ekLen s), key := ek, par := s, inputs := []
        rules := if key.isSome then [] else [(ekOk ek, .operandRange)], cost := kemCost s 1, msg := 0 } }

/-- MLKEM_DECAPS: never a failed ciphertext (R240). -/
def fnDecaps (s : Nat) : LaneFn :=
  { LaneFn.base (0x0330 + s) with
    src := some maxMsg, dst := true, isPrivate := true, operand := true
    need := some (keyNeed (· == 0x0501 + s) [1] fun _ => [21])
    early := fun _ _ src _ => (32, src != ctLen s)
    plan := fun key _ src _ =>
      { out := 32, long := false, bad := false, key := fit ((key.map Prod.snd).getD []) 64, par := s, inputs := [src]
        rules := [], cost := kemCost s 2, msg := 0 } }

/-- MLDSA_SIGN: the context is the auxiliary buffer. -/
def fnDsaSign (s : Nat) : LaneFn :=
  { LaneFn.base (0x0420 + s) with
    src := some maxMsg, dst := true, aux := some maxMsg, isPrivate := true, seeded := true, operand := true
    need := some (keyNeed (· == 0x0601 + s) [2] fun _ => [22])
    early := fun _ w _ aux => (dsaSigLen s, parBad w || aux != w.toNat % 256)
    plan := fun key _ src aux =>
      { out := dsaSigLen s, long := false, bad := false, key := fit ((key.map Prod.snd).getD []) 32, par := s
        inputs := [src, aux], rules := [], cost := dsaCost s 1, msg := src.length } }

/-- MLDSA_VERIFY: context ‖ [pk] ‖ signature. -/
def fnDsaVerify (s : Nat) : LaneFn :=
  { LaneFn.base (0x0430 + s) with
    src := some maxMsg, aux := some maxMsg, verify := true
    need := some (keyNeed (· == 0x0611 + s) [3] fun _ => [22]), bare := some fun _ => [22]
    early := fun keyed w _ aux =>
      (0, parBad w || aux != w.toNat % 256 + (if keyed then 0 else dsaPkLen s) + dsaSigLen s)
    plan := fun key w src aux =>
      let n := w.toNat % 256
      let pl := if key.isSome then 0 else dsaPkLen s
      { out := 0, long := false, bad := aux.length != n + pl + dsaSigLen s
        key := (key.map Prod.snd).getD (sl aux n pl), par := s, inputs := [src, aux.take n, aux.drop (n + pl)]
        rules := [], cost := dsaCost s 2, msg := src.length } }

/-! ### Hybrid -/

/-- HYBRID_SIGN: r ‖ s (96) ‖ ML-DSA-87 signature (4,627). -/
def fnHybridSign : LaneFn :=
  { LaneFn.base 0x0500 with
    src := some maxMsg, dst := true, isPrivate := true, seeded := true
    need := some (keyNeed (· == 0x0701) [2] fun _ => [23]), early := fun _ _ _ _ => (4723, false)
    plan := fun key _ src _ =>
      { out := 4723, long := false, bad := false, key := (key.map Prod.snd).getD [], par := 0, inputs := [src], rules := []
        cost := kib 44 4300 7420, msg := src.length } }

/-- HYBRID_VERIFY: [Q ‖ pk] ‖ signature. -/
def fnHybridVerify : LaneFn :=
  { LaneFn.base 0x0501 with
    src := some maxMsg, aux := some maxMsg, verify := true, need := some (keyNeed (· == 0x0711) [3] fun _ => [23])
    bare := some fun _ => [23], early := fun keyed _ _ aux => (0, aux != (if keyed then 4723 else 7412))
    plan := fun key _ src aux =>
      let k := (key.map Prod.snd).getD (aux.take 2689)
      let sig := if key.isSome then aux else aux.drop 2689
      { out := 0, long := false, bad := sig.length != 4723, key := k, par := 0, inputs := [src, sig]
        rules := [(key.isSome || pointOk 2 (k.take 97), .notOnCurve), (rsOk 2 (sig.take 96), .operandRange)]
        cost := kib 44 2950 5090, msg := src.length } }

/-! ### Issue -/

/-- The key a request names: none, a key slot, or an operand slot of the order (R235). -/
inductive LKey where
  | bare
  | slot (n : Nat)
  | operand (obj : Nat)

/-- The primary handle: the key slot it names, the operand slot where the function allows one, or, for the form with
no key slot, handle field 0 naming an empty h0. None raises HANDLE. -/
def laneKey (fr : Fr) (h : Option (BitVec 4)) (fn : LaneFn) : Option LKey :=
  match h with
  | none => some .bare
  | some h =>
    match fr.hnd h with
    | .keySlot n => some (.slot n)
    | .operand o => if fn.operand then some (.operand o) else none
    | .empty => if fn.bare.isSome && h == 0 then some .bare else none
    | _ => none

/-- The status of the first failing rule of R241. -/
def LanePlan.invalid (p : LanePlan) : Option Status := (p.rules.find? fun r => !r.1).map Prod.snd

/-- The work of a request (R238 to R241). -/
def laneWork (fn : LaneFn) (p : LanePlan) : LaneWork where
  verify := fn.verify
  decodes := fn.decodes
  random := fn.isPrivate || fn.seeded
  seeded := fn.seeded
  pair := none
  key := p.key
  par := p.par
  inputs := p.inputs
  out := p.out
  invalid := p.invalid
  pre := []

/-- The lane job of a request (R238, R249). -/
def laneJob (c f : Nat) (fr : Fr) (t : BitVec 3) (fn : LaneFn) (p : LanePlan) (level : Nat) (dst : Range)
    (rs : List Range) : Job :=
  { Job.base (tokRef c f fr t) fr.cls (.frame c f) fn.fn with
    ranges := rs
    outs := [(dstOf c f fr dst, [])]
    work := some (laneWork fn p)
    level := level
    foot := p.cost.foot
    estT := levelTime level p.cost.est + (p.msg - 64) * 25
    worstT := levelTime level p.cost.worst + (p.msg - 64) * 43 }

/-- The checks that need the key: lengths, capacity, parameters, in the order of R134; `early` is what the form tests
without it. -/
def LanePlan.refused (p : LanePlan) (cap : Nat) (early : Nat × Bool := (0, false)) : Option Status :=
  firstOf [(p.long, .lengthRange), (decide (cap < early.1) || decide (cap < p.out), .bufferShort),
    (early.2 || p.bad, .operandRange)]

/-- No lane can run, or work that needs a random value lacks the DRBG (R16, R237, R242, R248). -/
def laneCheck (s : State) (fn : LaneFn) : Option Status :=
  if !s.lanesOk || ((fn.isPrivate || fn.seeded) && !s.drbgOk) then some .noHealthyChannel else none

/-- The retained slot of the order that object number obj names (R233). -/
def State.retained? (s : State) (uid obj : Nat) : Option Retained :=
  s.eng.retained.find? fun r => r.uid == uid && r.obj == obj

/-- Issue of a big-number function (R134, R145, R235, R238). -/
def laneIssue (c : Fin 9) (t : BitVec 3) (h : Option (BitVec 4)) (fn : LaneFn) (s : State) : State :=
  engIssue c t s fun s f fr =>
    match laneKey fr h fn with
    | none => .trap .handle 0
    | some key =>
      if fn.src.elim false (tooLong (fr.reg 17)) then .refuse c f fr t .lengthRange s
      else
        digestBuffers c f fr t s fn.src.isSome fn.dst fn.aux fun src dst aux =>
          let w := fr.reg 22
          let sb := s.readRange c fr src
          let ab := s.readRange c fr aux
          let keyed := match key with | .bare => false | _ => true
          let e := fn.early keyed w src.len aux.len
          let rs := [src, dst, aux]
          if s.hazard fr.uid rs then .stall
          else if keyed && decide (dst.len < e.1) then .refuse c f fr t .bufferShort s
          else if keyed && e.2 then .refuse c f fr t .operandRange s
          else
            match key with
            | .bare =>
              let p := fn.plan none w sb ab
              match p.refused dst.len e with
              | some st => .refuse c f fr t st s
              | none =>
                if ((fn.bare.elim [] fun b => b (if fn.fn = 0x0100 then sb else ab)).any (disabled s fr)) then
                  .refuse c f fr t .badFormat s
                else
                  match laneCheck s fn with
                  | some st => .refuse c f fr t st s
                  | none => .issue fr t s (laneAdmit (laneJob c f fr t fn p 0 dst rs))
            | .slot n =>
              match fn.need with
              | none => .trap .handle 0
              | some need =>
                let plan (k : Slot) := fn.plan (some (k.alg, k.material)) w sb ab
                withKey fr t s n need false (lateNow c f fr t)
                  (fun k => ((plan k).refused dst.len).orElse fun _ => laneCheck s fn)
                  fun k _ s => .issue fr t s (laneAdmit { laneJob c f fr t fn (plan k) k.cmLevel dst rs with
                    key := some ⟨0, n, true, k.gen⟩, mirror := s.mirrorSeq })
            | .operand o =>
                match s.retained? fr.uid o with
                | none => .refuse c f fr t .keyEmpty s
                | some r =>
                  let p := fn.plan (some (r.kind, r.pair)) w sb ab
                  let fits := fn.need.elim false fun need =>
                    need.fits ⟨0, 1, BitVec.ofNat 64 (r.kind * 2 ^ 48), 0, s.vault.lc, 0, 0, 0, none, 0, r.pair, true⟩
                  let off := fn.need.elim [] fun need =>
                    need.enables ⟨0, 1, BitVec.ofNat 64 (r.kind * 2 ^ 48), 0, s.vault.lc, 0, 0, 0, none, 0, r.pair, true⟩
                  if !s.chanOk (24 + r.lane) then .refuse c f fr t .faultPermanent s
                  else if r.kind = 0 then .refuse c f fr t .keyEmpty s
                  else if !fits || off.any (disabled s fr) then .refuse c f fr t .keyAttr s
                  else
                    match (p.refused dst.len).orElse fun _ => laneCheck s fn with
                    | some st => .refuse c f fr t st s
                    | none => .issue fr t s (laneAdmit { laneJob c f fr t fn p 2 dst rs with lane := some r.lane })

/-! ### Key generation (R233, R234) -/

/-- The lane a new retained slot is allocated on: the healthy lane with the most free, lowest number first; none where
every healthy lane holds eight. -/
def State.retainLane (s : State) : Option Nat :=
  let used (l : Nat) := (s.eng.retained.filter fun r => r.lane == l).length
  let best := (List.range 16).foldl (fun (b : Option Nat) l =>
    if !s.chanOk (24 + l) || decide (8 ≤ used l) then b
    else
      match b with
      | some m => if used l < used m then some l else b
      | none => some l) none
  best

/-- The slot the generation writes: an existing one with its old pair zeroised, or a new one. -/
def retainSlot (uid obj : Nat) (s : State) : Except Status (Nat × State) :=
  match s.retained? uid obj with
  | some r =>
    if !s.chanOk (24 + r.lane) then .error .faultPermanent
    else .ok (r.lane, { s with eng := { s.eng with retained := s.eng.retained.map fun x =>
      if x.uid == uid && x.obj == obj then { x with kind := 0, pair := [] } else x } })
  | none =>
    match s.retainLane with
    | none => .error .operandMemoryFull
    | some l => .ok (l, { s with eng := { s.eng with retained := ⟨l, uid, obj, 0, []⟩ :: s.eng.retained } })

/-- The second handle of g23: none where a reserved bit is set, else the register named, where one is present. -/
def secondHandle (fr : Fr) : Option (Option (BitVec 4)) :=
  let w := fr.reg 23
  if w.toNat / 32 ≠ 0 then none else some (if w.getLsbD 4 then some (w.extractLsb' 0 4) else none)

/-- A key generation: kind of the pair, private and public lengths, enable bits of which one shall be set, cost. -/
def keygenIssue (c : Fin 9) (t : BitVec 3) (fnNo kind privLen pubLen : Nat) (par : Option Nat) (anyOf : List Nat)
    (cost : LaneCost) (s : State) : State :=
  engIssue c t s fun s f fr =>
    match secondHandle fr with
    | none => .trap .illegal 0
    | some none => .trap .handle 0
    | some (some h) =>
      match fr.hnd h with
      | .operand o =>
        digestBuffers c f fr t s false true none fun _ dst _ =>
          if s.hazard fr.uid [dst] then .stall
          else if dst.len < pubLen then .refuse c f fr t .bufferShort s
          else
            match par with
            | none => .refuse c f fr t .operandRange s
            | some p =>
              if anyOf.all (disabled s fr) then .refuse c f fr t .badFormat s
              else if !s.lanesOk || !s.drbgOk then .refuse c f fr t .noHealthyChannel s
              else
                match retainSlot fr.uid o s with
                | .error st => .refuse c f fr t st s
                | .ok (l, s) =>
                  .issue fr t s (laneAdmit { Job.base (tokRef c f fr t) fr.cls (.frame c f) fnNo with
                    ranges := [dst], outs := [(dstOf c f fr dst, [])], lane := some l, level := 2
                    work := some { signWork [] p [] 0 true with pair := some (kind, privLen, pubLen) }
                    fin := .retain fr.uid o kind [], foot := cost.foot, estT := levelTime 2 cost.est
                    worstT := levelTime 2 cost.worst })
      | _ => .trap .handle 0

/-! ### The functions -/

/-- MODEXP. -/
def execModexp (c : Fin 9) (t : BitVec 3) (s : State) : Host.Outcome State Fault Refusal :=
  .next (laneIssue c t none fnModexp s)

/-- RSA_PRIVATE. -/
def execRsaPrivate (c : Fin 9) (t : BitVec 3) (h : BitVec 4) (s : State) : Host.Outcome State Fault Refusal :=
  .next (laneIssue c t (some h) fnRsaPrivate s)

/-- RSA_PSS_SIGN. -/
def execRsaPssSign (c : Fin 9) (t : BitVec 3) (h : BitVec 4) (s : State) : Host.Outcome State Fault Refusal :=
  .next (laneIssue c t (some h) (fnRsaSign 0x0110 true) s)

/-- RSA_PSS_VERIFY. -/
def execRsaPssVerify (c : Fin 9) (t : BitVec 3) (h : BitVec 4) (s : State) : Host.Outcome State Fault Refusal :=
  .next (laneIssue c t (some h) (fnRsaVerify 0x0111 true) s)

/-- RSA_PKCS1_SIGN. -/
def execRsaPkcs1Sign (c : Fin 9) (t : BitVec 3) (h : BitVec 4) (s : State) : Host.Outcome State Fault Refusal :=
  .next (laneIssue c t (some h) (fnRsaSign 0x0112 false) s)

/-- RSA_PKCS1_VERIFY. -/
def execRsaPkcs1Verify (c : Fin 9) (t : BitVec 3) (h : BitVec 4) (s : State) : Host.Outcome State Fault Refusal :=
  .next (laneIssue c t (some h) (fnRsaVerify 0x0113 false) s)

/-- RSA_OAEP_ENC. -/
def execRsaOaepEnc (c : Fin 9) (t : BitVec 3) (h : BitVec 4) (s : State) : Host.Outcome State Fault Refusal :=
  .next (laneIssue c t (some h) fnOaepEnc s)

/-- RSA_OAEP_DEC. -/
def execRsaOaepDec (c : Fin 9) (t : BitVec 3) (h : BitVec 4) (s : State) : Host.Outcome State Fault Refusal :=
  .next (laneIssue c t (some h) fnOaepDec s)

/-- ECDSA_SIGN. -/
def execEcdsaSign (c : Fin 9) (t : BitVec 3) (h : BitVec 4) (s : State) : Host.Outcome State Fault Refusal :=
  .next (laneIssue c t (some h) fnEcdsaSign s)

/-- ECDSA_VERIFY. -/
def execEcdsaVerify (c : Fin 9) (t : BitVec 3) (h : BitVec 4) (s : State) : Host.Outcome State Fault Refusal :=
  .next (laneIssue c t (some h) fnEcdsaVerify s)

/-- ECDH. -/
def execEcdh (c : Fin 9) (t : BitVec 3) (h : BitVec 4) (s : State) : Host.Outcome State Fault Refusal :=
  .next (laneIssue c t (some h) fnEcdh s)

/-- EC_KEYGEN: the curve of g22 bits 15:8; ECDSA or ECDH enabled. The reserved bits of the parameter register make it
OPERAND_RANGE, after a capacity too short for the curve's public key (R134). -/
def execEcKeygen (c : Fin 9) (t : BitVec 3) (s : State) : Host.Outcome State Fault Refusal :=
  .next (let w := ((s.runningFrame c).map fun x => x.2.reg 22).getD 0
    let cv := parByte1 w
    let f := (curveF cv).getD 0
    keygenIssue c t 0x0203 (0x0400 + cv) f (if f = 0 then 0 else 1 + 2 * f)
      (if parBad w then none else (curveF cv).map fun _ => cv) [18, 20]
      (pick3 cv (kib 2 550 950) (kib 3 1200 2070) (kib 4 2800 4830)) s)

/-- ED25519_SIGN. -/
def execEd25519Sign (c : Fin 9) (t : BitVec 3) (h : BitVec 4) (s : State) : Host.Outcome State Fault Refusal :=
  .next (laneIssue c t (some h) fnEdSign s)

/-- ED25519_VERIFY. -/
def execEd25519Verify (c : Fin 9) (t : BitVec 3) (h : BitVec 4) (s : State) : Host.Outcome State Fault Refusal :=
  .next (laneIssue c t (some h) fnEdVerify s)

/-- MLKEM_KEYGEN. -/
def execMlkemKeygen (c : Fin 9) (t : BitVec 3) (ps : Fin 3) (s : State) : Host.Outcome State Fault Refusal :=
  .next (keygenIssue c t (0x0310 + ps) (0x0501 + ps) 64 (ekLen ps) (some ps.val) [21] (kemCost ps 0) s)

/-- MLKEM_ENCAPS. -/
def execMlkemEncaps (c : Fin 9) (t : BitVec 3) (h : BitVec 4) (ps : Fin 3) (s : State) :
    Host.Outcome State Fault Refusal :=
  .next (laneIssue c t (some h) (fnEncaps ps) s)

/-- MLKEM_DECAPS. -/
def execMlkemDecaps (c : Fin 9) (t : BitVec 3) (h : BitVec 4) (ps : Fin 3) (s : State) :
    Host.Outcome State Fault Refusal :=
  .next (laneIssue c t (some h) (fnDecaps ps) s)

/-- MLDSA_KEYGEN. -/
def execMldsaKeygen (c : Fin 9) (t : BitVec 3) (ps : Fin 3) (s : State) : Host.Outcome State Fault Refusal :=
  .next (keygenIssue c t (0x0410 + ps) (0x0601 + ps) 32 (dsaPkLen ps) (some ps.val) [22] (dsaCost ps 0) s)

/-- MLDSA_SIGN. -/
def execMldsaSign (c : Fin 9) (t : BitVec 3) (h : BitVec 4) (ps : Fin 3) (s : State) :
    Host.Outcome State Fault Refusal :=
  .next (laneIssue c t (some h) (fnDsaSign ps) s)

/-- MLDSA_VERIFY. -/
def execMldsaVerify (c : Fin 9) (t : BitVec 3) (h : BitVec 4) (ps : Fin 3) (s : State) :
    Host.Outcome State Fault Refusal :=
  .next (laneIssue c t (some h) (fnDsaVerify ps) s)

/-- HYBRID_SIGN. -/
def execHybridSign (c : Fin 9) (t : BitVec 3) (h : BitVec 4) (s : State) : Host.Outcome State Fault Refusal :=
  .next (laneIssue c t (some h) fnHybridSign s)

/-- HYBRID_VERIFY. -/
def execHybridVerify (c : Fin 9) (t : BitVec 3) (h : BitVec 4) (s : State) : Host.Outcome State Fault Refusal :=
  .next (laneIssue c t (some h) fnHybridVerify s)

/-- RANDOM (R146): g19 bytes of the DRBG. -/
def execRandom (c : Fin 9) (t : BitVec 3) (s : State) : Host.Outcome State Fault Refusal :=
  .next (engIssue c t s fun s f fr =>
    let n := (fr.reg 19).toNat
    if 65536 < n then .refuse c f fr t .lengthRange s
    else
      match s.buffer fr (fr.reg 18) n true with
      | none => .trap .access (fr.reg 18).toNat
      | some dst =>
        if n = 0 then .refuse c f fr t .operandRange s
        else if s.hazard fr.uid [dst] then .stall
        else if !s.drbgOk then .refuse c f fr t .noHealthyChannel s
        else .issue fr t s fun s =>
          let (b, s) := s.drbgBytes n
          finish (tokRef c f fr t) .ok n 0 (writeOut (tokRef c f fr t) (dstOf c f fr dst) b s))

end Sys2Proof.Machine
end

