-- ==== Sys2Proof/Machine/KeyBodies.lean ====
section
/-! DEFINITION. Key material by algorithm (08, Algorithms and key material) and the key bodies KEY_WRITE to KEY_REPORT
(08 R177 to R180). -/

namespace Sys2Proof.Machine

/-! ### The algorithm table -/

/-- Security parameter of SLH-DSA set i: 16, 16, 24, 24, 32, 32, then the same for SHAKE. -/
def slhN (i : Nat) : Nat := [16, 16, 24, 24, 32, 32].getD (i % 6) 32

/-- Usage bits an ALG allows; none for a value that is not in the table (R163). -/
def algUsage (a : Nat) : Option Nat :=
  if a = 0x0101 ∨ a = 0x0102 then some 0x83
  else if a = 0x0103 then some 0xB3
  else if a = 0x0111 ∨ a = 0x0113 then some 0x03
  else if a = 0x0120 then some 0x82
  else if a = 0x0201 ∨ a = 0x0202 then some 0xC0
  else if a = 0x0301 then some 0x06
  else if a = 0x0302 then some 0x09
  else if 0x0401 ≤ a ∧ a ≤ 0x0403 then some 0x44
  else if 0x0411 ≤ a ∧ a ≤ 0x0413 then some 0x08
  else if a = 0x0421 then some 0x04
  else if a = 0x0422 then some 0x08
  else if 0x0501 ≤ a ∧ a ≤ 0x0503 then some 0x02
  else if 0x0511 ≤ a ∧ a ≤ 0x0513 then some 0x01
  else if 0x0601 ≤ a ∧ a ≤ 0x0603 then some 0x04
  else if 0x0611 ≤ a ∧ a ≤ 0x0613 then some 0x08
  else if a = 0x0701 then some 0x104
  else if a = 0x0711 then some 0x08
  else if 0x0800 ≤ a ∧ a ≤ 0x080B then some 0x04
  else if 0x0810 ≤ a ∧ a ≤ 0x081B then some 0x08
  else if a = 0x0F01 ∨ a = 0x0F02 then some 0x20
  else none

def isRsa (a : Nat) : Bool := a == 0x0301 || a == 0x0302
def isMac (a : Nat) : Bool := a == 0x0201 || a == 0x0202
def isMaster (a : Nat) : Bool := a == 0x0F01 || a == 0x0F02
def isSym (a : Nat) : Bool := decide (0x0101 ≤ a ∧ a ≤ 0x0113) || isMac a

/-- Material length of an ALG whose length the table fixes. -/
def algLen (a : Nat) : Nat :=
  if a = 0x0101 then 16 else if a = 0x0102 then 24 else if a = 0x0103 then 32
  else if a = 0x0111 then 32 else if a = 0x0113 then 64 else if a = 0x0120 ∨ a = 0x0F01 then 24
  else if a = 0x0F02 then 32
  else if 0x0401 ≤ a ∧ a ≤ 0x0403 then [97, 145, 199].getD (a - 0x0401) 0
  else if 0x0411 ≤ a ∧ a ≤ 0x0413 then [65, 97, 133].getD (a - 0x0411) 0
  else if a = 0x0421 then 64 else if a = 0x0422 then 32
  else if 0x0501 ≤ a ∧ a ≤ 0x0503 then 64
  else if 0x0511 ≤ a ∧ a ≤ 0x0513 then ekLen (a - 0x0511)
  else if 0x0601 ≤ a ∧ a ≤ 0x0603 then 32
  else if 0x0611 ≤ a ∧ a ≤ 0x0613 then dsaPkLen (a - 0x0611)
  else if a = 0x0701 then 80 else if a = 0x0711 then 2689
  else if 0x0800 ≤ a ∧ a ≤ 0x080B then 4 * slhN (a - 0x0800)
  else if 0x0810 ≤ a ∧ a ≤ 0x081B then 2 * slhN (a - 0x0810)
  else 0

/-- The length, and for MAC keys and RSA the header, fit the ALG (R163). -/
def lengthFits (a : Nat) (m : Bytes) : Bool :=
  if isMac a then decide (18 ≤ m.length ∧ m.length ≤ 130) && fld m 0 2 + 2 == m.length
  else if isRsa a then
    rsaBlockOk m && m.length == (if a = 0x0301 then 16 + 7 * rsaK m / 2 else 16 + rsaK m)
  else m.length == algLen a

/-- Curve and public point of material that holds one (R179). -/
def materialPoint (a : Nat) (m : Bytes) : Option (Nat × Bytes) :=
  if 0x0401 ≤ a ∧ a ≤ 0x0403 then some (a - 0x0400, m.drop ((curveF (a - 0x0400)).getD 0))
  else if 0x0411 ≤ a ∧ a ≤ 0x0413 then some (a - 0x0410, m)
  else if a = 0x0711 then some (2, m.take 97)
  else none

/-- Records a key of n material bytes takes (R163). -/
def spanOf (n : Nat) : Nat := (n + 159) / 160

/-- The private scalar of an EC or hybrid key is outside 1 to order − 1 (R179). -/
def scalarBad (a : Nat) (m : Bytes) : Bool :=
  let off (c : Nat) (d : Bytes) : Bool := beN d == 0 || decide (curveOrder c ≤ beN d)
  if 0x0401 ≤ a ∧ a ≤ 0x0403 then off (a - 0x0400) (m.take ((curveF (a - 0x0400)).getD 0))
  else a == 0x0701 && off 2 (m.take 48)

/-- The point Q of an EC private key is not d·G (R179). -/
def publicBad (a : Nat) (m : Bytes) : Bool :=
  if 0x0401 ≤ a ∧ a ≤ 0x0403 then
    let f := (curveF (a - 0x0400)).getD 0
    m.drop f != fit (Config.pkPublic a (m.take f)) (1 + 2 * f)
  else false

/-- An RSA private key's parts belong together: n = p·q, e·dP ≡ 1 mod p − 1, e·dQ ≡ 1 mod q − 1, qInv·q ≡ 1 mod p
(R179; RFC 8017). -/
def rsaConsistent (m : Bytes) : Bool :=
  let h := rsaK m / 2
  let part (i : Nat) : Nat := beN (sl m (16 + rsaK m + i * h) h)
  let p := part 0
  let q := part 1
  decide (1 < p ∧ 1 < q) && rsaN m == p * q && rsaE m * part 2 % (p - 1) == 1 % (p - 1)
    && rsaE m * part 3 % (q - 1) == 1 % (q - 1) && part 4 * q % p == 1

/-- R179's checks of unwrapped material: a reserved header byte (R6), the point, then length, span, scalar and
consistency. -/
def materialBad (a : Nat) (m : Bytes) (span : Nat) : Option Status :=
  let off := lengthFits a m && (match materialPoint a m with
    | some (c, q) => !pointOk c q
    | none => false)
  if isRsa a && !zeroAt m 2 6 then some .badFormat
  else if off then some .notOnCurve
  else if !lengthFits a m || span != spanOf m.length || scalarBad a m || publicBad a m || (a == 0x0301 && !rsaConsistent m)
    then some .operandRange
  else none

/-! ### Entries of a key body -/

/-- Size of the entry of a key body at `off`, for the body type. -/
def keyEntrySize (t : Nat) (b : Bytes) (off : Nat) : Nat :=
  if t = 0x30 then roundUp (40 + fld b (off + 36) 4) 8
  else if t = 0x32 then 32 else if t = 0x33 then 24 else if t = 0x34 then 8 else 4

/-- n entries from `off` on; none where they run past the body, or leave bytes of it over. -/
def keyEntries (t : Nat) (b : Bytes) (off : Nat) : Nat → Option (List Bytes)
  | 0 => if off = b.length then some [] else none
  | n + 1 =>
    let k := keyEntrySize t b off
    if b.length < off + (if t = 0x30 then 40 else k) ∨ b.length < off + k then none
    else (keyEntries t b (off + k) n).map fun l => sl b off k :: l

/-- Reserved fields and fixed lengths of an entry (R6, R178). -/
def keyEntryOk (t : Nat) (e : Bytes) : Bool :=
  if t = 0x30 then
    let w := fld e 36 4
    zeroAt e 7 1 && zeroAt e 20 4 && zeroAt e 34 2 && allZero (e.drop (40 + w)) && decide (fld e 4 2 < 4)
      && (fld e 6 1 != 1 || (decide (1681 ≤ w) && fld e 32 2 == 0)) && (fld e 6 1 != 2 || decide (28 ≤ w))
  else if t = 0x32 then zeroAt e 24 8 && decide (fld e 2 2 < 4)
  else if t = 0x33 then zeroAt e 2 2 && zeroAt e 16 8
  else if t = 0x34 then zeroAt e 4 4
  else zeroAt e 2 2

/-- The entries of a key body whose layout is right (R175, check 4). -/
def keyBody (b : Bytes) : Option (List Bytes) :=
  let t := fld b 0 2
  let n := fld b 2 2
  if b.length < 8 || !zeroAt b 4 4 || n = 0 || 16 < n then none
  else (keyEntries t b 8 n).bind fun es => if es.all (keyEntryOk t) then some es else none

/-! ### Occupancy -/

/-- The head of the key that occupies record i: a record whose tag fails occupies its own slot alone (R179). -/
def State.occupiedBy (s : State) (i : Nat) : Option Nat :=
  (s.cellar.slots.find? fun k => k.n == i || (k.tagOk && decide (k.n ≤ i ∧ i < k.n + k.span))).map (·.n)

/-- Records that replacing the head frees (R179). -/
def State.freedSpan (s : State) (n : Nat) : Nat := (s.slot n).elim 0 fun k => if k.tagOk then k.span else 1

/-- The generation field of some record of the span cannot be read (R179). -/
def State.genUnreadable (s : State) (head span : Nat) : Bool :=
  (List.range span).any fun i => s.badRange (0x1000000 + 256 * (head + i) + 16) 4

/-- The IV fixed field of a key installed here (09 R194). -/
def State.fixedField (s : State) (head : Nat) : BitVec 32 :=
  BitVec.ofNat 32 (head % 2 ^ 14 + fld s.identity 0 3 % 2 ^ 18 * 2 ^ 14)

/-! ### What an order gathers -/

/-- What the body of an officer order makes: the items of its press, its output, KEY_REPORT's slots. -/
structure Made where
  items : List PItem
  out : Bytes
  report : Option (List Nat)

/-- A refusal: the status, the slot whose record proved bad, and the state with the uses and the invocation values
drawn before the refusal: they stay drawn (R167, R168, R178; log 153), but after a BAD_FORMAT, which changes no state
(R6). -/
structure Refused where
  st : Status
  slot : Option Nat
  s : Option State

/-- What the entries of a key body have gathered so far. -/
structure KeyAcc where
  s : State
  items : List PItem
  claimed : List Nat
  recs : Nat
  entries : Nat
  out : Bytes
  slots : List Nat

def KeyAcc.start (s : State) : KeyAcc := ⟨s, [], [], 0, s.brine.entries.length, [], []⟩

def bad {α : Type} (st : Status) : Except Refused α := .error ⟨st, none, none⟩
def badSlot {α : Type} (st : Status) (n : Nat) : Except Refused α := .error ⟨st, some n, none⟩

/-- A refusal goes on from the state given, where it names none itself. -/
def refusedFrom {α : Type} (s : State) : Except Refused α → Except Refused α
  | .error r => .error { r with s := if r.st == .badFormat then none else some (r.s.getD s) }
  | .ok a => .ok a

/-- The first failing check refuses. -/
def orBad {α : Type} (l : List (Bool × Status)) (k : Except Refused α) : Except Refused α :=
  match (l.find? fun e => e.1).map Prod.snd with
  | some st => bad st
  | none => k

/-- The entries in order; the first refusal refuses the order. -/
def eachEntry (f : KeyAcc → Bytes → Except Refused KeyAcc) : List Bytes → KeyAcc → Except Refused KeyAcc
  | [], a => .ok a
  | e :: es, a =>
    match refusedFrom a.s (f a e) with
    | .error r => .error r
    | .ok a => eachEntry f es a

/-- The attribute word's defined bits. -/
def definedAttr : Nat := 0xFFFF * 2 ^ 48 + 7 * 2 ^ 40 + 0x7F * 2 ^ 18 + 0x1FF

/-- Rows 1 to 5 of R179's table, for an entry that writes a new key. `refusedAlg` is a further OPERAND_RANGE of the
body. -/
def newKeyChecks (a : KeyAcc) (slot span flags attr init owner : Nat) (badKind refusedAlg : Bool) :
    List (Bool × Status) :=
  let alg := attr / 2 ^ 48
  let usage := attr % 2 ^ 9
  let counted := bit attr 22
  let st := (lcBit a.s.vault.lc).getD 64
  let head := a.s.occupiedBy slot == some slot
  let clash := (List.range span).any fun i => a.claimed.contains (slot + i) ||
    (match a.s.occupiedBy (slot + i) with
      | some h => h != slot
      | none => false)
  [(decide (16383 < slot ∨ 16384 < slot + span), .operandRange),
    ((algUsage alg).isNone || (attr &&& definedAttr) != attr || badKind, .badFormat),
    (refusedAlg || (usage &&& (algUsage alg).getD 0) != usage || (isMaster alg && decide (slot < 16380))
      || (bit attr 23 && !counted) || (counted != (init != 0)) || (bit attr 20 != (owner != 0)) || !bit attr st
      || (bit attr 24 && counted), .operandRange),
    ((bit flags 0 && head) || (bit flags 1 && !head), .operandRange),
    (clash, .operandRange)]

/-- The last rows of R179: counter entries, records, then readable generations; the boot nonce an EXPIRE_AT_RESET record
needs (01 R408); and the cores that wrap and tag the record at level 2 (R161; 09 R187, R211). -/
def spaceChecks (a : KeyAcc) (slot span freed : Nat) (attr : Nat) : List (Bool × Status) :=
  let held := b2n (a.s.entry slot).isSome
  let need := b2n (attrNeedsEntry (BitVec.ofNat 64 attr))
  [(decide (8192 < a.entries - held + need) && need == 1, .operandRange),
    (decide (240 < a.recs + span + freed), .pressTooLarge),
    (a.s.genUnreadable slot span, .faultPermanent),
    (bit attr 21 && a.s.keys.bootNonce.isNone, .noHealthyChannel),
    (!a.s.deviceCores, .noHealthyChannel)]

/-- The press item of a key written, and the order's account of it. Its record is
wrapped and tagged. -/
def KeyAcc.put (a : KeyAcc) (slot span freed attr init owner : Nat) (fixed : BitVec 32) (m : Bytes) : KeyAcc :=
  let w := BitVec.ofNat 64 attr
  { a with
    s := ownSealing a.s
    items := a.items ++ [.slotWrite slot span w init (a.s.nextSpanGen slot span) (BitVec.ofNat 64 owner)
      (if bit attr 21 then a.s.keys.bootNonce else none) fixed m]
    claimed := (List.range span).map (slot + ·) ++ a.claimed
    recs := a.recs + span + freed
    entries := a.entries - b2n (a.s.entry slot).isSome + b2n (attrNeedsEntry w) }

/-! ### KEY_WRITE -/

/-- The AES-256 slot that wraps or unwraps: usage 4 or 5. -/
def needWrap (usage : Nat) : Need where
  fits k := k.alg == 0x0103
  usage k := k.usage usage
  enables _ := []

/-- The key-encryption key of a transport entry (R178). -/
def transportKek (s : State) (wrapped : Bytes) : Bytes :=
  let dom := kdf (kdf (rootOf s) s.sharedState.label) (ascii "TRANSPORT")
  let c := wrapped.take 1568
  let e := sl wrapped 1568 97
  let k := fit (Config.pk 0x0332 (transportKem dom) 2 [c] []) 32
  let z := fit (Config.pk 0x0202 (transportEc dom) 2 [e] []) 48
  Config.kmac k (z ++ c ++ e) 256 (ascii "JEXVOR TRANSPORT")

/-- The tag of the ciphertext is right, and the plaintext. -/
def openGcm (key iv aad ct : Bytes) : Option Bytes :=
  let n := ct.length - 16
  if fit (Config.aesGcmTag key iv aad (ct.take n)) 16 == ct.drop n then some (fit (Config.aesGcmDec key iv aad (ct.take n)) n)
  else none

/-- The segments of a cipher core for n wrapped bytes, at level 2 or above (09 R187, R209, R210). -/
def unwrapSegs (n : Nat) (s : State) : State := ownSegs false (max 1 ((n + 4095) / 4096)) (max 1 ((n + 4095) / 4096)) s

/-- The material of a key entry unwrapped (R178), with the use of the wrapping slot; transport unwrapping is two jobs of
the lanes as well, a decapsulation and a key agreement (11 R231). -/
def unwrapEntry (s : State) (e : Bytes) : Except Refused (Bytes × State) :=
  let w := sl e 40 (fld e 36 4)
  let aad := sl e 8 24
  if fld e 6 1 = 1 then
    if !pointOk 2 (sl w 1568 97) then bad .notOnCurve
    else if !s.lanesOk || !s.drbgOk || (vatCheck s 2 false).isSome then bad .noHealthyChannel
    else
      let m := openGcm (transportKek s w) (zeros 12) aad (w.drop 1665)
      let s := unwrapSegs (w.length - 1681) (ownLane 1 (ownLane 0 s))
      match m with
      | some m => .ok (m, s)
      | none => refusedFrom s (bad .tagFail)
  else
    let n := fld e 32 2
    match s.slotCheck .device n (needWrap 5) 0 with
    | .error st => badSlot st n
    | .ok k =>
      if (vatCheck s 2 false).isSome then bad .noHealthyChannel
      else
        match drawUse k false s with
        | .no st s => refusedFrom s (badSlot st n)
        | .wait _ => bad .lifecycle
        | .got k _ s =>
          let s := unwrapSegs (w.length - 28) s
          match openGcm k.material (w.take 12) aad (w.drop 12) with
          | some m => .ok (m, s)
          | none => refusedFrom s (bad .tagFail)

/-- One entry of KEY_WRITE (R179). -/
def writeEntry (a : KeyAcc) (e : Bytes) : Except Refused KeyAcc :=
  let slot := fld e 0 2
  let span := fld e 2 2
  let attr := fld e 8 8
  let kind := fld e 6 1
  orBad (newKeyChecks a slot (max 1 span) (fld e 4 2) attr (fld e 16 4) (fld e 24 8) (kind != 1 && kind != 2) false) <|
    match unwrapEntry a.s e with
    | .error r => .error r
    | .ok (m, s) =>
      refusedFrom s <|
        match materialBad (attr / 2 ^ 48) m span with
        | some st => bad st
        | none =>
          let a := { a with s := s }
          let freed := a.s.freedSpan slot
          orBad (spaceChecks a slot span freed attr)
            (.ok (a.put slot span freed attr (fld e 16 4) (fld e 24 8) (a.s.fixedField slot) m))

/-! ### KEY_DELETE -/

/-- One entry of KEY_DELETE (R180). -/
def deleteEntry (a : KeyAcc) (e : Bytes) : Except Refused KeyAcc :=
  let slot := fld e 0 2
  let span := a.s.freedSpan slot
  orBad [((a.s.slot slot).isNone || a.claimed.contains slot || a.s.expired slot, .operandRange),
      (decide (240 < a.recs + span), .pressTooLarge), (a.s.genUnreadable slot span, .faultPermanent)]
    (.ok { a with
      items := a.items ++ [.slotFree slot span (a.s.nextSpanGen slot span)]
      claimed := slot :: a.claimed
      recs := a.recs + span
      entries := a.entries - b2n (a.s.entry slot).isSome })

/-! ### KEY_GENERATE -/

/-- The ALGs that KEY_GENERATE makes: the private ones and, by inference, the symmetric ones, but TDEA and the master
keys (R180). -/
def generates (a : Nat) : Bool :=
  isSym a || a == 0x0301 || decide (0x0401 ≤ a ∧ a ≤ 0x0403) || a == 0x0421 || decide (0x0501 ≤ a ∧ a ≤ 0x0503)
    || decide (0x0601 ≤ a ∧ a ≤ 0x0603) || a == 0x0701 || decide (0x0800 ≤ a ∧ a ≤ 0x080B)

/-- Modulus length in bytes of a generated RSA key, 2,048 to 8,192 bits in steps of 64, and length of a generated MAC
key, 16 to 128 bytes: the entry names neither, so both come from a free number (log 4). -/
def genRsaK (f : Nat) : Nat := 256 + 8 * (f % 97)
def genMacLen (f : Nat) : Nat := 16 + f % 113

/-- Material length of a generated key, and length of its public half. -/
def genLen (a f : Nat) : Nat := if isMac a then 2 + genMacLen f else if a = 0x0301 then 16 + 7 * genRsaK f / 2 else algLen a

def genPubLen (a f : Nat) : Nat :=
  if isSym a then 0 else if a = 0x0301 then 16 + genRsaK f else if a = 0x0421 then 32 else algLen (a + 0x10)

/-- Material and public half of a generated key, from DRBG bytes of the material's length. -/
def genKey (a f : Nat) (rnd : Bytes) : Bytes × Bytes :=
  let scalar (n : Nat) : Bytes := fit (Config.pk (0x10000 + a) [] 0 [] rnd) n
  if isMac a then (le (genMacLen f) 2 ++ rnd.take (genMacLen f), [])
  else if isSym a then (rnd, [])
  else if a = 0x0301 then
    let k := genRsaK f
    let m := le (8 * k) 2 ++ zeros 6 ++ le 65537 8 ++ scalar (7 * k / 2)
    (m, m.take (16 + k))
  else if 0x0401 ≤ a ∧ a ≤ 0x0403 then
    let n := (curveF (a - 0x0400)).getD 0
    let q := fit (Config.pkPublic a (scalar n)) (1 + 2 * n)
    (scalar n ++ q, q)
  else if a = 0x0421 then
    let q := fit (Config.pkPublic a (rnd.take 32)) 32
    (rnd.take 32 ++ q, q)
  else if a = 0x0701 then
    let d := scalar 48
    let x := rnd.drop 48
    (d ++ x, fit (Config.pkPublic 0x0402 d) 97 ++ fit (Config.pkPublic 0x0603 x) 2592)
  else if 0x0800 ≤ a then
    let n := slhN (a - 0x0800)
    let m := rnd.take (3 * n) ++ fit (Config.pkPublic a (rnd.take (3 * n))) n
    (m, m.drop (2 * n))
  else (rnd, fit (Config.pkPublic a rnd) (genPubLen a f))

/-- The free number of the next entry of KEY_GENERATE: that of its place in the body. -/
def KeyAcc.freeOf (a : KeyAcc) (base : Nat) : Nat := Config.free (base + a.items.length)

/-- One entry of KEY_GENERATE (R180); `base` numbers the free values of the body. -/
def generateEntry (base : Nat) (a : KeyAcc) (e : Bytes) : Except Refused KeyAcc :=
  let slot := fld e 0 2
  let attr := fld e 8 8
  let alg := attr / 2 ^ 48
  let f := a.freeOf base
  let span := max 1 (spanOf (genLen alg f))
  let freed := a.s.freedSpan slot
  orBad (newKeyChecks a slot span (fld e 2 2) attr (fld e 4 4) (fld e 16 8) false (!generates alg)) <|
    orBad (spaceChecks a slot span freed attr ++ [(!a.s.drbgOk, .noHealthyChannel)]) <|
      let (rnd, s) := a.s.drbgBytes (genLen alg f)
      let (m, p) := genKey alg f rnd
      let a := { a with s := s, out := a.out ++ le slot 2 ++ le p.length 2 ++ zeros 4 ++ fit p (roundUp p.length 8) }
      .ok (a.put slot span freed attr (fld e 4 4) (fld e 16 8) (a.s.fixedField slot) m)

/-! ### KEY_RESTRICT -/

/-- The new attribute word only narrows the old (R180). -/
def narrows (old new : Nat) : Bool :=
  let clearOnly := 0x1FF + 7 * 2 ^ 40 + 2 ^ 24
  let setOnly := 2 ^ 21 + 2 ^ 20
  old / 2 ^ 48 == new / 2 ^ 48 && bits old 23 22 == bits new 23 22
    && ((new &&& clearOnly) &&& (old &&& clearOnly)) == (new &&& clearOnly)
    && ((new &&& setOnly) &&& (old &&& setOnly)) == (old &&& setOnly) && decide (bits old 19 18 ≤ bits new 19 18)

/-- One entry of KEY_RESTRICT (R180). -/
def restrictEntry (a : KeyAcc) (e : Bytes) : Except Refused KeyAcc :=
  let slot := fld e 0 2
  let attr := fld e 8 8
  let init := fld e 4 4
  if 16383 < slot then bad .operandRange
  else if (algUsage (attr / 2 ^ 48)).isNone || (attr &&& definedAttr) != attr then bad .badFormat
  else
    match a.s.slotReady slot with
    | .error st => badSlot (if st == .keyEmpty then .operandRange else st) slot
    | .ok k =>
      match (if k.counted then a.s.remaining k else some 0) with
      | none => bad .faultPermanent
      | some rem =>
        orBad ([(!narrows k.attr.toNat attr || decide (rem < init) || (k.counted && init == 0)
              || !bit attr ((lcBit a.s.vault.lc).getD 64) || a.claimed.contains slot,
              .operandRange)]
            ++ spaceChecks a slot k.span 0 attr)
          (.ok (a.put slot k.span 0 attr init k.owner.toNat k.fixed k.material))

/-! ### KEY_EXPORT -/

/-- One entry of KEY_EXPORT (R180): a key entry of wrap kind 2, the IV from the wrapping slot's invocation counter. -/
def exportEntry (a : KeyAcc) (e : Bytes) : Except Refused KeyAcc :=
  let slot := fld e 0 2
  let w := fld e 2 2
  match (if 16383 < slot then .error .operandRange else a.s.slotReady slot) with
  | .error st => badSlot st slot
  | .ok x =>
    if !x.exportable then bad .keyAttr
    else
      match a.s.slotCheck .device w (needWrap 4) 0 with
      | .error st => badSlot st w
      | .ok k =>
        if (vatCheck a.s 2 false).isSome then bad .noHealthyChannel
        else if !attrHasInv k.attr then bad .keyExhausted
        else
          match drawUse k true a.s with
          | .no st s => refusedFrom s (badSlot st w)
          | .wait _ => bad .lifecycle
          | .got k v s =>
            let head := le slot 2 ++ le x.span 2 ++ zeros 2 ++ [2, 0] ++ le x.attr.toNat 8 ++ le x.init 4 ++ zeros 4
              ++ le x.owner.toNat 8
            let iv := be k.fixed.toNat 4 ++ be v 8
            let aad := sl head 8 24
            let ct := fit (Config.aesGcmEnc k.material iv aad x.material) x.material.length
            let wrapped := iv ++ ct ++ fit (Config.aesGcmTag k.material iv aad ct) 16
            let b := head ++ le w 2 ++ zeros 2 ++ le wrapped.length 4 ++ wrapped
            .ok { a with s := s, out := a.out ++ fit b (roundUp b.length 8) }

/-! ### KEY_REPORT -/

/-- One entry of KEY_REPORT. -/
def reportEntry (a : KeyAcc) (e : Bytes) : Except Refused KeyAcc :=
  orBad [(decide (16383 < fld e 0 2), .operandRange)] (.ok { a with slots := a.slots ++ [fld e 0 2] })

/-! ### A key body -/

/-- The function of an entry, by body type. -/
def keyEntryFn (t base : Nat) : KeyAcc → Bytes → Except Refused KeyAcc :=
  if t = 0x30 then writeEntry else if t = 0x31 then deleteEntry else if t = 0x32 then generateEntry base
  else if t = 0x33 then restrictEntry else if t = 0x34 then exportEntry else reportEntry

/-- Output length of one entry (R175, check 5). -/
def keyEntryOut (t : Nat) (s : State) (e : Bytes) (i : Nat) : Nat :=
  if t = 0x32 then
    let alg := fld e 8 8 / 2 ^ 48
    if generates alg then 8 + roundUp (genPubLen alg (Config.free (s.freeCtr + i))) 8 else 0
  else if t = 0x34 then (s.slot (fld e 0 2)).elim 0 fun k => roundUp (68 + k.material.length) 8
  else if t = 0x35 then 64
  else 0

/-- Output length of a key body. -/
def keyOut (s : State) (b : Bytes) : Nat :=
  match keyBody b with
  | none => 0
  | some es => ((es.zip (List.range es.length)).map fun x => keyEntryOut (fld b 0 2) s x.1 x.2).sum

/-- A key body made: the free values it uses are those from the counter on, one for each entry. -/
def makeKeys (b : Bytes) (s : State) : Except Refused (Made × State) :=
  let t := fld b 0 2
  match keyBody b with
  | none => bad .badFormat
  | some es =>
    match eachEntry (keyEntryFn t s.freeCtr) es (KeyAcc.start { s with freeCtr := s.freeCtr + es.length }) with
    | .error r => .error r
    | .ok a => .ok (⟨a.items, a.out, if t = 0x35 then some a.slots else none⟩, a.s)

end Sys2Proof.Machine
end

