-- ==== Sys2Proof/Machine/LastRecord.lean ====
section
/-! DEFINITION. The last record as LAST_INSTALL carries it, its checks and its fields (04 R65 to R68, 16 R354, 14 R303,
R306, R310, R317). -/

namespace Sys2Proof.Machine

/-- The defined bits of the algorithm-enable word (04). -/
def definedEnables : Nat := 0xFF3F7F

/-- Routing word n, and coalescing-group word g, of a record. -/
def routeWord (r : Bytes) (n : Nat) : Nat := fld r (720 + 4 * n) 4
def groupWord (r : Bytes) (g : Nat) : Nat := fld r (464 + 4 * g) 4

/-- Reserved fields of the record are zero (R6, R65), and its enumerated fields hold no reserved value (R7). -/
def lastReserved (r : Bytes) : Bool :=
  [(10, 2), (50, 2), (57, 3), (65, 1), (68, 12), (349, 3), (409, 55), (2768, 1296)].all (fun x => zeroAt r x.1 x.2)
    && fld r 32 8 &&& definedEnables == fld r 32 8
    && decide (fld r 52 1 < 4 ∧ fld r 64 1 < 8 ∧ fld r 406 1 < 16 ∧ fld r 407 1 < 16 ∧ fld r 408 1 < 16)
    && ((List.range 32).all fun i => fld r (87 + 8 * i) 1 == 0)
    && ((List.range 64).all fun g => bits (groupWord r g) 31 24 == 0)
    && ((List.range 512).all fun n => bits (routeWord r n) 7 4 == 0)
    && decide (fld r 9 1 < 2) && ((List.range 4).all fun i => decide (fld r (60 + i) 1 < 4))
    && ((List.range 13).all fun i => decide (fld r (336 + i) 1 < 4))

/-- Magic, version, length; generation and digest zero; reserved fields (the first row of R65). -/
def lastFormat (r : Bytes) : Bool :=
  r.length == 4096 && r.take 4 == ascii "JXLS" && fld r 4 2 == 1 && fld r 6 2 == 4096 && zeroAt r 12 4 && zeroAt r 4064 32
    && lastReserved r

/-- The least tier a class may have (R354). -/
def leastTier (c : Nat) : Nat :=
  if c = 11 ∨ c = 12 then 0 else if c = 4 ∨ c = 6 ∨ c = 7 ∨ c = 8 ∨ c = 9 then 1 else 2

/-- Ranges of the low and the high threshold of the eleven supplies, in mV (R354). -/
def supplyRange (i : Nat) : Nat × Nat × Nat × Nat :=
  [(580, 620, 880, 950), (760, 790, 910, 960), (760, 790, 910, 960), (1080, 1120, 1280, 1350), (1600, 1680, 1920, 2000),
    (2900, 3050, 3550, 3700), (2900, 3050, 3550, 3700), (2900, 3050, 3550, 3700), (2900, 3050, 3550, 3700),
    (2300, 2450, 3700, 3900), (0, 0, 5500, 6000)].getD i (0, 0, 0, 0)

def within (lo hi v : Nat) : Bool := decide (lo ≤ v ∧ v ≤ hi)

/-- The tamper area of a record. -/
def tamperOf (r : Bytes) : Tamper where
  tiers := sl r 336 16
  light := fld r 352 2
  tempLow := signed (fld r 354 1) 8
  tempHigh := signed (fld r 355 1) 8
  supplies := (List.range 11).map fun i => (fld r (356 + 4 * i) 2, fld r (358 + 4 * i) 2)
  alertCount := fld r 400 2
  guardCount := fld r 402 2
  windowUs := fld r 404 2
  loops := BitVec.ofNat 8 (fld r 406 1)
  switches := BitVec.ofNat 8 (fld r 407 1)
  polarity := BitVec.ofNat 8 (fld r 408 1)

/-- Every tamper field lies in its settable range (R354). -/
def Tamper.inRange (t : Tamper) : Bool :=
  ((List.range 13).all fun c => decide (leastTier c ≤ (t.tiers.getD c 0).toNat))
    && within 1 100 t.light && decide (-55 ≤ t.tempLow ∧ t.tempLow ≤ -45 ∧ 125 ≤ t.tempHigh ∧ t.tempHigh ≤ 135)
    && ((List.range 11).all fun i =>
      let (a, b, c, d) := supplyRange i
      let x := t.supplies.getD i (0, 0)
      within a b x.1 && within c d x.2)
    && within 1 16 t.alertCount && within (t.alertCount + 1) 64 t.guardCount && within 1000 10000 t.windowUs

/-- Source n may be routed to target t (R303). -/
def targetAllowed (n t : Nat) : Bool :=
  if (1 ≤ n ∧ n ≤ 256) ∨ n = 292 then t == 9
  else if 257 ≤ n ∧ n ≤ 275 then t == 0 || t == 9
  else if 320 ≤ n then decide (t ≤ 8)
  else t == 0

/-- Routing word w of source n breaks no rule of R303, R306, R317 and R68. -/
def routeOk (n w : Nat) : Bool :=
  let t := bits w 31 28
  if n = 0 then w == 0
  else
    targetAllowed n t && (bits w 27 17 == 0 || t == 9) && (bit w 16 || bits w 15 10 == 0)
      && (bits w 3 0 != 0 || !within 271 275 n) && (!bit w 9 || t == 9 || soleSource n)

/-- The targets of the members of group g. -/
def groupTargets (ws : List Nat) (g : Nat) : List Nat :=
  (ws.filter fun w => bit w 16 && bits w 15 10 == g).map fun w => bits w 31 28

/-- The routing words together: one target per group (R310), at most 64 wake sources (R317). -/
def routesOk (r : Bytes) : Bool :=
  let ws := (List.range 512).map (routeWord r)
  ((List.range 512).all fun n => routeOk n (routeWord r n))
    && ((List.range 64).all fun g => match groupTargets ws g with
      | [] => true
      | t :: ts => ts.all (· == t))
    && decide ((ws.filter fun w => bit w 9).length ≤ 64)

/-- Two slot ranges end at or below KS16383 and do not overlap (R66). -/
def rangesOk (hf hc af ac : Nat) : Bool :=
  decide (hf + hc ≤ 16384 ∧ af + ac ≤ 16384) && (hc == 0 || ac == 0 || decide (hf + hc ≤ af) || decide (af + ac ≤ hf))

/-- Every field lies at or above its floor, in its range, and agrees with the personality (the third row of R65; R66,
R68, R354). -/
def lastInRange (r : Bytes) : Bool :=
  let asinfel := fld r 9 1 == 1
  decide (fld r 8 1 < 4) && rangesOk (fld r 40 2) (fld r 42 2) (fld r 44 2) (fld r 46 2)
    && decide (fld r 48 2 ≤ 1024) && (fld r 48 2 == 0 || asinfel)
    && decide (fld r 53 1 ≤ 8 ∧ fld r 54 1 ≤ 16 ∧ fld r 55 1 ≤ 8 ∧ fld r 56 1 ≤ 16)
    && ((List.range 3).all fun i => fld r (60 + i) 1 != 3) && fld r 63 1 == 3 && (!bit (fld r 32 8) 6 || asinfel)
    && within 1 500 (fld r 66 2) && (tamperOf r).inRange
    && ((List.range 64).all fun g => bits (groupWord r g) 23 8 != 0) && routesOk r

/-- The record with the generation the device gives it. -/
def lastOf (r : Bytes) (gen : Nat) : Last where
  number := BitVec.ofNat 2 (fld r 8 1)
  asinfel := fld r 9 1 == 1
  generation := gen
  name := sl r 16 16
  enables := BitVec.ofNat 64 (fld r 32 8)
  hostFirst := fld r 40 2
  hostCount := fld r 42 2
  appletFirst := fld r 44 2
  appletCount := fld r 46 2
  loaned := fld r 48 2
  dormantOk := bit (fld r 52 1) 0
  holdWarm := bit (fld r 52 1) 1
  warm := (List.range 4).map fun i => fld r (53 + i) 1
  roles := (List.range 4).map fun i => fld r (60 + i) 1
  timeFlags := BitVec.ofNat 3 (fld r 64 1)
  ppsMs := fld r 66 2
  applets := (List.range 32).map fun i =>
    ⟨fld r (80 + 8 * i) 4, fld r (84 + 8 * i) 2, BitVec.ofNat 8 (fld r (86 + 8 * i) 1)⟩
  tamper := tamperOf r
  groups := (List.range 64).map fun g => BitVec.ofNat 32 (groupWord r g)
  routing := (List.range 512).map fun n => BitVec.ofNat 32 (routeWord r n)
  digestOk := true

/-- The generation an installation over last n writes (R65). -/
def State.lastGeneration (s : State) (n : Nat) : Nat :=
  match vget s.lasts n none with
  | some l => if l.digestOk then l.generation + 1 else 1
  | none => 1

end Sys2Proof.Machine
end

