-- ==== Sys2Proof/Machine/Orders.lean ====
section
/-! DEFINITION. Work orders at their serving blocks: admission, sessions and parking, the ADMIN functions without an
officer (03, 05, 13 R292, R302). -/

namespace Sys2Proof.Machine

/-! ### Fields of an order -/

/-- Bytes off to off + len − 1 of the order's entry, off at least 24, as a number. -/
def Order.num (o : Order) (off len : Nat) : Nat := fld o.body (off - 24) len

def Order.fn (o : Order) : Nat := if o.kind == .admin then o.num 24 2 else 0

def Order.desc (o : Order) (i : Nat) : Desc := o.descs.getD i ⟨0, 0, 0, 0⟩

/-- The input and the output descriptor of an ADMIN order. -/
def Order.inp (o : Order) : Desc := o.desc 0
def Order.out (o : Order) : Desc := o.desc (o.descs.length - 1)

def Order.isAbort (o : Order) : Bool := o.kind == .admin && o.fn == 4

def State.descBytes (s : State) (d : Desc) (len : Nat) : Bytes := s.hostMem.read d.addr (min len d.len)

/-- The windows a CALL or RUN maps. -/
def Order.windowDescs (o : Order) : List Desc := if o.kind == .run then o.descs.drop 1 else o.descs

/-- The sub-function a BOOK_READ names; 0 where its input is too short to name one. -/
def State.bookSub (s : State) (o : Order) : Nat :=
  if o.inp.len < 16 then 0 else (s.hostMem.get o.inp.addr).toNat

/-! ### The admission order (R98) -/

/-- A change between SERVICE and RECOVERY has stopped admission (03, Changing state). -/
def State.changing (s : State) : Bool := s.press.queue.any (Press.changes s)

/-- The first held order, ABORTs apart, that nothing earlier of its queue pair holds back (R20, R98). -/
def pickHeld (earlier : List Order) : List Order → Option Order
  | [] => none
  | o :: os =>
    if o.st != .held then pickHeld (earlier ++ [o]) os
    else if o.isAbort then (if o.fence then none else pickHeld (earlier ++ [o]) os)
    else if o.fence then (if earlier.isEmpty then some o else none)
    else if o.session != 0 && earlier.any (fun x => x.session == o.session) then pickHeld (earlier ++ [o]) os
    else some o

/-- The order of queue pair n at the head of the admission order. -/
def State.candidate (s : State) (n : BitVec 8) : Option Order := pickHeld [] (s.orders.filter fun o => o.qp == n)

/-! ### Admission checks (R97) -/

/-- The volume a SECTOR order's session names is a card volume, and the order writes. -/
def State.cardWrite (s : State) (o : Order) : Bool :=
  o.kind == .sector && o.num 36 1 == 1
    && (((s.session o.session).bind (·.vol)).elim false fun v => (s.cardVolume v).isSome)

/-- The order is an ADMIN order of one of the functions. -/
def Order.admin (o : Order) (fns : List Nat) : Bool := o.kind == .admin && fns.contains o.fn

/-- The first check: LIFECYCLE (03 R47, R51, R52, R57, R60; 17 R381). -/
def State.lifecycleBars (s : State) (o : Order) : Bool :=
  let needsRoot := o.kind == .seal || o.kind == .park || o.kind == .unpark || o.kind == .sector
  let check := o.admin [6] && s.bookSub o == 3
  (match s.vault.lc with
    | .manufacture => !o.admin [1]
    | .retired => !o.admin [1, 2, 3]
    | .issued => needsRoot || check
    | .service => o.admin [0x10, 0x11]
    | .recovery => o.kind == .seal || check || o.admin [0x10, 0x11]
    | .test => o.admin [2, 0x10, 0x11])
    || (s.debugBars && (needsRoot || check || o.admin [5, 0x20]))
    || (s.staleFollower && (o.kind == .seal || s.cardWrite o))

/-- R93: the session the order names, or fails to name, is not usable. -/
def State.badSession (s : State) (o : Order) : Bool :=
  match o.kind with
  | .sector | .closeS | .park =>
    match s.session o.session with
    | none => true
    | some x => x.qp != o.qp || (o.kind == .sector && x.vol.isNone)
  | .call | .run => o.session != 0 && (match s.session o.session with
    | none => true
    | some x => x.qp != o.qp)
  | .seal | .openS | .unpark | .admin => o.session != 0

/-- LENGTH_RANGE (R89, R113, R292). -/
def Order.tooLong (o : Order) : Bool :=
  match o.kind with
  | .call => o.windowDescs.any fun d => decide (268435456 < d.len)
  | .run => o.windowDescs.any (fun d => decide (268435456 < d.len)) || decide (16384 < o.num 24 4 ∨ 65536 < o.num 28 4)
  | .sector => decide (65536 < o.num 32 4)
  | .seal => decide (65536 < (o.desc 0).len)
  | .admin => o.fn == 5 && decide (64 < o.inp.len)
  | _ => false

/-- What GET_CERT returns: the certificate, or the request while none is installed (R51). -/
def State.certOrRequest (s : State) : Bytes := s.lc.cert.getD s.lc.request

/-- Bytes a BOOK_READ writes. -/
def State.bookOut (s : State) (o : Order) (sub : Nat) : Nat :=
  match sub with
  | 0 => 192
  | 1 => 4800
  | 2 => if (s.book ((s.hostMem.get (o.inp.addr + 1)).toNat)).gapRec.isSome then 128 else 0
  | _ => 0

/-- BUFFER_SHORT (R89, R409, R292, R302). -/
def State.tooShort (s : State) (o : Order) : Bool :=
  match o.kind with
  | .run => decide ((o.desc 0).len < o.num 24 4 + o.num 28 4)
  | .sector => decide ((o.desc 0).len < 4096 * o.num 32 4)
  | .seal => decide ((o.desc 1).len < 128)
  | .park | .unpark => decide ((o.desc 0).len < 2112)
  | .admin =>
    match o.fn with
    | 1 => decide (o.out.len < 64)
    | 2 => decide (o.out.len < s.certOrRequest.length)
    | 3 => s.vault.lc == .retired && decide (o.out.len < 32)
    | 5 => decide (o.out.len < 4851)
    | 6 =>
      let sub := s.bookSub o
      decide (o.inp.len < (if sub = 3 then 144 else 16) ∨ o.out.len < s.bookOut o sub)
    | 0x11 => decide (o.inp.len < 9131)
    | _ => false
  | _ => false

/-- The admission checks common to every kind, in order; with no healthy application core a CALL or RUN completes with
NO_HEALTHY_CHANNEL in place of any other status (16 R366). -/
def State.admitCheck (s : State) (o : Order) : Option Status :=
  if (o.kind == .call || o.kind == .run) && !s.anyOk 40 8 then some .noHealthyChannel
  else if s.rind.guard && !o.admin [0x20] then some .guardActive
  else if s.lifecycleBars o then some .lifecycle
  else if s.badSession o then some .badOrder
  else if o.tooLong then some .lengthRange
  else if s.tooShort o then some .bufferShort
  else none

/-! ### Turns among queue pairs (R99, R100) -/

/-- The class of an order's queue pair. -/
def State.classOf (s : State) (o : Order) : BitVec 2 := ((s.qp? o.qp).map (·.cls)).getD 0

/-- The serving block of an order: sealing fast path, Vat, application cores, supervisor core (05, Admission). -/
def Order.block (o : Order) : Nat :=
  match o.kind with
  | .seal => 0
  | .sector => 1
  | .call | .run => 2
  | _ => 3

/-- The lowest empty frame of core c. -/
def State.freeFrame? (s : State) (c : Nat) : Option Nat := (List.range 4).find? fun f => (s.frame c f).isNone

/-- The image of a resident applet. -/
def State.residentImage (s : State) (id : Nat) : Option Applet :=
  (List.range 8).findSome? fun i => ((s.core i).resident.find? fun r => r.img.id == id).map (·.img)

/-- Core c has a free frame for an order; `id` names the applet a CALL needs there. -/
def State.coreFree (s : State) (c : Nat) (id : Option Nat) : Bool :=
  s.chanOk (40 + c) && (s.freeFrame? c).isSome && id.elim true fun n => (s.core c).resident.any fun r => r.img.id == n

/-- Core c can take an order now: a gated one only where no powered one is free for it (02 R31). -/
def State.coreTakes (s : State) (c : Nat) (id : Option Nat) : Bool :=
  s.coreFree c id && (s.unitOn (14 + c) || !(List.range 8).any fun i => s.unitOn (14 + i) && s.coreFree i id)

/-- The applet and the entry a CALL names: none where no core holds the applet, or it has no such entry (R131). -/
def State.callImage (s : State) (o : Order) : Option Applet :=
  (s.residentImage (o.num 24 4)).filter fun a => decide (o.num 28 2 < a.entries.length)

/-- A RUN's code length is 4 or more and a multiple of 4 (R89). -/
def Order.codeOk (o : Order) : Bool := decide (4 ≤ o.num 24 4) && o.num 24 4 % 4 == 0

/-- An officer order is under way: its press has not yet committed (03 R44). -/
def State.officerBusy (s : State) : Bool := s.press.queue.any fun p => p.items.any fun i => match i with
  | .updInc | .updSet _ | .retire _ _ | .cert _ => true
  | _ => false

/-- The body type of an OFFICER order, 0 where its input is too short to give one. -/
def State.bodyType (s : State) (o : Order) : Nat :=
  if o.inp.len < 50 then 0 else fld (s.hostMem.read (o.inp.addr + 48) 2) 0 2

/-- A BOOK_CLOSE waits while the wheel it closes would be the seventeenth unpressed one of its book (R298). -/
def State.closeWaits (s : State) (o : Order) : Bool :=
  let k := s.book (fld (s.hostMem.read (o.inp.addr + 50) 1) 0 1)
  s.bodyType o == 0x4A && k.closes && decide (16 ≤ k.wheels.length)

/-- A seal in book b waits: for a wheel, behind others, or for a press open on the wheel slot (R21, R298). -/
def State.sealHeld (s : State) (b : Nat) : Bool :=
  (sealRefused s b).isNone && (sealWaits s b || !(s.book b).waiting.isEmpty || s.slotOpen (s.book b).slot)

/-- A SECTOR order on the card volume of channel ch as a card request. -/
def State.sectorReq (s : State) (o : Order) : CardReq :=
  let write := o.num 36 1 == 1
  let count := o.num 32 4
  let d := o.desc 0
  { CardReq.new (if write then .write else .read) (.order o.uid) (o.num 24 8) count with
    data := if write then chunk4096 (s.hostMem.read d.addr (4096 * count)) else []
    dst := if write then .none else .host d.addr }

/-- The statuses of R332 that refuse a SECTOR order on a card volume at admission. -/
def State.sectorRefused (s : State) (ch : Nat) (o : Order) : Option Status :=
  if (s.card ch).st == .identifying then none else cardRefused s ch (s.sectorReq o)

/-- A SECTOR order waits: for a press open on its slot or for room in the Vat; on a card volume, for one of the 64
places of its channel (R21, R100; 15 R332). -/
def State.sectorHeld (s : State) (o : Order) : Bool :=
  match (s.session o.session).bind (·.vol) with
  | none => false
  | some v =>
    match s.cardVolume v with
    | some ch => (s.sectorRefused ch o).isNone && o.num 32 4 != 0 && decide (64 ≤ (s.card ch).queue.length)
    | none => s.slotOpen v || decide (8192 ≤ s.eng.vat.jobs.length)

/-- The order's block cannot take it now: it stays in the fetch buffer (R100). -/
def State.held (s : State) (o : Order) : Bool :=
  (s.admitCheck o).isNone && match o.kind with
    | .call => (s.callImage o).elim false fun a => !((List.range 8).any fun c => s.coreTakes c (some a.id))
    | .run => o.codeOk && !((List.range 8).any fun c => s.coreTakes c none)
    | .sector => s.sectorHeld o
    | .seal => s.sealHeld (o.num 24 1)
    | .admin => (o.admin [0x10, 0x11, 0x20] && s.officerBusy) || (o.admin [0x20] && s.closeWaits o)
        || (o.admin [5] && s.time.cfg.slot.elim false s.slotOpen)
    | _ => false

def State.turnsOf (s : State) (b : Nat) : Turns := vget s.turns b Turns.fresh

/-- The admissible orders of block b, one of each queue pair. -/
def State.admissible (s : State) (b : Nat) : List Order :=
  (s.qps.filterMap fun q => s.candidate q.n).filter fun o => o.block == b && !s.held o

/-- Turns since queue pair n had its last one; the longest of all where it has had none. -/
def Turns.age (t : Turns) (n : BitVec 8) : Nat := (findIx (fun x => x == n) t.recent).getD t.recent.length

/-- Among the orders given, the first of the queue pair that has waited longest for a turn. -/
def Turns.next (t : Turns) : List Order → Option Order
  | [] => none
  | o :: os =>
    match t.next os with
    | none => some o
    | some x => if t.age x.qp ≤ t.age o.qp then some o else some x

/-- The order block b takes next: by weighted round-robin over the classes, queue pairs of a class in turn (R99). -/
def State.nextOrder (s : State) (b : Nat) : Option (Order × Turns) :=
  let t := s.turnsOf b
  let ready := s.admissible b
  (t.wrr.pick fun c => ready.any fun o => s.classOf o == c).bind fun x =>
    (t.next (ready.filter fun o => s.classOf o == x.1)).map fun o => (o, ⟨x.2, o.qp :: t.recent.filter (· != o.qp)⟩)

/-- The order of queue pair n that its block takes next, with that turn taken (R99). -/
def State.chosen (s : State) (n : BitVec 8) : Option (Order × State) :=
  match s.candidate n with
  | none => none
  | some o =>
    match s.nextOrder o.block with
    | none => none
    | some (x, t) => if x.uid = o.uid then some (o, { s with turns := vset s.turns o.block t }) else none

/-- The order of queue pair n whose turn it is, where it is one the command serves, is refused by a common check or
given to its block. While the host link stays down orders are kept as they stand (R76). -/
def serve (n : BitVec 8) (want : Order → Bool) (s : State) (k : Order → State → State) : State :=
  if !s.awake || !s.linkUp || s.changing then s
  else
    match s.chosen n with
    | none => s
    | some (o, s') =>
      if !want o then s
      else
        match s'.admitCheck o with
        | some st => refuse o.uid st s'
        | none => k o s'

def admitted (o : Order) (s : State) : State := setOrder { o with st := .admitted } s

/-! ### CALL and RUN (R127, R131) -/

def Desc.window? (d : Desc) : Option Window := if d.empty then none else some ⟨d.addr, d.len, d.access.getLsbD 0, d.access.getLsbD 1⟩

/-- The windows of an order by number (R113). -/
def Order.windows (o : Order) : Vector (Option Window) 16 :=
  o.windowDescs.foldl (fun v d => if d.empty then v else vset v d.window.toNat d.window?) (Vector.replicate 16 none)

/-- A frame takes the order, one operation of its core (16 R363), and its core runs it when it is free (R108, R116). -/
def startFrame (c f : Nat) (o : Order) (fr : Fr) (s : State) : State :=
  let s := chanOp (40 + c) false (wakeDomainN (14 + c) (admitted o s))
  schedule c (setFrame c f (some { fr with op := (s.chan (40 + c)).ops }) s)

/-- An applet that a MEMORY trap has hit is loaded again before its core admits another order for it (R126). -/
def reloadApplet (c id : Nat) (s : State) : State :=
  setCore c { s.core c with
    resident := (s.core c).resident.map fun r => if r.img.id = id ∧ r.reload = true then r.img.fresh else r } s

/-- A frame of the order with what R108 gives every order. -/
def orderFrame (s : State) (o : Order) (m : Mode) (g1 : Nat) : Fr :=
  ({ Fr.fresh m o.uid with
      kind := o.kind, tag := o.tag, session := o.session, cls := s.classOf o, windows := o.windows } : Fr).setReg 1
    (BitVec.ofNat 64 g1)

/-- CALL to core c: refused when the applet is resident nowhere or has no such entry; it waits for a core that holds the
applet and has an empty frame. -/
def callOn (c : Nat) (o : Order) (s : State) : State :=
  let id := o.num 24 4
  let en := o.num 28 2
  match s.callImage o with
  | none => refuse o.uid .operandRange s
  | some _ =>
    match s.coreTakes c (some id), (s.core c).resident.find? fun r => r.img.id == id, s.freeFrame? c with
    | true, some r, some f =>
      let a := r.img
      startFrame c f o { orderFrame s o .a en with
        pc := BitVec.ofNat 32 (a.entries.getD en 0), applet := id, entry := en, codeLen := a.codeLen
        dataLen := a.dataLen + a.zeroFill, runMs := a.runMs } (reloadApplet c id s)
    | _, _, _ => s

/-- The frames of a session's running orders end. -/
def endSessionFrames (h : BitVec 32) (st : Status) (s : State) : State :=
  (List.range 8).foldl (fun s c => (List.range 4).foldl (fun s f =>
    if (s.frame c f).elim false fun fr => fr.session == h then endFrame c f st s else s) s) s

/-- A device fault as a CALL order starts (16 R367), logged: of its session's context, which ends the session and its
running orders; of a key-cache entry, which is only loaded again; or of a block that brings GUARD, with no class that
tripped: CLASS is a free value (log 187). -/
def deviceFault (x : DevFault) (o : Order) (s : State) : State :=
  let s := healthLog 0x0F 0xFF 0 s
  match x with
  | .keyCache => s
  | .sessionStore =>
    if o.session = 0 then s
    else
      refuse o.uid .faultPermanent (endSessionFrames o.session .faultPermanent
        (endSessions (fun x => x.handle == o.session) s))
  | .guardBlock =>
    let (n, s) := s.freeNat
    if s.rind.guard then s else guardTrip (n % 16) s

/-! ### ORDER_FETCH (01 R13; R83, R97) -/

/-- The packet that hands the order on over the Lacing (01 R13; 16 R353): one sent again is a detection, and the order is
retried; one whose resend fails too is one detection, and the order completes with FAULT_PERMANENT (log 212). -/
def packetOf (uid : Nat) (x : Packet) (s : State) : State :=
  match x, s.order? uid with
  | .resent, some o => detection (setOrder { o with retried := true } s)
  | .lost, some _ => detection (refuse uid .faultPermanent s)
  | _, _ => s

/-- ORDER_FETCH (R83, R97). -/
def execOrderFetch (qp : BitVec 8) (s : State) (packet : Packet := .arrives) : Host.Outcome State Fault Refusal :=
  .next (match s.liveQp qp with
    | some q => if s.hostReach && s.fetchable q then packetOf s.nextUid packet (fetchEntry q s) else s
    | none => s)

/-- CALL (R131). -/
def execCall (qp : BitVec 8) (core : Fin 8) (s : State) (fault : Option DevFault := none) : Host.Outcome State Fault Refusal :=
  .next (serve qp (fun o => o.kind == .call) s fun o s =>
    match fault with
    | none => callOn core o s
    | some x =>
      let s := deviceFault x o s
      if s.rind.guard || s.orders.all (fun y => y.uid != o.uid) then s else callOn core o s)

/-- RUN on core c: the job image is read, its code and its data placed in the frame (R117). -/
def runOn (c : Nat) (o : Order) (s : State) : State :=
  let code := o.num 24 4
  let data := o.num 28 4
  let at_ := (o.desc 0).addr
  if !o.codeOk then refuse o.uid .operandRange s
  else
    match s.coreTakes c none, s.freeFrame? c with
    | true, some f =>
      startFrame c f o { orderFrame s o .j data with
        code := s.hostMem.read at_ code, codeLen := code, dataLen := 65536, runMs := 1000
        data := Mem.write [] 0 (s.hostMem.read (at_ + code) data) } s
    | _, _ => s

/-- RUN (R127). -/
def execRun (qp : BitVec 8) (core : Fin 8) (s : State) : Host.Outcome State Fault Refusal :=
  .next (serve qp (fun o => o.kind == .run) s (runOn core))

/-! ### SECTOR (09 R198 to R201, 15 R333) -/

/-- A SECTOR order on host volume v: its buffer transformed in place by the Vat, one use of slot KS v. -/
def sectorHost (v : Nat) (o : Order) (s : State) : State :=
  let enc := o.num 36 1 == 1
  let first := o.num 24 8
  let count := o.num 32 4
  let d := o.desc 0
  if count = 0 ∨ 2 ^ 36 < first + count then refuse o.uid .operandRange s
  else
    let s := admitted o s
    match s.slotCheck .host v (needXts (if enc then 0 else 1)) o.session with
    | .error e => refuse o.uid e (slotRefused v e s)
    | .ok k =>
      match (s.spent k).orElse fun _ => (vatCheck s k.cmLevel false).orElse fun _ => firstOf [(xtsHalves k, .keyAttr)] with
      | some st => refuse o.uid st s
      | none =>
        match drawUse k false s with
        | .no st s => refuse o.uid st s
        | .wait s => s
        | .got k _ s =>
          let out := xtsAll enc k.material first (s.hostMem.read d.addr (4096 * count)) count
          vatAdmit { Job.base (.order o.uid) (s.classOf o) (.session o.session) (if enc then 0x0009 else 0x000A) with
            key := some ⟨2, v, enc, k.gen⟩, level := k.cmLevel, mirror := s.mirrorSeq, segs := count, width := 4, streamed := true, count := 4096 * count
            outs := [(.host d.addr, out)] } s

/-- A SECTOR order on the card volume of channel ch. -/
def sectorCard (ch : Nat) (o : Order) (s : State) : State :=
  if o.num 36 1 == 1 && s.syncFollower then
    setOrder { o with st := .forwarded } (forward (.order o.uid) .none s)
  else
    match s.sectorRefused ch o with
    | some st => refuse o.uid st s
    | none => if o.num 32 4 = 0 then refuse o.uid .operandRange s else cardAdmit ch (s.sectorReq o) (admitted o s)

/-- SECTOR (R201, R333). -/
def execSector (qp : BitVec 8) (s : State) : Host.Outcome State Fault Refusal :=
  .next (serve qp (fun o => o.kind == .sector) s fun o s =>
    match (s.session o.session).bind (·.vol) with
    | none => refuse o.uid .badOrder s
    | some v =>
      match s.cardVolume v with
      | some ch => sectorCard ch o s
      | none => sectorHost v o s)

/-! ### SEAL (13 R295, R296, R298) -/

/-- A SEAL order: refused, forwarded to the lead, held while a wheel must be pressed first, or sealed. -/
def sealOrder (faults : Nat) (o : Order) (s : State) : State :=
  let b := o.num 24 1
  let src := o.desc 0
  let dst := Dst.host (o.desc 1).addr
  if src.len = 0 ∨ 63 < b then refuse o.uid .operandRange s
  else if s.syncFollower then setOrder { o with st := .forwarded } (forward (.order o.uid) dst s)
  else
    match sealRefused s b with
    | some st => refuse o.uid st (sealFault b st s)
    | none =>
      let s := admitted o s
      digestAndSeal [] (.order o.uid) b (s.hostMem.read src.addr src.len) dst src.len faults s

/-- SEAL (R295). -/
def execSeal (qp : BitVec 8) (faults : Nat) (s : State) : Host.Outcome State Fault Refusal :=
  .next (serve qp (fun o => o.kind == .seal) s (sealOrder faults))

/-! ### Sessions (R92 to R96) -/

/-- Live sessions that no order fetched, admitted or running names: the parkable count (R100). -/
def State.parkable (s : State) : Nat :=
  (s.sessions.filter fun x => !(s.orders.any fun o => o.session == x.handle)
    && !(s.qps.any fun q => !q.gathered.isEmpty && !q.timedOut && fld (q.gathered.headD []) 4 4 == x.handle.toNat)).length

/-- The lowest free context index (log 19). -/
def State.freeContext (s : State) : Nat :=
  ((List.range 4096).find? fun i => !s.sessions.any fun x => x.idx == i).getD 0

/-- A session placed in the free context (R92). -/
def placeSession (qp : BitVec 8) (owner : BitVec 64) (vol : Option Nat) (page : Mem) (s : State) : Session × State :=
  let i := s.freeContext
  let x : Session := ⟨i, s.genOf i, qp, owner, vol, page⟩
  (x, { s with sessions := s.sessions ++ [x] })

/-- A fresh context: what its 256 read-only bytes hold the spec does not say, so they are free values (log 4); the
others are 0 (log 2). -/
def freshPage (s : State) : Mem × State :=
  (Mem.write [] 0 ((List.range 256).map fun i => BitVec.ofNat 8 (Config.free (s.freeCtr + i))),
    { s with freeCtr := s.freeCtr + 256 })

/-- OPEN (R92, R100). -/
def openOrder (o : Order) (s : State) : State :=
  let isVol := o.num 32 1 == 1
  let v := o.num 36 4
  if isVol && (decide (1023 < v) || !s.volumeExists v) then refuse o.uid .operandRange s
  else if 4096 ≤ s.sessions.length then complete o.uid .sessionsExhausted none s.parkable 0 s
  else if !s.storeKey then refuse o.uid .noHealthyChannel s
  else
    let (page, s) := freshPage s
    let (x, s) := placeSession o.qp (BitVec.ofNat 64 (o.num 24 8)) (if isVol then some v else none) page s
    complete o.uid .ok none x.handle.toNat 0 s

/-- OPEN. -/
def execOpenSession (qp : BitVec 8) (s : State) : Host.Outcome State Fault Refusal :=
  .next (serve qp (fun o => o.kind == .openS) s openOrder)

/-- CLOSE (R93). -/
def execCloseSession (qp : BitVec 8) (s : State) : Host.Outcome State Fault Refusal :=
  .next (serve qp (fun o => o.kind == .closeS) s fun o s =>
    match s.session o.session with
    | none => refuse o.uid .badOrder s
    | some x => complete o.uid .ok none 0 0 (endSession x s))

/-- The PARK key of this boot (03, Derivation); none without a boot nonce. -/
def State.parkKey (s : State) : Option Bytes :=
  s.keys.bootNonce.map fun n => kdf (domainRoot s s.vault.lc "PARK") (ascii "PARK" ++ [0] ++ n)

/-- The context as PARK seals it. The spec says that binding, owner and type are in it and not where; the model gives
them its first 16 bytes (log 22). -/
def Session.context (x : Session) : Bytes :=
  le x.owner.toNat 8 ++ le (b2n x.vol.isSome) 1 ++ zeros 1 ++ le x.qp.toNat 2 ++ le (x.vol.getD 0) 4 ++ x.page.read 16 2032

/-- Initial counter block of a park blob. -/
def parkBlock (serial : Nat) : Bytes := be serial 8 ++ zeros 8

/-- The tag of a park blob over its bytes 0 to 2,063 (R94). -/
def parkTag (key body : Bytes) : Bytes :=
  fit (Config.kmac (kdf key (ascii "PARK-TAG")) body 384 (ascii "JEXVOR PARK")) 48

/-- The cipher and hash work of a context sealed or opened, with the runs of its segments that fault. -/
def contextRuns (faults vfaults : Nat) (s : State) : State :=
  ownSealing (ownFaults true true faults (ownFaults false true vfaults s))

/-- OK, or OK_RETRIED after a run that faulted (02 R28). -/
def retriedOk (faults : Nat) : Status := if faults = 0 then .ok else .okRetried

/-- PARK (R94). A detection may raise GUARD, which has then ended the order. -/
def parkOrder (faults vfaults : Nat) (o : Order) (s : State) : State :=
  match s.session o.session, s.parkKey with
  | some x, some key =>
    if !s.storeKey || !s.deviceCores then refuse o.uid .noHealthyChannel s
    else
      let s := contextRuns faults vfaults s
      if s.rind.guard then s
      else if !s.deviceCores then refuse o.uid .noHealthyChannel s
      else
      let n := s.keys.parkSerial
      let body := fit (Config.aesCtr (kdf key (ascii "PARK-ENC")) (parkBlock n) x.context) 2048 ++ le n 8 ++ zeros 8
      let s := endSession x { s with
        keys := { s.keys with parkSerial := n + 1 }
        hostMem := s.hostMem.write (o.desc 0).addr (body ++ parkTag key body) }
      complete o.uid (retriedOk (faults + vfaults)) none 0 2112 s
  | _, _ => refuse o.uid .noHealthyChannel s

/-- PARK. -/
def execPark (qp : BitVec 8) (s : State) (faults : Nat := 0) (vfaults : Nat := 0) : Host.Outcome State Fault Refusal :=
  .next (serve qp (fun o => o.kind == .park) s (parkOrder faults vfaults))

/-- UNPARK (R95): one status for a blob of another boot, a failed tag and a wrong owner. -/
def unparkOrder (faults vfaults : Nat) (o : Order) (s : State) : State :=
  let b := s.hostMem.read (o.desc 0).addr 2112
  if 2112 < (o.desc 0).len then refuse o.uid .operandRange s
  else if 4096 ≤ s.sessions.length then complete o.uid .sessionsExhausted none s.parkable 0 s
  else
    match s.parkKey with
    | none => refuse o.uid .parkInvalid s
    | some key =>
      let ctx := fit (Config.aesCtr (kdf key (ascii "PARK-ENC")) (parkBlock (fld b 2048 8)) (b.take 2048)) 2048
      let s := if s.deviceCores then contextRuns faults vfaults s else s
      if s.rind.guard then s
      else if !s.deviceCores then refuse o.uid .noHealthyChannel s
      else if parkTag key (b.take 2064) != b.drop 2064 || fld ctx 0 8 != o.num 24 8 then refuse o.uid .parkInvalid s
      else if !s.storeKey then refuse o.uid .noHealthyChannel s
      else
        let (fresh, s) := freshPage s
        let page := Mem.write fresh 16 (ctx.drop 16)
        let vol := if fld ctx 8 1 = 1 then some (fld ctx 12 4) else none
        let (x, s) := placeSession o.qp (BitVec.ofNat 64 (fld ctx 0 8)) vol page s
        complete o.uid (retriedOk (faults + vfaults)) none x.handle.toNat 0 s

/-- UNPARK. -/
def execUnpark (qp : BitVec 8) (s : State) (faults : Nat := 0) (vfaults : Nat := 0) : Host.Outcome State Fault Refusal :=
  .next (serve qp (fun o => o.kind == .unpark) s (unparkOrder faults vfaults))

/-! ### ADMIN functions -/

/-- An ADMIN order's output written from the descriptor's first byte, and its completion. -/
def adminDone (o : Order) (out : Bytes) (result : Nat) (s : State) (st : Status := .ok) : State :=
  complete o.uid st none result out.length { s with hostMem := s.hostMem.write o.out.addr out }

/-- STATUS output (05). The bytes of a lost update counter are free ones (log 4). -/
def statusBytes (s : State) : Bytes × State :=
  let (f, s') := if s.updateCounter.isNone then s.freeNat else (0, s)
  (le s.lcStatus 4 ++ le s.lsStat 4 ++ le s.press.epoch 8 ++ le (s.updateCounter.getD f) 8 ++ le s.sessions.length 2
    ++ le s.parkable 2 ++ zeros 4 ++ s.identity ++ zeros 16, s')

/-- STATUS (R409). -/
def execStatus (qp : BitVec 8) (s : State) : Host.Outcome State Fault Refusal :=
  .next (serve qp (fun o => o.admin [1]) s fun o s =>
    let (b, s) := statusBytes s
    adminDone o b 64 s)

/-- An order that reads the Cellar range given: FAULT_PERMANENT where a group of it is uncorrectable (12 R254). `ecc` is
what the read meets in its first group. -/
def cellarRead (ecc : Ecc) (o : Order) (addr len : Nat) (s : State) (k : State → State) : State :=
  let s := groupRead ecc addr s
  if s.badRange addr len then refuse o.uid .faultPermanent (badRead addr len s) else k s

/-- GET_CERT (R51). -/
def execGetCert (qp : BitVec 8) (s : State) (ecc : Ecc := .good) : Host.Outcome State Fault Refusal :=
  .next (serve qp (fun o => o.admin [2]) s fun o s =>
    let c := s.certOrRequest
    cellarRead ecc o certArea.1 c.length s fun s => adminDone o c c.length s)

/-- GET_RETIREMENT (R57): in any state but RETIRED, result 0 and nothing written. The record's place in its page is not
given: an uncorrectable group of the page counts as one of the record (log 181). -/
def execGetRetirement (qp : BitVec 8) (s : State) (ecc : Ecc := .good) : Host.Outcome State Fault Refusal :=
  .next (serve qp (fun o => o.admin [3]) s fun o s =>
    match (if s.vault.lc == .retired then s.lc.retirement else none) with
    | some r => cellarRead ecc o lifePage.1 lifePage.2 s fun s => adminDone o r r.length s
    | none => adminDone o [] 0 s)

/-- What an ABORT does to its target (R101): the oldest outstanding order of the queue pair with the tag, or the order
whose extension entries are still awaited. -/
def abortTarget (o : Order) (s : State) : Nat × State :=
  let tag := BitVec.ofNat 64 (o.num 32 8)
  match s.orders.find? fun x => x.qp == o.qp && x.tag == tag && x.uid != o.uid with
  | some x => abortOrder x s
  | none =>
    match s.qp? o.qp with
    | none => (0, s)
    | some q =>
      if !q.gathered.isEmpty && !q.timedOut && entryTag q.gathered == tag then
        (1, completeRaw o.qp tag .aborted (setQp { q with timedOut := true } s))
      else (0, s)

/-- ABORT (R98, R101): admitted ahead of every order held for its queue pair. -/
def execAbort (qp : BitVec 8) (s : State) : Host.Outcome State Fault Refusal :=
  .next (
    if !s.awake then s
    else
      match s.orders.find? fun o => o.qp == qp && o.st == .held && o.isAbort with
      | none => s
      | some o =>
        match s.admitCheck o with
        | some st => refuse o.uid st s
        | none =>
          let (r, s) := abortTarget o (admitted o s)
          complete o.uid .ok none r 0 s)

/-- TIME_TOKEN (R292). -/
def execTimeToken (qp : BitVec 8) (s : State) : Host.Outcome State Fault Refusal :=
  .next (serve qp (fun o => o.admin [5]) s fun o s =>
    timeToken (.order o.uid) (s.classOf o) [] (s.descBytes o.inp 64) (.host o.out.addr) 4851 (admitted o s))

/-! ### BOOK_READ (13 R302) -/

/-- A BOOK_READ whose input passes the checks common to its sub-functions: the book, and the input. -/
def bookRead (o : Order) (s : State) (k : Nat → Bytes → State) : State :=
  let b := s.hostMem.read o.inp.addr 144
  if !zeroAt b 2 6 || decide (3 < fld b 0 1) then refuse o.uid .badFormat s
  else if 63 < fld b 1 1 then refuse o.uid .operandRange s
  else k (fld b 1 1) b

/-- BOOK_READ HEAD; an input with a sub-function above 3, or too short to name one, is refused here. -/
def execBookReadHead (qp : BitVec 8) (s : State) : Host.Outcome State Fault Refusal :=
  .next (serve qp (fun o => o.admin [6] && (s.bookSub o == 0 || decide (3 < s.bookSub o))) s fun o s =>
    bookRead o s fun b _ => cellarRead .good o (headAddr b + 288) 64 s fun s =>
      adminDone o ((s.book b).head.bytes ++ (s.book b).config) 192 s)

/-- The record of wheel `no` among the two last pressed ones. -/
def Book.pressedWheel (k : Book) (no : Nat) : Option Bytes :=
  (if no % 2 = 0 then k.place0 else k.place1).filter fun r => fld r 24 8 == no

/-- BOOK_READ WHEEL. -/
def execBookReadWheel (qp : BitVec 8) (s : State) (ecc : Ecc := .good) : Host.Outcome State Fault Refusal :=
  .next (serve qp (fun o => o.admin [6] && s.bookSub o == 1) s fun o s =>
    bookRead o s fun b inp =>
      match (s.book b).pressedWheel (fld inp 8 8) with
      | some r => cellarRead ecc o (placeAddr b (fld inp 8 8 % 2)) 4800 s fun s => adminDone o r 4800 s
      | none => refuse o.uid .operandRange s)

/-- BOOK_READ GAP: the record lies at bytes 352 to 479 of the book's region (13). -/
def execBookReadGap (qp : BitVec 8) (s : State) (ecc : Ecc := .good) : Host.Outcome State Fault Refusal :=
  .next (serve qp (fun o => o.admin [6] && s.bookSub o == 2) s fun o s =>
    bookRead o s fun b _ =>
      match (s.book b).gapRec with
      | some r => cellarRead ecc o (headAddr b + 352) 128 s fun s => adminDone o r 128 s
      | none => adminDone o [] 0 s)

/-- A receipt's tag verifies under the key of its book and generation (R295). -/
def receiptOk (s : State) (b : Nat) (r : Bytes) : Bool :=
  fit (Config.kmac (sealKey s b (fld r 8 4)) (sl r 0 112) 128 (ascii "JEXVOR SEAL")) 16 == sl r 112 16

/-- BOOK_READ CHECK: one keyed segment of a hash core. -/
def execBookReadCheck (qp : BitVec 8) (s : State) (faults : Nat := 0) : Host.Outcome State Fault Refusal :=
  .next (serve qp (fun o => o.admin [6] && s.bookSub o == 3) s fun o s =>
    bookRead o s fun b inp =>
      let r := sl inp 16 128
      if (s.book b).gen < fld r 8 4 then refuse o.uid .operandRange s
      else
        let s := if s.keyedOk then ownSegs true 1 1 (ownFaults true true faults s) else s
        if s.rind.guard then s
        else if !s.keyedOk then refuse o.uid .noHealthyChannel s
        else if receiptOk s b r then adminDone o [] 0 s (retriedOk faults)
        else refuse o.uid .tagFail s)

end Sys2Proof.Machine
end

