-- ==== Sys2Proof/Machine/Officer.lean ====
section
/-! DEFINITION. Officer orders: PERSONALISE, CERT_INSTALL, the signed envelope and every body type (03, 04, 06, 08, 13,
15, 17). -/

namespace Sys2Proof.Machine

/-! ### Officer sets -/

/-- A hybrid signature r ‖ s ‖ ML-DSA-87 verifies under an officer's two public keys (R174). -/
def Officer.verifies (k : Officer) (msg sig : Bytes) : Bool := Config.pkVerify 0x0501 (k.ecdsa ++ k.mldsa) 0 [msg, sig]

/-- The officer entries of a PERSONALISE or OFFICER_SET body. -/
def officersIn (b : Bytes) : List Officer :=
  (List.range (fld b 2 1)).map fun i =>
    let e := sl b (32 + 2704 * i) 2704
    ⟨fld e 0 1, sl e 8 97, sl e 112 2592⟩

/-- The length is 32 + 7,432 n, the type is the one given and every reserved field is zero (R52, R6). A type that is not
the body's own is a fault of the layout, found before the identity (log 188). -/
def officersLayout (t : Nat) (b : Bytes) : Bool :=
  let n := fld b 2 1
  b.length == 32 + 7432 * n && fld b 0 2 == t && zeroAt b 28 4
    && ((List.range n).all fun i => zeroAt b (33 + 2704 * i) 7 && zeroAt b (32 + 2704 * i + 105) 7)
    && ((List.range n).all fun i => zeroAt b (32 + 2704 * n + 4728 * i + 4723) 5)

/-- Two of the officers share a number or a public key. -/
def shared : List Officer → Bool
  | [] => false
  | o :: os => os.any (fun x => x.num == o.num || x.ecdsa == o.ecdsa || x.mldsa == o.mldsa) || shared os

/-- Every officer has signed the header and all officer entries. -/
def possession (b : Bytes) : Bool :=
  let n := fld b 2 1
  let os := officersIn b
  (os.zip (List.range n)).all fun x => x.1.verifies (b.take (32 + 2704 * n)) (sl b (32 + 2704 * n + 4728 * x.2) 4723)

/-- The refusals of R52 after the length, in order. -/
def officersBad (s : State) (b : Bytes) : List (Bool × Status) :=
  let n := fld b 2 1
  let k := fld b 3 1
  [(sl b 4 16 != s.identity, .badOrder),
    (decide (n < 1 ∨ 16 < n ∨ k < 1 ∨ n < k) || (officersIn b).any (fun o => decide (15 < o.num)), .operandRange),
    (shared (officersIn b), .operandRange), (!s.lanesOk, .noHealthyChannel), (!possession b, .orderSignature)]

def officersItem (b : Bytes) : PItem := .officers (officersIn b) (fld b 3 1) (sl b 20 8)

/-- PERSONALISE (R52): admitted in ISSUED with a vendor certificate installed. -/
def personaliseOrder (o : Order) (s : State) : State :=
  let b := s.hostMem.read o.inp.addr (if o.inp.len ≤ 32 + 7432 * 255 then o.inp.len else 0)
  if s.lc.cert.isNone then refuse o.uid .lifecycle s
  else
    match firstOf ((!officersLayout 1 b, .badFormat) :: officersBad s b) with
    | some st => refuse o.uid st s
    | none =>
      enqueue { Press.of [officersItem b, .updSet 0, .lifeCycle .service] (.order o.uid) with result := some 0 } (admitted o s)

/-- PERSONALISE. -/
def execPersonalise (qp : BitVec 8) (s : State) : Host.Outcome State Fault Refusal :=
  .next (serve qp (fun o => o.admin [0x10]) s personaliseOrder)

/-! ### CERT_INSTALL -/

/-- Bytes 0 to 4,407 agree with the request but for key index and issue time. -/
def matchesRequest (c request : Bytes) : Bool :=
  c.take 28 == request.take 28 && sl c 38 4370 == sl request 38 4370

/-- CERT_INSTALL (R50). -/
def certOrder (o : Order) (s : State) : State :=
  let c := s.hostMem.read o.inp.addr 9131
  match firstOf [(decide (3 < fld c 28 4), .operandRange), (!matchesRequest c s.lc.request, .badOrder),
      (!s.lanesOk, .noHealthyChannel), (!Config.vendorVerify (fld c 28 4) (c.take 4408) (c.drop 4408), .orderSignature)] with
  | some st => refuse o.uid st s
  | none => enqueue { Press.of [.cert c] (.order o.uid) with result := some 0 } (admitted o s)

/-- CERT_INSTALL. -/
def execCertInstall (qp : BitVec 8) (s : State) : Host.Outcome State Fault Refusal :=
  .next (serve qp (fun o => o.admin [0x11]) s certOrder)

/-! ### The envelope (R174 to R177) -/

/-- An OFFICER order as R175 takes it: what awaits it, the length and the bytes of its input, the length and the place
of its output. -/
structure OffReq where
  ref : Ref
  len : Nat
  env : Bytes
  outLen : Nat
  out : Dst

/-- The body types of R90. -/
def bodyKnown (t : Nat) : Bool :=
  [2, 0x10, 0x11, 0x20, 0x21, 0x30, 0x31, 0x32, 0x33, 0x34, 0x35, 0x40, 0x41, 0x42, 0x48, 0x49, 0x4A, 0x50, 0x51, 0x60,
    0x61, 0x62, 0x63, 0x64, 0x70].contains t

/-- A body type: its layout (check 4), its output, the states that allow it, whether it applies to the named device
only (17 R386), and what it makes (check 10). -/
structure Body where
  layout : Bytes → Bool
  out : State → Bytes → Nat
  states : List Lifecycle
  device : Bytes → Bool
  make : OffReq → Bytes → State → Except Refused (Made × State)

def envBody (env : Bytes) : Bytes := sl env 48 (fld env 12 4)
def envType (env : Bytes) : Nat := fld env 48 2
def envCount (env : Bytes) : Nat := fld env 40 2
def envP (env : Bytes) : Nat := roundUp (48 + fld env 12 4) 8

/-- Signature entry i. -/
def envEntry (env : Bytes) (i : Nat) : Bytes := sl env (envP env + 4736 * i) 4736

/-- The officer numbers of the entries. -/
def signers (env : Bytes) : List Nat := (List.range (envCount env)).map fun i => fld (envEntry env i) 0 1

/-- LC_CHANGE with target RETIRED. -/
def retires (env : Bytes) : Bool := envType env == 0x10 && fld env 50 1 == 7

/-- No officer set is installed (R175, check 1). -/
def State.noSet (s : State) : Bool := s.vault.lc == .manufacture || s.vault.lc == .issued || s.vault.lc == .test

/-- Check 4 of R175, with R176. -/
def envLayout (s : State) (b : Body) (env : Bytes) : Bool :=
  let m := envCount env
  env.take 4 == ascii "JXOD" && fld env 4 2 == 1 && zeroAt env 6 2 && zeroAt env 42 6 && decide (8 ≤ fld env 12 4 ∧ m ≤ 16)
    && fld env 8 4 == envP env + 4736 * m && zeroAt env (48 + fld env 12 4) (envP env - 48 - fld env 12 4)
    && ((List.range m).all fun i => zeroAt (envEntry env i) 1 7 && zeroAt (envEntry env i) 4731 5)
    && (m != 0 || (s.noSet && retires env && fld env 32 8 == 0)) && bodyKnown (envType env) && b.layout (envBody env)

/-- The entries' numbers rise strictly. -/
def rising : List Nat → Bool
  | a :: b :: l => decide (a < b) && rising (b :: l)
  | _ => true

/-- The quorum check (R174). -/
def quorum (s : State) (env : Bytes) : Bool :=
  decide (s.lc.k ≤ envCount env) && rising (signers env)
    && (List.range (envCount env)).all fun i =>
      let e := envEntry env i
      match s.lc.officers.find? fun o => o.num == fld e 0 1 with
      | some o => o.verifies (env.take (envP env)) (sl e 8 4723)
      | none => false

/-- The envelope names this device. -/
def namesOwn (s : State) (env : Bytes) : Bool := sl env 16 16 == s.identity

/-- The checks of R175 before the signatures; the first that fails gives the status. The quorum check reads the officer
set from the Cellar (12 R254). -/
def envBefore (s : State) (b : Body) (r : OffReq) : Option Status :=
  let short := decide (r.len < 48)
  let unsigned := envCount r.env == 0
  firstOf [(s.debugBars || s.vault.lc == .retired || (s.noSet && (short || !unsigned)), .lifecycle),
    (!short && decide (8388608 < fld r.env 12 4 ∨ 8388608 + 48 + 75776 < fld r.env 8 4), .lengthRange),
    (short || decide (r.len < fld r.env 8 4), .bufferShort),
    (!envLayout s b r.env, .badFormat),
    (decide (r.outLen < b.out s (envBody r.env)), .bufferShort),
    (!namesOwn s r.env && !(s.syncLead && sl r.env 16 16 == s.welt.twin), .badOrder),
    (!unsigned && s.updateCounter.isNone, .faultPermanent),
    (!unsigned && fld r.env 32 8 != s.updateCounter.getD 0 + 1, .orderCounter),
    (!unsigned && !s.lanesOk, .noHealthyChannel),
    (!unsigned && s.badRange officerArea.1 officerArea.2, .faultPermanent)]

/-- Checks 1 to 9 of R175; the first that fails gives the status. -/
def envRefused (s : State) (b : Body) (r : OffReq) : Option Status :=
  (envBefore s b r).orElse fun _ =>
    let unsigned := envCount r.env == 0
    firstOf [(!unsigned && !quorum s r.env, .orderSignature), (!unsigned && !b.states.contains s.vault.lc, .lifecycle)]

/-- The signatures of an envelope run on the lanes, one to a lane (11 R231, R249); in GUARD all on one lane (16 R359). -/
def verifyRuns (b : Body) (r : OffReq) (s : State) : State :=
  if (envBefore s b r).isSome then s
  else (List.range (envCount r.env)).foldl (fun s i => ownLane (if s.rind.guard then 0 else i) s) s

/-- The press of an accepted order: its items, and the update counter's increment but for the order of R176 (R177). -/
def officerPress (s : State) (r : OffReq) (m : Made) : Press :=
  let items := m.items ++ (if envCount r.env = 0 then [] else [.updInc])
  let place : Option Nat := match r.out with
    | .host a => some a
    | _ => none
  { Press.of items r.ref with
    outs := if m.out.isEmpty then [] else (place.map fun a => (a, m.out)).toList
    outBytes := m.out.length + 64 * (m.report.getD []).length
    report := m.report.bind fun ns => place.map fun a => (a, ns)
    log := if s.rind.guard then none else some (fit (Config.sha3 r.env) 32 ++ le (envType r.env) 2) }

/-- An OFFICER order decided (R175, R176; 17 R386). A body for the twin alone presses only the counter here. -/
def officer (b : Body) (r : OffReq) (ok : State → State) (s : State) : State :=
  let s := verifyRuns b r s
  match envRefused s b r with
  | some st =>
    finish r.ref st 0 0 (if st == .faultPermanent && s.updateCounter.isSome then badRead officerArea.1 officerArea.2 s else s)
  | none =>
    if !namesOwn s r.env && b.device (envBody r.env) then enqueue (officerPress s r ⟨[], [], none⟩) (ok s)
    else
      match b.make r (envBody r.env) s with
      | .error e =>
        let s := e.s.getD s
        finish r.ref e.st 0 0 (e.slot.elim s fun n => slotRefused n e.st s)
      | .ok (m, s) => enqueue (officerPress s r m) (ok s)

/-- The request an order makes: the 48-byte header, then the envelope length it gives (R409). -/
def Order.officer (o : Order) (s : State) : OffReq :=
  let n := fld (s.hostMem.read (o.inp.addr + 8) 4) 0 4
  { ref := .order o.uid, len := o.inp.len, outLen := o.out.len, out := .host o.out.addr
    env := s.hostMem.read o.inp.addr (if o.inp.len < 48 then 0 else if 8388608 + 48 + 75776 < n then 48 else max 48 n) }

/-- What a follower that is not level, or a joining device, still runs itself: WELT_TAKEOVER, WELT_UNPAIR, and an
ordered retirement while GUARD is in force (R384, R386, R359). -/
def State.staleServes (s : State) (env : Bytes) : Bool :=
  envType env == 0x64 || (s.welt.role == .joining && envType env == 0x61) || (s.rind.guard && retires env)

/-- Types without a row of their own are served, and refused, by the row of OFFICER_SET. -/
def rowType (t : Nat) : Nat := if bodyKnown t then t else 2

/-- One body type's row: GUARD first (R359), then the pairing (R378, R381, R386), then R175. -/
def officerRow (t : Nat) (b : Body) (qp : BitVec 8) (s : State) : State :=
  serve qp (fun o => o.admin [0x20] && rowType (s.bodyType o) == t) s fun o s =>
    let r := o.officer s
    if s.rind.guard && !retires r.env then refuse o.uid .guardActive s
    else if s.syncFollower then setOrder { o with st := .forwarded } (forward r.ref r.out s)
    else if s.staleFollower && !s.staleServes r.env then refuse o.uid .lifecycle s
    else officer b r (admitted o) s

/-- Both states with officers. -/
def inService : List Lifecycle := [.service, .recovery]

/-- A body of a fixed length with the reserved byte ranges given. -/
def fixedBody (len : Nat) (reserved : List (Nat × Nat)) (b : Bytes) : Bool :=
  b.length == len && reserved.all fun r => zeroAt b r.1 r.2

/-- A body of no output that applies to both members. -/
def Body.plain (layout : Bytes → Bool) (make : OffReq → Bytes → State → Except Refused (Made × State)) : Body :=
  { layout := layout, out := fun _ _ => 0, states := inService, device := fun _ => false, make := make }

/-- The items of a body with no output. -/
def made (items : List PItem) (s : State) : Except Refused (Made × State) := .ok (⟨items, [], none⟩, s)

/-! ### Life-cycle bodies (03) -/

/-- OFFICER_SET: the current officers' quorum replaces the set, in SERVICE only. -/
def officerSetBody : Body :=
  { Body.plain (officersLayout 2) (fun _ b s => orBad (officersBad s b) (made [officersItem b] s)) with
    states := [.service] }

/-- OFFICER_SET. -/
def execOfficerSet (qp : BitVec 8) (s : State) : Host.Outcome State Fault Refusal := .next (officerRow 2 officerSetBody qp s)

/-- LC_CHANGE (R43, R56, R176). A target that the table of R43 does not give for the present state is refused with
LIFECYCLE at check 10, a code that names no state too (log 178). -/
def lcChangeBody : Body :=
  { Body.plain (fixedBody 8 [(4, 4)]) (fun _ b s =>
      match fld b 2 1, s.vault.lc with
      | 7, _ => made [.retire 1 (b.getD 3 0)] s
      | 3, .service => made [.lifeCycle .recovery] s
      | 2, .recovery => made [.lifeCycle .service] s
      | _, _ => bad .lifecycle) with
    device := fun b => fld b 2 1 == 7 }

/-- LC_CHANGE. -/
def execLcChange (qp : BitVec 8) (s : State) : Host.Outcome State Fault Refusal := .next (officerRow 0x10 lcChangeBody qp s)

/-- DEBUG_PERMIT (R59). -/
def debugPermitBody : Body :=
  { Body.plain (fixedBody 8 [(2, 6)]) (fun _ _ s => made [.permit true] s) with device := fun _ => true }

/-- DEBUG_PERMIT. -/
def execDebugPermit (qp : BitVec 8) (s : State) : Host.Outcome State Fault Refusal :=
  .next (officerRow 0x11 debugPermitBody qp s)

/-! ### Lasts (04) -/

/-- LAST_SELECT (R63). -/
def lastSelectBody : Body :=
  { Body.plain (fixedBody 8 [(3, 5)]) (fun _ b s =>
      if 3 < fld b 2 1 then bad .operandRange else made [.pendLast (some (BitVec.ofNat 2 (fld b 2 1)))] s) with
    device := fun _ => true }

/-- LAST_SELECT. -/
def execLastSelect (qp : BitVec 8) (s : State) : Host.Outcome State Fault Refusal :=
  .next (officerRow 0x20 lastSelectBody qp s)

/-- LAST_INSTALL (R65). -/
def lastInstallBody : Body :=
  Body.plain (fun b => fixedBody 4104 [(3, 5)] b && lastFormat (b.drop 8)) fun _ b s =>
    let r := b.drop 8
    if fld r 8 1 != fld b 2 1 then bad .badOrder
    else if !lastInRange r then bad .operandRange
    else made [.last (BitVec.ofNat 2 (fld b 2 1)) (lastOf r (s.lastGeneration (fld b 2 1)))] s

/-- LAST_INSTALL. -/
def execLastInstall (qp : BitVec 8) (s : State) : Host.Outcome State Fault Refusal :=
  .next (officerRow 0x21 lastInstallBody qp s)

/-! ### Keys (08) -/

/-- A key body (R177 to R180). -/
def keyBodyOf : Body :=
  { Body.plain (fun b => (keyBody b).isSome) (fun _ b s => makeKeys b s) with out := keyOut }

/-- KEY_WRITE. -/
def execKeyWrite (qp : BitVec 8) (s : State) : Host.Outcome State Fault Refusal := .next (officerRow 0x30 keyBodyOf qp s)

/-- KEY_DELETE. -/
def execKeyDelete (qp : BitVec 8) (s : State) : Host.Outcome State Fault Refusal := .next (officerRow 0x31 keyBodyOf qp s)

/-- KEY_GENERATE. -/
def execKeyGenerate (qp : BitVec 8) (s : State) : Host.Outcome State Fault Refusal := .next (officerRow 0x32 keyBodyOf qp s)

/-- KEY_RESTRICT. -/
def execKeyRestrict (qp : BitVec 8) (s : State) : Host.Outcome State Fault Refusal := .next (officerRow 0x33 keyBodyOf qp s)

/-- KEY_EXPORT, in SERVICE only. -/
def execKeyExport (qp : BitVec 8) (s : State) : Host.Outcome State Fault Refusal :=
  .next (officerRow 0x34 { keyBodyOf with states := [.service] } qp s)

/-- KEY_REPORT. -/
def execKeyReport (qp : BitVec 8) (s : State) : Host.Outcome State Fault Refusal := .next (officerRow 0x35 keyBodyOf qp s)

/-! ### Time (13) -/

/-- A hybrid slot with SEAL: KEY_EMPTY or KEY_ATTR otherwise (R287, R294). -/
def sealSlotBad (s : State) (n : Nat) : List (Bool × Status) :=
  [((s.liveSlot n).isNone, .keyEmpty),
    (!((s.slot n).elim false fun k => k.alg == 0x0701 && k.usage 8), .keyAttr)]

/-- TIME_CONFIG (R287). -/
def timeConfigBody : Body :=
  { Body.plain (fixedBody 32 [(22, 10)]) (fun _ b s =>
      let s := sampleTime s
      let slot := fld b 2 2
      let rref := fld b 4 4
      let trim := signed (fld b 8 4) 32
      let tai := fld b 12 2
      let next := fld b 14 2
      let leap := fld b 16 6
      let leapOk := if leap = 0 then next == tai
        else decide ((next = tai + 1 ∨ next + 1 = tai) ∧ s.time.t / second < leap)
      orBad ([(decide (rref < 1 ∨ 500 < rref ∨ trim < -1000 ∨ 1000 < trim ∨ 255 < tai) || !leapOk
            || (slot != 0xFFFF && decide (16383 < slot)), .operandRange)]
          ++ (if slot = 0xFFFF then [] else sealSlotBad s slot))
        (made [.timeConfig slot rref trim tai next leap] s)) with
    device := fun _ => true }

/-- TIME_CONFIG. -/
def execTimeConfig (qp : BitVec 8) (s : State) : Host.Outcome State Fault Refusal :=
  .next (officerRow 0x40 timeConfigBody qp s)

/-- The token a TIME_SLEW or TIME_STEP names (R289): its entry, or the status. -/
def namedToken (s : State) (b : Bytes) : Except Status TokenEntry :=
  match s.time.tokens.find? fun e => fit e.id 8 == sl b 8 8 with
  | none => .error .badOrder
  | some e =>
    if e.t != fld b 16 12 then .error .badOrder
    else if e.t + 3600 * second < s.time.t then .error .operandRange
    else .ok e

/-- Layout of the 48-byte body. -/
def slewLayout : Bytes → Bool := fixedBody 48 [(4, 4), (40, 8)]

/-- TIME_SLEW (R290). -/
def timeSlewBody : Body :=
  { Body.plain slewLayout (fun _ b s =>
      let s := sampleTime s
      let rate := fld b 2 2
      let um := fld b 28 4
      let delta := signed (fld b 32 8) 64
      if rate < 1 ∨ 500 < rate ∨ um < 1 ∨ 1000000000 < um then bad .operandRange
      else
        match namedToken s b with
        | .error st => bad st
        | .ok e =>
          if !s.time.timeSet || decide (delta < -1000000000 ∨ 1000000000 < delta) then bad .operandRange
          else made [.slew rate um delta e.t e.slew e.a] s) with
    device := fun _ => true }

/-- TIME_SLEW. -/
def execTimeSlew (qp : BitVec 8) (s : State) : Host.Outcome State Fault Refusal := .next (officerRow 0x41 timeSlewBody qp s)

/-- TIME_STEP (R291): in SERVICE with the signatures of all installed officers. A token time without a token, and a rate
that is not zero, give OPERAND_RANGE (log 115). -/
def timeStepBody : Body :=
  { Body.plain slewLayout (fun r b s =>
      let s := sampleTime s
      let um := fld b 28 4
      let delta := signed (fld b 32 8) 64
      let noToken := zeroAt b 8 8
      let go (slewAt : Int) (measured : Option (Nat × Nat)) : Except Refused (Made × State) :=
        let by_ := delta * (2 ^ 48 : Nat) - s.time.sinceToken slewAt
        let t := s.time.t + (by_ / 1000000000).toNat
        if by_ < (2 ^ 48 : Nat) ∨ 2 ^ 48 ≤ t / second then bad .operandRange
        else made [.step um delta slewAt measured] s
      orBad [(fld b 2 2 != 0 || decide (um < 1 ∨ 1000000000 < um) || (noToken && !zeroAt b 16 12), .operandRange),
          (s.vault.lc == .service && decide ((signers r.env).length < s.lc.officers.length), .orderSignature)] <|
        if noToken then go s.time.slewTotal none
        else
          match namedToken s b with
          | .error st => bad st
          | .ok e => go e.slew (some (e.t, e.a))) with
    device := fun _ => true }

/-- TIME_STEP. -/
def execTimeStep (qp : BitVec 8) (s : State) : Host.Outcome State Fault Refusal := .next (officerRow 0x42 timeStepBody qp s)

/-! ### Books (13 R294) -/

def bookLayout : Bytes → Bool := fixedBody 32 [(3, 1), (11, 5)]

/-- The refusals of a book order that carries a configuration. -/
def bookBad (s : State) (b : Bytes) (states : List BookSt) : List (Bool × Status) :=
  let k := s.book (fld b 2 1)
  let n := fld b 4 4
  let arch := fld b 10 1
  [(decide (63 < fld b 2 1) || !states.contains k.st || decide (n < 1 ∨ 65536 < n)
      || (arch != 0xFF && !(decide (arch < 3) && s.active.roles.getD arch 0 == 2)), .operandRange)]

def archOf (b : Bytes) : Nat := fld b 10 1

/-- BOOK_OPEN. -/
def bookOpenBody : Body :=
  Body.plain bookLayout fun _ b s =>
    orBad (bookBad s b [.closed, .halted] ++ [(decide (2 ^ 26 - 1 < (s.book (fld b 2 1)).gen + 1), .operandRange)]
        ++ sealSlotBad s (fld b 8 2))
      (made [.bookOpen (fld b 2 1) (fld b 4 4) (fld b 8 2) (archOf b) (sl b 16 16)] s)

/-- BOOK_OPEN. -/
def execBookOpen (qp : BitVec 8) (s : State) : Host.Outcome State Fault Refusal := .next (officerRow 0x48 bookOpenBody qp s)

/-- BOOK_CONFIG. -/
def bookConfigBody : Body :=
  Body.plain bookLayout fun _ b s =>
    orBad (bookBad s b [.opened] ++ sealSlotBad s (fld b 8 2))
      (made [.bookConfig (fld b 2 1) (fld b 4 4) (fld b 8 2) (archOf b) (sl b 16 16)] s)

/-- BOOK_CONFIG. -/
def execBookConfig (qp : BitVec 8) (s : State) : Host.Outcome State Fault Refusal :=
  .next (officerRow 0x49 bookConfigBody qp s)

/-- BOOK_CLOSE: a wheel it closes is a wheel close, which RECOVERY refuses (03). -/
def bookCloseBody : Body :=
  Body.plain (fun b => bookLayout b && zeroAt b 4 7 && zeroAt b 16 16) fun _ b s =>
    let k := s.book (fld b 2 1)
    orBad [(decide (63 < fld b 2 1) || k.st == .closed, .operandRange),
        (s.vault.lc == .recovery && k.closes, .lifecycle)]
      (made [.bookClose (fld b 2 1)] s)

/-- BOOK_CLOSE. -/
def execBookClose (qp : BitVec 8) (s : State) : Host.Outcome State Fault Refusal :=
  .next (officerRow 0x4A bookCloseBody qp s)

/-! ### Applets (06 R128, R129) -/

/-- Grant entry i of an image. -/
def grantAt (im : Bytes) (i : Nat) : Bytes := sl im (48 + 8 * i) 8

def knownKind (k : Nat) : Bool := [0, 4, 5, 6, 7].contains k || within 0x10 0x17 k

/-- Objects of a grant kind. -/
def kindRange (k : Nat) : Nat := if k = 5 then 4 else if k = 7 then 64 else 1024

/-- The second row of R128. -/
def appletLayout (b : Bytes) : Bool :=
  let im := b.drop 8
  let n := im.length
  decide (520 ≤ b.length) && zeroAt b 2 2 && fld b 4 4 == n && im.take 4 == ascii "JXAP" && fld im 4 2 == 1
    && fld im 6 2 == 512 && n == 512 + fld im 16 4 + fld im 20 4 && zeroAt im 30 2 && zeroAt im 40 8 && zeroAt im 368 144
    && (fld im 32 8 &&& definedEnables) == fld im 32 8
    && (List.range 8).all fun i =>
      let g := grantAt im i
      knownKind (fld g 0 1) && zeroAt g 6 2 && decide (fld g 1 1 < 8) && (fld g 0 1 != 0 || allZero g)

/-- The third row of R128. -/
def appletInRange (im : Bytes) : Bool :=
  let code := fld im 16 4
  let data := fld im 20 4
  let zf := fld im 24 4
  let n := fld im 14 2
  within 1 0xFFFFFFFE (fld im 8 4) && decide (1 ≤ fld im 12 2) && within 1 64 n && within 4 1048576 code && code % 4 == 0
    && data % 8 == 0 && zf % 8 == 0 && decide (data + zf ≤ 4194304 ∧ code + data + zf ≤ 1572864)
    && ((List.range 64).all fun i =>
      let e := fld im (112 + 4 * i) 4
      if i < n then decide (e < code) && e % 4 == 0 else e == 0)
    && (List.range 8).all fun i =>
      let g := grantAt im i
      let k := fld g 0 1
      k == 0 || (decide (1 ≤ fld g 4 2 ∧ fld g 2 2 + fld g 4 2 ≤ kindRange k) && (k == 7 || !bit (fld g 1 1) 2))

/-- Blocks of the applet store that hold an image, or held one removed since the start. -/
def State.usedBlocks (s : State) : List Nat := (s.cellar.applets.map (·.places)).flatten ++ s.cellar.removed

/-- Free blocks of the applet store's 5,120 (12 R250). -/
def State.freeBlocks (s : State) : Nat := 5120 - s.usedBlocks.length

/-- An image as the directory holds it, in the lowest free blocks (log 175). -/
def appletOf (im : Bytes) (origin : Lifecycle) (used : List Nat) : Applet where
  id := fld im 8 4
  ver := fld im 12 2
  entries := (List.range (fld im 14 2)).map fun i => fld im (112 + 4 * i) 4
  codeLen := fld im 16 4
  dataLen := fld im 20 4
  zeroFill := fld im 24 4
  runMs := fld im 28 2
  algs := BitVec.ofNat 64 (fld im 32 8)
  grants := ((List.range 8).filter fun i => fld (grantAt im i) 0 1 != 0).map fun i =>
    let g := grantAt im i
    ⟨fld g 0 1, BitVec.ofNat 8 (fld g 1 1), fld g 2 2, fld g 4 2⟩
  code := sl im 512 (fld im 16 4)
  data := sl im (512 + fld im 16 4) (fld im 20 4)
  digest := Config.sha3 im
  header := im.take 512
  origin := origin
  places := ((List.range 5120).filter fun k => !used.contains k).take ((512 + fld im 16 4 + fld im 20 4 + 4095) / 4096)

/-- APPLET_INSTALL. -/
def appletInstallBody : Body :=
  Body.plain appletLayout fun _ b s =>
    let im := b.drop 8
    let a := appletOf im s.vault.lc s.usedBlocks
    let same := s.cellar.applets.filter fun x => x.id == a.id
    if !appletInRange im || same.any (fun x => x.ver == a.ver) || decide (2 ≤ same.length)
        || decide (s.freeBlocks < a.blocks ∨ 64 ≤ s.cellar.applets.length) then bad .operandRange
    else made [.applet a] s

/-- APPLET_INSTALL. -/
def execAppletInstall (qp : BitVec 8) (s : State) : Host.Outcome State Fault Refusal :=
  .next (officerRow 0x50 appletInstallBody qp s)

/-- APPLET_REMOVE. -/
def appletRemoveBody : Body :=
  Body.plain (fixedBody 16 [(2, 2), (10, 6)]) fun _ b s =>
    if s.cellar.applets.any fun a => a.id == fld b 4 4 && a.ver == fld b 8 2 then
      made [.appletRm (fld b 4 4) (fld b 8 2)] s
    else bad .operandRange

/-- APPLET_REMOVE. -/
def execAppletRemove (qp : BitVec 8) (s : State) : Host.Outcome State Fault Refusal :=
  .next (officerRow 0x51 appletRemoveBody qp s)

/-! ### Welt (17) -/

/-- Officers in number order. -/
def byNumber (os : List Officer) : List Officer := (List.range 16).filterMap fun n => os.find? fun o => o.num == n

/-- An officer entry as PERSONALISE lays it out. -/
def Officer.entry (o : Officer) : Bytes := le o.num 1 ++ zeros 7 ++ fit o.ecdsa 97 ++ zeros 7 ++ fit o.mldsa 2592

/-- Digest of k, n and the officer entries in officer-number order (R387). -/
def setDigest (s : State) : Bytes :=
  fit (Config.sha3 (le s.lc.k 1 ++ le s.lc.officers.length 1 ++ ((byNumber s.lc.officers).map Officer.entry).flatten)) 32

/-- A twin's certificate: magic, version, length, key index and both vendor signatures (R50). -/
def certVerifies (c : Bytes) : Bool :=
  c.take 4 == ascii "JXCT" && fld c 4 2 == 1 && fld c 6 2 == 9131 && decide (fld c 28 4 ≤ 3)
    && Config.vendorVerify (fld c 28 4) (c.take 4408) (c.drop 4408)

/-- WELT_PAIR (R387). -/
def weltPairBody : Body :=
  { Body.plain (fixedBody 9171 [(3, 5)]) (fun _ b s =>
      let c := sl b 40 9131
      let role := fld b 2 1
      orBad [(s.welt.role != .unpaired || sl c 8 16 == s.identity || decide (role = 0 ∨ 2 < role), .operandRange),
          (sl b 8 32 != setDigest s, .badOrder), (!certVerifies c, .orderSignature)]
        (made [.weltPair (sl c 8 16) c (BitVec.ofNat 2 role)] s)) with
    device := fun _ => true }

/-- WELT_PAIR. -/
def execWeltPair (qp : BitVec 8) (s : State) : Host.Outcome State Fault Refusal := .next (officerRow 0x60 weltPairBody qp s)

/-- The 8-byte Welt bodies: bytes 3 to 7 are reserved. Byte 2 of the bodies that give it no meaning is not looked at
(log 179). -/
def weltLayout : Bytes → Bool := fixedBody 8 [(3, 5)]

/-- A Welt order accepted only in the role given (R386). -/
def roleBody (ok : State → Bool) (items : Bytes → List PItem) : OffReq → Bytes → State → Except Refused (Made × State) :=
  fun _ b s => if ok s then made (items b) s else bad .lifecycle

/-- WELT_UNPAIR. -/
def weltUnpairBody : Body :=
  { Body.plain weltLayout (roleBody (fun s => s.welt.role != .follower) fun _ => [.weltUnpair]) with
    device := fun _ => true }

/-- WELT_UNPAIR. -/
def execWeltUnpair (qp : BitVec 8) (s : State) : Host.Outcome State Fault Refusal :=
  .next (officerRow 0x61 weltUnpairBody qp s)

/-- WELT_MODE: the mode preference. -/
def weltModeBody : Body :=
  Body.plain (fun b => weltLayout b && decide (fld b 2 1 < 2))
    (roleBody (fun s => s.welt.role == .lead) fun b => [.weltMode (fld b 2 1 == 1)])

/-- WELT_MODE. -/
def execWeltMode (qp : BitVec 8) (s : State) : Host.Outcome State Fault Refusal := .next (officerRow 0x62 weltModeBody qp s)

/-- WELT_HANDOVER. -/
def weltHandoverBody : Body := Body.plain weltLayout (roleBody State.syncLead fun _ => [.weltHandover])

/-- WELT_HANDOVER. -/
def execWeltHandover (qp : BitVec 8) (s : State) : Host.Outcome State Fault Refusal :=
  .next (officerRow 0x63 weltHandoverBody qp s)

/-- WELT_TAKEOVER (R384). -/
def weltTakeoverBody : Body :=
  { Body.plain weltLayout (roleBody (fun s => s.welt.role == .follower && !s.welt.link && !s.welt.granted)
      fun _ => [.weltTakeover]) with
    device := fun _ => true }

/-- WELT_TAKEOVER. -/
def execWeltTakeover (qp : BitVec 8) (s : State) : Host.Outcome State Fault Refusal :=
  .next (officerRow 0x64 weltTakeoverBody qp s)

/-! ### Cards (15 R345) -/

/-- CARD_ERASE (R345). A channel whose volume serials are used up gives OPERAND_RANGE (log 224). -/
def cardEraseBody : Body :=
  { Body.plain (fun b => fixedBody 8 [(4, 4)] b && decide (fld b 3 1 < 2)) (fun _ b s =>
      let ch := fld b 2 1
      let k := s.card ch
      let format := bit (fld b 3 1) 0
      let role := s.active.roles.getD ch 0
      orBad [(decide (2 < ch) || !(role == 1 || role == 2), .operandRange), (!s.chanOk (48 + ch), .noHealthyChannel),
          (k.st != .identified || !k.present, .mediaGone), (k.csdWp, .mediaWriteProtected),
          (format && (!k.class7 || decide (k.m < 66054)), .operandRange),
          (decide (0xFFFFFF ≤ k.vol.serial), .operandRange)]
        (made [.volErase ch format] s)) with
    device := fun _ => true }

/-- CARD_ERASE. -/
def execCardErase (qp : BitVec 8) (s : State) : Host.Outcome State Fault Refusal := .next (officerRow 0x70 cardEraseBody qp s)

/-- The body of each type of R90. -/
def bodyOf (t : Nat) : Body :=
  match t with
  | 0x10 => lcChangeBody
  | 0x11 => debugPermitBody
  | 0x20 => lastSelectBody
  | 0x21 => lastInstallBody
  | 0x30 | 0x31 | 0x32 | 0x33 | 0x35 => keyBodyOf
  | 0x34 => { keyBodyOf with states := [.service] }
  | 0x40 => timeConfigBody
  | 0x41 => timeSlewBody
  | 0x42 => timeStepBody
  | 0x48 => bookOpenBody
  | 0x49 => bookConfigBody
  | 0x4A => bookCloseBody
  | 0x50 => appletInstallBody
  | 0x51 => appletRemoveBody
  | 0x60 => weltPairBody
  | 0x61 => weltUnpairBody
  | 0x62 => weltModeBody
  | 0x63 => weltHandoverBody
  | 0x64 => weltTakeoverBody
  | 0x70 => cardEraseBody
  | _ => officerSetBody

end Sys2Proof.Machine
end

