-- ==== Sys2Proof/Machine/Mailbox.lean ====
section
/-! DEFINITION. The forerunner mailbox (05) and loaned slots (08 R182 to R185, 09 R212, R213). -/

namespace Sys2Proof.Machine

/-! ### The request (05) -/

def reqData (r : Bytes) : Nat := fld r 0 4
def reqBlobLen (r : Bytes) : Nat := fld r 4 2

/-- The blob and the data of a request. -/
def reqBlob (r : Bytes) : Bytes := sl r 32 (reqBlobLen r)
def reqBody (r : Bytes) : Bytes := sl r (32 + roundUp (reqBlobLen r) 8) (reqData r)

/-- The bytes of the request buffer that its header lays out. -/
def State.mbRequest (s : State) : Bytes :=
  let h := s.mb.request.read 0 32
  s.mb.request.read 0 (min requestSize (32 + roundUp (reqBlobLen h) 8 + reqData h))

/-- Reserved bytes are zero and the layout ends within the request buffer; `data` says that data bytes follow, `tdea`
that the chaining value has 8 bytes: a non-zero byte 16 to 23 is a layout error (R103; log 170). -/
def reqOk (r : Bytes) (data tdea : Bool) : Bool :=
  zeroAt r 6 2 && zeroAt r 24 8 && (!tdea || zeroAt r 16 8)
    && decide (32 + roundUp (reqBlobLen r) 8 + (if data then reqData r else 0) ≤ requestSize)

/-- The native statuses R105 derives a result from. -/
def mbNatives (result : Nat) : List Status :=
  if result = 1 then [.badFormat] else if result = 2 then [.lengthRange, .bufferShort, .shortInput] else [.operandRange]

/-- RESULT with a NATIVE the spec does not name: one of the codes R105 derives that result from, a free choice
(log 30). -/
def mbFreeNative (result : Nat) (s : State) : State :=
  let (f, s) := s.freeNat
  let l := mbNatives result
  mbFinish result (l.getD (f % l.length) .badFormat) [] s

/-- End of a command with a native status and its response (R105). -/
def mbEnd (st : Status) (resp : Bytes) (s : State) : State := mbFinish (mbResult st) st resp s

/-- The BAR2 mailbox answers: the host reaches the device and the last has the Asinfel personality (R69). -/
def State.mbReach (s : State) : Bool := s.hostReach && s.active.asinfel

/-- A write of MB_CMD while BUSY is ignored and sets OVERRUN. -/
def mbOverrun (s : State) : State := { s with mb := { s.mb with overrun := true } }

/-- A taken-up command with its request: GUARD ends it at once (16 R358); then the limit of the TDEA modes (09 R186)
and the layout; without a state in which orders run, LIFECYCLE (03 R43, R57). -/
def mbChecks (r : Bytes) (data tdea everywhere : Bool) (s : State) (k : State → State) : State :=
  if s.rind.guard then mbEnd .guardActive [] s
  else if tdea && decide (requestSize < reqData r) then mbEnd .lengthRange [] s
  else if !reqOk r data tdea then mbFreeNative 2 s
  else if (s.vault.lc == .manufacture || s.vault.lc == .retired) && !everywhere then mbEnd .lifecycle [] s
  else k s

/-! ### Loaned slots -/

/-- A loaned slot's usage bit (R182). -/
def Loan.uses (l : Loan) (i : Nat) : Bool := l.usage.getLsbD i

/-- Ciphertext length C of a blob. -/
def blobC (b : Bytes) : Nat := roundUp (fld b 4 2) (if fld b 0 1 = 1 then 8 else 16)

/-- Native ALG of a blob's key type. -/
def blobAlg (t : Nat) : Nat := [0, 0x0120, 0x0101, 0x0103, 0x0301, 0x0302].getD t 0

/-- Length and fields of a blob (R183). -/
def blobFields (b : Bytes) : Bool :=
  let t := fld b 1 1
  let n := fld b 4 2
  decide (16 ≤ b.length) && within 1 2 (fld b 0 1) && within 1 5 t && decide (fld b 2 2 < 64 ∧ fld b 6 1 < 4) && zeroAt b 7 1
    && b.length == 16 + blobC b && (if t ≤ 3 then n == algLen (blobAlg t) else decide (16 < n))

/-- A key with a constant laid over every byte. -/
def xorAll (k : Bytes) (c : Byte) : Bytes := k.map fun x => x ^^^ c

/-- The material of a blob under master key k: none where MAC, padding or material fails (R182, R183). -/
def openBlob (k b : Bytes) : Option Bytes :=
  let c := blobC b
  let n := fld b 4 2
  let enc := xorAll k 0x45
  let mac := xorAll k 0x4D
  let input := b.take (8 + c)
  let tdea := fld b 0 1 == 1
  let tag := if tdea then fit (tdeaMac mac input) 8 else (Config.aesCmac mac input).take 8
  let p := fit (if tdea then tdeaCbcDec enc (b.take 8) (sl b 8 c) else Config.aesCbcDec enc (b.take 8 ++ zeros 8) (sl b 8 c)) c
  let m := p.take n
  let alg := blobAlg (fld b 1 1)
  if tag != b.drop (8 + c) || !allZero (p.drop n) || (materialBad alg m (spanOf n)).isSome
      || (isRsa alg && decide (4096 < rsaBits m)) then none
  else some m

/-- Bytes of key cache the loaned slots hold. -/
def loanBytes (l : List Loan) : Nat := (l.map fun x => x.material.length).sum

/-- The least recently used loaned slot. -/
def oldest : List Loan → Option Loan
  | [] => none
  | x :: xs =>
    match oldest xs with
    | some y => if y.stamp < x.stamp then some y else some x
    | none => some x

/-- The least recently used slots emptied until n more bytes fit 512 KiB, and a number is free (R104, R184). -/
def makeRoom (n count : Nat) : Nat → List Loan → List Loan
  | 0, l => l
  | fuel + 1, l =>
    if 524288 < loanBytes l + n ∨ count ≤ l.length then
      match oldest l with
      | some x => makeRoom n count fuel (l.filter fun y => y.n != x.n)
      | none => l
    else l

/-- The SHA-256 digest that names a blob (R104). -/
def blobDigest (b : Bytes) : Bytes := fit (Config.hash 2 b 32) 32

/-- A loaned slot emptied: its schedules match no later blob. -/
def dropLoans (gone : List Loan) (s : State) : State :=
  { s with
    loaned := s.loaned.filter fun x => !gone.contains x
    eng := { s.eng with schedules := s.eng.schedules.filter fun x => x.2.space != 1 || !gone.any fun l => l.n == x.2.n } }

/-- A blob's loaned slot: found by its digest, or loaded; the status of a refused blob otherwise (R162, R183, R184). -/
def loanFor (b : Bytes) (s : State) : Except (Status × State) (Loan × State) :=
  match s.loaned.find? fun l => l.digest == blobDigest b with
  | some l =>
    let l := { l with stamp := s.loanClock + 1 }
    .ok (l, { s with loanClock := s.loanClock + 1, loaned := updFirst (fun x => x.n == l.n) (fun _ => l) s.loaned })
  | none =>
    let master := 16380 + fld b 6 1
    let need : Need := ⟨fun k => k.alg == (if fld b 0 1 = 1 then 0x0F01 else 0x0F02), fun k => k.usage 5, fun _ => []⟩
    if !blobFields b || s.active.loaned == 0 then .error (.keyEmpty, s)
    else
      match s.slotReady master with
      | .error st => .error (st, slotRefused master st s)
      | .ok k =>
        if !need.fits k then .error (.keyEmpty, s)
        else
          match useSlot .device master need 0 false s with
          | .no st s => .error (st, s)
          | .wait s => .error (.lifecycle, s)
          | .got k _ s =>
            match openBlob k.material b with
            | none => .error (.keyEmpty, s)
            | some m =>
              let rest := makeRoom m.length s.active.loaned s.loaned.length s.loaned
              let n := ((List.range s.active.loaned).find? fun i => !rest.any fun x => x.n == i).getD 0
              let l : Loan := ⟨n, blobDigest b, fld b 1 1, BitVec.ofNat 16 (fld b 2 2), m, fld b 6 1, 0, s.loanClock + 1⟩
              let s := dropLoans (s.loaned.filter fun x => !rest.contains x) s
              .ok (l, { s with loanClock := s.loanClock + 1, loaned := rest ++ [l] })

/-- The command waits, BUSY, for the press open on the master slot its blob names (01 R21; log 162). -/
def State.loanWaits (s : State) (b : Bytes) : Bool :=
  !(s.loaned.any fun l => l.digest == blobDigest b) && s.slotOpen (16380 + fld b 6 1)

/-- A command that carries a blob: no key is used under debug (03 R60); the key type, the algorithm's enable bit and the
usage bit it needs give KEY_ATTR (R67, R166). -/
def withLoan (code : Nat) (r : Bytes) (types : List Nat) (enable : Loan → Nat) (usage : Nat) (s : State)
    (k : Loan → State → State) : State :=
  if s.debugOn then mbEnd .lifecycle [] s
  else if s.loanWaits (reqBlob r) then { s with mb := { s.mb with waiting := some code } }
  else
    match loanFor (reqBlob r) s with
    | .error (st, s) => mbEnd st [] s
    | .ok (l, s) =>
      if !types.contains l.keyType || !s.active.enables.getLsbD (enable l) || !l.uses usage then mbEnd .keyAttr [] s
      else k l s

/-- The first status of a list ends the command; else it goes on. -/
def mbChecked (l : List (Bool × Status)) (s : State) (k : State → State) : State :=
  match firstOf l with
  | some st => mbEnd st [] s
  | none => k s

/-- Device-internal cipher work of the mailbox runs at level 2 (R184, 09 R208). -/
def mbVat (s : State) : Bool × Status := ((vatCheck s 2 false).isSome, .noHealthyChannel)

/-- A Vat job of the mailbox's one stream, with loaned slot l used to encrypt or to decrypt (R184). -/
def mbVatJob (fn : Nat) (enc : Bool) (l : Loan) (n : Nat) (out : Option Bytes) (st : Status) : Job :=
  { Job.base .mailbox 1 .mailbox fn with
    segs := segsOf n, outs := (out.map fun b => (Dst.response, b)).toList, count := (out.getD []).length, status := st
    key := some ⟨1, l.n, enc, 0⟩, level := 2 }

/-! ### Commands (R104) -/

/-- ECHO: the data copied to the response. -/
def mbEcho (r : Bytes) (s : State) : State :=
  mbChecks r true false false s fun s => mbEnd .ok (fit (reqBody r) (reqData r)) s

/-- GET_STATUS: bytes 0 to 15 of the STATUS output. -/
def mbGetStatus (r : Bytes) (s : State) : State :=
  mbChecks r true false true s fun s =>
    let (b, s) := statusBytes s
    mbEnd .ok (b.take 16) s

/-- RANDOM: the data length gives the byte count, 1 to 32,768. -/
def mbRandom (r : Bytes) (s : State) : State :=
  mbChecks r false false false s fun s =>
    mbChecked [(!within 1 32768 (reqData r), .lengthRange), (!s.drbgOk, .noHealthyChannel)] s fun s =>
      let (b, s) := s.drbgBytes (reqData r)
      mbEnd .ok b s

/-- TDEA blocks of n bytes; an empty message is one block (R212). -/
def tdeaBlocks (n : Nat) : Nat := max 1 ((n + 7) / 8)

/-- The budget of 2^20 blocks of a loaned TDEA slot (R213). -/
def spendBlocks (l : Loan) (n : Nat) (s : State) (k : State → State) : State :=
  if 2 ^ 20 < l.blocks + n then mbEnd .keyExhausted [] s
  else k { s with loaned := updFirst (fun x => x.n == l.n) (fun x => { x with blocks := x.blocks + n }) s.loaned }

/-- TDEA_CBC_DEC, with bytes 8 to 15 as IV. -/
def mbTdeaDec (r : Bytes) (s : State) : State :=
  mbChecks r true true false s fun s =>
    withLoan 0x0010 r [1] (fun _ => 6) 0 s fun l s =>
      let d := reqBody r
      mbChecked [mbVat s, (decide (d.length % 8 ≠ 0), .operandRange)] s
        (vatAdmit (mbVatJob 0x0010 false l d.length (some (fit (tdeaCbcDec l.material (sl r 8 8) d) d.length)) .ok))

/-- TDEA_CBC_ENC. -/
def mbTdeaEnc (r : Bytes) (s : State) : State :=
  mbChecks r true true false s fun s =>
    withLoan 0x0011 r [1] (fun _ => 6) 1 s fun l s =>
      let d := reqBody r
      mbChecked [mbVat s, (decide (d.length % 8 ≠ 0), .operandRange)] s fun s =>
        spendBlocks l (d.length / 8) s
          (vatAdmit (mbVatJob 0x0011 true l d.length (some (fit (tdeaCbcEnc l.material (sl r 8 8) d) d.length)) .ok))

/-- TDEA_MAC_GEN. -/
def mbTdeaGen (r : Bytes) (s : State) : State :=
  mbChecks r true true false s fun s =>
    withLoan 0x0012 r [1] (fun _ => 6) 2 s fun l s =>
      let d := reqBody r
      mbChecked [mbVat s] s fun s =>
        spendBlocks l (tdeaBlocks d.length) s
          (vatAdmit (mbVatJob 0x0012 true l d.length (some (fit (tdeaMac l.material d) 8)) .ok))

/-- TDEA_MAC_VER: the trailing 8 data bytes are compared; of fewer than 8 data bytes the spec names no status, and the
model gives OPERAND_RANGE (log 171). -/
def mbTdeaVer (r : Bytes) (s : State) : State :=
  mbChecks r true true false s fun s =>
    withLoan 0x0013 r [1] (fun _ => 6) 3 s fun l s =>
      let d := reqBody r
      let m := d.take (d.length - 8)
      let good := fit (tdeaMac l.material m) 8 == d.drop (d.length - 8)
      mbChecked [mbVat s, (decide (d.length < 8), .operandRange)] s
        (vatAdmit (mbVatJob 0x0013 true l m.length none (if good then .ok else .tagFail)))

/-- The AES enable bit of a key type. -/
def aesEnable (l : Loan) : Nat := if l.keyType = 3 then 2 else 0

/-- AES_CBC_DEC, with the chaining value as IV, on up to four cores (09 R186, R190). -/
def mbAesDec (r : Bytes) (s : State) : State :=
  mbChecks r true false false s fun s =>
    withLoan 0x0020 r [2, 3] aesEnable 0 s fun l s =>
      let d := reqBody r
      let out := fit (Config.aesCbcDec l.material (sl r 8 16) d) d.length
      mbChecked [mbVat s, (decide (d.length % 16 ≠ 0), .operandRange)] s
        (vatAdmit { mbVatJob 0x0006 false l d.length (some out) .ok with width := 4 })

/-- AES_CBC_ENC, with the chaining value as IV. -/
def mbAesEnc (r : Bytes) (s : State) : State :=
  mbChecks r true false false s fun s =>
    withLoan 0x0021 r [2, 3] aesEnable 1 s fun l s =>
      let d := reqBody r
      mbChecked [mbVat s, (decide (d.length % 16 ≠ 0), .operandRange)] s
        (vatAdmit (mbVatJob 0x0005 true l d.length (some (fit (Config.aesCbcEnc l.material (sl r 8 16) d) d.length)) .ok))

/-- SHA256 of the data; a disabled algorithm without a key gives BAD_FORMAT (R67). -/
def mbSha (r : Bytes) (s : State) : State :=
  mbChecks r true false false s fun s =>
    mbChecked [(!s.active.enables.getLsbD 8, .badFormat), (!s.anyOk 16 8, .noHealthyChannel)] s
      (digestAdmit { Job.base .mailbox 1 .mailbox 0x0002 with
        segs := digestSegs 64 (reqData r), outs := [(.response, digestOut 2 false [] (reqBody r) 32 [])], count := 32 })

/-- A mailbox RSA command: the digest dispatch hashes, without a key and so at level 0 (10 R225), then a lane goes on
with PKCS #1 v1.5 at level 2 (11 R243, R249). -/
def mbRsaJob (fn : Nat) (msg : Bytes) (w : LaneWork) (cost : LaneCost) : Job :=
  { Job.base .mailbox 1 .mailbox 0x0002 with
    segs := digestSegs 64 msg.length
    fin := .rsa fn { w with inputs := digestOut 2 false [] msg 32 [] :: w.inputs } cost.foot (levelTime 2 cost.est)
      (levelTime 2 cost.worst) }

/-- RSA_SIGN, a private operation. -/
def mbRsaSign (r : Bytes) (s : State) : State :=
  mbChecks r true false false s fun s =>
    withLoan 0x0040 r [4] (fun l => rsaBit l.material) 4 s fun l s =>
      mbChecked [(!s.anyOk 16 8 || !s.lanesOk || !s.drbgOk, .noHealthyChannel)] s
        (digestAdmit (mbRsaJob 0x0112 (reqBody r) (signWork l.material 2 [] (rsaK l.material) false)
          (rsaPrivCost l.material)))

/-- RSA_VERIFY: signature, then message. -/
def mbRsaVerify (r : Bytes) (s : State) : State :=
  mbChecks r true false false s fun s =>
    withLoan 0x0041 r [5] (fun l => rsaBit l.material) 5 s fun l s =>
      let d := reqBody r
      let k := rsaK l.material
      mbChecked [(!s.anyOk 16 8 || !s.lanesOk, .noHealthyChannel),
          (decide (d.length < k) || !modInt (beN (d.take k)) (rsaN l.material), .operandRange)] s
        (digestAdmit (mbRsaJob 0x0113 (d.drop k)
          { signWork l.material 2 [d.take k] 0 false with verify := true, random := false } (rsaPubCost l.material)))

/-- BLOB_FLUSH: every loaned slot is emptied (R185). -/
def mbFlush (r : Bytes) (s : State) : State :=
  mbChecks r true false false s fun s => mbEnd .ok [] (emptyLoans s)

/-- GET_TIME: T, then U. -/
def mbTime (r : Bytes) (s : State) : State :=
  mbChecks r true false false s fun s =>
    let s := sampleTime s
    mbEnd .ok (timeBytes s.time.t ++ le s.time.unc 4) s

/-- A write of MB_CMD behind the writes `req` of the request buffer from its first byte: taken up and BUSY, unless a
command runs (R103). -/
def mbCommand (req : Bytes) (s : State) (serve : Bytes → State → State) : State :=
  if !s.mbReach then s
  else if s.mb.busy then mbOverrun s
  else
    let s := mbStore 0 req s
    let s := sample 292 { s with mb := { s.mb with busy := true, response := [] } }
    serve s.mbRequest s

/-- MB_ECHO. -/
def execMbEcho (req : Bytes) (s : State) : Host.Outcome State Fault Refusal := .next (mbCommand req s mbEcho)

/-- MB_GET_STATUS. -/
def execMbGetStatus (req : Bytes) (s : State) : Host.Outcome State Fault Refusal := .next (mbCommand req s mbGetStatus)

/-- MB_RANDOM. -/
def execMbRandom (req : Bytes) (s : State) : Host.Outcome State Fault Refusal := .next (mbCommand req s mbRandom)

/-- MB_TDEA_CBC_DEC. -/
def execMbTdeaCbcDec (req : Bytes) (s : State) : Host.Outcome State Fault Refusal := .next (mbCommand req s mbTdeaDec)

/-- MB_TDEA_CBC_ENC. -/
def execMbTdeaCbcEnc (req : Bytes) (s : State) : Host.Outcome State Fault Refusal := .next (mbCommand req s mbTdeaEnc)

/-- MB_TDEA_MAC_GEN. -/
def execMbTdeaMacGen (req : Bytes) (s : State) : Host.Outcome State Fault Refusal := .next (mbCommand req s mbTdeaGen)

/-- MB_TDEA_MAC_VER. -/
def execMbTdeaMacVer (req : Bytes) (s : State) : Host.Outcome State Fault Refusal := .next (mbCommand req s mbTdeaVer)

/-- AES_CBC_DEC. -/
def execAesCbcDec (req : Bytes) (s : State) : Host.Outcome State Fault Refusal := .next (mbCommand req s mbAesDec)

/-- AES_CBC_ENC. -/
def execAesCbcEnc (req : Bytes) (s : State) : Host.Outcome State Fault Refusal := .next (mbCommand req s mbAesEnc)

/-- MB_SHA256. -/
def execMbSha256 (req : Bytes) (s : State) : Host.Outcome State Fault Refusal := .next (mbCommand req s mbSha)

/-- RSA_SIGN. -/
def execRsaSign (req : Bytes) (s : State) : Host.Outcome State Fault Refusal := .next (mbCommand req s mbRsaSign)

/-- RSA_VERIFY. -/
def execRsaVerify (req : Bytes) (s : State) : Host.Outcome State Fault Refusal := .next (mbCommand req s mbRsaVerify)

/-- BLOB_FLUSH. -/
def execBlobFlush (req : Bytes) (s : State) : Host.Outcome State Fault Refusal := .next (mbCommand req s mbFlush)

/-- MB_GET_TIME. -/
def execMbGetTime (req : Bytes) (s : State) : Host.Outcome State Fault Refusal := .next (mbCommand req s mbTime)

/-! ### Waiting for a press -/

/-- The commands that carry a blob, by code. -/
def mbServe (code : Nat) : Bytes → State → State :=
  match code with
  | 0x10 => mbTdeaDec
  | 0x11 => mbTdeaEnc
  | 0x12 => mbTdeaGen
  | 0x13 => mbTdeaVer
  | 0x20 => mbAesDec
  | 0x21 => mbAesEnc
  | 0x40 => mbRsaSign
  | _ => mbRsaVerify

/-- A command that waits for a press open on its master slot is taken up again (01 R21). -/
def mbResume (s : State) : State :=
  match s.mb.waiting with
  | none => s
  | some code => mbServe code s.mbRequest { s with mb := { s.mb with waiting := none } }

/-- PRESS_COMMIT (R150, R260, R261): the press at the head commits or fails; what waited for it goes on. -/
def execPressCommit (s : State) (how : PressEnd := .good) : Host.Outcome State Fault Refusal :=
  .next (mbResume (resumeBooks s (pressCommit how s)))

/-- PRESS_APPLY (R261): the oldest committed record is in place, and what waited for that goes on. -/
def execPressApply (s : State) : Host.Outcome State Fault Refusal :=
  .next (if s.awake then mbResume (resumeBooks s (applyRecord s)) else s)

end Sys2Proof.Machine
end

