-- ==== Sys2Proof/Machine/Mem.lean ====
section
/-! DEFINITION. Loads, stores and MFENCE (06, Memory instructions). -/

namespace Sys2Proof.Machine

/-- Effective address a + imm in 64 bits. -/
def effAddr (fr : Fr) (a : BitVec 5) (imm : BitVec 14) : Word := fr.reg a + imm.signExtend 64

/-- A load or store of n bytes finds its range, traps, or waits for a hazard (R112, R139). -/
def withAccess (s : State) (fr : Fr) (ea n : Nat) (wr : Bool) (k : Range → IRes) : IRes :=
  if ea % n != 0 then .trap .misaligned ea
  else
    match s.place fr ea n wr with
    | none => .trap .access ea
    | some r => if s.hazard fr.uid [r] then .stall else k r

/-- An uncorrectable ECC error of applet SRAM under frame f of core c: the trap MEMORY, a fault of the core, and the
applet of the frame, if it runs one, to be loaded again (R126). -/
def memoryTrap (c f : Nat) (fr : Fr) (ea : Nat) (s : State) : State :=
  let s := trap c f .memory ea s
  let reload (k : Core) : Core :=
    if fr.mode == .a then { k with resident := k.resident.map fun r => if r.img.id = fr.applet then { r with reload := true } else r }
    else k
  chanFault (40 + c) fr.op (setCore c (reload (s.core c)) s)

/-- A load of n bytes, sign- or zero-extended. A load from the shared page may follow a rewrite of it (R115). A read of
applet SRAM may meet an ECC error: corrected, it counts against the core and the order was retried; uncorrectable, it is
a MEMORY trap (R126; log 174). -/
def loadN (c : Fin 9) (ecc : Ecc) (d a : BitVec 5) (imm : BitVec 14) (n : Nat) (sx : Bool) (s : State) : State :=
  runInstr c 1 s fun f fr =>
    let ea := (effAddr fr a imm).toNat
    withAccess s fr ea n false fun r =>
      let s := if r.space = spShared then touchShared s else s
      let v := leN (s.readRange c fr r)
      let fr' := fr.setReg d (if sx then BitVec.ofInt 64 (signed v (8 * n)) else BitVec.ofNat 64 v)
      match (if r.space = spData ∧ fr.mode ≠ .s then ecc else .good) with
      | .good => .ok fr' s id
      | .corrected => .ok { fr' with retried := true } s (chanFault (40 + c) fr.op)
      | .uncorrectable => .keep (memoryTrap c f fr ea s)

/-- A store of the low n bytes of g d. A store to applet SRAM may meet an ECC error as a load may, and stores nothing
where it is uncorrectable (R126; log 174). -/
def storeN (c : Fin 9) (d a : BitVec 5) (imm : BitVec 14) (n : Nat) (s : State) (ecc : Ecc := .good) : State :=
  runInstr c 1 s fun f fr =>
    let ea := (effAddr fr a imm).toNat
    withAccess s fr ea n true fun r =>
      let put := writeOut (.token c f fr.uid 0) (dstOf c f fr r) (le (fr.reg d).toNat n)
      match (if r.space = spData ∧ fr.mode ≠ .s then ecc else .good) with
      | .good => .ok fr s put
      | .corrected => .ok { fr with retried := true } s fun s => put (chanFault (40 + c) fr.op s)
      | .uncorrectable => .keep (memoryTrap c f fr ea s)

/-- LD: 8 bytes. -/
def execLd (c : Fin 9) (d a : BitVec 5) (imm : BitVec 14) (s : State) (ecc : Ecc := .good) : Host.Outcome State Fault Refusal :=
  .next (loadN c ecc d a imm 8 false s)

/-- LW: 4 bytes, sign-extended. -/
def execLw (c : Fin 9) (d a : BitVec 5) (imm : BitVec 14) (s : State) (ecc : Ecc := .good) : Host.Outcome State Fault Refusal :=
  .next (loadN c ecc d a imm 4 true s)

/-- LWU: 4 bytes, zero-extended. -/
def execLwu (c : Fin 9) (d a : BitVec 5) (imm : BitVec 14) (s : State) (ecc : Ecc := .good) : Host.Outcome State Fault Refusal :=
  .next (loadN c ecc d a imm 4 false s)

/-- LH: 2 bytes, sign-extended. -/
def execLh (c : Fin 9) (d a : BitVec 5) (imm : BitVec 14) (s : State) (ecc : Ecc := .good) : Host.Outcome State Fault Refusal :=
  .next (loadN c ecc d a imm 2 true s)

/-- LHU: 2 bytes, zero-extended. -/
def execLhu (c : Fin 9) (d a : BitVec 5) (imm : BitVec 14) (s : State) (ecc : Ecc := .good) : Host.Outcome State Fault Refusal :=
  .next (loadN c ecc d a imm 2 false s)

/-- LB: 1 byte, sign-extended. -/
def execLb (c : Fin 9) (d a : BitVec 5) (imm : BitVec 14) (s : State) (ecc : Ecc := .good) : Host.Outcome State Fault Refusal :=
  .next (loadN c ecc d a imm 1 true s)

/-- LBU: 1 byte, zero-extended. -/
def execLbu (c : Fin 9) (d a : BitVec 5) (imm : BitVec 14) (s : State) (ecc : Ecc := .good) : Host.Outcome State Fault Refusal :=
  .next (loadN c ecc d a imm 1 false s)

/-- SD: 8 bytes of d. -/
def execSd (c : Fin 9) (d a : BitVec 5) (imm : BitVec 14) (s : State) (ecc : Ecc := .good) : Host.Outcome State Fault Refusal :=
  .next (storeN c d a imm 8 s ecc)

/-- SW: bits 31:0 of d. -/
def execSw (c : Fin 9) (d a : BitVec 5) (imm : BitVec 14) (s : State) (ecc : Ecc := .good) : Host.Outcome State Fault Refusal :=
  .next (storeN c d a imm 4 s ecc)

/-- SH: bits 15:0 of d. -/
def execSh (c : Fin 9) (d a : BitVec 5) (imm : BitVec 14) (s : State) (ecc : Ecc := .good) : Host.Outcome State Fault Refusal :=
  .next (storeN c d a imm 2 s ecc)

/-- SB: bits 7:0 of d. -/
def execSb (c : Fin 9) (d a : BitVec 5) (imm : BitVec 14) (s : State) (ecc : Ecc := .good) : Host.Outcome State Fault Refusal :=
  .next (storeN c d a imm 1 s ecc)

/-- MFENCE (R114): loads and stores of this model end whole before the next command, so nothing is left to wait for. -/
def execMfence (c : Fin 9) (s : State) : Host.Outcome State Fault Refusal :=
  .next (runInstr c 1 s fun _ fr => .ok fr s id)

end Sys2Proof.Machine
end

