-- ==== Sys2Proof/Machine/Rind.lean ====
section
/-! DEFINITION. The Rind's commands (16). -/

namespace Sys2Proof.Machine

/-- RIND_TRIP (R355 to R361): class c is beyond its threshold. A class that stays tripped counts as one trip, though
each clock of class 9 has its own effect on the time base (R352); the rate monitor's class trips at its guard count and
alerts below it (R353). With `logWrite` a press is in its log write at the trip (R357). -/
def execRindTrip (cls : Fin 13) (detail : BitVec 32) (s : State) (logWrite : Bool := false) :
    Host.Outcome State Fault Refusal :=
  .next (
    let c := cls.val
    let tier := s.tierOf c
    if !s.senses c detail.toNat || tier = 0 then s
    else if s.rind.tripped.contains cls then if c = 9 then oscillatorTrip detail.toNat s else s
    else if c = 10 ∧ detail.toNat < s.active.tamper.guardCount then
      if detail.toNat < s.active.tamper.alertCount then s else respond c 1 detail s
    else
      let s := { s with rind := { s.rind with tripped := cls :: s.rind.tripped } }
      respond c tier detail (if c = 9 then oscillatorTrip detail.toNat s else s) logWrite)

/-- An entry whose running values are wiped; its durable copy stands. -/
def Entry.wiped (e : Entry) : Entry := { e with inv := 0, uses := 0, gen := 0, dist := 0 }

/-- GUARD_WIPE_DONE (R357, step 6): all SRAM is wiped, the running Brine with it; the next start that is not in GUARD
loads it again (12 R266). -/
def execGuardWipeDone (s : State) : Host.Outcome State Fault Refusal :=
  .next (if s.rind.wiping then
    { s with rind := { s.rind with wiping := false }
             supSram := []
             cores := s.cores.map fun k => { k with resident := [] }
             brine := { s.brine with entries := s.brine.entries.map Entry.wiped }
             books := s.books.map fun k => { k with head := Head.zero, dist := 0 } }
  else s)

/-- RIND_CLASS_RECOVER (R355): the class has been back within its thresholds for 1 ms. -/
def execRindClassRecover (cls : Fin 13) (s : State) : Host.Outcome State Fault Refusal :=
  .next (
    let s := { s with rind := { s.rind with tripped := s.rind.tripped.filter (· != cls) } }
    if cls = 9 then { s with time := { s.time with refTripped := false, xtTripped := false } } else s)

end Sys2Proof.Machine
end

