-- ==== Sys2Proof/Machine/Smbus.lean ====
section
/-! DEFINITION. The SMBus port and the debug port (18 R402 to R404). A command that is not acknowledged leaves no
reply. -/

namespace Sys2Proof.Machine

/-! ### The port at 0x3A -/

/-- The port answers while the rail of the Sole is up (R403). -/
def State.soleUp (s : State) : Bool := s.power.st != .off

/-- Main power is off or PD1 is: only the Sole's contents can be read (R403). -/
def State.soleOnly (s : State) : Bool := s.power.st == .dormant || s.power.st == .battery

def reply (b : Option Bytes) (s : State) : State := { s with smb := { s.smb with reply := b } }

/-- A word of the health window as the port returns it. -/
def smbWord (s : State) (off : Nat) : Nat :=
  let kept := off = 4 ∨ off = 8 ∨ off = 0x18 ∨ off = 0x1C ∨ (0x2000 ≤ off ∧ off < 0x2800)
  if s.soleOnly && !decide kept then 0 else healthWord s off

/-- SET_POINTER. -/
def execSetPointer (v : BitVec 16) (s : State) : Host.Outcome State Fault Refusal :=
  .next (
    if !s.soleUp then s
    else if v.toNat % 4 ≠ 0 ∨ 0x27FC < v.toNat then reply none s
    else { s with smb := { s.smb with pointer := v.toNat, reply := some [] } })

/-- READ_BLOCK: 32 bytes from the pointer, which advances and wraps to 0 past 0x27FF. -/
def execReadBlock (s : State) : Host.Outcome State Fault Refusal :=
  .next (
    if !s.soleUp then s
    else
      let p := s.smb.pointer
      let b := ((List.range 8).map fun i => le (smbWord s ((p + 4 * i) % 0x2800)) 4).flatten
      { s with smb := { s.smb with pointer := if p + 32 ≤ 0x27FF then p + 32 else 0, reply := some b } })

/-- READ_SUMMARY: HC_SUM, RD_STAT, RD_SENSE, LC_STATUS, the last from the Sole's copy while PD1 is off. -/
def execReadSummary (s : State) : Host.Outcome State Fault Refusal :=
  .next (
    if !s.soleUp then s
    else reply (some (le (smbWord s 0) 4 ++ le (smbWord s 4) 4 ++ le (smbWord s 8) 4 ++ le (if s.soleOnly then s.smb.lcKept else s.lcStatus) 4)) s)

/-- IDENTITY: device identity, vendor ID, device ID; while PD1 is off from the Sole's copy. -/
def execIdentity (s : State) : Host.Outcome State Fault Refusal :=
  .next (if !s.soleUp then s else reply (some (fit (if s.soleOnly then s.smb.idKept else s.identity) 16 ++ le 0x1F6C 2 ++ le 0x8800 2)) s)

/-- The Alert Response Address: answered with 0x3A while SMB_ALERT_N is asserted, which releases it (R403). -/
def execAlertResponseAddress (s : State) : Host.Outcome State Fault Refusal :=
  .next (
    if !s.soleUp then s
    else if s.smb.alert then { s with smb := { s.smb with alert := false, reply := some [0x3A] } }
    else reply none s)

/-- SMBUS_TIMEOUT (R401): the bus is released, and the transfer in progress gives no reply. -/
def execSmbusTimeout (s : State) : Host.Outcome State Fault Refusal := .next (if s.soleUp then reply none s else s)

/-! ### The debug port at 0x3B (R404) -/

/-- The debug port answers. -/
def State.dbgUp (s : State) : Bool := s.awake && (s.lc.debug || s.vault.lc == .test)

/-- A command of the debug port; outside debug its address is not acknowledged. -/
def debugPort (s : State) (act : State → State) : Host.Outcome State Fault Refusal :=
  .next (if s.dbgUp then act s else if s.soleUp then reply none s else s)

/-- The target is a core. -/
def State.dbgCore (s : State) : Option Nat := if s.dbg.target ≤ 8 then some s.dbg.target else none

/-- Bytes of memory at the target: core SRAM, supervisor SRAM or operand memory. -/
def dbgSize (target : Nat) : Nat :=
  if target < 8 then 0x200000 else if target = 8 then 0x80000 else 0x20000

/-- SELECT. -/
def execSelect (t : BitVec 8) (s : State) : Host.Outcome State Fault Refusal :=
  debugPort s fun s =>
    if t.toNat ≤ 8 ∨ (0x10 ≤ t.toNat ∧ t.toNat < 0x20) then { s with
      dbg := { s.dbg with target := t.toNat }, smb := { s.smb with reply := some [] } }
    else reply none s

/-- A change of the core target's run state. -/
def onCore (s : State) (f : Core → Core) : State :=
  match s.dbgCore with
  | some c => reply (some []) (setCore c (f (s.core c)) s)
  | none => reply none s

/-- HALT. -/
def execHalt (s : State) : Host.Outcome State Fault Refusal :=
  debugPort s fun s => onCore s fun k => { k with halted := true, stepping := false }

/-- RESUME. -/
def execResume (s : State) : Host.Outcome State Fault Refusal :=
  debugPort s fun s => onCore s fun k => { k with halted := false, stepping := false }

/-- STEP: the halted core retires one instruction. -/
def execStep (s : State) : Host.Outcome State Fault Refusal :=
  debugPort s fun s => onCore s fun k => { k with stepping := k.halted }

/-- SET_ADDR. -/
def execSetAddr (a : BitVec 32) (s : State) : Host.Outcome State Fault Refusal :=
  debugPort s fun s =>
    if a.toNat % 4 ≠ 0 ∨ dbgSize s.dbg.target ≤ a.toNat then reply none s
    else { s with dbg := { s.dbg with addr := a.toNat }, smb := { s.smb with reply := some [] } }

/-- The line of operand memory of lane n at byte offset `off` is in no job slot and no retained slot: it reads zero (11
R232). Where a slot lies the spec does not give: those in use take the lowest lines here (log 4). -/
def State.laneLineFree (s : State) (n off : Nat) : Bool := decide (64 * s.laneUsed n ≤ off)

/-- 32 bytes at the target's offset. What lies where in core SRAM and in an operand slot the spec does not give: free
bytes (log 4). -/
def dbgBytes (s : State) : Bytes × State :=
  let free : Bytes × State := ((List.range 32).map fun i => BitVec.ofNat 8 (Config.free (s.freeCtr + i)),
    { s with freeCtr := s.freeCtr + 32 })
  if s.dbg.target = 8 then (s.supSram.read s.dbg.addr 32, s)
  else if 0x10 ≤ s.dbg.target then (if s.laneLineFree (s.dbg.target - 0x10) s.dbg.addr then (zeros 32, s) else free)
  else free

/-- READ_MEM: the offset advances, and wraps at the end of the memory. -/
def execReadMem (s : State) : Host.Outcome State Fault Refusal :=
  debugPort s fun s =>
    let (b, s) := dbgBytes s
    { s with dbg := { s.dbg with addr := (s.dbg.addr + 32) % dbgSize s.dbg.target }, smb := { s.smb with reply := some b } }

/-- The frame whose registers the port reads: the running one, else the first. -/
def State.dbgFrame (s : State) (c : Nat) : Option Fr :=
  match (s.core c).running with
  | some f => s.frame c f.val
  | none => ((List.range 4).find? fun f => (s.frame c f).isSome).bind fun f => s.frame c f

/-- Register r of a halted core: its value, none where there is no such register. -/
def dbgReg (s : State) (c : Nat) (fr : Fr) (r : Nat) : Option Nat :=
  if r < 32 then some (fr.reg (BitVec.ofNat 5 r)).toNat
  else if r = 32 then some fr.pc.toNat
  else if 0x10000 ≤ r ∧ r < 0x90000 then
    (if (wordReach (r - 0x10000) .s).isSome then some (wordValue s c fr (r - 0x10000)) else none)
  else none

/-- READ_REG: status 0 done, 1 target not halted, 2 undefined register, then the value. Registers of a core without a
frame are free values (log 4). -/
def execReadReg (r : BitVec 32) (s : State) : Host.Outcome State Fault Refusal :=
  debugPort s fun s =>
    match s.dbgCore with
    | none => reply (some (2 :: zeros 8)) s
    | some c =>
      if !(s.core c).halted then reply (some (1 :: zeros 8)) s
      else
        let (f, t) := s.freeNat
        match s.dbgFrame c with
        | some fr =>
          match dbgReg s c fr r.toNat with
          | some v => reply (some (0 :: le v 8)) s
          | none => reply (some (2 :: zeros 8)) s
        | none =>
          match dbgReg s c (Fr.fresh .s 0) r.toNat with
          | some _ => reply (some (0 :: le f 8)) t
          | none => reply (some (2 :: zeros 8)) s

/-- STATUS of the debug port. -/
def execDbgStatus (s : State) : Host.Outcome State Fault Refusal :=
  debugPort s fun s =>
    let halted := ((List.range 9).map fun c => if (s.core c).halted then 2 ^ c else 0).sum
    reply (some (le (s.dbg.target * 2 ^ 16 + halted) 4)) s

end Sys2Proof.Machine
end

