-- ==== Sys2Proof/Machine/Welt.lean ====
section
/-! DEFINITION. The Welt's events: lanes, HELLO, received frames, leases, acknowledgements (17). -/

namespace Sys2Proof.Machine

/-! ### Received frames (R372, R373) -/

/-- The session ends for a bad tag or a repeated sequence (R373): health event 0x10, source 270. -/
def breakSession (s : State) : State := raiseSample 270 (endLink (healthLog 0x10 0xFF 0 s))

/-- A received frame: CRC and lane code (a fault of its lane and a NAK), tag and repeated sequence (the end of the
session), term (R371), then what it does. Frames act in sequence order: one ahead of its turn has no effect yet. -/
def weltFrame (fr : Frame) (act : State → State) (s : State) : State :=
  if !s.welt.link || !s.welt.lanes.contains fr.lane then s
  else
    let i := 52 + fr.lane.val
    if !fr.crcOk then
      let s := chanOp i true (weltCtl 0x04 s)
      if s.welt.lanes.isEmpty then endLink s else s
    else
      let s := chanOp i false s
      if !fr.tagOk || decide (fr.seq < s.welt.rxSeq) then breakSession s
      else if fr.seq ≠ s.welt.rxSeq then s
      else
        let s := { s with welt := { s.welt with rxSeq := s.welt.rxSeq + 1 } }
        if s.welt.term < fr.term then endLink (higherTerm fr.term s)
        else if fr.term < s.welt.term then s
        else act s

/-- Acknowledgement of the frames received so far. -/
def ackFrame (s : State) : State := weltCtl 0x03 s

/-! ### Mirrored changes (R375, R376) -/

/-- A life-cycle state from its code (03). -/
def lifecycleOf (code : BitVec 3) : Lifecycle :=
  match code.toNat with
  | 0 => .manufacture
  | 1 => .issued
  | 2 => .service
  | 3 => .recovery
  | 4 => .test
  | _ => .retired

/-- A book head from its 128 bytes (13 R292). -/
def headOf (b : Bytes) : Head :=
  ⟨fld b 0 8, sl b 8 32, fld b 40 12, fld b 52 4, fld b 56 8, fld b 64 8, fld b 72 8, fld b 80 8, fld b 88 4, fld b 92 4 == 1⟩

/-- A Brine change of the lead (R376). -/
def brineUpdate (s : State) (u : BrineUpdate) : State :=
  match u with
  | .entry slot inv uses gen =>
    let e := (s.entry slot.val).getD (Entry.new s.freeEntry slot.val 0 gen)
    setEntry { e with inv := inv, uses := uses, gen := gen } s
  | .head b bytes => putBook b.val { s.book b.val with head := headOf bytes } s

/-- The items of an officer body for this device alone, made here (R386). -/
def addressed (e : Nat) (body : Bytes) (s : State) : State :=
  match (bodyOf (fld body 0 2)).make ⟨.none, 0, [], 0, .none⟩ body s with
  | .ok (m, s) => m.items.foldl afterItem (m.items.foldl (applyItem e) s)
  | .error _ => s

/-- A slot record of the lead under this device's own root (R375): generation, IV fixed field, install epoch and boot
nonce kept; an EXPIRE_AT_RESET record comes without material. -/
def mirroredSlot (n span : Nat) (attr : BitVec 64) (init gen : Nat) (origin : Lifecycle) (owner : BitVec 64)
    (fixed : BitVec 32) (installEpoch : Nat) (nonce : Option Bytes) (material : Bytes) (s : State) : State :=
  let m := if attr.getLsbD 21 then [] else material
  let s := writeSlot installEpoch n span attr init gen owner nonce fixed m s
  { s with cellar := { s.cellar with
    slots := s.cellar.slots.map fun k => if k.n == n then { k with origin := origin } else k } }

/-- A last record as it stands at the twin: its own generation and digest; empty where every byte is zero (04 R61). -/
def mirroredLast (n : Fin 4) (r : Bytes) (s : State) : State :=
  let l : Last := { lastOf r (fld r 12 4) with digestOk := fit (Config.sha3 (r.take 4064)) 32 == sl r 4064 32 }
  { s with lasts := vset s.lasts n.val (if allZero r then none else some l) }

/-- The Press item whose home in the Cellar a mirrored change has; the other changes are the Brine's and the book
heads'. -/
def PairItem.item (s : State) (i : PairItem) : Option PItem :=
  match i with
  | .counter n v => some (.ctrAdd n.val v)
  | .updateCounter v => some (.updSet v)
  | .part p off data => some (.write p.val off data)
  | .partClear p => some (.clearPart p.val)
  | .partEntry p _ level => some (.protect p.val level)
  | .slot n span attr init gen _ owner fixed _ nonce material =>
    some (.slotWrite n.val span attr init gen owner nonce fixed material)
  | .slotFree n span gen => some (.slotFree n.val span gen)
  | .lifeCycle code => some (.lifeCycle (lifecycleOf code))
  | .last n r => some (.last (BitVec.ofNat 2 n.val) (lastOf r (fld r 12 4)))
  | .applet image => some (.applet (appletOf image s.vault.lc s.usedBlocks))
  | .appletRm id ver => some (.appletRm id ver)
  | .officers _ _ _ => some (.officers [] 0 [])
  | .wheel b no r => some (.wheel b.val r [] no 0)
  | .useCount _ _ _ | .book _ _ _ _ _ _ _ _ | .gap _ _ | .brine _ | .addressed _ => none

/-- One mirrored change applied by the follower, in a press of epoch e. -/
def pairItem (e : Nat) (s : State) (i : PairItem) : State :=
  match i with
  | .counter n v =>
    let t := (look n.val s.cellar.counters).getD TwoCopy.zero
    { s with cellar := { s.cellar with counters := put n.val (t.update v) s.cellar.counters } }
  | .updateCounter v => applyItem e s (.updSet v)
  | .part p off data => applyItem e s (.write p.val off data)
  | .partClear p => applyItem e s (.clearPart p.val)
  | .partEntry p origin level => setPart p.val { s.part p.val with origin := origin.map lifecycleOf, protect := level } s
  | .slot n span attr init gen origin owner fixed installEpoch nonce material =>
    mirroredSlot n.val span attr init gen (lifecycleOf origin) owner fixed installEpoch nonce material s
  | .slotFree n span gen => applyItem e s (.slotFree n.val span gen)
  | .useCount n gen uses =>
    let t := (look n.val s.cellar.useCounts).getD TwoCopy.zero
    { s with cellar := { s.cellar with useCounts := put n.val (t.update (gen * 2 ^ 32 + uses)) s.cellar.useCounts } }
  | .lifeCycle code => afterItem (applyItem e s (.lifeCycle (lifecycleOf code))) (.lifeCycle (lifecycleOf code))
  | .officers k entries tag =>
    applyItem e s (.officers (entries.map fun b => ⟨fld b 0 1, sl b 8 97, sl b 112 2592⟩) k tag)
  | .last n r => mirroredLast n r s
  | .applet image => applyItem e s (.applet (appletOf image s.vault.lc s.usedBlocks))
  | .appletRm id ver => applyItem e s (.appletRm id ver)
  | .book b st n slot arch gen label h0 =>
    let st := match st.val with
      | 0 => BookSt.closed
      | 1 => .opened
      | _ => .halted
    setBook b.val { s.book b.val with st := st, n := n, slot := slot, arch := arch, gen := gen, label := label, h0 := h0 } s
  | .wheel b no r =>
    let k := s.book b.val
    setBook b.val (if no % 2 = 0 then { k with place0 := some r } else { k with place1 := some r }) s
  | .gap b r => setBook b.val { s.book b.val with gapRec := some r } s
  | .brine u => brineUpdate s u
  | .addressed body => addressed e body s

/-- A log record of the follower under the lead's epoch (R376), and the shared page with that epoch (06 R115); with two
records waiting, one is applied first (R261). Where the epoch does not follow the device's own, at the end of a bulk copy,
the log state takes it up first, so that a recovery finds the record (R264). -/
def mirrorRecord (epoch len : Nat) (items : List PItem) (s : State) : State :=
  let s := if 2 ≤ s.press.log.length then applyRecord s else s
  let s := if epoch = s.press.epoch + 1 then s
    else
      let s := applyAll s
      pressState { s with press := { s.press with applied := epoch - 1 } }
  rewriteShared { s with press := s.press.write epoch len 8 0 items }

/-- The mirrored objects emptied, before the bulk copy's take their place (R389). -/
def emptyMirrored (s : State) : State :=
  { s with
    cellar := { s.cellar with
      parts := s.cellar.parts.map fun p => { p with origin := none, protect := 0, mem := [], written := [] }
      counters := [], slots := [], gens := [], useCounts := [], applets := []
      removed := s.cellar.removed ++ (s.cellar.applets.map (·.places)).flatten }
    lasts := Vector.replicate 4 none
    lc := { s.lc with officers := [], k := 0 }
    books := Vector.replicate 64 Book.zero
    brine := { s.brine with entries := [] }
    loaned := [] }

/-! ### Lanes and HELLO (R372, R374, R388) -/

/-- WELT_LANE_TRAINED: the first lane to train carries the HELLO. -/
def execWeltLaneTrained (lane : Fin 2) (s : State) : Host.Outcome State Fault Refusal :=
  .next (
    if !s.awake || s.welt.role == .unpaired || s.rind.guard || !s.chanOk (52 + lane.val) || s.welt.lanes.contains lane then s
    else
      let first := s.welt.lanes.isEmpty
      let s := { s with welt := { s.welt with lanes := lane :: s.welt.lanes } }
      if first then sendHello s else s)

/-- Of two members, the value of the one with the lower identity comes first. -/
def lowerFirst (s : State) (mine twins : Bytes) : Bytes :=
  if fldBe s.identity < fldBe s.welt.twin then mine ++ twins else twins ++ mine
where
  fldBe (b : Bytes) : Nat := b.foldl (fun a x => a * 256 + x.toNat) 0

/-- The pair secret (17, Pairing): this device's ML-KEM secret and ECDH x-coordinate are its own, the twin's are what its
HELLO yields. -/
def pairSecret (s : State) (ownS ownZ twinS twinZ : Bytes) : Bytes :=
  Config.kmac (lowerFirst s (fit ownS 32) (fit twinS 32))
    (lowerFirst s (fit ownZ 48) (fit twinZ 48) ++ lowerFirst s (fit s.identity 16) (fit s.welt.twin 16)) 256
    (ascii "JEXVOR WELT PAIR")

/-- The role code that completes a pairing: lead with joining (R388). -/
def otherRole (r : WRole) : Nat :=
  match r with
  | .lead => 3
  | .joining => 1
  | _ => 0

/-- A pairing HELLO (R388): checked against the pair record, refused for good under this record, or the secret derived
and pressed. -/
def pairingHello (h : Hello) (s : State) : State :=
  if s.welt.secret.isSome || s.welt.pairRefused || !h.tagOk || !s.drbgOk || !s.lanesOk then s
  else if fit h.identity 16 != fit s.welt.twin 16 || h.role.toNat ≠ otherRole s.welt.role then
    raiseSample 270 { s with welt := { s.welt with pairRefused := true } }
  else
    let (ownS, s) := s.drbgBytes 32
    let (eph, s) := s.drbgBytes 48
    let ownZ := Config.pk 0x0402 eph 2 [sl s.welt.twinCert 4311 97] []
    pressOwn [.weltSecret (fit (pairSecret s ownS ownZ h.secretS h.secretZ) 32)] s

/-- The key of a link session (R374), from the two nonces. -/
def sessionLinkKey (s : State) (twinNonce : Bytes) : Bytes :=
  Config.kmac (s.welt.secret.getD []) (lowerFirst s s.welt.nonce twinNonce) 512 (ascii "JEXVOR WELT LINK")

/-- The HELLO that opens a link session (R374): refused unless it is the twin's, its tag verifies and its life-cycle code
is this device's. A lead still in SYNC has lost its twin's state and copies again (R381, R389); a higher term is obeyed
(R371). -/
def sessionHello (h : Hello) (s : State) : State :=
  if s.welt.secret.isNone || !h.tagOk || fit h.identity 16 != fit s.welt.twin 16 || h.lcCode.toNat ≠ s.vault.lc.code then s
  else if h.term = s.welt.term && s.welt.role == .lead && h.role == 1 then s
  else
    let s := endLink s
    let s := if s.welt.term < h.term then higherTerm h.term s
      else if s.welt.role == .lead then leadDetached s
      else followerStale s
    startCopy (raiseSample 267 { s with welt := { s.welt with
      link := true, linkKey := sessionLinkKey s h.nonce, txSeq := 0, rxSeq := 0, unacked := [], unsent := [] } })

/-- WELT_HELLO. -/
def execWeltHello (h : Hello) (s : State) : Host.Outcome State Fault Refusal :=
  .next (
    if !s.awake || s.welt.role == .unpaired || s.welt.lanes.isEmpty || s.rind.guard || s.debugBars then s
    else if h.pairing then pairingHello h s
    else sessionHello h s)

/-! ### Leases (R382) -/

/-- WELT_LEASE: the follower's grant. -/
def execWeltLease (fr : Frame) (s : State) : Host.Outcome State Fault Refusal :=
  .next (weltFrame fr (fun s =>
    if s.welt.role == .lead then { s with welt := { s.welt with lease := true } } else s) s)

/-- LEASE_RENEWAL: every millisecond the follower grants the lease anew. -/
def execLeaseRenewal (s : State) : Host.Outcome State Fault Refusal :=
  .next (
    if s.welt.role == .follower && s.welt.link then weltCtl 0x02 { s with welt := { s.welt with granted := true } } else s)

/-- LEASE_EXPIRY: a lead whose lease has expired enters DETACHED, and copies again where R381 lets it. `wins` false: a renewal was granted first (R27). -/
def execLeaseExpiry (wins : Bool) (s : State) : Host.Outcome State Fault Refusal :=
  .next (
    if s.welt.role == .lead && s.welt.lease && wins then
      startCopy (leadDetached { s with welt := { s.welt with lease := false } })
    else s)

/-! ### Acknowledgements (R373, R377, R389) -/

/-- WELT_ACK: waiting outcomes are written; the ACK of the copy's passes lets the lead send COPY_END and enter SYNC. -/
def execWeltAck (fr : Frame) (acked : Nat) (epoch : Nat) (s : State) : Host.Outcome State Fault Refusal :=
  .next (weltFrame fr (fun s =>
    let copied := s.welt.mode == .copying && s.welt.role == .lead &&
      s.welt.unacked.any fun u => u.2 == 0x30 && decide (u.1 ≤ acked ∧ epoch ≤ s.press.epoch)
    let s := ackUpTo acked s
    if copied then
      let s := weltSend 0x31 s
      modeChanged { s with welt := { s.welt with mode := .sync } }
    else s) s)

/-- WELT_NAK: the frame is sent again bit for bit. -/
def execWeltNak (fr : Frame) (seq : Nat) (s : State) : Host.Outcome State Fault Refusal :=
  .next (weltFrame fr (fun s =>
    match s.welt.unacked.find? fun u => u.1 == seq with
    | some u => { s with tx := s.tx ++ [.welt (wireType u.2) u.1] }
    | none => s) s)

/-- The frames a timeout sends again: the oldest unacknowledged frame, with the further frames of the press it belongs
to. -/
def resent (l : List (Nat × Nat)) : List (Nat × Nat) :=
  match l with
  | [] => []
  | u :: us => if wireType u.2 = 0x10 then u :: us.takeWhile (fun x => x.2 == pressMore) else [u]

/-- WELT_ACK_TIMEOUT (R377), of the oldest unacknowledged frame or press: a resend, and DETACHED after the third, with a
new bulk copy while the link is up and SYNC is preferred (R381).
`wins` false: its ACK was granted within the guard; the timeout is withdrawn, and what waits for that frame or press
completes with OK_CLOSE_CALL (R27, R28). -/
def execWeltAckTimeout (wins : Bool) (s : State) : Host.Outcome State Fault Refusal :=
  .next (
    if !s.syncLead || s.welt.unacked.isEmpty then s
    else if !wins then
      let due := (resent s.welt.unacked).map Prod.fst
      let mark (w : WeltWait) : WeltWait := if !w.fwd && due.contains w.seq then { w with closeCall := true } else w
      { s with welt := { s.welt with closeCall := true, waits := s.welt.waits.map mark } }
    else if s.welt.closeCall then s
    else if 2 ≤ s.welt.timeouts then startCopy (leadDetached s)
    else { s with
      welt := { s.welt with timeouts := s.welt.timeouts + 1 }
      tx := s.tx ++ if s.welt.link then (resent s.welt.unacked).map fun u => .welt (wireType u.2) u.1 else [] })

/-! ### Mirroring received (R376, R378 to R380) -/

/-- WELT_PRESS: the pieces are gathered in order; the last starts the follower's own log record under the same epoch,
whose items then apply, and the ACK follows. A follower that cannot write a record sends none. -/
def execWeltPress (fr : Frame) (p : PressPiece) (s : State) : Host.Outcome State Fault Refusal :=
  .next (weltFrame fr (fun s =>
    if !s.syncFollower || p.off ≠ s.welt.gathered then s
    else if p.off + p.len < p.total then { s with welt := { s.welt with gathered := p.off + p.len } }
    else
      let s := { s with welt := { s.welt with gathered := 0 } }
      if !s.ringOk || decide (p.epoch ≤ s.press.epoch) then s
      else ackFrame (p.items.foldl (pairItem p.epoch) (mirrorRecord p.epoch p.total (p.items.filterMap (PairItem.item s)) s))) s)

/-- WELT_BRINE. -/
def execWeltBrine (fr : Frame) (us : List BrineUpdate) (s : State) : Host.Outcome State Fault Refusal :=
  .next (weltFrame fr (fun s => if s.syncFollower then ackFrame (us.foldl brineUpdate s) else s) s)

/-- An item of a forwarded press. -/
def FwdItem.item (i : FwdItem) : PItem :=
  match i with
  | .write p off data => .write p.val off data
  | .ctrAdd n amount => .ctrAdd n.val amount.toNat
  | .clear p => .clearPart p.val
  | .protect p level => .protect p.val level

/-- A block of 65,536 invocation values of a slot granted to the follower (R379): the entry first, then the GRANT. -/
def grantBlock (ref : Ref) (n : Nat) (s : State) : State :=
  match s.slotReady n, s.entry n with
  | .error st, _ => finish ref st 0 0 s
  | .ok _, none => finish ref .faultPermanent 0 0 s
  | .ok _, some e =>
    if 2 ^ 64 - 1 < e.inv + 65536 then finish ref .keyExhausted 0 0 s
    else weltSend 0x22 (setEntry { e with inv := e.inv + 65536 } s)

/-- A forwarded request run as the lead's own (R380). -/
def runForwarded (ref : Ref) (req : Forwarded) (s : State) : State :=
  match req with
  | .press conds items =>
    pressFrom { Press.of (items.map FwdItem.item) ref with conds := conds.map fun c => (c.1.val, c.2) } s
  | .seal b posting => sealFrom [] ref b.val posting .none 0 s
  | .cardWrite ch first data =>
    if s.debugBars then finish ref .lifecycle 0 0 s
    else
      cardAdmit ch.val { CardReq.new .write ref first (data.length / 4096) with data := chunk4096 data } s
  | .officer env outLen => officer (bodyOf (envType env)) ⟨ref, env.length, env, outLen, .none⟩ id s
  | .useOf n =>
    match s.slotReady n.val with
    | .error st => finish ref st 0 0 s
    | .ok k =>
      match drawUse k false s with
      | .got _ _ s => finish ref .ok 0 0 s
      | .no st s => finish ref st 0 0 s
      | .wait s => s
  | .values n => grantBlock ref n.val s

/-- The lead cannot take the request yet: the card channel holds 64 requests (R332), an officer order is under way, or a
press is open on the slot it uses (01 R21). -/
def forwardWaits (req : Forwarded) (s : State) : Bool :=
  match req with
  | .cardWrite ch _ _ => decide (64 ≤ (s.card ch.val).queue.length)
  | .officer _ _ => s.officerBusy
  | .useOf n | .values n => s.slotOpen n.val
  | .seal b _ => s.slotOpen (s.book b.val).slot
  | .press _ _ => false

/-- WELT_FORWARD: taken up by a lead in SYNC; a frame that cannot be taken up yet stays with the receiver. -/
def execWeltForward (fr : Frame) (ref : BitVec 64) (req : Forwarded) (s : State) : Host.Outcome State Fault Refusal :=
  .next (
    if forwardWaits req s then s
    else weltFrame fr (fun s => if s.syncLead then ackFrame (runForwarded (.twin ref) req s) else s) s)

/-- Every status (R102). -/
def allStatus : List Status :=
  [.ok, .okTruncated, .okCloseCall, .okRetried, .lengthRange, .bufferShort, .shortInput, .badOrder, .operandRange,
    .notOnCurve, .badFormat, .sessionsExhausted, .operandMemoryFull, .pressTooLarge, .keyAttr, .keyExhausted, .keyEmpty,
    .orderCounter, .orderSignature, .lifecycle, .tagFail, .compareFail, .parkInvalid, .mediaTagFail, .noHealthyChannel,
    .guardActive, .mediaGone, .writeUnknown, .mediaLocked, .mediaWriteProtected, .faultPermanent, .timeout, .aborted]

/-- The epoch the lead's answer names, kept for the completion it belongs to (01 R22): that of the press a forwarded
press committed, or, of an order, the one current when its result was fixed. A seal of Yehepel code commits no press. -/
def replyEpoch (w : WeltWait) (e : Option Nat) (s : State) : State :=
  match e, w.ref with
  | none, _ => s
  | some e, .order _ => noteEpoch w.ref e s
  | some e, _ => if w.dst == .none then noteEpoch w.ref e s else s

/-- WELT_REPLY: the follower writes the completion of the request forwarded under the sequence `ref`; `epoch` is the
epoch the outcome names (R380). -/
def execWeltReply (fr : Frame) (ref : BitVec 64) (st : BitVec 16) (result bytes : BitVec 32) (out : Bytes) (s : State)
    (epoch : Option Nat := none) : Host.Outcome State Fault Refusal :=
  .next (weltFrame fr (fun s =>
    match s.welt.waits.find? fun w => w.fwd && w.seq == ref.toNat, allStatus.find? fun x => x.code == st.toNat with
    | some w, some x =>
      let s := { s with welt := { s.welt with waits := s.welt.waits.filter fun y => y != w } }
      ackFrame (finish w.ref x bytes.toNat result.toNat (replyEpoch w epoch (writeOut w.ref w.dst out s)))
    | _, _ => ackFrame s) s)

/-- WELT_GRANT (R379): at most one block per slot, for at most 1,024 slots. -/
def execWeltGrant (fr : Frame) (slot : Fin 16384) (first : Nat) (s : State) : Host.Outcome State Fault Refusal :=
  .next (weltFrame fr (fun s =>
    if !s.syncFollower then s
    else if s.welt.grants.any (fun g => g.1 == slot.val) || decide (1024 ≤ s.welt.grants.length) then ackFrame s
    else ackFrame { s with welt := { s.welt with grants := (slot.val, first, 65536) :: s.welt.grants } }) s)

/-! ### Bulk copy (R389) -/

/-- The device receives the copy: a stale follower, or a joining device. -/
def State.copies (s : State) : Bool := (s.welt.role == .follower || s.welt.role == .joining) && s.welt.mode != .sync

/-- WELT_COPY: received, and kept until the copy's end. -/
def execWeltCopy (fr : Frame) (d : CopyData) (s : State) : Host.Outcome State Fault Refusal :=
  .next (weltFrame fr (fun s =>
    if !s.copies then s
    else
      let s := if s.welt.mode == .copying then s
        else modeChanged { s with welt := { s.welt with mode := .copying, copied := [] } }
      ackFrame { s with welt := { s.welt with copied := s.welt.copied ++ d.items } }) s)

/-- WELT_COPY_END: one press writes the received state under the lead's epoch and update counter; the device is a level
follower in SYNC. -/
def execWeltCopyEnd (fr : Frame) (epoch : Nat) (updateCounter : Nat) (s : State) : Host.Outcome State Fault Refusal :=
  .next (weltFrame fr (fun s =>
    if !s.copies || s.welt.mode != .copying || !s.ringOk then s
    else
      let s := mirrorRecord epoch (recordLen []) [] (emptyMirrored s)
      let s := (s.welt.copied ++ [PairItem.updateCounter updateCounter]).foldl (pairItem epoch) s
      let s := modeChanged { s with welt := { s.welt with
        role := .follower, mode := .sync, stale := false, copied := [], grants := [] } }
      ackFrame (sample 270 s)) s)

/-! ### Time, departure -/

/-- WELT_TIME (R385): the disagreement, source 269, begins and ends with the offset against the two uncertainties. -/
def execWeltTime (fr : Frame) (offsetNs : Int) (twinUncNs : Nat) (s : State) : Host.Outcome State Fault Refusal :=
  .next (weltFrame fr (fun s =>
    let bad := decide (s.time.unc + twinUncNs < offsetNs.natAbs)
    let t := { s with welt := { s.welt with timeBad := bad } }
    if bad && !s.welt.timeBad then raiseSample 269 t else sample 269 t) s)

/-- TIME_EXCHANGE (R385): once a second a TIME frame goes to the twin. -/
def execTimeExchange (s : State) : Host.Outcome State Fault Refusal := .next (weltCtl 0x40 s)

/-- WELT_DEPART (R381, R383): a level follower that has every frame up to it is promoted, unless it has declared power
fail itself; a lead whose follower departs enters DETACHED. -/
def execWeltDepart (fr : Frame) (last : Nat) (s : State) : Host.Outcome State Fault Refusal :=
  .next (weltFrame fr (fun s =>
    if s.welt.role == .lead then endLink (leadDetached { s with welt := { s.welt with lease := false } })
    else if !s.syncFollower || !s.power.pwrfailN || s.welt.rxSeq < last then s
    else endLink (promote { s with welt := { s.welt with granted := false } })) s)

end Sys2Proof.Machine
end

