-- ==== Sys2Proof/Machine/Sole.lean ====
section
/-! DEFINITION. Failures of supply and links, and the writes and instruction words that are refused (05 R75, R76, R103,
R104; 06 R119; 13 R283; 17 R372, R382). -/

namespace Sys2Proof.Machine

/-- VBAT_LOSS (R283, R368): without main power the Sole loses its rail. -/
def execVbatLoss (s : State) : Host.Outcome State Fault Refusal :=
  .next (
    let s := { s with power := { s.power with vbat := false } }
    if s.power.st == .battery then
      let s := soleLoss s
      { s with power := { s.power with st := .off } }
    else s)

/-- WELT_LINK_LOSS (R372, R390): no lane is trained, and the link session ends. -/
def execWeltLinkLoss (s : State) : Host.Outcome State Fault Refusal :=
  .next (
    let s := endLink s
    { s with welt := { s.welt with lanes := [] } })

/-- GRANTED_LEASE_EXPIRY (R382): the lease the follower last granted runs out; it is no longer level with a lead that
serves alone from here (R381). -/
def execGrantedLeaseExpiry (s : State) : Host.Outcome State Fault Refusal :=
  .next (
    if s.welt.role == .follower && s.welt.granted then followerStale { s with welt := { s.welt with granted := false } }
    else s)

/-! ### Host-memory failures (R75, R84, R85) -/

/-- The request is one of the order, or of its frame. -/
def Ref.ofOrder (uid : Nat) (r : Ref) : Bool :=
  match r with
  | .order u | .token _ _ u _ => u == uid
  | _ => false

/-- Card reads of an order write no further sector (R75). -/
def dropReads (uid : Nat) (s : State) : State :=
  cardServeAll { s with cards := { s.cards with ch := s.cards.ch.map fun k =>
    { k with queue := k.queue.filter fun q => !(q.kind == .read && q.ref.ofOrder uid) } } }

/-- The outstanding order with this tag is aborted; `left` bytes of its output are written and left in place. A PARK
whose write fails keeps its session and counts no byte (R94; log 177). -/
def dmaOrder (qp : BitVec 8) (tag : BitVec 64) (left : Nat) (s : State) : State :=
  match s.orders.find? fun o => o.qp == qp && o.tag == tag with
  | none => s
  | some o =>
    let n := if o.kind == .park then 0 else left
    let s := logAer (.order tag) s
    match s.frameOf o.uid with
    | some (c, f) => reapCards (dropReads o.uid (cutFrame c f .aborted n s))
    | none =>
      complete o.uid .aborted none 0 n
        (dropReads o.uid (stopCards (.order o.uid) (dropJobs (fun j => j.ref == .order o.uid) s)))

/-- A zero write of the scrub that the decryption of token t of a frame will need fails, after `n` accepted bytes
(09 R205); the error is logged for the order of the frame (R75). -/
def scrubFails (c f t n : Nat) (s : State) : State :=
  let fail (j : Job) : Job := match j.ref with
    | .token c' f' _ t' => if c' == c && f' == f && t' == t then { j with scrubFail := some n } else j
    | _ => j
  let tag := ((s.frame c f).elim 0 fun fr => fr.tag)
  logAer (.order tag) { s with eng := { s.eng with vat := { s.eng.vat with jobs := s.eng.vat.jobs.map fail } } }

/-- HOST_DMA_FAILURE (R75): the order is aborted, the frame traps with WINDOW_DMA, the scrub of a decryption stops
short, the queue pair halts; or the next completion-entry write of the queue pair is one that fails (R84; log 144). -/
def execHostDmaFailure (w : DmaFail) (s : State) : Host.Outcome State Fault Refusal :=
  .next (
    if !s.hostReach then s
    else
      match w with
      | .order qp tag left => dmaOrder qp tag left.toNat s
      | .window c =>
        match s.runningFrame c.val with
        | some (f, fr) => dropReads fr.uid (trap c.val f .windowDma 0 (logAer (.window c.val) s))
        | none => s
      | .scrub c f t n => scrubFails c.val f.val t.toNat n.toNat s
      | .sqFetch qp => if (s.liveQp qp).isSome then haltQp qp 0xFFFFFFFD (logAer (.sqFetch qp) s) else s
      | .cqWrite qp => (s.qp? qp).elim s fun q => setQp { q with cqFails := true } s)

/-- HOST_LINK_RECEIVER_ERROR (R76, R363): a fault of the lane group's channel; a group that retires forces a retrain. -/
def execHostLinkReceiverError (g : Fin 2) (s : State) : Host.Outcome State Fault Refusal :=
  .next (if s.awake && s.chanOk (54 + g.val) then chanOp (54 + g.val) true s else s)

/-! ### Undefined instruction words (R119) -/

/-- Functions of opcode 0x00: two operands, or one with b zero. -/
def aluFn (fn b : Nat) : Bool :=
  [0, 1, 2, 3, 4, 5, 8, 9, 10, 12, 13, 14, 15, 0x10, 0x11, 0x12, 0x13, 0x14, 0x15, 0x18, 0x19, 0x1A, 0x1B, 0x1C, 0x20,
    0x21, 0x22, 0x23, 0x28, 0x29].contains fn || ([0x30, 0x31, 0x32, 0x33].contains fn && b == 0)

/-- Algorithm numbers of the digest functions. -/
def digestNumber (a : Nat) : Bool := [1, 2, 3, 4, 5, 0x11, 0x12, 0x13, 0x14, 0x18, 0x19, 0x1C, 0x1D].contains a

/-- EISS: engine class, function and handle field (07). -/
def eissFn (cls fn h : Nat) : Bool :=
  match cls with
  | 0 => decide (1 ≤ fn ∧ fn ≤ 10) || decide (0x10 ≤ fn ∧ fn ≤ 0x13)
  | 1 =>
    let a := fn % 256
    match fn / 256 with
    | 0 => digestNumber a && a != 0x1C && a != 0x1D && h == 0
    | 1 => digestNumber a
    | 2 | 3 => digestNumber a && h == 0
    | 4 => digestNumber a && decide (a < 0x18)
    | 5 => a == 0x1C || a == 0x1D
    | 6 => a == 0 && h == 0
    | 8 | 9 => decide (a < 12)
    | _ => false
  | 2 =>
    [0x101, 0x110, 0x111, 0x112, 0x113, 0x114, 0x115, 0x200, 0x201, 0x202, 0x210, 0x211, 0x320, 0x321, 0x322, 0x330, 0x331,
      0x332, 0x420, 0x421, 0x422, 0x430, 0x431, 0x432, 0x500, 0x501].contains fn
      || ([0x100, 0x203, 0x310, 0x311, 0x312, 0x410, 0x411, 0x412].contains fn && h == 0)
  | 3 => fn == 1 && h == 0
  | _ => false

/-- The word has a defined opcode and function, zeros in its unused fields, and handle registers below 16 (R118, R119,
R121). -/
def wordDefined (w : BitVec 32) : Bool :=
  let f (hi lo : Nat) : Nat := bits w.toNat hi lo
  let d := f 23 19
  let a := f 18 14
  let b := f 13 9
  let fn := f 8 0
  let imm := f 13 0
  let opd := f 18 0
  match f 31 24 with
  | 0x00 => aluFn fn b
  | 0x01 | 0x02 | 0x03 | 0x04 | 0x08 | 0x09 => true
  | 0x05 | 0x06 | 0x07 => decide (imm < 64)
  | 0x0A => decide (imm < 3) && (a == 0 || imm == 2)
  | 0x0B => decide (imm < 0x2000) && decide (imm % 64 + imm / 64 % 64 + 1 ≤ 64)
  | 0x0C => decide (imm < 0x1000) && decide (imm % 64 + imm / 64 % 64 + 1 ≤ 64)
  | 0x40 | 0x41 | 0x42 | 0x43 | 0x44 | 0x45 | 0x46 | 0x48 | 0x49 | 0x4A | 0x4B => true
  | 0x4C | 0x6D | 0x88 | 0x89 => f 23 0 == 0
  | 0x60 | 0x61 | 0x62 | 0x63 | 0x64 | 0x65 | 0x68 | 0x69 | 0x80 | 0x81 => true
  | 0x6C => decide (opd < 0x10000)
  | 0x82 => decide (d < 16 ∧ fn < 16)
  | 0x83 => decide (d < 16) && opd == 0
  | 0x84 => decide (d < 16 ∧ a < 16) && imm == 0
  | 0x85 => decide (a < 16) && imm == 0
  | 0xA0 => b == 0 && decide (fn < 4)
  | 0xA1 => decide (fn < 4)
  | 0xA2 => fn == 0
  | 0xA3 => decide (a < 16 ∧ fn < 4)
  | 0xA4 => d == 0 && decide (opd < 32)
  | 0xA5 => d == 0 && decide (opd < 4)
  | 0xA8 => decide (a < 16) && fn == 0
  | 0xA9 => decide (a < 16 ∧ fn < 8)
  | 0xAC => d == 0
  | 0xAD => f 20 0 == 1
  | 0xB0 | 0xE0 | 0xE8 => f 16 0 == 1 || f 16 0 == 2
  | 0xC0 => eissFn (f 16 14) imm (f 20 17)
  | 0xC8 => decide (a < 8)
  | 0xC9 => decide (opd < 8)
  | 0xCA => d == 0 && decide (opd < 8)
  | 0xE1 => decide (a < 16) && imm == 0
  | _ => false

/-- ILLEGAL_OPCODE (R119): such a word raises ILLEGAL and has no other effect. A word that R119 does not make illegal is
another row's instruction, and nothing happens. Of a fetch from applet SRAM that the error code finds uncorrectable no
word comes: it traps with MEMORY, whatever the word; a corrected one is counted, and the word is then executed (R126;
log 174). -/
def execIllegalOpcode (c : Fin 9) (w : BitVec 32) (s : State) (ecc : Ecc := .good) : Host.Outcome State Fault Refusal :=
  .next (
    let sup := (s.runningFrame c).elim false fun x => x.2.mode == .s
    match (if sup then .good else ecc) with
    | .good => if wordDefined w then s else runInstr c 1 s fun _ _ => .trap .illegal 0
    | .corrected => runInstr c 1 s fun f fr =>
        let s := chanFault (40 + c) fr.op (setFrame c f (some { fr with retried := true }) s)
        .keep (if wordDefined w then s else trap c f .illegal 0 s)
    | .uncorrectable => runInstr c 1 s fun f fr => .keep (memoryTrap c f fr fr.pc.toNat s))

/-! ### The mailbox's refused writes (R103, R104) -/

/-- Codes of the mailbox commands. -/
def mbKnown (code : Nat) : Bool :=
  [1, 2, 3, 0x10, 0x11, 0x12, 0x13, 0x20, 0x21, 0x30, 0x40, 0x41, 0x50, 0x60].contains code

/-- MB_UNKNOWN_COMMAND: any other code finishes with RESULT 0x01. -/
def execMbUnknownCommand (code : BitVec 16) (s : State) : Host.Outcome State Fault Refusal :=
  .next (
    if !s.mbReach || mbKnown code.toNat then s
    else if s.mb.busy then mbOverrun s
    else
      let s := sample 292 { s with mb := { s.mb with response := [] } }
      if s.rind.guard then mbEnd .guardActive [] s else mbFreeNative 1 s)

/-- MB_CMD_OVERRUN: a write of MB_CMD while BUSY is ignored and sets OVERRUN. -/
def execMbCmdOverrun (_code : BitVec 16) (s : State) : Host.Outcome State Fault Refusal :=
  .next (if s.mbReach && s.mb.busy then mbOverrun s else s)

end Sys2Proof.Machine
end

