-- ==== Sys2Proof/Machine/Time.lean ====
section
/-! DEFINITION. The events of the time base: second boundaries, PPS_OUT and TCODE_OUT, gates, the reference and slews
(13). -/

namespace Sys2Proof.Machine

/-! ### TCODE_OUT (R285) -/

/-- Days before 1 January of year y of the proleptic Gregorian calendar, counted from 1970-01-01. -/
def daysToYear (y : Nat) : Nat := 365 * (y - 1) + (y - 1) / 4 - (y - 1) / 100 + (y - 1) / 400 - 719162

/-- Year of a day counted from 1970-01-01, by 400-year cycles from 1 March of year 0. -/
def yearOf (days : Nat) : Nat :=
  let z := days + 719468
  let d := z % 146097
  let y := (d - d / 1460 + d / 36524 - d / 146096) / 365
  let inYear := d - (365 * y + y / 4 - y / 100)
  y + 400 * (z / 146097) + b2n (decide (306 ≤ inYear))

/-- The n low bits of v, the least significant first. -/
def irigBits (v n : Nat) : List IrigBit := (List.range n).map fun i => if v.testBit i then .one else .zero

/-- Two BCD digits, the tens with n bits: nine positions, as IRIG Standard 200 lays them out. -/
def irigPair (v n : Nat) : List IrigBit :=
  irigBits (v % 10) 4 ++ [.zero] ++ irigBits (v / 10 % 10) n ++ List.replicate (4 - n) .zero

/-- The 100 bits of a B004 frame (R285; log 225): BCD time of year, BCD year, control functions sent as zero, straight
binary seconds, with the position identifiers. -/
def irigFrame (year day h m sec sbs : Nat) : List IrigBit :=
  let z (n : Nat) : List IrigBit := List.replicate n .zero
  let groups : List (List IrigBit) := [(irigPair sec 3).take 8, irigPair m 3, irigPair h 2, irigPair day 4,
    irigBits (day / 100) 2 ++ z 7, irigPair year 4, z 9, z 9, irigBits sbs 9, irigBits (sbs / 512) 8 ++ z 1]
  .marker :: (groups.map fun g => g ++ [.marker]).flatten

/-- The frame of the second that begins: on the TAI scale, or on UTC with an inserted leap second sent as second 60. -/
def TimeBase.frame (t : TimeBase) (utc : Bool) : Tx :=
  let now := t.t / second
  let leap := utc && t.cfg.leap != 0 && t.cfg.next == t.cfg.tai + 1 && now + 1 == t.cfg.leap
  let v := if utc then now - t.taiUtc - b2n leap else now
  let days := v / 86400
  let sod := v % 86400
  .tcode (irigFrame (yearOf days) (days - daysToYear (yearOf days) + 1) (sod / 3600) (sod / 60 % 60)
    (sod % 60 + b2n leap) (sod + b2n leap))

/-! ### Second boundaries -/

/-- PPS_OUT and TCODE_OUT are in use: TIME_SET is 1, the device runs, and no step holds them back (R284, R286). -/
def State.timeOutputs (s : State) : Bool :=
  (s.power.st == .active || s.power.st == .idle || s.power.st == .dormant) && s.time.timeSet
    && decide (s.time.ppsFrom ≤ s.time.t / second)

/-- The outputs of a second boundary. -/
def boundaryOutputs (s : State) : State :=
  if !s.timeOutputs then outputsLow s
  else
    let fl := s.active.timeFlags
    let s := if fl.getLsbD 0 then { s with time := { s.time with pps := true }, tx := s.tx ++ [.pps true] } else s
    let s := { s with time := { s.time with tcode := fl.getLsbD 1 } }
    if fl.getLsbD 1 then { s with tx := s.tx ++ [s.time.frame (fl.getLsbD 2)] } else s

/-- TIME_SECOND_BOUNDARY (R278, R283, R284): T reaches its next whole second; with main power, source 265, the alarm,
the time mark and the outputs follow; a card tuned 60 s before is tuned again (15 R328). -/
def execTimeSecondBoundary (s : State) : Host.Outcome State Fault Refusal :=
  .next (
    let s1 := { s with time := s.time.advance ((s.time.t / second + 1) * second) }
    match s.power.st with
    | .off => s
    | .battery => s1
    | .inReset => s1
    | .dormant => boundaryOutputs (checkAlarm (if s1.time.timeSet then raise 265 s1 else s1))
    | .active | .idle =>
      let s := if s1.time.timeSet then raise 265 s1 else s1
      tuneAll (boundaryOutputs (checkAlarm (markTime s))))

/-- PPS_WIDTH_END (R284): PPS_OUT falls. -/
def execPpsWidthEnd (s : State) : Host.Outcome State Fault Refusal :=
  .next (if s.time.pps then { s with time := { s.time with pps := false }, tx := s.tx ++ [.pps false] } else s)

/-! ### Gates (R279, R280, R282) -/

/-- The bin of a die temperature; the end bins take what lies beyond them. -/
def binOf (tempC : Int) : Nat := min 14 ((tempC + 40) / 10).toNat

/-- Bin i is valid once it holds 64 offsets. -/
def Bin.valid (b : Bin) : Bool := decide (64 ≤ b.length)

def Bin.spread (b : Bin) : Nat := (b.foldl max (b.headD 0) - b.foldl min (b.headD 0)).toNat + 100

/-- Growth rate of a bin at a confirmation, ns per second (R282). -/
def Bin.rate (b : Bin) : Nat := if b.valid then min (b.spread + 2000) 50000 else 50000

/-- The offset agrees with the mean of the bin within 1 ppm; with an empty bin it does not. -/
def Bin.agrees (b : Bin) (o : Int) : Bool :=
  !b.isEmpty && decide ((o * b.length - b.sum).natAbs ≤ 1000 * b.length)

/-- REFOSC_IN qualifies at the end of a gate with crystal offset o (R279, R282). -/
def TimeBase.qualify (t : TimeBase) (o : Int) : TimeBase :=
  let base := max t.aHold t.aTm
  if (vget t.bins t.bin []).agrees o then
    let grown := (t.binLog.map fun x => x.2 * (vget t.bins x.1 []).rate).sum
    { t with
      qualified := true, gates := 10, confirmed := true
      a := if base ≤ t.a then base + min grown (t.a - base) else t.a
      tokens := t.tokens.map fun e => { e with a := min e.a base } }
  else { t with qualified := true, gates := 10, confirmed := false, bins := Vector.replicate 15 [] }

/-- A gate ends with main power (R279, R280): a qualified reference files the crystal's offset or is lost; an
unqualified one counts the gate, or starts its count afresh. -/
def TimeBase.gate (t : TimeBase) (refPpb xtalPpb : Int) : TimeBase :=
  let near := t.prevGate.elim false fun p => decide ((refPpb - p).natAbs ≤ 1000)
  let t1 := { t with prevGate := some refPpb }
  if t.qualified then
    if near then { t1 with bins := vset t.bins t.bin ((xtalPpb :: vget t.bins t.bin []).take 64) } else t1.lose
  else if t.refTripped then { t1 with gates := 0 }
  else if near && decide (refPpb.natAbs ≤ 100000) then
    if t.gates ≥ 9 then t1.qualify xtalPpb else { t1 with gates := t.gates + 1 }
  else { t1 with gates := 0 }

/-- GATE_END. Without main power a gate only tells the Sole its temperature bin. With it, a die temperature that has moved
by more than 10 °C since a card was tuned has that card tuned again (15 R328). -/
def execGateEnd (refPpb xtalPpb tempC : Int) (s : State) : Host.Outcome State Fault Refusal :=
  .next (
    let t := { s.time with bin := binOf tempC }
    match s.power.st with
    | .off => s
    | .battery => { s with time := t }
    | _ => tuneAll (quietTime { s with time := t.gate refPpb xtalPpb, cards := { s.cards with dieC := tempC } }))

/-- REFOSC_LOSS (R279): no edge arrived for 1 µs. -/
def execRefoscLoss (s : State) : Host.Outcome State Fault Refusal :=
  .next (match s.power.st with
    | .off => s
    | _ => quietTime { s with time := s.time.lose })

/-- BIN_TABLE_PRESS (R280): the bin table is pressed into the time record. -/
def execBinTablePress (s : State) : Host.Outcome State Fault Refusal :=
  .next (if s.awake then pressOwn [.bins] s else s)

/-- SLEW_END (R290): T reaches the point of its current second at which R is zero. A slew that lasts beyond the second
has not ended. -/
def execSlewEnd (s : State) : Host.Outcome State Fault Refusal :=
  .next (
    let t := s.time
    let c := t.r.natAbs / 1000000000
    let di := c * 1000000 / t.rate
    let dest := if t.r < 0 then t.t + (di - c) else t.t + (di + c)
    if s.power.st == .off || t.r == 0 || t.rate == 0 || decide (dest / second ≠ t.t / second) then s
    else
      let u := t.advance dest
      { s with time := { u with r := 0, slewTotal := u.slewTotal + u.r } })

end Sys2Proof.Machine
end

