-- ==== Sys2Proof/Machine/Token.lean ====
section
/-! DEFINITION. Tokens: TWAIT, its wait limit, TPOLL and TDROP (07 R136, R137). -/

namespace Sys2Proof.Machine

/-- TWAIT (R136): a done token is collected; a busy one is waited for, and the core may switch frames (R116). -/
def execTwait (c : Fin 9) (d b : BitVec 5) (t : BitVec 3) (limit : BitVec 9) (s : State) :
    Host.Outcome State Fault Refusal :=
  .next (runInstr c 1 s fun _ fr =>
    match fr.tok t with
    | .empty => .trap .illegal 0
    | .done st count v => .ok (fr.collect t d b st count v) s id
    | .busy => .ok { fr with wait := some (t, d, b), waitLimit := limit, waitClose := false } s (yieldCore c))

/-- WAIT_LIMIT (R136): the limit of a TWAIT that has one is reached. Granted, it ends the wait with TIMEOUT and the
token stays busy; a token granted within the guard is delivered as OK_CLOSE_CALL (log 8). -/
def execWaitLimit (c : Fin 9) (f : Fin 4) (wins : Bool) (s : State) : Host.Outcome State Fault Refusal :=
  .next (match s.frame c f with
    | none => s
    | some fr =>
      match fr.wait with
      | none => s
      | some (_, d, b) =>
        if !s.awake || fr.waitLimit == 0 then s
        else if wins then
          let fr := (fr.setReg d (tokWord .timeout 0)).setReg b 0
          schedule c (setFrame c f (some { fr with wait := none, waitClose := false }) s)
        else setFrame c f (some { fr with waitClose := true, waitLimit := 0 }) s)

/-- TPOLL: 0 for empty, 1 for busy, 2 for done. -/
def execTpoll (c : Fin 9) (d : BitVec 5) (t : BitVec 3) (s : State) : Host.Outcome State Fault Refusal :=
  .next (runInstr c 1 s fun _ fr =>
    .wr fr d (match fr.tok t with
      | .empty => 0
      | .busy => 1
      | .done _ _ _ => 2) s)

/-- The request of one token is asked to stop: an engine job at its next boundary, a card request at its next sector
boundary (R137, R339, R343). Presses and seals are not touched. -/
def stopToken (r : Ref) (s : State) : State :=
  let s := { s with cards := { s.cards with ch := s.cards.ch.map fun k =>
    { k with queue := k.queue.map fun q => if q.ref == r then { q with stop := true } else q } } }
  stopJobs (fun j => j.ref == r) (reapCards s)

/-- TDROP (R137): no effect on an empty or done token. -/
def execTdrop (c : Fin 9) (t : BitVec 3) (s : State) : Host.Outcome State Fault Refusal :=
  .next (runInstr c 1 s fun f fr =>
    .ok fr s (if (fr.tok t).isBusy then stopToken (tokRef c f fr t) else id))

end Sys2Proof.Machine
end

