-- ==== Sys2Proof/Machine/Dispatch.lean ====
section
/-! DEFINITION. One arm per command: a direct call of its meaning. -/

namespace Sys2Proof.Machine

open Host

def exec (i : Instr) (s : State) : Host.Outcome State Fault Refusal :=
  match i with
  | .resetNRelease f => Sys2Proof.Machine.execResetNRelease f s
  | .retirementWipe => Sys2Proof.Machine.execRetirementWipe s
  | .resetNAssert logWrite => Sys2Proof.Machine.execResetNAssert s logWrite
  | .powerUp => Sys2Proof.Machine.execPowerUp s
  | .powerFail saveEnds logWrite => Sys2Proof.Machine.execPowerFail saveEnds s logWrite
  | .vholdLow => Sys2Proof.Machine.execVholdLow s
  | .hostLinkReset cfg => Sys2Proof.Machine.execHostLinkReset s cfg
  | .domainPowerOff d => Sys2Proof.Machine.execDomainPowerOff d s
  | .pwCtlReqWrite req => Sys2Proof.Machine.execPwCtlReqWrite req s
  | .holdWarmWrite on => Sys2Proof.Machine.execHoldWarmWrite on s
  | .dormantEntry exitTrigger => Sys2Proof.Machine.execDormantEntry exitTrigger s
  | .dormantExit katFail byWake => Sys2Proof.Machine.execDormantExit katFail s byWake
  | .d3hotEntry pmeEn => Sys2Proof.Machine.execD3hotEntry pmeEn s
  | .l1Entry => Sys2Proof.Machine.execL1Entry s
  | .d0Return => Sys2Proof.Machine.execD0Return s
  | .pmeStatusClear => Sys2Proof.Machine.execPmeStatusClear s
  | .pmeResend => Sys2Proof.Machine.execPmeResend s
  | .msixUnmask v control => Sys2Proof.Machine.execMsixUnmask v s control
  | .registerWrite off v be => Sys2Proof.Machine.execRegisterWrite off v be s
  | .hlEpochLoRead => Sys2Proof.Machine.execHlEpochLoRead s
  | .tmFracLoRead => Sys2Proof.Machine.execTmFracLoRead s
  | .queueCreate qp cls => Sys2Proof.Machine.execQueueCreate qp cls s
  | .queueDelete qp => Sys2Proof.Machine.execQueueDelete qp s
  | .qcmdNoAction op3 qp => Sys2Proof.Machine.execQcmdNoAction op3 qp s
  | .sqTailDoorbell qp index wr => Sys2Proof.Machine.execSqTailDoorbell qp index wr s
  | .cqHeadDoorbell qp index => Sys2Proof.Machine.execCqHeadDoorbell qp index s
  | .orderFetch qp packet => Sys2Proof.Machine.execOrderFetch qp s packet
  | .extensionTimeout qp => Sys2Proof.Machine.execExtensionTimeout qp s
  | .admissionDeadline qp tag wins => Sys2Proof.Machine.execAdmissionDeadline qp tag wins s
  | .call qp core fault => Sys2Proof.Machine.execCall qp core s fault
  | .run qp core => Sys2Proof.Machine.execRun qp core s
  | .sector qp => Sys2Proof.Machine.execSector qp s
  | .seal qp faults => Sys2Proof.Machine.execSeal qp faults s
  | .openSession qp => Sys2Proof.Machine.execOpenSession qp s
  | .closeSession qp => Sys2Proof.Machine.execCloseSession qp s
  | .park qp faults vfaults => Sys2Proof.Machine.execPark qp s faults vfaults
  | .unpark qp faults vfaults => Sys2Proof.Machine.execUnpark qp s faults vfaults
  | .status qp => Sys2Proof.Machine.execStatus qp s
  | .getCert qp ecc => Sys2Proof.Machine.execGetCert qp s ecc
  | .getRetirement qp ecc => Sys2Proof.Machine.execGetRetirement qp s ecc
  | .abort qp => Sys2Proof.Machine.execAbort qp s
  | .timeToken qp => Sys2Proof.Machine.execTimeToken qp s
  | .bookReadHead qp => Sys2Proof.Machine.execBookReadHead qp s
  | .bookReadWheel qp ecc => Sys2Proof.Machine.execBookReadWheel qp s ecc
  | .bookReadGap qp ecc => Sys2Proof.Machine.execBookReadGap qp s ecc
  | .bookReadCheck qp faults => Sys2Proof.Machine.execBookReadCheck qp s faults
  | .personalise qp => Sys2Proof.Machine.execPersonalise qp s
  | .certInstall qp => Sys2Proof.Machine.execCertInstall qp s
  | .officerSet qp => Sys2Proof.Machine.execOfficerSet qp s
  | .lcChange qp => Sys2Proof.Machine.execLcChange qp s
  | .debugPermit qp => Sys2Proof.Machine.execDebugPermit qp s
  | .lastSelect qp => Sys2Proof.Machine.execLastSelect qp s
  | .lastInstall qp => Sys2Proof.Machine.execLastInstall qp s
  | .keyWrite qp => Sys2Proof.Machine.execKeyWrite qp s
  | .keyDelete qp => Sys2Proof.Machine.execKeyDelete qp s
  | .keyGenerate qp => Sys2Proof.Machine.execKeyGenerate qp s
  | .keyRestrict qp => Sys2Proof.Machine.execKeyRestrict qp s
  | .keyExport qp => Sys2Proof.Machine.execKeyExport qp s
  | .keyReport qp => Sys2Proof.Machine.execKeyReport qp s
  | .timeConfig qp => Sys2Proof.Machine.execTimeConfig qp s
  | .timeSlew qp => Sys2Proof.Machine.execTimeSlew qp s
  | .timeStep qp => Sys2Proof.Machine.execTimeStep qp s
  | .bookOpen qp => Sys2Proof.Machine.execBookOpen qp s
  | .bookConfig qp => Sys2Proof.Machine.execBookConfig qp s
  | .bookClose qp => Sys2Proof.Machine.execBookClose qp s
  | .appletInstall qp => Sys2Proof.Machine.execAppletInstall qp s
  | .appletRemove qp => Sys2Proof.Machine.execAppletRemove qp s
  | .weltPair qp => Sys2Proof.Machine.execWeltPair qp s
  | .weltUnpair qp => Sys2Proof.Machine.execWeltUnpair qp s
  | .weltMode qp => Sys2Proof.Machine.execWeltMode qp s
  | .weltHandover qp => Sys2Proof.Machine.execWeltHandover qp s
  | .weltTakeover qp => Sys2Proof.Machine.execWeltTakeover qp s
  | .cardErase qp => Sys2Proof.Machine.execCardErase qp s
  | .mbEcho req => Sys2Proof.Machine.execMbEcho req s
  | .mbGetStatus req => Sys2Proof.Machine.execMbGetStatus req s
  | .mbRandom req => Sys2Proof.Machine.execMbRandom req s
  | .mbTdeaCbcDec req => Sys2Proof.Machine.execMbTdeaCbcDec req s
  | .mbTdeaCbcEnc req => Sys2Proof.Machine.execMbTdeaCbcEnc req s
  | .mbTdeaMacGen req => Sys2Proof.Machine.execMbTdeaMacGen req s
  | .mbTdeaMacVer req => Sys2Proof.Machine.execMbTdeaMacVer req s
  | .aesCbcDec req => Sys2Proof.Machine.execAesCbcDec req s
  | .aesCbcEnc req => Sys2Proof.Machine.execAesCbcEnc req s
  | .mbSha256 req => Sys2Proof.Machine.execMbSha256 req s
  | .rsaSign req => Sys2Proof.Machine.execRsaSign req s
  | .rsaVerify req => Sys2Proof.Machine.execRsaVerify req s
  | .blobFlush req => Sys2Proof.Machine.execBlobFlush req s
  | .mbGetTime req => Sys2Proof.Machine.execMbGetTime req s
  | .evSrcWrite n v host => Sys2Proof.Machine.execEvSrcWrite n v s host
  | .evGrpWrite g v => Sys2Proof.Machine.execEvGrpWrite g v s
  | .evClaim host => Sys2Proof.Machine.execEvClaim host s
  | .evVclaim v => Sys2Proof.Machine.execEvVclaim v s
  | .evComplete host v => Sys2Proof.Machine.execEvComplete host v s
  | .evGdisWrite host v => Sys2Proof.Machine.execEvGdisWrite host v s
  | .evRing v => Sys2Proof.Machine.execEvRing v s
  | .groupTimerExpiry g => Sys2Proof.Machine.execGroupTimerExpiry g s
  | .logIndexWrite rindLog v => Sys2Proof.Machine.execLogIndexWrite rindLog v s
  | .vatSegmentEnd core fault => Sys2Proof.Machine.execVatSegmentEnd core fault s
  | .digestSegmentEnd core fault => Sys2Proof.Machine.execDigestSegmentEnd core fault s
  | .compareUnitDone unit => Sys2Proof.Machine.execCompareUnitDone unit s
  | .laneJobEnd lane fault => Sys2Proof.Machine.execLaneJobEnd lane fault s
  | .laneYieldPoint lane => Sys2Proof.Machine.execLaneYieldPoint lane s
  | .pressCommit how => Sys2Proof.Machine.execPressCommit s how
  | .pressApply => Sys2Proof.Machine.execPressApply s
  | .brineCheckpoint bad => Sys2Proof.Machine.execBrineCheckpoint bad s
  | .cellarScrub row found => Sys2Proof.Machine.execCellarScrub row found s
  | .drbgReseed => Sys2Proof.Machine.execDrbgReseed s
  | .drbgSeedReady => Sys2Proof.Machine.execDrbgSeedReady s
  | .noiseSourceFail n => Sys2Proof.Machine.execNoiseSourceFail n s
  | .timeSecondBoundary => Sys2Proof.Machine.execTimeSecondBoundary s
  | .ppsWidthEnd => Sys2Proof.Machine.execPpsWidthEnd s
  | .gateEnd refPpb xtalPpb tempC => Sys2Proof.Machine.execGateEnd refPpb xtalPpb tempC s
  | .refoscLoss => Sys2Proof.Machine.execRefoscLoss s
  | .binTablePress => Sys2Proof.Machine.execBinTablePress s
  | .slewEnd => Sys2Proof.Machine.execSlewEnd s
  | .rindTrip cls detail logWrite => Sys2Proof.Machine.execRindTrip cls detail s logWrite
  | .guardWipeDone => Sys2Proof.Machine.execGuardWipeDone s
  | .rindClassRecover cls => Sys2Proof.Machine.execRindClassRecover cls s
  | .cardPresent ch => Sys2Proof.Machine.execCardPresent ch s
  | .cardRemoved ch busy => Sys2Proof.Machine.execCardRemoved ch busy s
  | .cardTabChange set => Sys2Proof.Machine.execCardTabChange set s
  | .cardResponse ch r => Sys2Proof.Machine.execCardResponse ch r s
  | .cardTimeout ch wins wait => Sys2Proof.Machine.execCardTimeout ch wins s wait
  | .cardTuning ch longestRun first => Sys2Proof.Machine.execCardTuning ch longestRun s first
  | .weltLaneTrained lane => Sys2Proof.Machine.execWeltLaneTrained lane s
  | .weltHello h => Sys2Proof.Machine.execWeltHello h s
  | .weltLease fr => Sys2Proof.Machine.execWeltLease fr s
  | .weltAck fr acked epoch => Sys2Proof.Machine.execWeltAck fr acked epoch s
  | .weltNak fr seq => Sys2Proof.Machine.execWeltNak fr seq s
  | .weltPress fr p => Sys2Proof.Machine.execWeltPress fr p s
  | .weltBrine fr us => Sys2Proof.Machine.execWeltBrine fr us s
  | .weltForward fr ref req => Sys2Proof.Machine.execWeltForward fr ref req s
  | .weltReply fr ref st result bytes out epoch => Sys2Proof.Machine.execWeltReply fr ref st result bytes out s epoch
  | .weltGrant fr slot first => Sys2Proof.Machine.execWeltGrant fr slot first s
  | .weltCopy fr d => Sys2Proof.Machine.execWeltCopy fr d s
  | .weltCopyEnd fr epoch updateCounter => Sys2Proof.Machine.execWeltCopyEnd fr epoch updateCounter s
  | .weltTime fr offsetNs twinUncNs => Sys2Proof.Machine.execWeltTime fr offsetNs twinUncNs s
  | .weltDepart fr last => Sys2Proof.Machine.execWeltDepart fr last s
  | .weltAckTimeout wins => Sys2Proof.Machine.execWeltAckTimeout wins s
  | .leaseExpiry wins => Sys2Proof.Machine.execLeaseExpiry wins s
  | .leaseRenewal => Sys2Proof.Machine.execLeaseRenewal s
  | .timeExchange => Sys2Proof.Machine.execTimeExchange s
  | .setPointer v => Sys2Proof.Machine.execSetPointer v s
  | .readBlock => Sys2Proof.Machine.execReadBlock s
  | .readSummary => Sys2Proof.Machine.execReadSummary s
  | .identity => Sys2Proof.Machine.execIdentity s
  | .alertResponseAddress => Sys2Proof.Machine.execAlertResponseAddress s
  | .smbusTimeout => Sys2Proof.Machine.execSmbusTimeout s
  | .select t => Sys2Proof.Machine.execSelect t s
  | .halt => Sys2Proof.Machine.execHalt s
  | .resume => Sys2Proof.Machine.execResume s
  | .step => Sys2Proof.Machine.execStep s
  | .setAddr a => Sys2Proof.Machine.execSetAddr a s
  | .readMem => Sys2Proof.Machine.execReadMem s
  | .readReg r => Sys2Proof.Machine.execReadReg r s
  | .dbgStatus => Sys2Proof.Machine.execDbgStatus s
  | .add c d a b => Sys2Proof.Machine.execAdd c d a b s
  | .sub c d a b => Sys2Proof.Machine.execSub c d a b s
  | .addv c d a b => Sys2Proof.Machine.execAddv c d a b s
  | .subv c d a b => Sys2Proof.Machine.execSubv c d a b s
  | .cry c d a b => Sys2Proof.Machine.execCry c d a b s
  | .brw c d a b => Sys2Proof.Machine.execBrw c d a b s
  | .mul c d a b => Sys2Proof.Machine.execMul c d a b s
  | .mulhu c d a b => Sys2Proof.Machine.execMulhu c d a b s
  | .mulhs c d a b => Sys2Proof.Machine.execMulhs c d a b s
  | .divu c d a b => Sys2Proof.Machine.execDivu c d a b s
  | .divs c d a b => Sys2Proof.Machine.execDivs c d a b s
  | .remu c d a b => Sys2Proof.Machine.execRemu c d a b s
  | .rems c d a b => Sys2Proof.Machine.execRems c d a b s
  | .and c d a b => Sys2Proof.Machine.execAnd c d a b s
  | .or c d a b => Sys2Proof.Machine.execOr c d a b s
  | .xor c d a b => Sys2Proof.Machine.execXor c d a b s
  | .andn c d a b => Sys2Proof.Machine.execAndn c d a b s
  | .orn c d a b => Sys2Proof.Machine.execOrn c d a b s
  | .xnor c d a b => Sys2Proof.Machine.execXnor c d a b s
  | .sll c d a b => Sys2Proof.Machine.execSll c d a b s
  | .srl c d a b => Sys2Proof.Machine.execSrl c d a b s
  | .sra c d a b => Sys2Proof.Machine.execSra c d a b s
  | .rol c d a b => Sys2Proof.Machine.execRol c d a b s
  | .ror c d a b => Sys2Proof.Machine.execRor c d a b s
  | .seq c d a b => Sys2Proof.Machine.execSeq c d a b s
  | .sne c d a b => Sys2Proof.Machine.execSne c d a b s
  | .slt c d a b => Sys2Proof.Machine.execSlt c d a b s
  | .sltu c d a b => Sys2Proof.Machine.execSltu c d a b s
  | .movnz c d a b => Sys2Proof.Machine.execMovnz c d a b s
  | .movz c d a b => Sys2Proof.Machine.execMovz c d a b s
  | .clz c d a => Sys2Proof.Machine.execClz c d a s
  | .ctz c d a => Sys2Proof.Machine.execCtz c d a s
  | .popc c d a => Sys2Proof.Machine.execPopc c d a s
  | .bswap c d a => Sys2Proof.Machine.execBswap c d a s
  | .addi c d a imm => Sys2Proof.Machine.execAddi c d a imm s
  | .andi c d a imm => Sys2Proof.Machine.execAndi c d a imm s
  | .ori c d a imm => Sys2Proof.Machine.execOri c d a imm s
  | .xori c d a imm => Sys2Proof.Machine.execXori c d a imm s
  | .slli c d a sh => Sys2Proof.Machine.execSlli c d a sh s
  | .srli c d a sh => Sys2Proof.Machine.execSrli c d a sh s
  | .srai c d a sh => Sys2Proof.Machine.execSrai c d a sh s
  | .slti c d a imm => Sys2Proof.Machine.execSlti c d a imm s
  | .sltiu c d a imm => Sys2Proof.Machine.execSltiu c d a imm s
  | .liw c d a mode lit => Sys2Proof.Machine.execLiw c d a mode lit s
  | .bfx c d a lo w sx => Sys2Proof.Machine.execBfx c d a lo w sx s
  | .bfi c d a lo w => Sys2Proof.Machine.execBfi c d a lo w s
  | .ld c d a imm ecc => Sys2Proof.Machine.execLd c d a imm s ecc
  | .lw c d a imm ecc => Sys2Proof.Machine.execLw c d a imm s ecc
  | .lwu c d a imm ecc => Sys2Proof.Machine.execLwu c d a imm s ecc
  | .lh c d a imm ecc => Sys2Proof.Machine.execLh c d a imm s ecc
  | .lhu c d a imm ecc => Sys2Proof.Machine.execLhu c d a imm s ecc
  | .lb c d a imm ecc => Sys2Proof.Machine.execLb c d a imm s ecc
  | .lbu c d a imm ecc => Sys2Proof.Machine.execLbu c d a imm s ecc
  | .sd c d a imm ecc => Sys2Proof.Machine.execSd c d a imm s ecc
  | .sw c d a imm ecc => Sys2Proof.Machine.execSw c d a imm s ecc
  | .sh c d a imm ecc => Sys2Proof.Machine.execSh c d a imm s ecc
  | .sb c d a imm ecc => Sys2Proof.Machine.execSb c d a imm s ecc
  | .mfence c => Sys2Proof.Machine.execMfence c s
  | .beq c a b off => Sys2Proof.Machine.execBeq c a b off s
  | .bne c a b off => Sys2Proof.Machine.execBne c a b off s
  | .blt c a b off => Sys2Proof.Machine.execBlt c a b off s
  | .bge c a b off => Sys2Proof.Machine.execBge c a b off s
  | .bltu c a b off => Sys2Proof.Machine.execBltu c a b off s
  | .bgeu c a b off => Sys2Proof.Machine.execBgeu c a b off s
  | .jal c d off => Sys2Proof.Machine.execJal c d off s
  | .jalr c d a imm => Sys2Proof.Machine.execJalr c d a imm s
  | .exit c d st => Sys2Proof.Machine.execExit c d st s
  | .breakI c => Sys2Proof.Machine.execBreakI c s
  | .swr c d n => Sys2Proof.Machine.execSwr c d n s
  | .sww c d n => Sys2Proof.Machine.execSww c d n s
  | .prPartClear c d p => Sys2Proof.Machine.execPrPartClear c d p s
  | .prPartProtect c d p => Sys2Proof.Machine.execPrPartProtect c d p s
  | .tmAlarmWrite c d => Sys2Proof.Machine.execTmAlarmWrite c d s
  | .hbind c d a b ty => Sys2Proof.Machine.execHbind c d a b ty s
  | .hclr c d => Sys2Proof.Machine.execHclr c d s
  | .hmov c d a => Sys2Proof.Machine.execHmov c d a s
  | .htype c d a => Sys2Proof.Machine.execHtype c d a s
  | .tret c => Sys2Proof.Machine.execTret c s
  | .waiti c => Sys2Proof.Machine.execWaiti c s
  | .runLimit c fr wins => Sys2Proof.Machine.execRunLimit c fr wins s
  | .propen c d a p => Sys2Proof.Machine.execPropen c d a p s
  | .prwrite c d a b p => Sys2Proof.Machine.execPrwrite c d a b p s
  | .prread c d a b ecc => Sys2Proof.Machine.execPrread c d a b s ecc
  | .prcond c d a b p => Sys2Proof.Machine.execPrcond c d a b p s
  | .prcommit c t p => Sys2Proof.Machine.execPrcommit c t p s
  | .prabandon c p => Sys2Proof.Machine.execPrabandon c p s
  | .ctrrd c d a b => Sys2Proof.Machine.execCtrrd c d a b s
  | .ctradd c d a b inPress p => Sys2Proof.Machine.execCtradd c d a b inPress p s
  | .tmstamp c a imm => Sys2Proof.Machine.execTmstamp c a imm s
  | .tmtoken c t => Sys2Proof.Machine.execTmtoken c t s
  | .bkissSeal c t h faults => Sys2Proof.Machine.execBkissSeal c t h faults s
  | .bkissHead c t h => Sys2Proof.Machine.execBkissHead c t h s
  | .gcmEnc c t h => Sys2Proof.Machine.execGcmEnc c t h s
  | .gcmDec c t h => Sys2Proof.Machine.execGcmDec c t h s
  | .ctrEnc c t h => Sys2Proof.Machine.execCtrEnc c t h s
  | .ctrDec c t h => Sys2Proof.Machine.execCtrDec c t h s
  | .cbcEnc c t h => Sys2Proof.Machine.execCbcEnc c t h s
  | .cbcDec c t h => Sys2Proof.Machine.execCbcDec c t h s
  | .cmacGen c t h => Sys2Proof.Machine.execCmacGen c t h s
  | .cmacVer c t h => Sys2Proof.Machine.execCmacVer c t h s
  | .xtsEnc c t h => Sys2Proof.Machine.execXtsEnc c t h s
  | .xtsDec c t h => Sys2Proof.Machine.execXtsDec c t h s
  | .tdeaCbcDec c t h => Sys2Proof.Machine.execTdeaCbcDec c t h s
  | .tdeaCbcEnc c t h => Sys2Proof.Machine.execTdeaCbcEnc c t h s
  | .tdeaMacGen c t h => Sys2Proof.Machine.execTdeaMacGen c t h s
  | .tdeaMacVer c t h => Sys2Proof.Machine.execTdeaMacVer c t h s
  | .hash c t alg => Sys2Proof.Machine.execHash c t alg s
  | .start c t h keyed alg => Sys2Proof.Machine.execStart c t h keyed alg s
  | .update c t alg => Sys2Proof.Machine.execUpdate c t alg s
  | .finish c t alg => Sys2Proof.Machine.execFinish c t alg s
  | .hmac c t h alg => Sys2Proof.Machine.execHmac c t h alg s
  | .kmac c t h alg => Sys2Proof.Machine.execKmac c t h alg s
  | .compare c t => Sys2Proof.Machine.execCompare c t s
  | .slhSign c t h set => Sys2Proof.Machine.execSlhSign c t h set s
  | .slhVerify c t h set => Sys2Proof.Machine.execSlhVerify c t h set s
  | .modexp c t => Sys2Proof.Machine.execModexp c t s
  | .rsaPrivate c t h => Sys2Proof.Machine.execRsaPrivate c t h s
  | .rsaPssSign c t h => Sys2Proof.Machine.execRsaPssSign c t h s
  | .rsaPssVerify c t h => Sys2Proof.Machine.execRsaPssVerify c t h s
  | .rsaPkcs1Sign c t h => Sys2Proof.Machine.execRsaPkcs1Sign c t h s
  | .rsaPkcs1Verify c t h => Sys2Proof.Machine.execRsaPkcs1Verify c t h s
  | .rsaOaepEnc c t h => Sys2Proof.Machine.execRsaOaepEnc c t h s
  | .rsaOaepDec c t h => Sys2Proof.Machine.execRsaOaepDec c t h s
  | .ecdsaSign c t h => Sys2Proof.Machine.execEcdsaSign c t h s
  | .ecdsaVerify c t h => Sys2Proof.Machine.execEcdsaVerify c t h s
  | .ecdh c t h => Sys2Proof.Machine.execEcdh c t h s
  | .ecKeygen c t => Sys2Proof.Machine.execEcKeygen c t s
  | .ed25519Sign c t h => Sys2Proof.Machine.execEd25519Sign c t h s
  | .ed25519Verify c t h => Sys2Proof.Machine.execEd25519Verify c t h s
  | .mlkemKeygen c t ps => Sys2Proof.Machine.execMlkemKeygen c t ps s
  | .mlkemEncaps c t h ps => Sys2Proof.Machine.execMlkemEncaps c t h ps s
  | .mlkemDecaps c t h ps => Sys2Proof.Machine.execMlkemDecaps c t h ps s
  | .mldsaKeygen c t ps => Sys2Proof.Machine.execMldsaKeygen c t ps s
  | .mldsaSign c t h ps => Sys2Proof.Machine.execMldsaSign c t h ps s
  | .mldsaVerify c t h ps => Sys2Proof.Machine.execMldsaVerify c t h ps s
  | .hybridSign c t h => Sys2Proof.Machine.execHybridSign c t h s
  | .hybridVerify c t h => Sys2Proof.Machine.execHybridVerify c t h s
  | .random c t => Sys2Proof.Machine.execRandom c t s
  | .twait c d b t limit => Sys2Proof.Machine.execTwait c d b t limit s
  | .waitLimit c fr wins => Sys2Proof.Machine.execWaitLimit c fr wins s
  | .tpoll c d t => Sys2Proof.Machine.execTpoll c d t s
  | .tdrop c t => Sys2Proof.Machine.execTdrop c t s
  | .cvissRead c t h => Sys2Proof.Machine.execCvissRead c t h s
  | .cvissWrite c t h => Sys2Proof.Machine.execCvissWrite c t h s
  | .ccstat c d a => Sys2Proof.Machine.execCcstat c d a s
  | .wcpyFromWindow c t h => Sys2Proof.Machine.execWcpyFromWindow c t h s
  | .wcpyToWindow c t h => Sys2Proof.Machine.execWcpyToWindow c t h s
  | .vbatLoss => Sys2Proof.Machine.execVbatLoss s
  | .weltLinkLoss => Sys2Proof.Machine.execWeltLinkLoss s
  | .grantedLeaseExpiry => Sys2Proof.Machine.execGrantedLeaseExpiry s
  | .hostDmaFailure w => Sys2Proof.Machine.execHostDmaFailure w s
  | .hostLinkReceiverError g => Sys2Proof.Machine.execHostLinkReceiverError g s
  | .illegalOpcode c w ecc => Sys2Proof.Machine.execIllegalOpcode c w s ecc
  | .mbUnknownCommand code => Sys2Proof.Machine.execMbUnknownCommand code s
  | .mbCmdOverrun code => Sys2Proof.Machine.execMbCmdOverrun code s
  | .hlQcmdWhileBusy v => Sys2Proof.Machine.execHlQcmdWhileBusy v s

end Sys2Proof.Machine
end

