-- ==== Sys2Proof/Machine/Stored.lean ====
section
/-! DEFINITION. The bytes the Cellar holds for what State keeps opened: wrapped slot records (08 R161), encrypted groups
(12 R251) and the trailers of two-copy records (12 R257). -/

namespace Sys2Proof.Machine

/-! ### Slot records (08, The slot record) -/

/-- The wrapping key of record i of a slot: of the record's number, and of the boot nonce under EXPIRE_AT_RESET. -/
def slotWrapKey (s : State) (k : Slot) (i : Nat) : Bytes :=
  let root := domainRoot s k.origin "SLOT"
  match k.nonce with
  | some n => kdf root (ascii "SLOT-BOOT" ++ [0] ++ le i 4 ++ n)
  | none => objectKey root "SLOT-WRAP" i

/-- The position field: the span in the head, the offset from the head in a continuation. -/
def slotPosition (k : Slot) (i : Nat) : Nat := if i = k.n then k.span else i - k.n

/-- Bytes 64 to 223 of record i: its 160 bytes of the padded material under AES-256-CTR. -/
def slotWrapped (s : State) (k : Slot) (i : Nat) : Bytes :=
  fit (Config.aesCtr (slotWrapKey s k i) (be k.gen 4 ++ be (slotPosition k i) 2 ++ zeros 6 ++ be 0 4)
    (fit (sl k.material (160 * (i - k.n)) 160) 160)) 160

/-- Bytes 0 to 239 of record i of a slot. -/
def slotBody (s : State) (k : Slot) (i : Nat) : Bytes :=
  let head := i == k.n
  le k.attr.toNat 8 ++ le k.init 4 ++ le (slotPosition k i) 2 ++ le (if head then 1 else 2) 1 ++ le k.origin.code 1
    ++ le k.gen 4 ++ le (if head then k.fixed.toNat else 0) 4 ++ le k.owner.toNat 8 ++ fit (k.nonce.getD []) 16
    ++ le k.installEpoch 8 ++ le (if head then k.material.length else 0) 2 ++ zeros 6 ++ slotWrapped s k i ++ zeros 16

/-- The tag of a record: bytes 240 to 255. -/
def slotTag (s : State) (k : Slot) (i : Nat) (body : Bytes) : Bytes :=
  fit (Config.kmac (objectKey (domainRoot s k.origin "SLOT") "SLOT-TAG" i) body 128 (ascii "JEXVOR SLOT")) 16

/-- The 256 bytes a press writes for record i of a slot. -/
def slotRecord (s : State) (k : Slot) (i : Nat) : Bytes := slotBody s k i ++ slotTag s k i (slotBody s k i)

/-- The 256 bytes of an empty record, which keeps its generation. -/
def emptyRecord (gen : Nat) : Bytes := zeros 16 ++ le gen 4 ++ zeros 236

/-! ### Encrypted groups (12 R251) -/

/-- The two keys of partition 0 to 7, or of the applet store, 8, under its origin. -/
def cellarKeys (s : State) (origin : Lifecycle) (i : Nat) : Bytes :=
  let root := domainRoot s origin "STORE"
  objectKey root "CELLAR-K1" i ++ objectKey root "CELLAR-K2" i

/-- The 16 bytes stored at Cellar address `addr` for 16 plaintext bytes: one XTS-AES-256 data unit, whose number is the
address divided by 16. -/
def storedGroup (s : State) (origin : Lifecycle) (i addr : Nat) (data : Bytes) : Bytes :=
  Config.xtsEnc (cellarKeys s origin i) (addr / 16) (fit data 16)

/-- A byte of group g has been written since the partition was last zero. -/
def Part.holds (k : Part) (g : Nat) : Bool := k.written.any fun x => decide (x.1 < 16 * g + 16 ∧ 16 * g < x.2)

/-- Group g of partition p as the Cellar stores it; a group that nothing has written since the partition was zeroed is
stored as zeros (R46, R256; log 226). -/
def State.partGroup (s : State) (p g : Nat) : Bytes :=
  match (s.part p).origin with
  | some l => if (s.part p).holds g then storedGroup s l p (partBase p + 16 * g) ((s.part p).mem.read (16 * g) 16) else zeros 16
  | none => zeros 16

/-- An image's bytes: header, code, data (06, Applet images). -/
def Applet.bytes (a : Applet) : Bytes := fit a.header 512 ++ a.code ++ a.data

/-- Group g of an applet image as the applet store holds it, under index 8 and the origin of its directory entry. -/
def State.appletGroup (s : State) (a : Applet) (g : Nat) : Bytes :=
  storedGroup s a.origin 8 (blockAddr (a.places.getD (g / 256) 0) + 16 * (g % 256)) (sl a.bytes (16 * g) 16)

/-! ### Two-copy records (12 R257) -/

/-- One step of CRC-32C, polynomial 0x1EDC6F41 reflected. -/
def crcBit (c : BitVec 32) : BitVec 32 := if c.getLsbD 0 then (c >>> 1) ^^^ 0x82F63B78 else c >>> 1

def crcByte (c : BitVec 32) (b : Byte) : BitVec 32 :=
  (List.range 8).foldl (fun c _ => crcBit c) (c ^^^ b.setWidth 32)

/-- CRC-32C (log 182). -/
def crc32c (b : Bytes) : BitVec 32 := ~~~(b.foldl crcByte 0xFFFFFFFF)

/-- The check of a copy: over the address of copy 0, its data bytes and its sequence. -/
def copyCheck (addr : Nat) (data : Bytes) (seq : BitVec 32) : BitVec 32 := crc32c (le addr 4 ++ data ++ le seq.toNat 4)

/-- A copy as it is stored: the data groups, then the trailer with the last 8 data bytes, the sequence and the check. -/
def copyBytes (addr : Nat) (data : Bytes) (seq : BitVec 32) : Bytes :=
  data ++ le seq.toNat 4 ++ le (copyCheck addr data seq).toNat 4

/-- The copy's check matches. -/
def copyValid (addr : Nat) (copy : Bytes) : Bool :=
  let n := copy.length - 8
  copyCheck addr (copy.take n) (BitVec.ofNat 32 (fld copy n 4)) == BitVec.ofNat 32 (fld copy (n + 4) 4)

/-- Both copies of a general counter as stored, next to each other. -/
def State.counterBytes (s : State) (n : Nat) : Bytes :=
  let t := (look n s.cellar.counters).getD TwoCopy.zero
  copyBytes (counterAddr n) (le t.val0 8) t.seq0 ++ copyBytes (counterAddr n) (le t.val1 8) t.seq1

end Sys2Proof.Machine
end

