-- ==== Sys2Proof/Safety.lean ====
section
/-! DEFINITION. What the statements speak of: the frame that runs, what a retired, issued or trapping instruction
leaves, uses of a key slot, and the invariants of the block. -/

namespace Sys2Proof

open Sys2Proof.Machine

/-- Memory in canonical form, everywhere the state holds one. -/
def Machine.State.memWf (s : State) : Bool :=
  s.hostMem.wf && s.supSram.wf && (s.cellar.parts.toList.all fun p => p.mem.wf) &&
    (s.sessions.all fun x => x.page.wf) &&
    s.cores.toList.all fun k =>
      (k.resident.all fun r => r.mem.wf) && k.frames.toList.all fun f => f.all fun fr => fr.data.wf

/-! ### Instructions of a frame (06) -/

/-- Core c runs frame f, whose contents are fr; its run limit has not expired (R111), and an instruction of `words`
words at its pc lies in the backed code (R112); the supervisor's code has no such bound (log 13). -/
def Runs (s : State) (c f : Nat) (fr : Fr) (words : Nat) : Prop :=
  s.runningFrame c = some (f, fr) ∧ (fr.mode = .s ∨ fr.pc.toNat + 4 * words ≤ fr.codeLen) ∧ fr.exitDue = false

/-- The frame after an instruction of `words` words has retired: pc moved past it and one more in AC_ICOUNT. -/
def stepped (fr : Fr) (words : Nat) : Fr :=
  { fr with pc := fr.pc + BitVec.ofNat 32 (4 * words), icount := fr.icount + 1 }

/-- The state s in which frame f of core c has become fr and its instruction of `words` words has retired. -/
def retired (c f words : Nat) (fr : Fr) (s : State) : State := endStep c (setFrame c f (some (stepped fr words)) s)

/-- As `retired`, and then k, what the instruction does beside its frame. -/
def retiredThen (c f words : Nat) (fr : Fr) (k : State → State) (s : State) : State :=
  endStep c (k (setFrame c f (some (stepped fr words)) s))

/-- The state s in which frame f of core c has become fr and goes on at pc. -/
def jumped (c f : Nat) (fr : Fr) (pc : BitVec 32) (s : State) : State :=
  endStep c (setFrame c f (some { fr with pc := pc, icount := fr.icount + 1 }) s)

/-- The instruction has trapped (R125). -/
def trapped (c f : Nat) (cause : Cause) (addr : Nat) (s : State) : State := endStep c (trap c f cause addr s)

/-- An engine instruction has issued (R134): its token is busy, it has retired, and its request has gone to k. -/
def issued (c f : Nat) (fr : Fr) (t : BitVec 3) (k : State → State) (s : State) : State :=
  retiredThen c f 1 (fr.setTok t .busy) k s

/-- No press is open on slot n, and it passes every check of a use by the frame, which draws the invocation value v and
leaves s' (R21, R162, R166, R188). `fc` are the checks of the function on the slot. -/
def KeyUse (s : State) (fr : Fr) (n : Nat) (need : Need) (inv : Bool) (fc : Slot → Option Status) (k : Slot)
    (v : Nat) (s' : State) : Prop :=
  s.slotOpen n = false ∧ s.slotCheck (Rq.ofMode fr.mode) n need fr.session = .ok k ∧ s.spent k = none ∧ fc k = none ∧
    drawUse k inv s = .got k v s'

/-! ### What the statements of the lanes, the orders and the Welt speak of -/

/-- The big-number functions with a key slot, and the function word of each (R238, R239, R240). -/
def LaneForm (c : Fin 9) (t : BitVec 3) (h : BitVec 4) (ps : Fin 3) (i : Instr) (fn : LaneFn) : Prop :=
  (i, fn) ∈ [ (.rsaPrivate c t h, fnRsaPrivate), (.rsaPssSign c t h, fnRsaSign 0x0110 true),
    (.rsaPkcs1Sign c t h, fnRsaSign 0x0112 false), (.rsaOaepDec c t h, fnOaepDec), (.ecdsaSign c t h, fnEcdsaSign),
    (.ecdh c t h, fnEcdh), (.ed25519Sign c t h, fnEdSign), (.mlkemDecaps c t h ps, fnDecaps ps),
    (.mldsaSign c t h ps, fnDsaSign ps), (.hybridSign c t h, fnHybridSign),
    (.rsaPssVerify c t h, fnRsaVerify 0x0111 true), (.rsaPkcs1Verify c t h, fnRsaVerify 0x0113 false),
    (.rsaOaepEnc c t h, fnOaepEnc), (.ecdsaVerify c t h, fnEcdsaVerify), (.ed25519Verify c t h, fnEdVerify),
    (.mlkemEncaps c t h ps, fnEncaps ps), (.mldsaVerify c t h ps, fnDsaVerify ps), (.hybridVerify c t h, fnHybridVerify) ]

/-- The three buffers a lane function uses, as the frame's registers name them. -/
def LaneBuffers (s : State) (fr : Fr) (fn : LaneFn) (src dst aux : Range) : Prop :=
  let none_ : Range := ⟨spData, 0, 0, false⟩
  (match fn.src with
    | some m => (fr.reg 17).toNat ≤ m ∧ (fr.reg 17).toNat < 2 ^ 32 ∧
        s.buffer fr (fr.reg 16) (fr.reg 17).toNat false = some src
    | none => src = none_) ∧
  (if fn.dst then (fr.reg 19).toNat < 2 ^ 32 ∧ s.buffer fr (fr.reg 18) (fr.reg 19).toNat true = some dst
    else dst = none_) ∧
  (match fn.aux with
    | some m => (fr.reg 21).toNat ≤ m ∧ (fr.reg 21).toNat < 2 ^ 32 ∧
        s.buffer fr (fr.reg 20) (fr.reg 21).toNat false = some aux
    | none => aux = none_) ∧
  s.hazard fr.uid [src, dst, aux] = false

/-- A job of function fn with plan p that has not run: its work is that of the plan, and `Job.laneOutcome` gives its
result at its destination, with the random value drawn for the run that ends it. -/
def LaneJobOf (c f : Nat) (fr : Fr) (t : BitVec 3) (fn : LaneFn) (p : LanePlan) (dst : Range) (j : Job) : Prop :=
  j.fn = fn.fn ∧ j.ref = .token c f fr.uid t.toNat ∧ j.work = some (laneWork fn p) ∧ j.status = .ok ∧
    j.outs = [(dstOf c f fr dst, [])] ∧ j.foot = p.cost.foot

/-- Order o, the one of queue pair n whose turn it is at its block, and which passes the checks of its kind, may be
admitted now, the host link being up; s' has the turn taken (R76, R97 to R99). -/
def Admissible (s : State) (n : BitVec 8) (o : Order) (s' : State) : Prop :=
  s.awake = true ∧ s.linkUp = true ∧ s.changing = false ∧ s.chosen n = some (o, s') ∧ s'.admitCheck o = none

/-- The commands that admit an order other than ABORT and the OFFICER orders, with the orders they take. -/
def OrderRow (n : BitVec 8) (c : Fin 8) (s : State) (o : Order) (i : Instr) : Prop :=
  (o.kind = .call ∧ i = .call n c none) ∨ (o.kind = .run ∧ i = .run n c) ∨ (o.kind = .sector ∧ i = .sector n) ∨
    (o.kind = .seal ∧ ∃ faults, i = .seal n faults) ∨ (o.kind = .openS ∧ i = .openSession n) ∨ (o.kind = .closeS ∧ i = .closeSession n) ∨
    (o.kind = .park ∧ i = .park n) ∨ (o.kind = .unpark ∧ i = .unpark n) ∨ (o.admin [1] = true ∧ i = .status n) ∨
    (o.admin [2] = true ∧ i = .getCert n) ∨ (o.admin [3] = true ∧ i = .getRetirement n) ∨
    (o.admin [5] = true ∧ i = .timeToken n) ∨ (o.admin [6] = true ∧ s.bookSub o = 0 ∧ i = .bookReadHead n) ∨
    (o.admin [6] = true ∧ s.bookSub o = 1 ∧ i = .bookReadWheel n) ∨
    (o.admin [6] = true ∧ s.bookSub o = 2 ∧ i = .bookReadGap n) ∨
    (o.admin [6] = true ∧ s.bookSub o = 3 ∧ i = .bookReadCheck n)

/-- The commands that take up an OFFICER order, by body type (R90). -/
def OfficerRow (n : BitVec 8) (t : Nat) (b : Body) (i : Instr) : Prop :=
  (t = 2 ∧ b = officerSetBody ∧ i = .officerSet n) ∨ (t = 0x10 ∧ b = lcChangeBody ∧ i = .lcChange n) ∨
    (t = 0x11 ∧ b = debugPermitBody ∧ i = .debugPermit n) ∨ (t = 0x20 ∧ b = lastSelectBody ∧ i = .lastSelect n) ∨
    (t = 0x21 ∧ b = lastInstallBody ∧ i = .lastInstall n) ∨ (t = 0x30 ∧ b = keyBodyOf ∧ i = .keyWrite n) ∨
    (t = 0x31 ∧ b = keyBodyOf ∧ i = .keyDelete n) ∨ (t = 0x32 ∧ b = keyBodyOf ∧ i = .keyGenerate n) ∨
    (t = 0x33 ∧ b = keyBodyOf ∧ i = .keyRestrict n) ∨
    (t = 0x34 ∧ b = { keyBodyOf with states := [.service] } ∧ i = .keyExport n) ∨
    (t = 0x35 ∧ b = keyBodyOf ∧ i = .keyReport n) ∨ (t = 0x40 ∧ b = timeConfigBody ∧ i = .timeConfig n) ∨
    (t = 0x41 ∧ b = timeSlewBody ∧ i = .timeSlew n) ∨ (t = 0x42 ∧ b = timeStepBody ∧ i = .timeStep n) ∨
    (t = 0x48 ∧ b = bookOpenBody ∧ i = .bookOpen n) ∨ (t = 0x49 ∧ b = bookConfigBody ∧ i = .bookConfig n) ∨
    (t = 0x50 ∧ b = appletInstallBody ∧ i = .appletInstall n) ∨ (t = 0x51 ∧ b = appletRemoveBody ∧ i = .appletRemove n) ∨
    (t = 0x60 ∧ b = weltPairBody ∧ i = .weltPair n) ∨ (t = 0x61 ∧ b = weltUnpairBody ∧ i = .weltUnpair n) ∨
    (t = 0x62 ∧ b = weltModeBody ∧ i = .weltMode n) ∨ (t = 0x63 ∧ b = weltHandoverBody ∧ i = .weltHandover n) ∨
    (t = 0x64 ∧ b = weltTakeoverBody ∧ i = .weltTakeover n) ∨ (t = 0x70 ∧ b = cardEraseBody ∧ i = .cardErase n)

/-- Frame fr comes in order over a trained lane, whole and of this session's term (R371 to R373). -/
def Received (s : State) (fr : Frame) : Prop :=
  s.welt.link = true ∧ fr.lane ∈ s.welt.lanes ∧ fr.crcOk = true ∧ fr.tagOk = true ∧ fr.seq = s.welt.rxSeq ∧
    fr.term = s.welt.term

/-- The state in which a received frame acts. -/
def inSequence (s : State) (fr : Frame) : State :=
  let s0 := chanOp (52 + fr.lane) false s
  { s0 with welt := { s0.welt with rxSeq := s0.welt.rxSeq + 1 } }

end Sys2Proof
end

