-- ==== Sys2Proof/Certificates/Slice0/Obligations.lean ====
section
/-! DEFINITION. The statements for the provers. -/

open Sys2Proof Sys2Proof.Machine

/-- A step runs the command at the front of the queue on the queue's rest; on an empty queue the block idles (log 1). -/
def Obligations.StepRunsFront : Prop :=
  (∀ (c : Instr) (rest : List Instr) (s : State), s.pending = c :: rest →
    Sys2Proof.Machine.step s = Sys2Proof.Machine.exec c { s with pending := rest }) ∧
  (∀ s : State, s.pending = [] → Sys2Proof.Machine.step s = .next s)

/-- ADD to XNOR and the multiplications of R120. -/
def Obligations.IntegerResults : Prop :=
  ∀ (s : State) (c : Fin 9) (f : Nat) (fr : Fr) (d a b : BitVec 5), Runs s c f fr 1 →
    let x := fr.reg a
    let y := fr.reg b
    let ret (v : Word) := Host.Outcome.next (retired c f 1 (fr.setReg d v) s)
    exec (.add c d a b) s = ret (x + y) ∧ exec (.sub c d a b) s = ret (x - y) ∧
    exec (.cry c d a b) s = ret (if 2 ^ 64 ≤ x.toNat + y.toNat then 1 else 0) ∧
    exec (.brw c d a b) s = ret (if x.toNat < y.toNat then 1 else 0) ∧
    exec (.mul c d a b) s = ret (BitVec.ofNat 64 (x.toNat * y.toNat)) ∧
    exec (.mulhu c d a b) s = ret (BitVec.ofNat 64 (x.toNat * y.toNat / 2 ^ 64)) ∧
    (∃ v : Word, exec (.mulhs c d a b) s = ret v ∧ ∃ lo : Nat, lo < 2 ^ 64 ∧ x.toInt * y.toInt = v.toInt * 2 ^ 64 + lo) ∧
    exec (.and c d a b) s = ret (x &&& y) ∧ exec (.or c d a b) s = ret (x ||| y) ∧
    exec (.xor c d a b) s = ret (x ^^^ y) ∧ exec (.andn c d a b) s = ret (x &&& ~~~y) ∧
    exec (.orn c d a b) s = ret (x ||| ~~~y) ∧ exec (.xnor c d a b) s = ret (~~~(x ^^^ y))

/-- The instructions of R120 that may trap: their results, and DIVIDE and OVERFLOW before g d is written (R106). -/
def Obligations.TrappingArithmetic : Prop :=
  ∀ (s : State) (c : Fin 9) (f : Nat) (fr : Fr) (d a b : BitVec 5), Runs s c f fr 1 →
    let x := fr.reg a
    let y := fr.reg b
    let ret (v : Word) := Host.Outcome.next (retired c f 1 (fr.setReg d v) s)
    let fits (n : Int) := -(2 ^ 63) ≤ n ∧ n < 2 ^ 63
    (fits (x.toInt + y.toInt) → exec (.addv c d a b) s = ret (x + y)) ∧
    (fits (x.toInt - y.toInt) → exec (.subv c d a b) s = ret (x - y)) ∧
    (¬fits (x.toInt + y.toInt) → exec (.addv c d a b) s = .next (trapped c f .overflow 0 s)) ∧
    (¬fits (x.toInt - y.toInt) → exec (.subv c d a b) s = .next (trapped c f .overflow 0 s)) ∧
    (y ≠ 0 →
      exec (.divu c d a b) s = ret (BitVec.ofNat 64 (x.toNat / y.toNat)) ∧
      exec (.remu c d a b) s = ret (BitVec.ofNat 64 (x.toNat % y.toNat)) ∧
      (∃ q r : Word, exec (.divs c d a b) s = ret q ∧ exec (.rems c d a b) s = ret r ∧
        (if x.toInt = -(2 ^ 63) ∧ y.toInt = -1 then q = x ∧ r = 0
         else x.toInt = q.toInt * y.toInt + r.toInt ∧ r.toInt.natAbs < y.toInt.natAbs ∧
          (r = 0 ∨ (r.toInt < 0 ↔ x.toInt < 0))))) ∧
    (y = 0 → ∀ i ∈ [Instr.divu c d a b, .divs c d a b, .remu c d a b, .rems c d a b],
      exec i s = .next (trapped c f .divide 0 s))

/-- Shifts, rotates, compares and conditional moves of R120. -/
def Obligations.ShiftsAndCompares : Prop :=
  ∀ (s : State) (c : Fin 9) (f : Nat) (fr : Fr) (d a b : BitVec 5), Runs s c f fr 1 →
    let x := fr.reg a
    let y := fr.reg b
    let n := y.toNat % 64
    let ret (v : Word) := Host.Outcome.next (retired c f 1 (fr.setReg d v) s)
    let cmp (p : Prop) [Decidable p] := ret (if p then 1 else 0)
    exec (.sll c d a b) s = ret (BitVec.ofNat 64 (x.toNat * 2 ^ n)) ∧
    exec (.srl c d a b) s = ret (BitVec.ofNat 64 (x.toNat / 2 ^ n)) ∧
    exec (.sra c d a b) s = ret (BitVec.ofInt 64 (x.toInt / 2 ^ n)) ∧
    exec (.rol c d a b) s = ret ((x <<< n) ||| (x >>> (64 - n))) ∧
    exec (.ror c d a b) s = ret ((x >>> n) ||| (x <<< (64 - n))) ∧
    exec (.seq c d a b) s = cmp (x = y) ∧ exec (.sne c d a b) s = cmp (x ≠ y) ∧
    exec (.slt c d a b) s = cmp (x.toInt < y.toInt) ∧ exec (.sltu c d a b) s = cmp (x.toNat < y.toNat) ∧
    exec (.movnz c d a b) s = .next (retired c f 1 (if x = 0 then fr else fr.setReg d y) s) ∧
    exec (.movz c d a b) s = .next (retired c f 1 (if x = 0 then fr.setReg d y else fr) s)

/-- Bit counts, byte reversal and bit fields (R120, R121). -/
def Obligations.BitInstructions : Prop :=
  ∀ (s : State) (c : Fin 9) (f : Nat) (fr : Fr) (d a : BitVec 5), Runs s c f fr 1 →
    let x := fr.reg a
    let ret (v : Word) := Host.Outcome.next (retired c f 1 (fr.setReg d v) s)
    (∃ n : Nat, n ≤ 64 ∧ exec (.clz c d a) s = ret (BitVec.ofNat 64 n) ∧ x.toNat < 2 ^ (64 - n) ∧
      (n < 64 → x.getLsbD (63 - n) = true)) ∧
    (∃ n : Nat, n ≤ 64 ∧ exec (.ctz c d a) s = ret (BitVec.ofNat 64 n) ∧ (∀ i < n, x.getLsbD i = false) ∧
      (n < 64 → x.getLsbD n = true)) ∧
    exec (.popc c d a) s = ret (BitVec.ofNat 64 ((List.range 64).filter fun i => x.getLsbD i).length) ∧
    (∃ v : Word, exec (.bswap c d a) s = ret v ∧
      ∀ i < 8, v.extractLsb' (8 * i) 8 = x.extractLsb' (56 - 8 * i) 8) ∧
    (∀ (lo w : BitVec 6) (sx : Bool), lo.toNat + w.toNat < 64 →
      ∃ v : Word, exec (.bfx c d a lo w sx) s = ret v ∧
        ∀ i < 64, v.getLsbD i = if i ≤ w.toNat then x.getLsbD (lo.toNat + i)
          else sx && x.getLsbD (lo.toNat + w.toNat)) ∧
    (∀ lo w : BitVec 6, lo.toNat + w.toNat < 64 →
      ∃ v : Word, exec (.bfi c d a lo w) s = ret v ∧
        ∀ i < 64, v.getLsbD i = if lo.toNat ≤ i ∧ i ≤ lo.toNat + w.toNat then x.getLsbD (i - lo.toNat)
          else (fr.reg d).getLsbD i) ∧
    (∀ (lo w : BitVec 6) (sx : Bool), 64 ≤ lo.toNat + w.toNat →
      exec (.bfx c d a lo w sx) s = .next (trapped c f .illegal 0 s) ∧
      exec (.bfi c d a lo w) s = .next (trapped c f .illegal 0 s))

/-- The immediate forms of R121, and LIW with its literal word. -/
def Obligations.ImmediateForms : Prop :=
  ∀ (s : State) (c : Fin 9) (f : Nat) (fr : Fr) (d a : BitVec 5),
    let x := fr.reg a
    let ret (w : Nat) (v : Word) := Host.Outcome.next (retired c f w (fr.setReg d v) s)
    (Runs s c f fr 1 → ∀ (imm : BitVec 14) (sh : BitVec 6),
      let y : Word := BitVec.ofInt 64 imm.toInt
      exec (.addi c d a imm) s = ret 1 (x + y) ∧ exec (.andi c d a imm) s = ret 1 (x &&& y) ∧
      exec (.ori c d a imm) s = ret 1 (x ||| y) ∧ exec (.xori c d a imm) s = ret 1 (x ^^^ y) ∧
      exec (.slli c d a sh) s = ret 1 (BitVec.ofNat 64 (x.toNat * 2 ^ sh.toNat)) ∧
      exec (.srli c d a sh) s = ret 1 (BitVec.ofNat 64 (x.toNat / 2 ^ sh.toNat)) ∧
      exec (.srai c d a sh) s = ret 1 (BitVec.ofInt 64 (x.toInt / 2 ^ sh.toNat)) ∧
      exec (.slti c d a imm) s = ret 1 (if x.toInt < imm.toInt then 1 else 0) ∧
      exec (.sltiu c d a imm) s = ret 1 (if x.toNat < y.toNat then 1 else 0)) ∧
    (Runs s c f fr 2 → ∀ lit : BitVec 32,
      (a = 0 → exec (.liw c d a 0 lit) s = ret 2 (BitVec.ofInt 64 lit.toInt) ∧
        exec (.liw c d a 1 lit) s = ret 2 (BitVec.ofNat 64 lit.toNat)) ∧
      exec (.liw c d a 2 lit) s = ret 2 (BitVec.ofNat 64 (x.toNat * 2 ^ 32 % 2 ^ 64 + lit.toNat)) ∧
      (a ≠ 0 → exec (.liw c d a 0 lit) s = .next (trapped c f .illegal 0 s) ∧
        exec (.liw c d a 1 lit) s = .next (trapped c f .illegal 0 s)) ∧
      exec (.liw c d a 3 lit) s = .next (trapped c f .illegal 0 s))

/-- Frame of every instruction that only retires with its registers written. -/
def Obligations.RetireFrame : Prop :=
  (∀ (s : State) (c : Fin 9) (f : Fin 4) (fr : Fr) (w : Nat),
    let t := retired c f w fr s
    { t with cores := s.cores } = s ∧ t.frame c f = some (stepped fr w) ∧
    (∀ f' : Fin 4, f' ≠ f → t.frame c f' = s.frame c f') ∧ (∀ c' : Fin 9, c' ≠ c → t.core c' = s.core c') ∧
    (t.core c).running = (s.core c).running ∧ (t.core c).halted = (s.core c).halted ∧
    (t.core c).waiti = (s.core c).waiti ∧ (t.core c).resident = (s.core c).resident ∧ (t.core c).stepping = false) ∧
  (∀ (fr : Fr) (d : BitVec 5) (v : Word),
    { fr.setReg d v with g := fr.g } = fr ∧ (fr.setReg 0 v) = fr ∧ fr.reg 0 = 0 ∧
    (d ≠ 0 → (fr.setReg d v).reg d = v) ∧ ∀ r, r ≠ d → (fr.setReg d v).reg r = fr.reg r) ∧
  (∀ (fr : Fr) (w : Nat), (stepped fr w).pc = fr.pc + BitVec.ofNat 32 (4 * w) ∧
    (stepped fr w).icount = fr.icount + 1 ∧ { stepped fr w with pc := fr.pc, icount := fr.icount } = fr)

/-- Loads: the value, what an ECC error of applet SRAM does (R126; that it shows at loads is the model's choice, log
174), and what a load changes beside its frame. -/
def Obligations.LoadResults : Prop :=
  (∀ (s : State) (c : Fin 9) (f : Nat) (fr : Fr) (d a : BitVec 5) (imm : BitVec 14) (e : Ecc) (n : Nat) (r : Range),
    let ea := (fr.reg a + BitVec.ofInt 64 imm.toInt).toNat
    Runs s c f fr 1 → ea % n = 0 → s.place fr ea n false = some r → s.hazard fr.uid [r] = false →
    let s1 := if r.space = spShared then touchShared s else s
    let v := leN (s1.readRange c fr r)
    let zero := fr.setReg d (BitVec.ofNat 64 v)
    let sign := fr.setReg d (BitVec.ofInt 64 (signed v (8 * n)))
    let loads (i : Instr) (fr' : Fr) := (n = 8 ∧ i = .ld c d a imm e ∧ fr' = zero) ∨
      (n = 4 ∧ (i = .lw c d a imm e ∧ fr' = sign ∨ i = .lwu c d a imm e ∧ fr' = zero)) ∨
      (n = 2 ∧ (i = .lh c d a imm e ∧ fr' = sign ∨ i = .lhu c d a imm e ∧ fr' = zero)) ∨
      (n = 1 ∧ (i = .lb c d a imm e ∧ fr' = sign ∨ i = .lbu c d a imm e ∧ fr' = zero))
    ∀ i fr', loads i fr' →
      (e = .good ∨ r.space ≠ spData ∨ fr.mode = .s → exec i s = .next (retired c f 1 fr' s1)) ∧
      (r.space = spData → fr.mode ≠ .s →
        (e = .corrected → exec i s =
          .next (retiredThen c f 1 { fr' with retried := true } (chanFault (40 + c) fr.op) s1)) ∧
        (e = .uncorrectable → exec i s = .next (endStep c (memoryTrap c f fr ea s1))))) ∧
  (∀ s : State, { touchShared s with time := s.time, freeCtr := s.freeCtr } = s ∧
    (touchShared s).time.t ≥ s.time.t)

/-- Stores: the bytes written, at the place the effective address names, and what an ECC error of applet SRAM does
(R126; that it shows at stores is the model's choice, log 174). -/
def Obligations.StoreResults : Prop :=
  ∀ (s : State) (c : Fin 9) (f : Nat) (fr : Fr) (d a : BitVec 5) (imm : BitVec 14) (n : Nat) (r : Range),
    let ea := (fr.reg a + BitVec.ofInt 64 imm.toInt).toNat
    Runs s c f fr 1 → ea % n = 0 → s.place fr ea n true = some r → s.hazard fr.uid [r] = false →
    let put := writeOut (.token c f fr.uid 0) (dstOf c f fr r) (le (fr.reg d).toNat n)
    let stores (e : Ecc) (i : Instr) := (n = 8 ∧ i = .sd c d a imm e) ∨ (n = 4 ∧ i = .sw c d a imm e) ∨
      (n = 2 ∧ i = .sh c d a imm e) ∨ (n = 1 ∧ i = .sb c d a imm e)
    ∀ e i, stores e i →
      (e = .good ∨ r.space ≠ spData ∨ fr.mode = .s → exec i s = .next (retiredThen c f 1 fr put s)) ∧
      (r.space = spData → fr.mode ≠ .s →
        (e = .corrected → exec i s = .next (retiredThen c f 1 { fr with retried := true }
          (fun t => put (chanFault (40 + c) fr.op t)) s)) ∧
        (e = .uncorrectable → exec i s = .next (endStep c (memoryTrap c f fr ea s))))

/-- Where loads and stores trap, and the address space of A and J mode (R110 to R112). -/
def Obligations.MemoryTraps : Prop :=
  (∀ (s : State) (c : Fin 9) (f : Nat) (fr : Fr) (d a : BitVec 5) (imm : BitVec 14) (e : Ecc), Runs s c f fr 1 →
    let ea := (fr.reg a + BitVec.ofInt 64 imm.toInt).toNat
    let loads (n : Nat) : List Instr := match n with
      | 8 => [.ld c d a imm e] | 4 => [.lw c d a imm e, .lwu c d a imm e]
      | 2 => [.lh c d a imm e, .lhu c d a imm e] | 1 => [.lb c d a imm e, .lbu c d a imm e] | _ => []
    let stores (n : Nat) : List Instr := match n with
      | 8 => [.sd c d a imm e] | 4 => [.sw c d a imm e] | 2 => [.sh c d a imm e] | 1 => [.sb c d a imm e] | _ => []
    (∀ n, ea % n ≠ 0 → ∀ i ∈ loads n ++ stores n, exec i s = .next (trapped c f .misaligned ea s)) ∧
    (∀ n, ea % n = 0 → s.place fr ea n false = none → ∀ i ∈ loads n,
      exec i s = .next (trapped c f .access ea s)) ∧
    (∀ n, ea % n = 0 → s.place fr ea n true = none → ∀ i ∈ stores n,
      exec i s = .next (trapped c f .access ea s))) ∧
  (∀ (s : State) (fr : Fr) (a n : Nat) (wr : Bool), fr.mode ≠ .s → 0 < n → n ≤ 8 → fr.dataLen ≤ 0x400000 →
    (a < 0x40000000 → s.place fr a n wr = none) ∧
    (2 ^ 32 ≤ a → s.place fr a n wr = none) ∧
    (∀ off, a = 0x40000000 + off → off < 0x40000000 → s.place fr a n wr =
      if off + n ≤ fr.dataLen then some ⟨spData, off, n, wr⟩ else none) ∧
    (∀ (k x : Nat) (w : Window), a = 0x80000000 + k * 0x07000000 + x → k < 16 → x + n ≤ 0x07000000 →
      vget fr.windows k none = some w →
      let b := vget fr.slides k 0 * 0x01000000 + x
      s.place fr a n wr = if b + n ≤ w.len ∧ (if wr then w.wr else w.rd) = true then some ⟨spWindow k, b, n, wr⟩
        else none) ∧
    (∀ off, a = 0xF0000000 + off → off + n ≤ 0x1000 → s.place fr a n wr =
      if wr then none else some ⟨spShared, off, n, false⟩) ∧
    (∀ off, a = 0xF0001000 + off → off + n ≤ 0x800 → s.place fr a n wr =
      if (s.generalSession fr).isSome ∧ (wr = false ∨ 0x100 ≤ off) then some ⟨spPage, off, n, wr⟩ else none) ∧
    (0xF0001800 ≤ a + n → a ≥ 0xF0001800 → s.place fr a n wr = none))

/-- Branches, JAL and JALR, and the traps of R122: MISALIGNED before any register is written, ACCESS when the target
is fetched. -/
def Obligations.ControlFlow : Prop :=
  (∀ (s : State) (c : Fin 9) (f : Nat) (fr : Fr) (d a b : BitVec 5) (off : BitVec 14) (o : BitVec 19),
    Runs s c f fr 1 →
    let x := fr.reg a
    let y := fr.reg b
    let t (n : Int) : BitVec 32 := BitVec.ofInt 32 (fr.pc.toNat + 4 * n)
    let on (fr : Fr) (t : BitVec 32) := Host.Outcome.next
      (if t.toNat % 4 = 0 then jumped c f fr t s else trapped c f .misaligned t.toNat s)
    let go (p : Prop) [Decidable p] := if p then on fr (t off.toInt) else .next (retired c f 1 fr s)
    let j := (x + BitVec.ofInt 64 off.toInt).toNat
    let link := fr.setReg d (BitVec.ofNat 64 ((fr.pc.toNat + 4) % 2 ^ 32))
    exec (.beq c a b off) s = go (x = y) ∧ exec (.bne c a b off) s = go (x ≠ y) ∧
    exec (.blt c a b off) s = go (x.toInt < y.toInt) ∧ exec (.bge c a b off) s = go (y.toInt ≤ x.toInt) ∧
    exec (.bltu c a b off) s = go (x.toNat < y.toNat) ∧ exec (.bgeu c a b off) s = go (y.toNat ≤ x.toNat) ∧
    exec (.jal c d o) s = on link (t o.toInt) ∧
    (j % 4 = 0 → j < 2 ^ 32 → exec (.jalr c d a off) s = on link (BitVec.ofNat 32 j)) ∧
    (j % 4 ≠ 0 → exec (.jalr c d a off) s = .next (trapped c f .misaligned j s))) ∧
  (∀ (s : State) (c : Fin 9) (f : Nat) (fr : Fr) (d a b : BitVec 5) (off : BitVec 14) (o : BitVec 19) (lit : BitVec 32)
    (e : Ecc), s.runningFrame c = some (f, fr) → fr.mode ≠ .s → fr.exitDue = false →
    (fr.codeLen < fr.pc.toNat + 4 → ∀ i ∈ [Instr.beq c a b off, .jal c d o, .jalr c d a off, .add c d a b,
      .ld c d a off e, .sd c d a off e, .mfence c], exec i s = .next (trapped c f .access fr.pc.toNat s)) ∧
    (fr.codeLen < fr.pc.toNat + 8 → exec (.liw c d a 0 lit) s = .next (trapped c f .access fr.pc.toNat s)))

/-- EXIT, also one granted against the run limit, MFENCE and BREAK. BREAK retires before it halts (log 23), and a JALR
to a target above 32 bits traps ACCESS in A and J mode and drops the upper bits in S mode (log 13): the model's choices.
-/
def Obligations.OrderControl : Prop :=
  ∀ (s : State) (c : Fin 9) (f : Nat) (fr : Fr), Runs s c f fr 1 →
    exec (.mfence c) s = .next (retired c f 1 fr s) ∧
    (∀ (d a : BitVec 5) (off : BitVec 14),
      let j := (fr.reg a + BitVec.ofInt 64 off.toInt).toNat
      j % 4 = 0 → 2 ^ 32 ≤ j → exec (.jalr c d a off) s = .next (if fr.mode = .s then
        jumped c f (fr.setReg d (BitVec.ofNat 64 ((fr.pc.toNat + 4) % 2 ^ 32))) (BitVec.ofNat 32 j) s
        else trapped c f .access j s)) ∧
    (fr.mode = .s → ∀ (d : BitVec 5) (n : BitVec 19) (st : Status), st.code = n.toNat →
      (st = .ok ∨ st.cls = 1 ∨ (st.cls = 4 ∧ st ≠ .parkInvalid ∧ st ≠ .mediaTagFail)) →
      exec (.exit c d n) s = .next (retired c f 1
          { fr with presses := Vector.replicate 4 none, h := Vector.replicate 16 .empty }
        { s with press := { s.press with bufUsed := s.press.bufUsed - fr.openReserve } })) ∧
    (fr.mode ≠ .s → ∀ (d : BitVec 5) (n : BitVec 19) (st : Status), st.code = n.toNat →
      (st = .ok ∨ st.cls = 1 ∨ (st.cls = 4 ∧ st ≠ .parkInvalid ∧ st ≠ .mediaTagFail)) →
      let left := { s with press := { s.press with bufUsed := s.press.bufUsed - fr.openReserve } }
      let gone (t : State) : State := let t := tryExit c f t; if (t.frame c f).isSome then yieldCore c t else t
      let fr' := { fr with exiting := some ((fr.reg d).extractLsb' 0 32, st), presses := Vector.replicate 4 none }
      exec (.exit c d n) s = .next (retiredThen c f 1 fr' gone left) ∧
      exec (.exit c d n) (setFrame c f (some { fr with exitDue := true }) s) =
        .next (retiredThen c f 1 fr' gone left)) ∧
    ((s.lc.debug = true ∨ s.vault.lc = .test) → exec (.breakI c) s =
      .next (retiredThen c f 1 fr (fun t => setCore c { t.core c with halted := true } t) s)) ∧
    (s.lc.debug = false → s.vault.lc ≠ .test → exec (.breakI c) s = .next (trapped c f .illegal 0 s))

/-- Who may read and write which system word, and the numbers each mode reaches (R109, the tables of 06, 12, 13, 14, 17).
Reading EV_CLAIM and writing PR_PARTn are stated by themselves. -/
def Obligations.SystemWords : Prop :=
  (∀ (s : State) (c : Fin 9) (f : Nat) (fr : Fr) (d : BitVec 5) (n : BitVec 19), Runs s c f fr 1 →
    (wordReach n.toNat fr.mode = none → exec (.swr c d n) s = .next (trapped c f .illegal 0 s) ∧
      exec (.sww c d n) s = .next (trapped c f .illegal 0 s)) ∧
    (wordReach n.toNat fr.mode = some .denied → exec (.swr c d n) s = .next (trapped c f .privileged 0 s) ∧
      exec (.sww c d n) s = .next (trapped c f .privileged 0 s)) ∧
    (wordReach n.toNat fr.mode = some .ro → exec (.sww c d n) s = .next (trapped c f .access 0 s)) ∧
    ((wordReach n.toNat fr.mode = some .ro ∨ wordReach n.toNat fr.mode = some .rw) → n ≠ 0x500 →
      exec (.swr c d n) s = .next (retired c f 1 (fr.setReg d (BitVec.ofNat 64 (wordValue s c fr n.toNat))) s)) ∧
    (n = 0x105 → exec (.sww c d n) s = .next (retired c f 1 { fr with odBytes := (fr.reg d).extractLsb' 0 32 } s)) ∧
    (∀ k : Fin 16, n.toNat = 0x130 + k → exec (.sww c d n) s =
      if (fr.reg d).toNat ≤ 9 then .next (retired c f 1 { fr with slides := fr.slides.set k (fr.reg d).toNat } s)
      else .next (trapped c f .access 0 s)) ∧
    (fr.mode = .s → n = 0x201 → exec (.sww c d n) s = .next (retired c f 1 fr { s with tp := { s.tp with pc := fr.reg d } }))) ∧
  ((∀ m, ∀ n ∈ [0x0, 0x1, 0x2, 0x10, 0x100, 0x101, 0x102, 0x103, 0x104, 0x110, 0x11F, 0x120, 0x12F, 0x300, 0x301, 0x401,
      0x600], wordReach n m = some .ro) ∧
  (∀ m, ∀ n ∈ [0x105, 0x130, 0x13F, 0x310, 0x317], wordReach n m = some .rw) ∧
  (∀ n ∈ [0x200, 0x201, 0x202, 0x501, 0x502, 0x503], wordReach n .s = some .rw ∧ wordReach n .a = some .denied ∧
    wordReach n .j = some .denied) ∧
  (wordReach 0x400 .s = some .rw ∧ wordReach 0x400 .a = some .rw ∧ wordReach 0x400 .j = some .denied) ∧
  (wordReach 0x500 .s = some .ro ∧ wordReach 0x500 .a = some .denied ∧ wordReach 0x500 .j = some .denied) ∧
  (∀ m, ∀ n ∈ [0x3, 0xF, 0x11, 0x106, 0x140, 0x203, 0x302, 0x318, 0x402, 0x504, 0x601, 0x7FFFF],
    wordReach n m = none))

/-- Handles, and what HBIND checks of a key slot, in R124's order (R107, R119, R124); an
EXPIRE_AT_RESET slot of an earlier boot is empty (R172). -/
def Obligations.Handles : Prop :=
  (∀ (s : State) (c : Fin 9) (f : Nat) (fr : Fr) (d a b : BitVec 5) (ty : BitVec 4), Runs s c f fr 1 →
    (∀ (h : BitVec 4), d.toNat = h.toNat →
      exec (.hclr c d) s = .next (retired c f 1 (fr.setHnd h .empty) s) ∧
      (∀ k : BitVec 4, a.toNat = k.toNat →
        exec (.hmov c d a) s = .next (retired c f 1 (fr.setHnd h (fr.hnd k)) s)) ∧
      (ty.toNat ≤ 8 → ∀ o, bindObject s c fr ty.toNat (fr.reg a).toNat = .ok o →
        exec (.hbind c d a b ty) s = .next (retired c f 1 ((fr.setHnd h o).setReg b 0) s)) ∧
      (ty.toNat ≤ 8 → ∀ st, bindObject s c fr ty.toNat (fr.reg a).toNat = .error st →
        exec (.hbind c d a b ty) s = .next (retired c f 1 (fr.setReg b (BitVec.ofNat 64 st.code)) s)) ∧
      (8 < ty.toNat → exec (.hbind c d a b ty) s = .next (trapped c f .illegal 0 s))) ∧
    (∀ k : BitVec 4, a.toNat = k.toNat →
      exec (.htype c d a) s = .next (retired c f 1 (fr.setReg d (BitVec.ofNat 64 (fr.hnd k).word)) s)) ∧
    (16 ≤ d.toNat → ∀ i ∈ [Instr.hclr c d, .hmov c d a, .hbind c d a b ty],
      exec i s = .next (trapped c f .illegal 0 s)) ∧
    (16 ≤ a.toNat → exec (.htype c d a) s = .next (trapped c f .illegal 0 s))) ∧
  (∀ (s : State) (c : Nat) (fr : Fr) (n : Nat),
    (s.debugOn = true → bindObject s c fr 1 n = .error .lifecycle) ∧
    (s.debugOn = false → (Rq.ofMode fr.mode).reaches s.active n = false → bindObject s c fr 1 n = .error .keyAttr) ∧
    (s.debugOn = false → (Rq.ofMode fr.mode).reaches s.active n = true →
      (16383 < n → bindObject s c fr 1 n = .error .operandRange) ∧
      (n ≤ 16383 → s.slot n = none → bindObject s c fr 1 n = .error .keyEmpty) ∧
      (∀ k, n ≤ 16383 → s.slot n = some k →
        let lapsed := k.expire = true ∧ (s.keys.bootNonce = none ∨ k.nonce ≠ s.keys.bootNonce)
        (lapsed → bindObject s c fr 1 n = .error .keyEmpty) ∧
        (¬lapsed → bindObject s c fr 1 n = .ok (.keySlot n)))) ∧
    (fr.mode = .j → ∀ ty ∈ [4, 5, 6, 7], bindObject s c fr ty n = .error .operandRange))

/-- TRET, WAITI and the run limit: an expiry traps, unless an EXIT within the guard is granted, which withdraws it; a
frame that owes that EXIT traps on any other instruction (R111, R27). -/
def Obligations.PrivilegedAndLimit : Prop :=
  ∀ (s : State) (c : Fin 9) (f : Nat) (fr : Fr),
    (Runs s c f fr 1 →
      (fr.mode = .s →
        exec (.tret c) s = .next (jumped c f fr (BitVec.ofNat 32 (s.tp.pc.toNat % 2 ^ 32 / 4 * 4)) s) ∧
        exec (.waiti c) s =
          .next (retiredThen c f 1 fr (fun t => wakeT0 (setCore c { t.core c with waiti := true } t)) s)) ∧
      (fr.mode ≠ .s → exec (.tret c) s = .next (trapped c f .privileged 0 s) ∧
        exec (.waiti c) s = .next (trapped c f .privileged 0 s))) ∧
    (∀ (x : Fin 4) (y : Fr), s.awake = true → s.frame c x = some y → y.runMs ≠ 0 → y.ending = none →
      (y.exiting = none →
        exec (.runLimit c x true) s = .next (trap c x .runLimit 0 s) ∧
        exec (.runLimit c x false) s = .next (
          if y.runnable = true ∧ y.pressing = false ∧ (s.core c).running = some x then
            setFrame c x (some { y with exitDue := true, closeCall := true, runMs := 0 }) s
          else trap c x .runLimit 0 s)) ∧
      (y.exiting ≠ none →
        exec (.runLimit c x true) s = .next s ∧
        exec (.runLimit c x false) s = .next (setFrame c x (some { y with closeCall := true, runMs := 0 }) s))) ∧
    (s.runningFrame c = some (f, fr) → fr.exitDue = true → ∀ (d a b : BitVec 5) (t : BitVec 3) (off : BitVec 14) (e : Ecc),
      ∀ i ∈ [Instr.add c d a b, .addi c d a off, .ld c d a off e, .sd c d a off e, .beq c a b off, .twait c d b t 0,
        .mfence c], exec i s = .next (trapped c f .runLimit 0 s) ∧
          exec (.random c t) s = .next (trapped c f .runLimit 0 (touchOperands c s)))

/-- TWAIT, its limit, TPOLL and TDROP (R136, R137). -/
def Obligations.Tokens : Prop :=
  ∀ (s : State) (c : Fin 9) (f : Nat) (fr : Fr) (d b : BitVec 5) (t : BitVec 3) (lim : BitVec 9),
    (Runs s c f fr 1 →
      (fr.tok t = .empty → exec (.twait c d b t lim) s = .next (trapped c f .illegal 0 s)) ∧
      (fr.tok t = .busy → exec (.twait c d b t lim) s = .next (retiredThen c f 1
        { fr with wait := some (t, d, b), waitLimit := lim, waitClose := false } (yieldCore c) s)) ∧
      (∀ st n v, fr.tok t = .done st n v →
        ∃ fr', exec (.twait c d b t lim) s = .next (retired c f 1 fr' s) ∧ fr'.tok t = .empty ∧
          fr'.g = ((fr.setReg d (BitVec.ofNat 64 (n.toNat * 2 ^ 32 + st.code))).setReg b v).g) ∧
      exec (.tpoll c d t) s = .next (retired c f 1 (fr.setReg d (match fr.tok t with
        | .empty => 0 | .busy => 1 | .done _ _ _ => 2)) s) ∧
      exec (.tdrop c t) s = .next (match fr.tok t with
        | .busy => retiredThen c f 1 fr (stopToken (.token c f fr.uid t.toNat)) s
        | _ => retired c f 1 fr s)) ∧
    (∀ (x : Fin 4) (y : Fr) (tw : BitVec 3), s.awake = true → s.frame c x = some y → y.wait = some (tw, d, b) →
      y.waitLimit ≠ 0 →
      (∃ y', exec (.waitLimit c x true) s = .next (schedule c (setFrame c x (some y') s)) ∧ y'.wait = none ∧
        y'.t = y.t ∧ y'.g = ((y.setReg d (BitVec.ofNat 64 0x0801)).setReg b 0).g) ∧
      exec (.waitLimit c x false) s = .next (setFrame c x (some { y with waitClose := true, waitLimit := 0 }) s))

/-- Opening, filling, committing and abandoning a press (R147, R148, R150, R151). -/
def Obligations.OpenPresses : Prop :=
  ∀ (s : State) (c : Fin 9) (f : Nat) (fr : Fr) (d a b : BitVec 5) (p : BitVec 2), Runs s c f fr 1 →
    (fr.openPress p = none →
      (1 ≤ (fr.reg a).toNat → (fr.reg a).toNat ≤ 65536 → s.press.bufUsed + (fr.reg a).toNat ≤ 1048576 →
        exec (.propen c d a p) s = .next (retired c f 1
          ((fr.setPress p (some ⟨(fr.reg a).toNat, 0, [], []⟩)).setReg d 0)
          { s with press := { s.press with bufUsed := s.press.bufUsed + (fr.reg a).toNat } })) ∧
      ((fr.reg a).toNat = 0 → exec (.propen c d a p) s = .next (retired c f 1 (fr.setReg d 0x0105) s)) ∧
      (65536 < (fr.reg a).toNat → exec (.propen c d a p) s = .next (retired c f 1 (fr.setReg d 0x0203) s)) ∧
      (∀ t, ∀ i ∈ [Instr.prwrite c d a b p, .prcond c d a b p, .prcommit c t p, .prabandon c p],
        exec i s = .next (trapped c f .illegal 0 s))) ∧
    (∀ o, fr.openPress p = some o →
      exec (.propen c d a p) s = .next (trapped c f .illegal 0 s) ∧
      exec (.prabandon c p) s = .next (retired c f 1 (fr.setPress p none)
        { s with press := { s.press with bufUsed := s.press.bufUsed - o.reserve } }) ∧
      (∀ t : BitVec 3, fr.tok t = .empty → ∃ q : Press, q.items = o.items ∧ q.conds = o.conds ∧
        q.reserve = o.reserve ∧ q.core = c ∧ q.origin = .token c f fr.uid t.toNat ∧
        exec (.prcommit c t p) s = .next (issued c f (fr.setPress p none) t (pressFrom q) s)) ∧
      (∀ n, counterOf s c fr a 0 = .ok n →
        (o.used + 32 ≤ o.reserve → exec (.prcond c d a b p) s = .next (retired c f 1 ((fr.setPress p
          (some { o with used := o.used + 32, conds := o.conds ++ [(n, fr.reg b)] })).setReg d 0) s)) ∧
        (o.reserve < o.used + 32 → exec (.prcond c d a b p) s = .next (retired c f 1 (fr.setReg d 0x0203) s))) ∧
      (∀ r q off, 1 ≤ (fr.reg d).toNat → (fr.reg d).toNat ≤ 65536 →
        onChip s fr (fr.reg b) (fr.reg d).toNat false = some r → s.hazard fr.uid [r] = false →
        partRange s c fr (fr.reg a) (fr.reg d).toNat 1 = .ok (q, off) →
        let need := ((fr.reg d).toNat + 16 + 15) / 16 * 16
        (underProtect (s.part q).protect (pagesOf off (fr.reg d).toNat) = true →
          exec (.prwrite c d a b p) s = .next (retired c f 1 (fr.setReg d 0x0604) s)) ∧
        (underProtect (s.part q).protect (pagesOf off (fr.reg d).toNat) = false →
          (o.used + need ≤ o.reserve → exec (.prwrite c d a b p) s = .next (retired c f 1 ((fr.setPress p
            (some { o with used := o.used + need, items := o.items ++ [.write q off (s.readRange c fr r)] })).setReg d 0) s)) ∧
          (o.reserve < o.used + need → exec (.prwrite c d a b p) s = .next (retired c f 1 (fr.setReg d 0x0203) s)))))

/-- Reading partitions and counters, advancing a counter, and the protection words (R149, R152, R256). -/
def Obligations.CellarAccess : Prop :=
  ∀ (s : State) (c : Fin 9) (f : Nat) (fr : Fr) (d a b : BitVec 5) (p : BitVec 2), Runs s c f fr 1 →
    (∀ r q off, 1 ≤ (fr.reg d).toNat → (fr.reg d).toNat ≤ 65536 →
      onChip s fr (fr.reg b) (fr.reg d).toNat true = some r → s.hazard fr.uid [r] = false →
      partRange s c fr (fr.reg a) (fr.reg d).toNat 0 = .ok (q, off) →
      s.awaits (partBase q + off) (fr.reg d).toNat = false →
      ∀ e : Ecc, let woken := groupRead e (partBase q + off) s
      (woken.badRange (partBase q + off) (fr.reg d).toNat = false →
        exec (.prread c d a b e) s = .next (retiredThen c f 1 (fr.setReg d 0)
          (writeDst (dstOf c f fr r) ((s.part q).mem.read off (fr.reg d).toNat)) woken)) ∧
      (woken.badRange (partBase q + off) (fr.reg d).toNat = true →
        exec (.prread c d a b e) s = .next (retired c f 1 (fr.setReg d 0x0701)
          (badRead (partBase q + off) (fr.reg d).toNat woken)))) ∧
    (∀ n, counterOf s c fr a 0 = .ok n → s.awaits (counterAddr n) 32 = false →
      (∀ v, s.counter n = some v →
        exec (.ctrrd c d a b) s = .next (retired c f 1 ((fr.setReg d (BitVec.ofNat 64 v)).setReg b 0) s)) ∧
      (s.counter n = none → ∃ (v : Word) (s' : State), s' = { s with freeCtr := s'.freeCtr } ∧
        exec (.ctrrd c d a b) s = .next (retired c f 1 ((fr.setReg d v).setReg b 0x0701) s'))) ∧
    (∀ n, counterOf s c fr a 1 = .ok n →
      (∀ i, ((fr.reg d).toNat = 0 ∨ 2 ^ 32 < (fr.reg d).toNat) → (i = true → (fr.openPress p).isSome) →
        exec (.ctradd c d a b i p) s = .next (retired c f 1 ((fr.setReg d 0x0105).setReg b 0) s)) ∧
      (1 ≤ (fr.reg d).toNat → (fr.reg d).toNat ≤ 2 ^ 32 →
        (∃ q : Press, q.items = [.ctrAdd n (fr.reg d).toNat] ∧ q.conds = [] ∧ q.core = c ∧
          q.origin = .instr c f fr.uid d (some b) ∧
          exec (.ctradd c d a b false p) s =
            .next (endStep c (pressFrom q (setFrame c f (some { fr with pressing := true }) s)))) ∧
        (∀ o, fr.openPress p = some o → o.used + 32 ≤ o.reserve →
          exec (.ctradd c d a b true p) s = .next (retired c f 1 (((fr.setPress p (some { o with
            used := o.used + 32, items := o.items ++ [.ctrAdd n (fr.reg d).toNat] })).setReg d 0).setReg b 0) s)))) ∧
    (∀ q : Fin 8, s.debugOn = false → s.serving = true → s.bankRetired (q / 2) = false →
      (fr.mode = .a → (List.range 1024).all (fun pg => s.granted c fr (0x10 + q) pg (some 1)) = true) →
      let press (it : PItem) := ∃ x : Press, x.items = [it] ∧ x.conds = [] ∧ x.origin = .instr c f fr.uid 0 none ∧
        ∀ i, i = (match it with | .clearPart _ => Instr.prPartClear c d q | _ => .prPartProtect c d q) →
          exec i s = .next (endStep c (pressFrom x (setFrame c f (some { fr with pressing := true }) s)))
      let lvl := ((fr.reg d).extractLsb' 0 2).toNat
      ((s.part q).protect = 0 → lvl = 0 → press (.clearPart q)) ∧
      ((s.part q).protect < lvl → press (.protect q lvl)) ∧
      (lvl < (s.part q).protect → s.vault.lc = .recovery → fr.mode ≠ .j → press (.unprotect q lvl)) ∧
      (lvl < (s.part q).protect → s.vault.lc ≠ .recovery →
        exec (.prPartProtect c d q) s = .next (trapped c f .access 0 s)) ∧
      ((s.part q).protect ≠ 0 → exec (.prPartClear c d q) s = .next (trapped c f .access 0 s)))

/-- TMSTAMP, TMTOKEN, TM_ALARM and the book functions. TMTOKEN and BKISS SEAL read a source in the shared page as it
stands once it is up to date (`touchOperands`, log 221). -/
def Obligations.TimeAndBookInstructions : Prop :=
  ∀ (s : State) (c : Fin 9) (f : Nat) (fr : Fr) (a d : BitVec 5) (imm : BitVec 14) (t : BitVec 3) (h : BitVec 4),
    Runs s c f fr 1 →
    (let ea := fr.reg a + BitVec.ofInt 64 imm.toInt
      ∀ r, ea.toNat % 8 = 0 → onChip s fr ea 16 true = some r → s.hazard fr.uid [r] = false →
        exec (.tmstamp c a imm) s = .next (retiredThen c f 1 fr (fun s => let s := sampleTime s
          writeDst (dstOf c f fr r) (timeBytes s.time.t ++ le s.time.unc 4) s) s)) ∧
    (fr.mode ≠ .j → exec (.tmAlarmWrite c d) s = .next (retiredThen c f 1 fr (alarmWrite (fr.reg d).toNat) s)) ∧
    (fr.tok t = .empty →
      (let s0 := s
        let s := touchOperands c s0
        ∀ src dst, (fr.reg 17).toNat ≤ 64 → 4851 ≤ (fr.reg 19).toNat → (fr.reg 19).toNat < 2 ^ 32 →
        s.buffer fr (fr.reg 16) (fr.reg 17).toNat false = some src →
        s.buffer fr (fr.reg 18) (fr.reg 19).toNat true = some dst → s.hazard fr.uid [src, dst] = false →
        (∀ n, s.time.cfg.slot = some n → s.slotOpen n = false) →
        exec (.tmtoken c t) s0 = .next (issued c f fr t
          (timeToken (.token c f fr.uid t.toNat) fr.cls [src, dst] (s.readRange c fr src) (dstOf c f fr dst) 0) s)) ∧
      (∀ b, fr.hnd h = .book b →
        (let s0 := s
          let s := touchOperands c s0
          ∀ src dst, 1 ≤ (fr.reg 17).toNat → (fr.reg 17).toNat ≤ 65536 → 128 ≤ (fr.reg 19).toNat →
          (fr.reg 19).toNat < 2 ^ 32 → s.granted c fr 7 b (some 2) = true →
          s.buffer fr (fr.reg 16) (fr.reg 17).toNat false = some src →
          s.buffer fr (fr.reg 18) (fr.reg 19).toNat true = some dst → s.hazard fr.uid [src, dst] = false →
          s.slotOpen (s.book b).slot = false → ∀ faults, exec (.bkissSeal c t h faults) s0 = .next (issued c f fr t
            (sealFrom [src, dst] (.token c f fr.uid t.toNat) b (s.readRange c fr src) (dstOf c f fr dst) faults) s)) ∧
        (∀ dst, 192 ≤ (fr.reg 19).toNat → (fr.reg 19).toNat < 2 ^ 32 → s.granted c fr 7 b (some 0) = true →
          s.buffer fr (fr.reg 18) (fr.reg 19).toNat true = some dst → s.hazard fr.uid [dst] = false →
          exec (.bkissHead c t h) s = .next (issued c f fr t (fun s' =>
            finish (.token c f fr.uid t.toNat) .ok 192 (s.book b).head.c
              (writeOut (.token c f fr.uid t.toNat) (dstOf c f fr dst) ((s.book b).head.bytes ++ (s.book b).config) s')) s))))

/-- The encrypting and tag-making AES functions with a key slot, on buffers clear of every busy token (R133, R139,
R188 to R198). -/
def Obligations.CipherEncrypt : Prop :=
  ∀ (s0 s : State) (c : Fin 9) (f : Nat) (fr : Fr) (t : BitVec 3) (h : BitVec 4) (n : Nat) (k : Slot) (v : Nat)
    (s' : State) (src dst aad : Range),
    s = touchOperands c s0 → Runs s c f fr 1 → fr.tok t = .empty → fr.hnd h = .keySlot n →
    let len := (fr.reg 17).toNat
    let cap := (fr.reg 19).toNat
    let p := s.readRange c fr src
    let vat (j : Job) := issued c f fr t (vatAdmit j)
    let on (j : Job) := j.key.map (fun x => (x.space, x.n)) = some (0, n)
    let healthy (k : Slot) := s.anyOk 0 16 = true ∧ (k.cmLevel ≠ 0 → s.drbgOk = true)
    let use (need : Need) (inv : Bool) := s.slotOpen n = false ∧ s.slotCheck (Rq.ofMode fr.mode) n need fr.session = .ok k ∧
      s.spent k = none ∧ healthy k ∧ drawUse k inv s = .got k v s'
    cap < 2 ^ 32 → s.buffer fr (fr.reg 16) len false = some src → s.buffer fr (fr.reg 18) cap true = some dst →
    (len ≤ 2 ^ 36 - 32 → len < 2 ^ 32 → s.buffer fr (fr.reg 20) (fr.reg 21).toNat false = some aad →
      (fr.reg 21).toNat < 2 ^ 32 →
      s.hazard fr.uid [src, dst, aad] = false → (fr.reg 22) = 0 → 28 + src.len ≤ dst.len → use (needAes 4 0) true →
      let iv := be k.fixed.toNat 4 ++ be v 8
      let ct := Config.aesGcmEnc k.material iv (s.readRange c fr aad) p
      let tag := Config.aesGcmTag k.material iv (s.readRange c fr aad) ct
      let d := dstOf c f fr dst
      ∃ j, exec (.gcmEnc c t h) s0 = .next (vat j s') ∧ j.status = .ok ∧
        j.outs = [(d.shift 12, fit ct src.len), (d, iv), (d.shift (12 + src.len), fit tag 16)] ∧
        j.count = 28 + src.len ∧ j.ref = .token c f fr.uid t.toNat ∧ on j) ∧
    (len < 2 ^ 32 → s.hazard fr.uid [src, dst] = false → 16 + src.len ≤ dst.len → use (needAes 1 0) true →
      let icb := be k.fixed.toNat 4 ++ be v 8 ++ zeros 4
      ∃ j, exec (.ctrEnc c t h) s0 = .next (vat j s') ∧ j.status = .ok ∧ j.count = 16 + src.len ∧
        j.outs = [((dstOf c f fr dst).shift 16, fit (Config.aesCtr k.material icb p) src.len), (dstOf c f fr dst, icb)] ∧
        j.ref = .token c f fr.uid t.toNat ∧ on j) ∧
    (len < 2 ^ 32 → s.hazard fr.uid [src, dst] = false → 16 + src.len ≤ dst.len → src.len % 16 = 0 →
      use (needAes 1 0) false → s.drbgOk = true →
      ∃ j, exec (.cbcEnc c t h) s0 = .next (vat j (s'.drbgBytes 16).2) ∧ j.status = .ok ∧ j.count = 16 + src.len ∧
        j.outs = [((dstOf c f fr dst).shift 16, fit (Config.aesCbcEnc k.material (s'.drbgBytes 16).1 p) src.len),
          (dstOf c f fr dst, (s'.drbgBytes 16).1)] ∧ j.ref = .token c f fr.uid t.toNat ∧ on j) ∧
    (len < 2 ^ 32 → s.hazard fr.uid [src, dst] = false → (fr.reg 22) = 0 → 16 ≤ dst.len → use (needAes 5 7) false →
      ∃ j, exec (.cmacGen c t h) s0 = .next (vat j s') ∧ j.status = .ok ∧ j.count = 16 ∧
        j.outs = [(dstOf c f fr dst, fit (Config.aesCmac k.material p) 16)] ∧ j.ref = .token c f fr.uid t.toNat)

/-- The decrypting and verifying cipher functions. -/
def Obligations.CipherDecrypt : Prop :=
  ∀ (s0 s : State) (c : Fin 9) (f : Nat) (fr : Fr) (t : BitVec 3) (h : BitVec 4) (n : Nat) (k : Slot) (v : Nat)
    (s' : State) (src dst aux : Range),
    s = touchOperands c s0 → Runs s c f fr 1 → fr.tok t = .empty → fr.hnd h = .keySlot n →
    let b := s.readRange c fr src
    let x := s.readRange c fr aux
    let ref := Ref.token c f fr.uid t.toNat
    let vat (j : Job) := issued c f fr t (vatAdmit j) s'
    let use (need : Need) := s.slotOpen n = false ∧ s.slotCheck (Rq.ofMode fr.mode) n need fr.session = .ok k ∧ s.spent k = none ∧
      s.anyOk 0 16 = true ∧ (k.cmLevel ≠ 0 → s.drbgOk = true) ∧ drawUse k false s = .got k v s'
    (fr.reg 17).toNat < 2 ^ 32 → s.buffer fr (fr.reg 16) (fr.reg 17).toNat false = some src →
    ((fr.reg 21).toNat < 2 ^ 32 → (fr.reg 19).toNat < 2 ^ 32 →
      s.buffer fr (fr.reg 18) (fr.reg 19).toNat true = some dst →
      s.buffer fr (fr.reg 20) (fr.reg 21).toNat false = some aux → (fr.reg 22) = 0 → 28 ≤ src.len →
      src.len - 28 ≤ dst.len → s.hazard fr.uid [src, dst, aux] = false → use (needAes 4 1) →
      let pay := src.len - 28
      let ct := sl b 12 pay
      ∃ j, exec (.gcmDec c t h) s0 = .next (vat j) ∧
        j.status = (if fit (Config.aesGcmTag k.material (sl b 0 12) x ct) 16 = sl b (12 + pay) 16 then .ok else .tagFail) ∧
        j.outs = [(dstOf c f fr dst, fit (Config.aesGcmDec k.material (sl b 0 12) x ct) pay)] ∧
        j.count = pay ∧ j.scrub = pay ∧ j.streamed = decide (16384 < pay) ∧ j.ref = ref) ∧
    ((fr.reg 19).toNat < 2 ^ 32 → s.buffer fr (fr.reg 18) (fr.reg 19).toNat true = some dst →
      s.hazard fr.uid [src, dst] = false →
      (16 ≤ src.len → src.len - 16 ≤ dst.len → beN (sl b 12 4) + (src.len - 16 + 15) / 16 ≤ 2 ^ 32 → use (needAes 1 1) →
        ∃ j, exec (.ctrDec c t h) s0 = .next (vat j) ∧ j.status = .ok ∧ j.count = src.len - 16 ∧ j.ref = ref ∧
          j.outs = [(dstOf c f fr dst, fit (Config.aesCtr k.material (sl b 0 16) (b.drop 16)) (src.len - 16))]) ∧
      (16 ≤ src.len → src.len - 16 ≤ dst.len → src.len % 16 = 0 → use (needAes 1 1) →
        ∃ j, exec (.cbcDec c t h) s0 = .next (vat j) ∧ j.status = .ok ∧ j.count = src.len - 16 ∧ j.ref = ref ∧
          j.outs = [(dstOf c f fr dst, fit (Config.aesCbcDec k.material (sl b 0 16) (b.drop 16)) (src.len - 16))]) ∧
      (8 ≤ src.len → src.len - 8 ≤ dst.len → src.len % 8 = 0 → use (needTdea 1) →
        ∃ j, exec (.tdeaCbcDec c t h) s0 = .next (vat j) ∧ j.status = .ok ∧ j.count = src.len - 8 ∧ j.ref = ref ∧
          j.outs = [(dstOf c f fr dst, fit (tdeaCbcDec k.material (sl b 0 8) (b.drop 8)) (src.len - 8))]) ∧
      (∀ i ∈ [Instr.tdeaCbcEnc c t h, .tdeaMacGen c t h],
        ∃ j, exec i s0 = .next (issued c f fr t (vatAdmit j) s) ∧ j.segs = 0 ∧ j.status = .keyAttr ∧ j.count = 0 ∧
          j.outs = [] ∧ j.ref = ref)) ∧
    ((fr.reg 21).toNat < 2 ^ 32 → s.buffer fr (fr.reg 20) (fr.reg 21).toNat false = some aux →
      (fr.reg 22) = 0 → aux.len = 16 → s.hazard fr.uid [src, aux] = false → use (needAes 5 7) →
      ∃ j, exec (.cmacVer c t h) s0 = .next (vat j) ∧ j.outs = [] ∧ j.ref = ref ∧
        j.status = if fit (Config.aesCmac k.material b) 16 = x then .ok else .tagFail) ∧
    (s.hazard fr.uid [src] = false → 8 ≤ src.len → use (needTdea 7) →
      ∃ j, exec (.tdeaMacVer c t h) s0 = .next (vat j) ∧ j.outs = [] ∧ j.ref = ref ∧
        j.status = if fit (tdeaMac k.material (sl b 0 (src.len - 8))) 8 = sl b (src.len - 8) 8 then .ok
          else .tagFail)

/-- XTS on a host volume (R199, R200). -/
def Obligations.XtsSectors : Prop :=
  ∀ (s0 s : State) (c : Fin 9) (f : Nat) (fr : Fr) (t : BitVec 3) (h : BitVec 4) (vol : Nat) (k : Slot) (v : Nat)
    (s' : State) (src dst : Range) (enc : Bool),
    s = touchOperands c s0 → Runs s c f fr 1 → fr.tok t = .empty → fr.hnd h = .volume vol →
    (fr.reg 17).toNat ≤ 65536 * 4096 → (fr.reg 19).toNat < 2 ^ 32 →
    s.buffer fr (fr.reg 16) (fr.reg 17).toNat false = some src →
    s.buffer fr (fr.reg 18) (fr.reg 19).toNat true = some dst →
    s.granted c fr 4 vol (some (if enc then 1 else 0)) = true → src.len ≤ dst.len → s.cardVolume vol = none →
    src.len % 4096 = 0 → src.len ≠ 0 → (fr.reg 22).toNat + src.len / 4096 ≤ 2 ^ 36 →
    (src.overlaps { dst with len := src.len } = false ∨ src.lo = dst.lo) → s.hazard fr.uid [src, dst] = false →
    s.slotOpen vol = false → s.slotCheck (Rq.ofMode fr.mode) vol (needXts (if enc then 0 else 1)) fr.session = .ok k → s.spent k = none →
    s.anyOk 0 16 = true → (k.cmLevel ≠ 0 → s.drbgOk = true) →
    k.material.take (k.material.length / 2) ≠ k.material.drop (k.material.length / 2) →
    drawUse k false s = .got k v s' →
    ∃ j, exec (if enc then .xtsEnc c t h else .xtsDec c t h) s0 = .next (issued c f fr t (vatAdmit j) s') ∧
      j.status = .ok ∧ j.count = src.len ∧ j.segs = src.len / 4096 ∧ j.ref = .token c f fr.uid t.toNat ∧
      j.outs = [(dstOf c f fr dst, ((List.range (src.len / 4096)).map fun i =>
        fit ((if enc then Config.xtsEnc else Config.xtsDec) k.material ((fr.reg 22).toNat + i)
          (sl (s.readRange c fr src) (4096 * i) 4096)) 4096).flatten)]

/-- Digests of R214, keyed digests, and COMPARE. -/
def Obligations.DigestInstructions : Prop :=
  ∀ (s0 s : State) (c : Fin 9) (f : Nat) (fr : Fr) (t : BitVec 3) (h : BitVec 4) (alg : BitVec 8) (a : DigestAlg)
    (src dst : Range),
    s = touchOperands c s0 → Runs s c f fr 1 → fr.tok t = .empty → digestAlg alg.toNat = some a →
    let len := (fr.reg 22).toNat
    let ref := Ref.token c f fr.uid t.toNat
    let msg := s.readRange c fr src
    let job (j : Job) (out : Bytes) := j.outs = [(dstOf c f fr dst, out)] ∧ j.status = .ok ∧ j.count = out.length ∧
      j.ref = ref ∧ j.ranges.take 2 = [src, dst]
    (fr.reg 17).toNat < 2 ^ 32 → (fr.reg 19).toNat < 2 ^ 32 →
    s.buffer fr (fr.reg 16) (fr.reg 17).toNat false = some src →
    (s.buffer fr (fr.reg 18) (fr.reg 19).toNat true = some dst →
      (s.hazard fr.uid [src, dst] = false → isKmac alg.toNat = false →
        ((Rq.ofMode fr.mode).governed = true → s.active.enables.getLsbD a.bit = true) →
        let n := if a.out = 0 then len else a.out
        1 ≤ n → n ≤ 65536 → n ≤ dst.len →
        ∃ j, exec (.hash c t alg) s0 = .next (issued c f fr t (digestAdmit j) s) ∧
          job j (fit (Config.hash alg.toNat msg n) n)) ∧
      (∀ (n : Nat) (k : Slot) (v : Nat) (s' : State), fr.hnd h = .keySlot n →
        KeyUse s fr n (needMac alg.toNat) false (fun k => hashCheck s k.cmLevel) k v s' →
        (a.out ≠ 0 → a.out ≤ dst.len → s.hazard fr.uid [src, dst] = false →
          ∃ j, exec (.hmac c t h alg) s0 = .next (issued c f fr t (digestAdmit j) s') ∧
            job j (fit (Config.hmac alg.toNat (sl k.material 2 (fld k.material 0 2)) msg) a.out)) ∧
        (∀ aux, isKmac alg.toNat = true → 1 ≤ len → len ≤ 512 → len ≤ dst.len → (fr.reg 21).toNat ≤ 256 →
          s.buffer fr (fr.reg 20) (fr.reg 21).toNat false = some aux → s.hazard fr.uid [src, dst, aux] = false →
          ∃ j, exec (.kmac c t h alg) s0 = .next (issued c f fr t (digestAdmit j) s') ∧
            job j (fit ((if alg.toNat = 0x1C then Config.kmac128 else Config.kmac)
              (sl k.material 2 (fld k.material 0 2)) msg (8 * len) (s.readRange c fr aux)) len)))) ∧
    (∀ aux, (fr.reg 21).toNat < 2 ^ 32 → s.buffer fr (fr.reg 20) (fr.reg 21).toNat false = some aux →
      8 ≤ len → len ≤ 64 → len ≤ src.len → len ≤ aux.len → s.hazard fr.uid [src, aux] = false →
      ∃ j, exec (.compare c t) s0 = .next (issued c f fr t (compareAdmit j) s) ∧ j.outs = [] ∧ j.count = 0 ∧
        j.value = 0 ∧ j.ref = ref ∧
        j.status = if msg.take len = (s.readRange c fr aux).take len then .ok else .compareFail)

/-- Hash streams (START, UPDATE, FINISH; R218, R221, R225), issued and taken up in their turn, and SLH-DSA (R228). -/
def Obligations.HashStreams : Prop :=
  (∀ (s0 s : State) (c : Fin 9) (f : Nat) (fr : Fr) (t : BitVec 3) (h : BitVec 4) (alg : BitVec 8) (a : DigestAlg)
    (aux : Range),
    s = touchOperands c s0 → Runs s c f fr 1 → fr.tok t = .empty → digestAlg alg.toNat = some a → (fr.reg 21).toNat < 2 ^ 32 → 512 ≤ aux.len →
    blockBuffer s fr = some aux →
    let ref := Ref.token c f fr.uid t.toNat
    let blk : Range := { aux with len := 512 }
    let opens (keyed : Bool) (key : Bytes) (level : Nat) : HashStream :=
      ⟨0, c, f, fr.uid, alg.toNat, keyed, key, level, (fr.reg 22).toNat, [], false, 0⟩
    let takes (j : Job) (op : Nat) (dst : Range) := j.ref = ref ∧ j.outs = [(dstOf c f fr dst, [])] ∧
      j.stream = .frame c f ∧ ∃ d, j.defer = some d ∧ d.op = op ∧ d.alg = alg.toNat
    (isKmac alg.toNat = false → (fr.reg 22).toNat ≤ a.max → s.hazard fr.uid [aux] = false →
      ((Rq.ofMode fr.mode).governed = true → s.active.enables.getLsbD a.bit = true) →
      ∃ j, exec (.start c t 0 false alg) s0 = .next (issued c f fr t (digestAdmit j) s) ∧ takes j 1 aux ∧
        j.defer.map (·.opens) = some (opens false [] 0)) ∧
    (∀ n k v s', isShake alg.toNat = false → (fr.reg 22).toNat ≤ a.max → s.hazard fr.uid [aux] = false →
      fr.hnd h = .keySlot n → KeyUse s fr n (needMac alg.toNat) false (fun k => hashCheck s k.cmLevel) k v s' →
      (s.eng.streams.filter fun r => r.uid == fr.uid).length < 8 →
      ∃ j, exec (.start c t h true alg) s0 = .next (issued c f fr t (digestAdmit j) s') ∧ takes j 1 aux ∧
        j.defer.map (·.opens) = some (opens true (keyBytes k.material) k.cmLevel)) ∧
    (∀ src, (fr.reg 17).toNat < 2 ^ 32 → s.buffer fr (fr.reg 16) (fr.reg 17).toNat false = some src →
      s.hazard fr.uid [src, aux] = false →
      ∃ j, exec (.update c t alg) s0 = .next (issued c f fr t (digestAdmit j) s) ∧ takes j 2 blk ∧
        j.defer.map (fun d => (d.block, d.input, d.opens.uid)) =
          some (s.readRange c fr blk, s.readRange c fr src, fr.uid)) ∧
    (∀ dst, (fr.reg 19).toNat < 2 ^ 32 → s.buffer fr (fr.reg 18) (fr.reg 19).toNat true = some dst →
      s.hazard fr.uid [dst, aux] = false → a.out ≠ 0 → a.out ≤ dst.len →
      ∃ j, exec (.finish c t alg) s0 = .next (issued c f fr t (digestAdmit j) s) ∧ takes j 3 dst ∧
        j.defer.map (fun d => (d.block, d.len, d.opens.uid)) = some (s.readRange c fr blk, a.out, fr.uid))) ∧
  (∀ (j : Job) (d : Deferred) (s : State),
    let found := (acceptBlock s d.opens.uid d.block).filter fun r => r.alg == d.alg
    (∀ ix keys, (s.eng.streams.filter fun r => r.uid == d.opens.uid).length < 8 → freeStream s = some ix →
      s.keys.stateKeys = some keys →
      (∀ r ∈ s.eng.streams, r.idx ≠ ix) ∧
      beginStart j d s = ({ j with defer := none, fin := .hashSet { d.opens with idx := ix }, count := 512 },
        setStream { d.opens with idx := ix } s)) ∧
    (8 ≤ (s.eng.streams.filter fun r => r.uid == d.opens.uid).length → beginStart j d s = (j.refused .operandRange, s)) ∧
    (found = none → beginUpdate j d s = (j.refused .tagFail, s) ∧ beginFinish j d s = (j.refused .tagFail, s)) ∧
    (∀ r, found = some r → r.alg = d.alg ∧ r.uid = d.opens.uid ∧ r ∈ s.eng.streams) ∧
    (∀ r, found = some r → r.runs s = false → beginUpdate j d s = (j.refused .noHealthyChannel, s) ∧
      beginFinish j d s = (j.refused .noHealthyChannel, freeStreamRec r.idx s)) ∧
    (∀ r, found = some r → r.runs s = true →
      let room := r.declared - r.absorbed.length
      let u := beginUpdate j d s
      let e := beginFinish j d s
      (u.2 = s ∧ u.1.status = (if room < d.input.length then .okTruncated else .ok) ∧
        u.1.count = (d.input.take room).length ∧ u.1.fin = .hashSet { r with
          absorbed := r.absorbed ++ d.input.take room, truncated := r.truncated || decide (room < d.input.length) }) ∧
      (e.2 = s ∧ e.1.fin = .hashFree r.idx ∧
        (r.absorbed.length = r.declared → e.1.status = .ok ∧ e.1.count = d.len ∧
          e.1.outs = j.outs.map fun o => (o.1, digestOut d.alg r.keyed r.key r.absorbed d.len [])) ∧
        (r.absorbed.length ≠ r.declared → e.1.status = .shortInput ∧ e.1.count = 0)))) ∧
  (∀ (s : State) (r : HashStream) (keys : Bytes × Bytes), s.keys.stateKeys = some keys → r.idx < 1024 → r.level < 4 →
    r.serial < 2 ^ 64 → (stateBlock keys r).length = 512 ∧
    acceptBlock (setStream r s) r.uid (stateBlock keys r) = some r ∧
    ∀ old : HashStream, old.idx = r.idx → old.level < 4 → old.serial < 2 ^ 64 → old.serial ≠ r.serial →
      acceptBlock (setStream r s) r.uid (stateBlock keys old) = none) ∧
  (∀ (s0 s : State) (c : Fin 9) (f : Nat) (fr : Fr) (t : BitVec 3) (h : BitVec 4) (set : BitVec 8) (len n : Nat)
    (k : Slot) (v : Nat) (s' : State) (src : Range),
    s = touchOperands c s0 → Runs s c f fr 1 → fr.tok t = .empty → slhLen set.toNat = some len → fr.hnd h = .keySlot n →
    (fr.reg 17).toNat < 2 ^ 32 → s.buffer fr (fr.reg 16) (fr.reg 17).toNat false = some src →
    let ref := Ref.token c f fr.uid t.toNat
    let msg := s.readRange c fr src
    (∀ dst, (fr.reg 19).toNat < 2 ^ 32 → s.buffer fr (fr.reg 18) (fr.reg 19).toNat true = some dst → len ≤ dst.len →
      s.hazard fr.uid [src, dst] = false → s.drbgOk = true → s.anyOk 16 8 = true →
      KeyUse s fr n (needSlh (0x0800 + set.toNat) 2) false (fun _ => none) k v s' →
      ∃ j, exec (.slhSign c t h set) s0 = .next (issued c f fr t (digestAdmit j) (s'.drbgBytes 32).2) ∧
        j.status = .ok ∧ j.count = len ∧ j.ref = ref ∧ j.outs = [(dstOf c f fr dst,
          fit (Config.pk (0x0800 + set.toNat) k.material 0 [msg] (s'.drbgBytes 32).1) len)]) ∧
    (∀ aux, (fr.reg 21).toNat < 2 ^ 32 → s.buffer fr (fr.reg 20) (fr.reg 21).toNat false = some aux → aux.len = len →
      s.hazard fr.uid [src, aux] = false → s.anyOk 16 8 = true →
      KeyUse s fr n (needSlh (0x0810 + set.toNat) 3) false (fun _ => none) k v s' →
      ∃ j, exec (.slhVerify c t h set) s0 = .next (issued c f fr t (digestAdmit j) s') ∧ j.outs = [] ∧ j.ref = ref ∧
        j.status = if Config.pkVerify (0x0810 + set.toNat) k.material 0 [msg, s.readRange c fr aux] then .ok
          else .tagFail))

/-- Issue with a key slot. -/
def Obligations.LaneKeyed : Prop :=
  ∀ (s0 s : State) (c : Fin 9) (f : Nat) (fr : Fr) (t : BitVec 3) (h : BitVec 4) (ps : Fin 3) (n : Nat) (need : Need)
    (k : Slot) (v : Nat) (s' : State) (src dst aux : Range),
    ∀ (i : Instr) (fn : LaneFn), LaneForm c t h ps i fn → s = touchOperands c s0 → Runs s c f fr 1 → fr.tok t = .empty → fr.hnd h = .keySlot n → fn.need = some need →
    LaneBuffers s fr fn src dst aux → (fn.early true (fr.reg 22) src.len aux.len).1 ≤ dst.len →
    (fn.early true (fr.reg 22) src.len aux.len).2 = false →
    let p := fn.plan (some (k.alg, k.material)) (fr.reg 22) (s.readRange c fr src) (s.readRange c fr aux)
    p.long = false → p.out ≤ dst.len → p.bad = false → s.lanesOk = true → ((fn.isPrivate || fn.seeded) = true → s.drbgOk = true) →
    KeyUse s fr n need false (fun _ => none) k v s' →
    ∃ j, exec i s0 = .next (issued c f fr t (laneAdmit j) s') ∧
      LaneJobOf c f fr t fn p dst j ∧ j.key.map (fun x => (x.space, x.n)) = some (0, n)

/-- Issue without a key: MODEXP, and the verifying and encapsulating forms whose handle field 0 names an empty h0. -/
def Obligations.LaneBare : Prop :=
  ∀ (s0 s : State) (c : Fin 9) (f : Nat) (fr : Fr) (t : BitVec 3) (ps : Fin 3) (src dst aux : Range),
    ∀ (i : Instr) (fn : LaneFn), (LaneForm c t 0 ps i fn ∨ (i = .modexp c t ∧ fn = fnModexp)) →
    ∀ en : Bytes → List Nat, s = touchOperands c s0 → Runs s c f fr 1 → fr.tok t = .empty → fr.hnd 0 = .empty → fn.bare = some en →
    LaneBuffers s fr fn src dst aux → (fn.early false (fr.reg 22) src.len aux.len).1 ≤ dst.len →
    (fn.early false (fr.reg 22) src.len aux.len).2 = false →
    let p := fn.plan none (fr.reg 22) (s.readRange c fr src) (s.readRange c fr aux)
    p.long = false → p.out ≤ dst.len → p.bad = false → s.lanesOk = true → ((fn.isPrivate || fn.seeded) = true → s.drbgOk = true) →
    ((Rq.ofMode fr.mode).governed = true → ∀ b ∈ en (if fn.fn = 0x0100 then s.readRange c fr src
      else s.readRange c fr aux), s.active.enables.getLsbD b = true) →
    ∃ j, exec i s0 = .next (issued c f fr t (laneAdmit j) s) ∧
      LaneJobOf c f fr t fn p dst j ∧ j.key = none

/-- Outputs and statuses of a lane job, and sizes of keys, messages and outputs (R238 to R241). -/
def Obligations.LaneOutcomes : Prop :=
  (∀ (fn : LaneFn) (p : LanePlan) (j : Job) (dst : Dst), j.fn = fn.fn → j.work = some (laneWork fn p) →
    j.outs = [(dst, [])] → j.status = .ok →
    let r := j.laneOutcome
    (∀ q ∈ p.rules, q.1 = false → ∀ pre, (∃ post, p.rules = pre ++ q :: post ∧ ∀ x ∈ pre, x.1 = true) →
      r.outs = [] ∧ r.status = q.2) ∧
    ((∀ q ∈ p.rules, q.1 = true) →
      let ok := Config.pkVerify fn.fn p.key p.par p.inputs = true
      let out := Config.pk fn.fn p.key p.par p.inputs (if fn.seeded then j.rnd else [])
      (fn.verify = true → r.outs = [] ∧ r.status = if ok then .ok else .tagFail) ∧
      (fn.verify = false → fn.decodes = true → (ok → r.outs = [(dst, out.take p.out)] ∧ r.status = .ok ∧
          r.count = (out.take p.out).length) ∧ (¬ok → r.outs = [] ∧ r.status = .tagFail)) ∧
      (fn.verify = false → fn.decodes = false → r.outs = [(dst, fit out p.out)] ∧ r.status = .ok ∧ r.count = p.out))) ∧
  (∀ (alg : Nat) (m : Bytes) (w : Word) (src aux : Bytes),
    let kb := rsaBits m / 8
    let key := some (alg, m)
    ((fnRsaPrivate.plan key w src aux).out = kb ∧ ((fnRsaPrivate.plan key w src aux).bad = true ↔ src.length ≠ kb)) ∧
    (∀ fn pss, ((fnRsaSign fn pss).plan key w src aux).out = kb) ∧
    (∀ fn pss, 16 ≤ m.length → (((fnRsaVerify fn pss).plan key w src aux).bad = true ↔ aux.length ≠ kb)) ∧
    ((fnOaepEnc.plan key w src aux).out = kb) ∧
    (∀ c f, (c = 1 ∧ f = 32 ∨ c = 2 ∧ f = 48 ∨ c = 3 ∧ f = 66) →
      (fnEcdsaSign.plan (some (0x0400 + c, m)) w src aux).out = 2 * f ∧
      ((fnEcdsaVerify.plan (some (0x0410 + c, m)) w src aux).bad = true ↔ aux.length ≠ 2 * f) ∧
      (fnEcdh.plan (some (0x0400 + c, m)) w src aux).out = f ∧
      ((fnEcdh.plan (some (0x0400 + c, m)) w src aux).bad = true ↔ src.length ≠ 1 + 2 * f)) ∧
    (fnEdSign.plan key w src aux).out = 64 ∧ ((fnEdVerify.plan (some (alg, m)) w src aux).bad = false →
      aux.length = 64) ∧
    (∀ ps < 3, ((fnEncaps ps).plan key w src aux).out = [800, 1120, 1600].getD ps 0) ∧
    (∀ ps, ((fnDecaps ps).plan key w src aux).out = 32) ∧
    (∀ ps, ((fnDsaSign ps).plan key w src aux).out = [2420, 3309, 4627].getD ps 0) ∧
    (fnHybridSign.plan key w src aux).out = 4723 ∧
    ((fnHybridVerify.plan key w src aux).bad = true ↔ aux.length ≠ 4723) ∧
    ((fnModexp.plan none w src aux).out = w.toNat / 2 ^ 16 % 2 ^ 16))

/-- Key generation into an operand slot of the order (R233). -/
def Obligations.KeyGeneration : Prop :=
  ∀ (s0 s : State) (c : Fin 9) (f : Nat) (fr : Fr) (t : BitVec 3) (ps : Fin 3) (h : BitVec 4) (o l : Nat) (dst : Range)
    (s' : State),
    s = touchOperands c s0 → Runs s c f fr 1 → fr.tok t = .empty → (fr.reg 23).toNat = 16 + h.toNat → fr.hnd h = .operand o →
    (fr.reg 19).toNat < 2 ^ 32 → s.buffer fr (fr.reg 18) (fr.reg 19).toNat true = some dst →
    s.hazard fr.uid [dst] = false → s.lanesOk = true → s.drbgOk = true → retainSlot fr.uid o s = .ok (l, s') →
    let gen (i : Instr) (fn par kind privLen pubLen : Nat) := pubLen ≤ dst.len →
      ∃ j, exec i s0 = .next (issued c f fr t (laneAdmit j) s') ∧ j.lane = some l ∧
        j.ref = .token c f fr.uid t.toNat ∧ j.status = .ok ∧ j.level = 2 ∧ ∀ rnd : Bytes,
          let priv := fit (Config.pk fn [] par [] rnd) privLen
          let pub := fit (Config.pkPublic kind priv) pubLen
          let r := ({ j with rnd := rnd } : Job).laneOutcome
          r.outs = [(dstOf c f fr dst, pub)] ∧ r.fin = .retain fr.uid o kind (priv ++ pub) ∧ r.count = pubLen ∧
            r.status = .ok
    let on (b : Nat) := (Rq.ofMode fr.mode).governed = false ∨ s.active.enables.getLsbD b = true
    ((on 18 ∨ on 20) → ∀ cv n, (cv = 1 ∧ n = 32 ∨ cv = 2 ∧ n = 48 ∨ cv = 3 ∧ n = 66) → (fr.reg 22).toNat = 256 * cv →
      gen (.ecKeygen c t) 0x0203 cv (0x0400 + cv) n (1 + 2 * n)) ∧
    (on 21 → gen (.mlkemKeygen c t ps) (0x0310 + ps) ps (0x0501 + ps) 64 ([800, 1184, 1568].getD ps 0)) ∧
    (on 22 → gen (.mldsaKeygen c t ps) (0x0410 + ps) ps (0x0601 + ps) 32 ([1312, 1952, 2592].getD ps 0))

/-- RANDOM, card volumes and channels, and window copies. -/
def Obligations.RandomCardsAndCopies : Prop :=
  ∀ (s0 s : State) (c : Fin 9) (f : Nat) (fr : Fr) (t : BitVec 3) (h : BitVec 4) (d a : BitVec 5),
    s = touchOperands c s0 → Runs s c f fr 1 →
    let ref := Ref.token c f fr.uid t.toNat
    let len := (fr.reg 17).toNat
    (∀ n, fr.hnd h = .channel n → a.toNat = h.toNat → s.granted c fr 5 n (some 0) = true →
      exec (.ccstat c d a) s = .next (retired c f 1 (fr.setReg d (BitVec.ofNat 64 (s.cardWord n))) s)) ∧
    (∀ n, fr.hnd h = .channel n → a.toNat = h.toNat → s.granted c fr 5 n (some 0) = false →
      exec (.ccstat c d a) s = .next (trapped c f .access 0 s)) ∧
    (fr.tok t = .empty →
      (∀ dst, 1 ≤ (fr.reg 19).toNat → (fr.reg 19).toNat ≤ 65536 →
        s.buffer fr (fr.reg 18) (fr.reg 19).toNat true = some dst → s.hazard fr.uid [dst] = false →
        (s.drbgOk = true → exec (.random c t) s0 = .next (issued c f fr t (fun s =>
          finish ref .ok (fr.reg 19).toNat 0 (writeOut ref (dstOf c f fr dst) (s.drbgBytes (fr.reg 19).toNat).1
            (s.drbgBytes (fr.reg 19).toNat).2)) s)) ∧
        (s.drbgOk = false → exec (.random c t) s0 = .next (issued c f fr t (finish ref .noHealthyChannel 0 0) s))) ∧
      (∀ v ch, fr.hnd h = .volume v → s.cardVolume v = some ch → len ≤ 65536 * 4096 → len % 4096 = 0 → len ≠ 0 →
        (∀ r, s.buffer fr (fr.reg 16) len true = some r → s.granted c fr 4 v (some 0) = true →
          s.hazard fr.uid [r] = false → exec (.cvissRead c t h) s0 = .next (issued c f fr t
            (cvissGo ref ch false (fr.reg 22).toNat r (dstOf c f fr r) []) s)) ∧
        (∀ r, s.buffer fr (fr.reg 16) len false = some r → s.granted c fr 4 v (some 1) = true →
          s.hazard fr.uid [r] = false → exec (.cvissWrite c t h) s0 = .next (issued c f fr t
            (cvissGo ref ch true (fr.reg 22).toNat r .none (s.readRange c fr r)) s))) ∧
      (∀ n w, fr.hnd h = .window n → vget fr.windows n none = some w → len ≤ 4194304 → len ≠ 0 →
        (fr.reg 18).toNat + len ≤ w.len →
        (∀ m, onChip s fr (fr.reg 16) len true = some m → w.rd = true →
          s.hazard fr.uid [m, ⟨spWindow n, (fr.reg 18).toNat, len, false⟩] = false →
          exec (.wcpyFromWindow c t h) s0 = .next (issued c f fr t (fun s' => finish ref .ok len 0
            (writeOut ref (dstOf c f fr m) (s'.hostMem.read (w.addr + (fr.reg 18).toNat) len) s')) s)) ∧
        (∀ m, onChip s fr (fr.reg 16) len false = some m → w.wr = true →
          s.hazard fr.uid [m, ⟨spWindow n, (fr.reg 18).toNat, len, true⟩] = false →
          exec (.wcpyToWindow c t h) s0 = .next (issued c f fr t (fun s' => finish ref .ok len 0
            (writeOut ref (.host (w.addr + (fr.reg 18).toNat)) (s'.readRange c fr m) s')) s))))

/-- Ends of segments, compares and lane jobs, faults and reruns, and the outcome of a job of a frame (R189, R191, R210,
R230, R244 to R247, R204, R205). -/
def Obligations.EngineEnds : Prop :=
  (∀ (s : State),
    (∀ (u : Fin 16) (j : Job) (i : Nat), s.eng.vat.unitJob u = some (j, i) →
      let s1 (fault : Bool) := chanOp u fault { s with eng := { s.eng with vat := s.eng.vat.free u } }
      let w := segWrite j i (s1 false)
      let j' := { w.1 with ended := j.ended + 1 }
      (j.segs ≤ j.ended + 1 → exec (.vatSegmentEnd u false) s = .next (engFill (endJob j' j.status w.2))) ∧
      (j.ended + 1 < j.segs → exec (.vatSegmentEnd u false) s = .next (engFill (putVat j' w.2))) ∧
      exec (.vatSegmentEnd u true) s = .next (detection (engFill (putVat
        { j with redo := j.redo ++ [i], retried := true, faults := j.faults + 1 } (s1 true))))) ∧
    (∀ (u : Fin 8) (j : Job) (i : Nat), s.eng.digest.unitJob u = some (j, i) →
      let s1 (fault : Bool) := chanOp (16 + u) fault { s with eng := { s.eng with digest := s.eng.digest.free u } }
      let w := segWrite j i (s1 false)
      let j' := { w.1 with ended := j.ended + 1 }
      (j.segs ≤ j.ended + 1 → exec (.digestSegmentEnd u false) s = .next (engFill (endJob j' j.status w.2))) ∧
      (j.ended + 1 < j.segs → exec (.digestSegmentEnd u false) s = .next (engFill (putDigest j' w.2))) ∧
      exec (.digestSegmentEnd u true) s = .next (detection (engFill (putDigest
        { j with redo := j.redo ++ [i], retried := true, faults := j.faults + 1 } (s1 true))))) ∧
    (∀ (j : Job) (i : Nat) (d : Dst) (b : Bytes) (rest : List (Dst × Bytes)), j.outs = (d, b) :: rest →
      (j.streamed = false → segWrite j i s = (j, s)) ∧
      (j.streamed = true → j.aad ≤ i → let k := 4096 * (i - j.aad)
        segWrite j i s = ({ j with written := j.written + (sl b k 4096).length },
          writeOut j.ref (d.shift k) (sl b k 4096) s))) ∧
    (∀ (u : Fin 2) (j : Job), s.eng.compares.find? (fun x => x.lane == some u.val) = some j →
      exec (.compareUnitDone u) s = .next (engFill (endJob j j.status s))) ∧
    (∀ (l : Fin 16) (j : Job) (i : Nat), s.eng.lanes.unitJob l = some (j, i) →
      let left := addSuspension l j.estT { s with eng := { s.eng with lanes := s.eng.lanes.free l } }
      let s1 (fault : Bool) := chanOp (24 + l) fault left
      let on (t : State) := cardServeAll (engFill (laneRetired l t))
      let r := j.laneOutcome
      ((∀ n, j.stream ≠ .device n) →
        exec (.laneJobEnd l .good) s = .next (on (endJob r r.status (s1 false))) ∧
        exec (.laneJobEnd l .corrected) s =
          .next (on (endJob { r with retried := true } r.status (laneCorrected l (s1 false))))) ∧
      (∀ n, j.stream = .device n → exec (.laneJobEnd l .good) s =
        .next (on (raise (276 + l) (endJob r r.status (s1 false))))) ∧
      (j.stop = false → j.faults < 2 → exec (.laneJobEnd l .faulted) s = .next (detection (on (putLane
        { j with started := 0, retried := true, faults := j.faults + 1 } (s1 true))))) ∧
      (j.stop = true ∨ 2 ≤ j.faults →
        let e := endJob j (if j.stop then .aborted else .faultPermanent) (s1 true)
        ((∀ n, j.stream ≠ .device n) → exec (.laneJobEnd l .faulted) s = .next (detection (on e))) ∧
        (∀ n, j.stream = .device n → exec (.laneJobEnd l .faulted) s = .next (detection (on (raise (276 + l) e))))) ∧
      (j.stop = true → let e := endJob j .aborted (s1 false)
        ((∀ n, j.stream ≠ .device n) → exec (.laneYieldPoint l) s = .next (engFill e)) ∧
        (∀ n, j.stream = .device n → exec (.laneYieldPoint l) s = .next (engFill (raise (276 + l) e)))) ∧
      (∀ x w, j.stop = false → 2000000 ≤ j.estT → look l.val s.eng.lanes.susp = none →
        wrrPick s.eng.lanes.wrr (s.shortFor l j) = some (x, w) →
        exec (.laneYieldPoint l) s = .next (laneStart l x w { s with eng := { s.eng with lanes :=
          { s.eng.lanes.free l with susp := (l.val, j.id) :: s.eng.lanes.susp } } })))) ∧
  ((∀ (s : State) (j : Job), j.fin = .plain → j.defer = none → j.streamed = false →
    (endJob j .ok s = finish j.ref (if j.retried then .okRetried else .ok) j.count j.value
      (writeOuts j.ref j.outs (removeJob j s))) ∧
    (∀ st, st.isOk = false → j.scrub = 0 → endJob j st s =
      finish j.ref st (if st = .aborted then j.written else 0) j.value (removeJob j s)) ∧
    (∀ st d b rest, st.isOk = false → j.scrub ≠ 0 → j.outs = (d, b) :: rest →
      (j.scrubFail = none → endJob j st s =
        finish j.ref st j.scrub j.value (writeOut j.ref d (zeros j.scrub) (removeJob j s))) ∧
      (∀ n, j.scrubFail = some n → endJob j st s = finish j.ref .aborted (min n j.scrub) j.value
        (writeOut j.ref d (zeros (min n j.scrub)) (removeJob j s))))) ∧
  (∀ (s : State) (c : Fin 9) (f : Fin 4) (fr : Fr) (t : BitVec 3) (st : Status) (n v : Nat), s.frame c f = some fr →
    let done := Tok.done st (BitVec.ofNat 32 n) (BitVec.ofNat 64 v)
    let go := finish (.token c f fr.uid t.toNat) st n v s
    (fr.wait = none → go = tryEnd c f (tryExit c f (setFrame c f (some (fr.setTok t done)) s))) ∧
    (fr.wait = none → fr.exiting = none → fr.ending = none → go = setFrame c f (some (fr.setTok t done)) s) ∧
    (∀ d b, fr.wait = some (t, d, b) → fr.waitClose = false → ∃ fr', go = schedule c (setFrame c f (some fr') s) ∧
      fr'.tok t = .empty ∧ fr'.wait = none ∧
      fr'.g = ((fr.setReg d (BitVec.ofNat 64 (n % 2 ^ 32 * 2 ^ 32 + st.code))).setReg b (BitVec.ofNat 64 v)).g) ∧
    (∀ uid, uid ≠ fr.uid → finish (.token c f uid t.toNat) st n v s = s)))

/-- PRESS_COMMIT: which press, what it changes, when it fails (R150, R260); what one item of a press writes; PRESS_APPLY
(R261). `mbResume` takes up a mailbox command that waited for a press, `resumeBooks` the seals and wheels of a book that
did (R21). -/
def Obligations.PressCommit : Prop :=
  (∀ (s : State) (p : Press) (how : PressEnd), s.awake = true → s.nextPress = some p →
    s.press.log.length < 2 →
    let s1 := { s with press := { s.press with queue := dropFirst (fun q => q == p) s.press.queue
                                               bufUsed := s.press.bufUsed - p.reserve } }
    (pressFails s1 p = none → (p.items ≠ [] ∨ p.conds ≠ []) →
      exec (.pressCommit .good) s = .next (mbResume (resumeBooks s (commitPress false p s1))) ∧
      exec (.pressCommit .corrected) s = .next (mbResume (resumeBooks s (commitPress true p s1))) ∧
      exec (.pressCommit .bufferFault) s =
        .next (mbResume (resumeBooks s (failPress p .faultPermanent (healthLog 0x0F 0xFF 0 s1))))) ∧
    (pressFails s1 p = none → p.items = [] → p.conds = [] →
      exec (.pressCommit how) s = .next (mbResume (resumeBooks s (finish p.origin .ok 0 s.press.epoch s1)))) ∧
    (∀ st, pressFails s1 p = some st → exec (.pressCommit how) s = .next (mbResume (resumeBooks s (failPress p st s1)))) ∧
    (s.debugBars = true → pressFails s1 p = some .lifecycle) ∧
    (s.debugBars = false → s.ringOk = false → pressFails s1 p = some .faultPermanent)) ∧
  (∀ (s : State) (how : PressEnd), s.syncFollower = true → (∀ p ∈ s.press.queue, .weltPromote ∉ p.items) →
    exec (.pressCommit how) s = .next (mbResume s)) ∧
  (∀ (s : State) (e : Nat),
    (∀ (p : Fin 8) (off : Nat) (data : Bytes),
      let t := applyItem e s (.write p off data)
      (t.part p).mem = (s.part p).mem.write off data ∧ (t.part p).protect = (s.part p).protect ∧
      (t.part p).origin = some ((s.part p).origin.getD s.vault.lc) ∧ ∀ q : Fin 8, q ≠ p → t.part q = s.part q) ∧
    (∀ p : Fin 8, let t := applyItem e s (.clearPart p)
      (t.part p).mem = [] ∧ (t.part p).origin = none ∧ ∀ q : Fin 8, q ≠ p → t.part q = s.part q) ∧
    (∀ (n amount v : Nat), s.counter n = some v → absolute s [] [.ctrAdd n amount, .ctrAdd n amount] =
        [.ctrSet n (v + amount), .ctrSet n (v + amount + amount)] ∧
      (applyItem e s (.ctrSet n (v + amount))).counter n = some (v + amount) ∧
      ∀ m, m ≠ n → (applyItem e s (.ctrSet n (v + amount))).counter m = s.counter m) ∧
    (∀ v, s.updateCounter = some v → absolute s [] [.updInc] = [.updSet (v + 1)] ∧
      (applyItem e s (.updSet (v + 1))).updateCounter = some (v + 1)) ∧
    (s.awake = true → exec .pressApply s = .next (mbResume (resumeBooks s (applyRecord s)))) ∧
    (∀ r rest, s.press.log = r :: rest → let t := applyRecord s
      t.press.log = rest ∧ t.press.applied = r.epoch ∧ t.press.pos = r.stop ∧
      (s.bankRetired 0 = true → t.press.state = s.press.state ∧ { t with press := s.press } = s) ∧
      (s.bankRetired 0 = false → t.press.state.read = some ⟨r.stop, s.press.half0, s.press.half1, r.epoch⟩ ∧
        t = wakeBank 0 { s with press := t.press })))

/-- Two-copy records, the Brine checkpoint, the Cellar scrub and the DRBG (R14, R16, R254, R257, R258, R267, R272). -/
def Obligations.RecordsBrineScrubDrbg : Prop :=
  (∀ (t : TwoCopy) (v : Nat),
    (t.update v).read = some v ∧ (∀ w, t.read = some w → t.ok0 = true → t.ok1 = true → t.cut.read = some w) ∧
    (t.ok0 = false → t.ok1 = false → t.read = none) ∧
    (t.ok0 = true → t.ok1 = false → t.read = some t.val0) ∧ (t.ok0 = false → t.ok1 = true → t.read = some t.val1) ∧
    (t.ok0 = true → t.ok1 = true → t.seq1 = t.seq0 + 1 → t.read = some t.val1) ∧
    (t.ok0 = true → t.ok1 = true → t.seq0 = t.seq1 + 1 → t.read = some t.val0) ∧
    (t.ok0 = true → t.ok1 = true → t.seq1 ≠ t.seq0 + 1 → t.seq0 ≠ t.seq1 + 1 → t.read = none)) ∧
  (∀ (addr : Nat) (data : Bytes) (seq : BitVec 32), copyValid addr (copyBytes addr data seq) = true ∧
    (copyBytes addr data seq).length = data.length + 8) ∧
  (∀ (s : State) (k : Slot) (i : Nat), (slotRecord s k i).length = 256 ∧
    fld (slotRecord s k i) 0 8 = k.attr.toNat ∧ (k.gen < 2 ^ 32 → fld (slotRecord s k i) 16 4 = k.gen) ∧
    (slotRecord s k i).drop 240 = slotTag s k i ((slotRecord s k i).take 240)) ∧
  (∀ (s : State),
    ((s.awake = false ∨ s.brine.mode ≠ .holdup ∨ s.debugBars = true ∨ s.bankRetired 0 = true) →
      exec (.brineCheckpoint []) s = .next s) ∧
    (s.awake = true → s.brine.mode = .holdup → s.debugBars = false → s.bankRetired 0 = false →
      ∃ t, exec (.brineCheckpoint []) s = .next t ∧ t = wakeIf s.dirty { s with brine := t.brine, books := t.books } ∧
      (∀ x ∈ t.brine.entries, x.dist = 0) ∧ t.brine.entries.map (·.slot) = s.brine.entries.map (·.slot) ∧
      (∀ b : Fin 64, (t.book b).dist = 0 ∧ ((s.book b).dist ≠ 0 → (t.book b).durable.read = some (s.book b).head) ∧
        (t.book b).head = (s.book b).head)) ∧
    (s.awake = true → s.debugBars = false → s.rind.guard = false →
      (∀ (n : Fin 16384) (e : Entry) (k : Slot) (d : Count), s.entry n = some e → s.slot n = some k →
        e.dur.read = some d → d.gen = k.gen → ∃ t e', exec (.brineCheckpoint [.entry n]) s = .next t ∧ t.entry n = some e' ∧
          e'.inv = min (2 ^ 64 - 1) (d.inv + 2 ^ 20) ∧
          e'.uses = (if k.inBrine = true then d.uses - 2 ^ 20 else d.uses)) ∧
      (∀ (b : Fin 64) (h : Head), s.bankRetired 0 = false → (s.book b).durable.read = some h → (s.book b).st ≠ .halted →
        ∃ t, exec (.brineCheckpoint [.head b]) s = .next t ∧ (t.book b).head.gap = true ∧
          (t.book b).head.c = min (2 ^ 64 - 1) (h.c + 2 ^ 20) ∧ (t.book b).gapRec.isSome = true)) ∧
    (s.bankRetired (s.cellar.scrubAt / 16384) = false → s.scrubRow = s.cellar.scrubAt) ∧
    (∀ (row : BitVec 16) (found : GroupRead), row.toNat ≠ s.scrubRow → exec (.cellarScrub row found) s = .next s) ∧
    (∀ row : BitVec 16, s.awake = true → row.toNat = s.scrubRow → s.bankRetired (row.toNat / 16384) = false →
      (∃ t, exec (.cellarScrub row .good) s = .next t ∧ t.cellar = { s.cellar with scrubAt := (row.toNat + 1) % 65536 }) ∧
      (∃ f s1, s1 = { wakeBank (row.toNat / 16384) s with freeCtr := s1.freeCtr } ∧
        let s2 := setChan (56 + row.toNat / 16384) { s1.chan (56 + row.toNat / 16384) with
          ops := (s1.chan (56 + row.toNat / 16384)).ops + f + 8 } s1
        let s3 := { s2 with cellar := { s2.cellar with scrubAt := (row.toNat + 1) % 65536 } }
        exec (.cellarScrub row .corrected) s = .next (rowFault row.toNat s3) ∧
        ∀ (g : Fin 64) (loses : Option LostObj) (spoils : Option (LostObj × Fin 2)),
          let a := row.toNat * 1024 + 16 * g
          let x := healthLog 0x0A (56 + row.toNat / 16384) (a / 16) (spoilGroup a s3)
          exec (.cellarScrub row (.uncorrectable g loses spoils)) s = .next (rowFault row.toNat
            (spoils.elim (loses.elim x fun o => loseRecord o x) (spoilCopy x))))) ∧
    (s.drbgOk = true →
      let seeded := Host.Outcome.next { s with drbg := { s.drbg with requests := 0, seedReady := false, due := false } }
      (s.drbg.due = false → exec .drbgSeedReady s = .next { s with drbg := { s.drbg with seedReady := true } }) ∧
      (s.drbg.due = true → exec .drbgSeedReady s = seeded) ∧
      (s.drbg.seedReady = true → exec .drbgReseed s = seeded) ∧
      (s.drbg.seedReady = false → exec .drbgReseed s = .next { s with drbg := { s.drbg with due := true } })) ∧
    (∀ n : Fin 2, (if n = 0 then s.drbg.noise0 else s.drbg.noise1) = true →
      exec (.noiseSourceFail n) s = .next (engFill (healthLog 4 0xFF n { s with drbg := { s.drbg with
        noise0 := s.drbg.noise0 && decide (n ≠ 0), noise1 := s.drbg.noise1 && decide (n ≠ 1), seedReady := false } }))))

/-- The time base: second boundaries, gates, reference loss, slews. -/
def Obligations.TimeBaseEvents : Prop :=
  ∀ (s : State),
    (s.awake = true → ∃ t, exec .timeSecondBoundary s = .next t ∧
      t.time.t = max s.time.t ((s.time.t / second + 1) * second) ∧
      (s.bankRetired 0 = false → t.time.mark.read = some t.time.t) ∧
      (s.time.alarm ≠ 0 → s.time.alarm ≤ s.time.t / second + 1 → t.time.alarm = 0) ∧
      (s.time.timeSet = true → s.time.ppsFrom ≤ s.time.t / second + 1 → s.active.timeFlags.getLsbD 0 = true →
        t.time.pps = true ∧ Tx.pps true ∈ t.tx)) ∧
    ((s.power.st = .battery ∨ s.power.st = .inReset) → exec .timeSecondBoundary s =
      .next { s with time := s.time.advance ((s.time.t / second + 1) * second) }) ∧
    (s.power.st = .off → exec .timeSecondBoundary s = .next s) ∧
    (s.time.pps = false → exec .ppsWidthEnd s = .next s) ∧
    (∀ ref xt temp : Int, (s.power.st = .battery → exec (.gateEnd ref xt temp) s =
        .next { s with time := { s.time with bin := binOf temp } }) ∧
      (s.power.st = .off → exec (.gateEnd ref xt temp) s = .next s)) ∧
    (s.time.pps = true → exec .ppsWidthEnd s =
      .next { s with time := { s.time with pps := false }, tx := s.tx ++ [.pps false] }) ∧
    (s.power.st ≠ .off → ∃ t, exec .refoscLoss s = .next (quietTime { s with time := t }) ∧ t.qualified = false ∧
      t.gates = 0 ∧ t.t = s.time.t) ∧
    (∀ ref xt temp : Int, s.awake = true → ∃ t, exec (.gateEnd ref xt temp) s =
      .next (tuneAll (quietTime { s with time := t, cards := { s.cards with dieC := temp } })) ∧
      t.prevGate = some ref ∧ t.t = s.time.t ∧
      (s.time.qualified = true → ∀ p, s.time.prevGate = some p →
        t.qualified = decide ((ref - p).natAbs ≤ 1000)) ∧
      (s.time.qualified = false → s.time.refTripped = false → ∀ p, s.time.prevGate = some p → (ref - p).natAbs ≤ 1000 →
        ref.natAbs ≤ 100000 → if 9 ≤ s.time.gates then t.qualified = true else
          t.qualified = false ∧ t.gates = s.time.gates + 1)) ∧
    (s.awake = true → s.ringOk = true → s.debugBars = false → s.rind.guard = false → s.syncFollower = false →
      ∃ q : Press, q.items = [.bins] ∧ q.origin = .none ∧ exec .binTablePress s = .next (enqueue q s)) ∧
    (let t := s.time
      let c := t.r.natAbs / 1000000000
      let dest := t.t + (if t.r < 0 then c * 1000000 / t.rate - c else c * 1000000 / t.rate + c)
      s.power.st ≠ .off → t.r ≠ 0 → t.rate ≠ 0 → dest / second = t.t / second →
        ∃ t', exec .slewEnd s = .next { s with time := t' } ∧ t'.r = 0 ∧ t'.t = max t.t dest)

/-- The Rind: a trip, the end of the wipe, recovery of a class. -/
def Obligations.RindEvents : Prop :=
  ∀ (s : State) (k : Fin 13) (detail : BitVec 32) (lw : Bool),
    ((s.senses k detail.toNat = false ∨ s.tierOf k = 0) → exec (.rindTrip k detail lw) s = .next s) ∧
    (s.senses k detail.toNat = true → s.tierOf k ≠ 0 →
      (k ∈ s.rind.tripped → exec (.rindTrip k detail lw) s =
        .next (if k = 9 then oscillatorTrip detail.toNat s else s)) ∧
      (k ∉ s.rind.tripped → k = 10 → detail.toNat < s.active.tamper.guardCount → exec (.rindTrip k detail lw) s =
        .next (if detail.toNat < s.active.tamper.alertCount then s else respond 10 1 detail s)) ∧
      (k ∉ s.rind.tripped → (k = 10 → s.active.tamper.guardCount ≤ detail.toNat) →
        let s0 := { s with rind := { s.rind with tripped := k :: s.rind.tripped } }
        let s1 := if k = 9 then oscillatorTrip detail.toNat s0 else s0
        exec (.rindTrip k detail lw) s = .next (respond k (s.tierOf k) detail s1 lw) ∧
        (s.awake = true → s.tierOf k = 1 →
          respond k (s.tierOf k) detail s1 lw = raiseSample 271 (rindLog k 1 0 detail s1)) ∧
        (s.awake = true → s.tierOf k = 2 → s.rind.guard = false →
          respond k (s.tierOf k) detail s1 lw = guardTrip k (sample 271 (rindLog k 2 0 detail s1)) false lw) ∧
        (s.awake = true → s.tierOf k = 3 →
          respond k (s.tierOf k) detail s1 lw = eraseTrip k (sample 271 (rindLog k 3 0 detail s1)) lw))) ∧
    (s.rind.wiping = true → ∃ t, exec .guardWipeDone s = .next t ∧ t.rind.wiping = false ∧ t.supSram = [] ∧
      (∀ c : Fin 9, (t.core c).resident = []) ∧ t.rind.guard = s.rind.guard ∧
      (∀ x ∈ t.brine.entries, x.inv = 0 ∧ x.uses = 0) ∧ t.brine.entries.map (·.dur) = s.brine.entries.map (·.dur) ∧
      ∀ b : Fin 64, (t.book b).head = Head.zero ∧ (t.book b).durable = (s.book b).durable) ∧
    (s.rind.wiping = false → exec .guardWipeDone s = .next s) ∧
    (k ≠ 9 → exec (.rindClassRecover k) s =
      .next { s with rind := { s.rind with tripped := s.rind.tripped.filter (· != k) } }) ∧
    (exec (.rindClassRecover 9) s = .next { s with
      rind := { s.rind with tripped := s.rind.tripped.filter (· != 9) }
      time := { s.time with refTripped := false, xtTripped := false } })

/-- Claims (R308, R314, R316), and a source that becomes pending signalled to the host by MSI-X once per arming (R304,
R313). -/
def Obligations.EventClaims : Prop :=
  (∀ (s : State), s.ev.sources.length = 512 →
    let best (p : Source → Bool) (n : Nat) := n < 512 ∧ (s.src n).asserted = true ∧ p (s.src n) = true ∧
      ∀ m < 512, (s.src m).asserted = true → p (s.src m) = true → (s.src m).priority < (s.src n).priority ∨
        ((s.src m).priority = (s.src n).priority ∧ n ≤ m)
    let nobody (p : Source → Bool) := ∀ m < 512, (s.src m).asserted = true → p (s.src m) = false
    let claim (i : Instr) (p : Source → Bool) (dis : Bool) :=
      (dis = false → ∀ n, n ≠ 0 → best p n → ∃ t, exec i s = .next t ∧ t.hostRead = BitVec.ofNat 32 n ∧
        t.src n = { s.src n with act := true, pend := false, deliv := false } ∧
        (∀ m, m ≠ n → t.src m = s.src m) ∧ { t with ev := s.ev, hostRead := s.hostRead } = s) ∧
      ((dis = true ∨ nobody p) → ∃ t, exec i s = .next t ∧ t.hostRead = 0 ∧
        { t with msix := s.msix, tx := s.tx, link := s.link, hostRead := s.hostRead } = s)
    (s.hostReach = true → claim (.evClaim true) (fun x => x.target == 9) s.ev.gdisHost ∧
      ∀ v : Fin 2048, claim (.evVclaim v) (fun x => x.target == 9 && x.vector == v.val) s.ev.gdisHost) ∧
    (s.supervisorRuns = true → claim (.evClaim false) (fun x => x.target == 0) s.ev.gdisT0)) ∧
  (∀ (s : State) (n : Nat), s.ev.sources.length = 512 → n < 512 → s.awake = true → (s.src n).priority ≠ 0 →
    (s.src n).grouped = false → (s.src n).act = false → (s.src n).target = 9 → s.ev.gdisHost = false →
    s.link.d3hot = false →
    let v := (s.src n).vector
    let x := { s.src n with pend := true, deliv := true }
    ((s.src n).asserted = true → raise n s = s) ∧
    ((s.src n).asserted = false →
    ((raise n s).src n = x ∧ ∀ m, m ≠ n → (raise n s).src m = s.src m) ∧
    (v ∉ s.msix.disarmed → s.vecMasked v = false →
      (raise n s).tx = s.tx ++ [.msix v (s.msixEntry v).addr (s.msixEntry v).data] ∧
      (raise n s).msix.disarmed = v :: s.msix.disarmed ∧ (raise n s).msix.pba = s.msix.pba) ∧
    (v ∉ s.msix.disarmed → s.vecMasked v = true → (raise n s).tx = s.tx ∧ v ∈ (raise n s).msix.pba ∧
      (raise n s).msix.disarmed = v :: s.msix.disarmed) ∧
    (v ∈ s.msix.disarmed → (raise n s).tx = s.tx ∧ (raise n s).msix = s.msix)))

/-- Completions, with the re-sampling of the condition (R309, R304), the global disable and doorbells (R312, R316). -/
def Obligations.EventCompletion : Prop :=
  ∀ (s : State), s.ev.sources.length = 512 →
    (∀ (host : Bool) (v : BitVec 32), (if host then s.hostReach else s.supervisorRuns) = true →
      let n := v.toNat % 512
      (n ≠ 0 → (s.src n).target = (if host then 9 else 0) → (s.src n).act = true →
        exec (.evComplete host v) s =
          .next (if host then rearm (s.src n).vector (completed n s) else completed n s)) ∧
      (host = true → (n = 0 ∨ (s.src n).target ≠ 9 ∨ (s.src n).act = false) → exec (.evComplete host v) s =
        .next { s with ev := { s.ev with stat := { s.ev.stat with badcomp := true } } }) ∧
      (host = false → (n = 0 ∨ (s.src n).target ≠ 0 ∨ (s.src n).act = false) → exec (.evComplete host v) s = .next s) ∧
      (v.getLsbD 0 = true → exec (.evGdisWrite host v) s = .next (if host then
        { s with ev := { s.ev with gdisHost := true } } else { s with ev := { s.ev with gdisT0 := true } })) ∧
      (v.getLsbD 0 = false →
        (host = true → s.ev.gdisHost = true → exec (.evGdisWrite host v) s =
          .next (signalAll { s with ev := { s.ev with gdisHost := false } })) ∧
        (host = false → s.ev.gdisT0 = true → exec (.evGdisWrite host v) s =
          .next (wakeT0 { s with ev := { s.ev with gdisT0 := false } })))) ∧
    (s.supervisorRuns = true → ∀ v : BitVec 64,
      (320 ≤ v.toNat % 512 → exec (.evRing v) s = .next (raise (v.toNat % 512) s)) ∧
      (v.toNat % 512 < 320 → exec (.evRing v) s = .next s)) ∧
    (∀ n < 512, ((s.src n).target = 9 ∨ (s.src n).target = 0) →
      let x := s.src n
      let y := (completed n s).src n
      (∀ m, m ≠ n → (completed n s).src m = s.src m) ∧
      y.act = false ∧ y.cfg = x.cfg ∧
      (x.priority ≠ 0 → ∀ b, s.condOf n = some b → y.cond = b ∧ (x.level = true →
        y.pend = b ∧ y.deliv = if b then (if x.grouped then x.deliv else true) else false)) ∧
      ((s.condOf n = none ∨ x.level = false ∨ x.priority = 0) → y.pend = x.pend ∧ y.deliv = x.deliv))

/-- Source and group words, and group delivery (R306, R307, R310, R311). What the supervisor's writes of EV_SRC refuse is
the model's choice (log 218). -/
def Obligations.EventConfiguration : Prop :=
  ∀ (s : State), s.ev.sources.length = 512 → s.ev.groups.length = 64 →
    (∀ (n : Fin 512) (v : BitVec 32), s.hostReach = true →
      (srcWriteBad n v s = true → ∃ t, exec (.evSrcWrite n v) s = .next t ∧ t.ev.sources = s.ev.sources ∧
        t.ev.groups = s.ev.groups ∧ t.ev.stat.refused = true ∧ t.ev.stat.last = BitVec.ofNat 9 n ∧
        t.ev.stat.lastGrp = false ∧ { t with ev := s.ev } = s) ∧
      (srcWriteBad n v s = false → ∃ t,
        exec (.evSrcWrite n v) s = .next t ∧
        (t.src n).cfg = ((s.src n).cfg &&& 0xF0000000) ||| (v &&& 0x0FFFFFFF) ∧
        (t.src n).target = (s.src n).target ∧ ∀ m, m ≠ n.val → t.src m = s.src m)) ∧
    (∀ (n : Fin 512) (v : BitVec 32), ((s.src n).target ≠ 9 ∨ v.extractLsb' 4 4 ≠ 0 ∨
      (271 ≤ n.val ∧ n.val ≤ 275 ∧ v.extractLsb' 0 4 = 0)) → srcWriteBad n v s = true) ∧
    (∀ (g : Fin 64) (v : BitVec 32), s.hostReach = true →
      ((v.extractLsb' 8 16 = 0 ∨ (s.groupTarget g ≠ 9 ∧ s.groupTarget g ≠ 15)) →
        ∃ t, exec (.evGrpWrite g v) s = .next t ∧ t.ev.groups = s.ev.groups ∧
        t.ev.stat.refused = true ∧ t.ev.stat.last = BitVec.ofNat 9 g ∧ t.ev.stat.lastGrp = true) ∧
      (v.extractLsb' 8 16 ≠ 0 → (s.groupTarget g = 9 ∨ s.groupTarget g = 15) →
        exec (.evGrpWrite g v) s = .next (setGroup g { s.group g with next := some (v &&& 0x00FFFFFF) } s))) ∧
    (∀ (n : Fin 512) (v : BitVec 32),
      (s.supervisorRuns = false ∨ n.val = 0 ∨ (s.src n).target = 9 ∨ v.extractLsb' 17 11 ≠ 0 →
        exec (.evSrcWrite n v false) s = .next s) ∧
      (s.supervisorRuns = true → supWriteBad n v s = false → ∃ t, exec (.evSrcWrite n v false) s = .next t ∧
        (t.src n).cfg = ((s.src n).cfg &&& 0xF0000000) ||| (v &&& 0x0FFFFFFF) ∧
        (t.src n).target = (s.src n).target ∧ ∀ m, m ≠ n.val → t.src m = s.src m)) ∧
    (∀ (n : Fin 512) (g : Fin 64) (v : BitVec 32), s.hostReach = false →
      exec (.evSrcWrite n v) s = .next s ∧ exec (.evGrpWrite g v) s = .next s) ∧
    (∀ g : Fin 64, (s.awake = false ∨ (s.group g).timer = false) → exec (.groupTimerExpiry g) s = .next s) ∧
    (∀ g : Fin 64, s.awake = true → (s.group g).timer = true → ∃ t, exec (.groupTimerExpiry g) s = .next t ∧
      (t.group g).count = 0 ∧ (t.group g).timer = false ∧ (t.group g).next = none ∧
      (t.group g).word = (s.group g).next.getD (s.group g).word)

/-- The two ring logs: their records and their read indexes (R368). -/
def Obligations.Logs : Prop :=
  (∀ (l : RLog) (cap : Nat) (r : LogRec), 0 < cap → cap < 256 → l.recs.length ≤ cap →
    (l.write cap r).recs.length ≤ cap ∧
    (∀ p, l.recs.getLast? = some p → p.log = r.log → p.subject = r.subject → p.event = r.event → p.flags = r.flags →
      p.detail = r.detail → r.t < p.t + second → (l.write cap r).w = l.w ∧ (l.write cap r).r = l.r ∧
        (l.write cap r).recs = l.recs.dropLast ++ [{ p with repeats := min 65535 (p.repeats + 1) }]) ∧
    (∀ p, l.recs.getLast? = some p → (p.event ≠ r.event ∨ p.t + second ≤ r.t) →
      (l.write cap r).w = l.w + 1 ∧ (l.write cap r).recs.getLast? = some r ∧
      ((l.w - l.r).toNat < cap → (l.write cap r).r = l.r ∧ (l.write cap r).ovf = l.ovf) ∧
      (cap ≤ (l.w - l.r).toNat → (l.write cap r).r = l.r + 1 ∧ (l.write cap r).ovf = true))) ∧
  (∀ (s : State) (v : BitVec 32), s.hostReach = true →
    (∃ t, exec (.logIndexWrite true v) s = .next t ∧
      t.rind.log.r = (if (s.rind.log.w - v.extractLsb' 0 8).toNat ≤ 64 then v.extractLsb' 0 8 else s.rind.log.r) ∧
      t.rind.log.w = s.rind.log.w ∧ t.rind.log.recs = s.rind.log.recs ∧ t.health = s.health) ∧
    (∃ t, exec (.logIndexWrite false v) s = .next t ∧
      t.health.log.r = (if (s.health.log.w - v.extractLsb' 0 8).toNat ≤ 128 then v.extractLsb' 0 8 else s.health.log.r) ∧
      t.health.log.w = s.health.log.w ∧ t.health.log.recs = s.health.log.recs ∧ t.rind = s.rind))

/-- The life of a queue pair: HL_QCMD and the doorbells (R80 to R82, R85). -/
def Obligations.QueueRegisters : Prop :=
  ∀ (s : State) (n : BitVec 8) (cls : BitVec 2), s.hostReach = true →
    let sqD := s.hl.qcfg.toNat % 65536
    let cqD := s.hl.qcfg.toNat / 65536
    let sb := s.hl.sqBase.toNat
    let cb := s.hl.cqBase.toNat
    let gives (r : BitVec 4) := Host.Outcome.next { s with hl := { s.hl with result := r } }
    (s.hl.busy = true → ∀ v, ∀ i ∈ [Instr.queueCreate n cls, .queueDelete n, .qcmdNoAction false n, .qcmdNoAction true n,
      .hlQcmdWhileBusy v], exec i s = .next { s with hl := { s.hl with lost := true } }) ∧
    (s.hl.busy = false →
      (s.qp? n ≠ none → exec (.queueCreate n cls) s = gives 1) ∧
      (s.qp? n = none → (sqD = 1 ∨ cqD = 1) → exec (.queueCreate n cls) s = gives 2) ∧
      (s.qp? n = none → sqD ≠ 1 → cqD ≠ 1 → (sb % 4096 ≠ 0 ∨ cb % 4096 ≠ 0 ∨ 2 ^ 64 < sb + 64 * depthOf sqD ∨
        2 ^ 64 < cb + 32 * depthOf cqD) → exec (.queueCreate n cls) s = gives 3) ∧
      (s.qp? n = none → sqD ≠ 1 → cqD ≠ 1 → sb % 4096 = 0 → cb % 4096 = 0 → sb + 64 * depthOf sqD ≤ 2 ^ 64 →
        cb + 32 * depthOf cqD ≤ 2 ^ 64 → ∃ q : Qp, exec (.queueCreate n cls) s =
          .next { s with qps := s.qps ++ [q], hl := { s.hl with result := 0 } } ∧
          q.n = n ∧ q.cls = cls ∧ q.sqBase = sb ∧ q.cqBase = cb ∧ q.sqD = depthOf sqD ∧ q.cqD = depthOf cqD ∧
          q.sqHead = 0 ∧ q.sqTail = 0 ∧ q.cqHead = 0 ∧ q.cqTail = 0 ∧ q.phase = true ∧ q.reserved = 0 ∧
          q.halted = false ∧ q.deleting = false ∧ q.gathered = []) ∧
      (s.liveQp n = none → exec (.queueDelete n) s = gives 4) ∧
      (∀ q, s.qp? n = some q → q.deleting = false → q.gathered = [] → (∀ o ∈ s.orders, o.qp ≠ n) →
        ∃ t, exec (.queueDelete n) s = .next t ∧ t.qp? n = none ∧ t.hl.result = 0 ∧ t.hl.busy = false ∧
          (∀ x ∈ t.sessions, x.qp ≠ n) ∧ t.orders = s.orders ∧ t.hostMem = s.hostMem ∧
          ∀ m, m ≠ n → t.qp? m = s.qp? m) ∧
      (∀ b, exec (.qcmdNoAction b n) s = gives 7)) ∧
    (∀ (ix : BitVec 16) (wr : List (Nat × Bytes)), exec (.sqTailDoorbell n ix wr) s =
      exec (.sqTailDoorbell n ix []) { s with hostMem := wr.foldl (fun m w => m.write w.1 w.2) s.hostMem }) ∧
    (∀ (q : Qp) (ix : BitVec 16), s.liveQp n = some q →
      (ix.toNat < q.sqD → exec (.sqTailDoorbell n ix []) s = .next (setQp { q with sqTail := ix.toNat } s)) ∧
      (q.sqD ≤ ix.toNat → exec (.sqTailDoorbell n ix []) s = .next (haltQp n 0xFFFFFFFE s)) ∧
      (ix.toNat < q.cqD → (ix.toNat + q.cqD - q.cqHead) % q.cqD ≤ q.used → exec (.cqHeadDoorbell n ix) s =
        .next (payHalt n (sample (n.toNat + 1) (setQp { q with cqHead := ix.toNat } s)))) ∧
      (ix.toNat < q.cqD → q.used < (ix.toNat + q.cqD - q.cqHead) % q.cqD →
        exec (.cqHeadDoorbell n ix) s = .next (haltQp n 0xFFFFFFFB s)) ∧
      (q.cqD ≤ ix.toNat → exec (.cqHeadDoorbell n ix) s = .next (haltQp n 0xFFFFFFFE s)))

/-- Register writes, latching reads, the MSI-X mask and MSI-X Message Control (R78, R79, R277, R313). A vector unmasked
while DISABLE holds messages back is armed again: the model's reading (log 219). -/
def Obligations.RegisterAccess : Prop :=
  ∀ (s : State) (v : BitVec 32), s.hostReach = true →
    (exec .hlEpochLoRead s = .next { s with
      hostRead := BitVec.ofNat 32 s.press.epoch
      hl := { s.hl with epochHi := BitVec.ofNat 32 (s.press.epoch / 2 ^ 32) } }) ∧
    (∃ t, exec .tmFracLoRead s = .next t ∧ t.hostRead = BitVec.ofNat 32 t.time.t ∧ t.time.latT = t.time.t ∧
      t.time.latU = t.time.unc ∧ t.time.latStat = BitVec.ofNat 32 t.time.stat ∧
      t.time.latR = BitVec.ofInt 64 (t.time.r / 2 ^ 48) ∧ s.time.t ≤ t.time.t ∧
      t.time.t / second = s.time.t / second) ∧
    (∀ off be, be ≠ 0xF → exec (.registerWrite off v be) s = .next s) ∧
    (∀ off ∈ [(0 : BitVec 25), 4, 0x40, 0x80, 0x84, 0x100, 0xFFFC, 0x1101C, 0x11100, 0x30000, 0x3001C, 0x40004, 0x40010,
      0x50000], exec (.registerWrite off v 0xF) s = .next s) ∧
    (exec (.registerWrite 0x11000 v 0xF) s =
      .next { s with hl := { s.hl with sqBase := (s.hl.sqBase.extractLsb' 32 32) ++ v } }) ∧
    (exec (.registerWrite 0x1100C v 0xF) s =
      .next { s with hl := { s.hl with cqBase := v ++ (s.hl.cqBase.extractLsb' 0 32) } }) ∧
    (exec (.registerWrite 0x11010 v 0xF) s = .next { s with hl := { s.hl with qcfg := v } }) ∧
    (exec (.registerWrite 0x11018 v 0xF) s = .next { s with hl := { s.hl with lost := s.hl.lost && !v.getLsbD 8 } }) ∧
    (v.toNat / 2 ^ 30 = 1 → exec (.registerWrite 0x11014 v 0xF) s =
      exec (.queueCreate (v.extractLsb' 0 8) (v.extractLsb' 16 2)) s) ∧
    (v.toNat / 2 ^ 30 = 2 → exec (.registerWrite 0x11014 v 0xF) s = exec (.queueDelete (v.extractLsb' 0 8)) s) ∧
    (∀ q : BitVec 8, exec (.registerWrite (BitVec.ofNat 25 (0x10000 + 8 * q.toNat)) v 0xF) s =
        exec (.sqTailDoorbell q (v.extractLsb' 0 16) []) s ∧
      exec (.registerWrite (BitVec.ofNat 25 (0x10004 + 8 * q.toNat)) v 0xF) s =
        exec (.cqHeadDoorbell q (v.extractLsb' 0 16)) s) ∧
    (∀ n : Fin 512, exec (.registerWrite (BitVec.ofNat 25 (0x20000 + 4 * n)) v 0xF) s = exec (.evSrcWrite n v) s) ∧
    (∀ g : Fin 64, exec (.registerWrite (BitVec.ofNat 25 (0x20800 + 4 * g)) v 0xF) s = exec (.evGrpWrite g v) s) ∧
    (exec (.registerWrite 0x20904 v 0xF) s = exec (.evComplete true v) s) ∧
    (exec (.registerWrite 0x20908 v 0xF) s = exec (.evGdisWrite true v) s) ∧
    (∀ n : Fin 2048,
      let e : MsixEntry := { s.msixEntry n with masked := false }
      let m := (s.msix.table.filter fun x => x.v != e.v) ++ [e]
      ∃ t, exec (.msixUnmask (some n)) s = .next t ∧ t.msix.table = m ∧ t.ev = s.ev ∧
        (n.val ∉ s.msix.pba → t = { s with msix := { s.msix with table := m } }) ∧
        (n.val ∈ s.msix.pba → s.msix.enable = true → s.msix.funcMask = false → s.ev.gdisHost = false → e.v = n →
          s.vecAsserted n = true → t.tx = s.tx ++ [.msix n e.addr e.data] ∧ n.val ∉ t.msix.pba) ∧
        (n.val ∈ s.msix.pba → s.msix.enable = true → s.msix.funcMask = false → e.v = n →
          (s.vecAsserted n = false ∨ s.ev.gdisHost = true) →
          t.tx = s.tx ∧ n.val ∉ t.msix.pba ∧ n.val ∉ t.msix.disarmed)) ∧
    (s.msix.pba = [] → exec (.msixUnmask none) s =
      .next { s with msix := { s.msix with enable := true, funcMask := false } }) ∧
    (∀ (x : Option (Fin 2048)) (en fm : Bool), ∃ t, exec (.msixUnmask x (some (en, fm))) s = .next t ∧
      t.msix.enable = en ∧ t.msix.funcMask = fm ∧ t.msix.table = s.msix.table ∧
      ((s.msix.pba = [] ∨ en = false ∨ fm = true) →
        t = { s with msix := { s.msix with enable := en, funcMask := fm } }))

/-- Fetching of orders: entries gathered, fetch checks, the extension timeout, deadlines (R29, R83, R85, R86, R97), and
the packet that hands an order on (R13; that a fetch stands for it is the model's choice, log 212). -/
def Obligations.OrderFetch : Prop :=
  ∀ (s : State) (n : BitVec 8) (q : Qp), s.hostReach = true → s.qp? n = some q → q.deleting = false →
    let e := s.hostMem.read (q.sqBase + 64 * q.sqHead) 64
    let q1 : Qp := { q with sqHead := (q.sqHead + 1) % q.sqD }
    let q2 : Qp := { q1 with reserved := q.reserved + 1 }
    let more (e : Bytes) := fld e 2 2 % 2 = 1 ∧ (fld e 0 2 = 1 ∨ fld e 0 2 = 2)
    (s.fetchable q = true → q.gathered = [] → more e →
      exec (.orderFetch n) s = .next (setQp { q2 with gathered := [e] } s)) ∧
    (s.fetchable q = true → q.gathered = [] → ¬ more e → fetchCheck s [e] = none → ∃ o : Order,
      exec (.orderFetch n) s = .next { setQp q2 s with orders := s.orders ++ [o], nextUid := s.nextUid + 1 } ∧
      o.uid = s.nextUid ∧ o.qp = n ∧ o.st = .held ∧ o.tag = BitVec.ofNat 64 (fld e 8 8) ∧ o.deadline = fld e 16 8 ∧
      o.session = BitVec.ofNat 32 (fld e 4 4) ∧ o.body = sl e 24 40 ∧ o.fence = bit (fld e 2 2) 1) ∧
    (s.fetchable q = true → q.gathered = [] → ¬ more e → ∀ st, fetchCheck s [e] = some st →
      exec (.orderFetch n) s = .next (closeQp n (payHalt n (writeCq q1 (BitVec.ofNat 64 (fld e 8 8)) st s.press.epoch 0 0
        (setQp q2 s))))) ∧
    (s.fetchable q = true → q.gathered ≠ [] → fld e 0 2 = 0x000E → fld e 2 2 % 2 = 1 → q.gathered.length < 6 →
      exec (.orderFetch n) s = .next (setQp { q1 with gathered := q.gathered ++ [e] } s)) ∧
    (s.fetchable q = false → exec (.orderFetch n) s = .next s) ∧
    (s.fetchable q = true → (∀ o ∈ s.orders, o.uid ≠ s.nextUid) → q.gathered = [] → ¬ more e →
      fetchCheck s [e] = none → ∀ t, exec (.orderFetch n) s = .next t →
      exec (.orderFetch n .lost) s = .next (detection (refuse s.nextUid .faultPermanent t)) ∧
      ∀ o, t.order? s.nextUid = some o →
        exec (.orderFetch n .resent) s = .next (detection (setOrder { o with retried := true } t))) ∧
    (q.halted = true → s.fetchable q = false) ∧ (q.sqHead = q.sqTail → s.fetchable q = false) ∧
    (q.gathered = [] → q.hasSlot = false → s.fetchable q = false) ∧
    (q.gathered = [] → q.hasSlot = true → q.halted = false → q.sqHead ≠ q.sqTail → s.heldOf n < 8 →
      s.fetchable q = true) ∧
    (∀ es, formatOk es = false → fetchCheck s es = some .badFormat) ∧
    (∀ es, formatOk es = true → fld (es.headD []) 16 8 = 2 ^ 64 - 1 → fetchCheck s es = some .operandRange) ∧
    (q.gathered ≠ [] → q.timedOut = false → q.halted = false → exec (.extensionTimeout n) s =
      .next (payHalt n (setQp { q with halted := true, haltOwed := some 0xFFFFFFFC, gathered := []
                                       reserved := q.reserved - 1 } s))) ∧
    (∀ (o : Order) (tag : BitVec 64),
      s.orders.find? (fun o => o.qp == n && o.tag == tag && o.st == .held && o.deadline != 0) = some o →
      exec (.admissionDeadline n tag true) s = .next (refuse o.uid .timeout s) ∧
      exec (.admissionDeadline n tag false) s = .next (setOrder { o with closeCall := true, deadline := 0 } s)) ∧
    (∀ (tag : BitVec 64) (w : Bool), q.gathered = [] →
      s.orders.find? (fun o => o.qp == n && o.tag == tag && o.st == .held && o.deadline != 0) = none →
      exec (.admissionDeadline n tag w) s = .next s)

/-- Admission: which order a queue pair offers, when it is refused, and what a completion writes (R84, R97, R98). -/
def Obligations.OrderAdmission : Prop :=
  ∀ (s : State) (n : BitVec 8),
    (∀ (c : Fin 8) (o : Order) (i : Instr), OrderRow n c s o i →
      (s.awake = true → s.linkUp = true → s.changing = false → ∀ s', s.chosen n = some (o, s') → ∀ st, s'.admitCheck o = some st →
        exec i s = .next (refuse o.uid st s')) ∧
      (s.awake = false → exec i s = .next s) ∧ (s.linkUp = false → exec i s = .next s) ∧ (s.changing = true → exec i s = .next s) ∧
      (s.chosen n = none → exec i s = .next s)) ∧
    (∀ o s', s.chosen n = some (o, s') → s.candidate n = some o ∧ ∃ t, s' = { s with turns := t }) ∧
    (∀ o q, s.candidate n = some o → s.held o = false → q ∈ s.qps → q.n = n →
      (∀ x ∈ s.admissible o.block, x = o) → ∃ s', s.chosen n = some (o, s')) ∧
    (∀ o rest, (s.orders.filter fun o => o.qp == n) = o :: rest → o.st = .held → o.isAbort = false →
      s.candidate n = some o) ∧
    (∀ x y rest, (s.orders.filter fun o => o.qp == n) = x :: y :: rest → x.st = .admitted → y.st = .held →
      y.isAbort = false →
      (y.fence = true → s.candidate n = none) ∧
      (y.fence = false → (y.session = 0 ∨ x.session ≠ y.session) → s.candidate n = some y) ∧
      (y.fence = false → y.session ≠ 0 → x.session = y.session → rest = [] → s.candidate n = none)) ∧
    (∀ (o : Order) (q : Qp) (st : Status) (result bytes : Nat), s.order? o.uid = some o → s.qp? o.qp = some q →
      q.haltOwed = none → q.deleting = false →
      (s.linkUp = false → let t := complete o.uid st none result bytes s
        t.orders = s.orders.filter (fun x => x.uid != o.uid) ∧ t.hostMem = s.hostMem ∧ t.ev = s.ev) ∧
      (s.linkUp = true → q.cqFails = true → 1 < q.reserved → q.gathered = [] → let t := complete o.uid st none result bytes s
        t.hostMem = s.hostMem ∧ t.ev = s.ev ∧ t.link.aer = s.link.aer ++ [.cqWrite o.qp]) ∧
      (s.linkUp = true → q.cqFails = false → let t := complete o.uid st none result bytes s
      let code := if st = .ok then okClass false o.retried o.closeCall else st
      let q1 : Qp := { q with reserved := q.reserved - 1 }
      t.orders = s.orders.filter (fun x => x.uid != o.uid) ∧ t.qp? o.qp = some q1.advanceCq ∧
      t.hostMem = s.hostMem.write (q.cqBase + 32 * q.cqTail)
        (cqEntry q1 o.tag code (o.epoch.getD s.press.epoch) result bytes) ∧
      t.sessions = s.sessions ∧ t.vault = s.vault ∧ t.press = s.press ∧ t.cellar = s.cellar ∧ t.eng = s.eng)) ∧
    (∀ o : Order, s.rind.guard = true → o.admin [0x20] = false → (o.kind ≠ .call ∧ o.kind ≠ .run ∨ s.anyOk 40 8 = true) →
      s.admitCheck o = some .guardActive) ∧
    (∀ o : Order, (o.kind = .call ∨ o.kind = .run) → s.anyOk 40 8 = false → s.admitCheck o = some .noHealthyChannel) ∧
    (∀ o : Order, s.rind.guard = false → s.vault.lc = .issued → o.kind ∈ [OKind.seal, .park, .unpark, .sector] →
      s.admitCheck o = some .lifecycle)

/-- Sessions: OPEN, CLOSE, PARK and UNPARK (R92 to R96). -/
def Obligations.SessionOrders : Prop :=
  ∀ (s0 s : State) (n : BitVec 8) (o : Order), Admissible s0 n o s →
    let vol := if o.num 32 1 = 1 then some (o.num 36 4) else none
    let room := s.sessions.length < 4096
    (o.kind = .openS → room → s.storeKey = true → (∀ v, vol = some v → v ≤ 1023 ∧ s.volumeExists v = true) →
      ∃ x : Session, x.idx < 4096 ∧ (∀ y ∈ s.sessions, y.idx ≠ x.idx) ∧ x.gen = s.genOf x.idx ∧ x.qp = o.qp ∧
        x.owner = BitVec.ofNat 64 (o.num 24 8) ∧ x.vol = vol ∧
        (∀ a, 256 ≤ a → x.page.get a = 0) ∧ x.handle = BitVec.ofNat 32 (x.gen * 4096 + x.idx) ∧
        ∃ f, exec (.openSession n) s0 = .next (complete o.uid .ok none x.handle.toNat 0
          { s with sessions := s.sessions ++ [x], freeCtr := f })) ∧
    (o.kind = .openS → (∀ v, vol = some v → v ≤ 1023 ∧ s.volumeExists v = true) → ¬ room →
      exec (.openSession n) s0 = .next (complete o.uid .sessionsExhausted none s.parkable 0 s)) ∧
    (o.kind = .openS → (∃ v, vol = some v ∧ (1023 < v ∨ s.volumeExists v = false)) →
      exec (.openSession n) s0 = .next (refuse o.uid .operandRange s)) ∧
    (o.kind = .closeS → ∀ x, s.session o.session = some x → exec (.closeSession n) s0 =
      .next (complete o.uid .ok none 0 0 { s with
        sessions := s.sessions.filter (fun y => y.idx != x.idx), gens := put x.idx (nextGen x.gen) s.gens })) ∧
    (o.kind = .park → s.storeKey = true → s.deviceCores = true → ∀ x key faults vfaults,
      s.session o.session = some x → s.parkKey = some key →
      let s1 := contextRuns faults vfaults s
      s1.rind.guard = false →
      (s1.deviceCores = true → ∃ blob : Bytes, blob.length = 2112 ∧
        exec (.park n faults vfaults) s0 = .next (complete o.uid (retriedOk (faults + vfaults)) none 0 2112
          (endSession x { s1 with keys := { s1.keys with parkSerial := s1.keys.parkSerial + 1 }
                                  hostMem := s1.hostMem.write (o.desc 0).addr blob })) ∧
        fld blob 2048 8 = s1.keys.parkSerial % 2 ^ 64 ∧ blob.drop 2064 = parkTag key (blob.take 2064)) ∧
      (s1.deviceCores = false → exec (.park n faults vfaults) s0 = .next (refuse o.uid .noHealthyChannel s1))) ∧
    (o.kind = .unpark → (o.desc 0).len ≤ 2112 → room → s.deviceCores = true → ∀ key faults vfaults, s.parkKey = some key →
      let s1 := contextRuns faults vfaults s
      s1.rind.guard = false → s1.deviceCores = true →
      let b := s.hostMem.read (o.desc 0).addr 2112
      let ctx := fit (Config.aesCtr (kdf key (ascii "PARK-ENC")) (parkBlock (fld b 2048 8)) (b.take 2048)) 2048
      ((parkTag key (b.take 2064) ≠ b.drop 2064 ∨ fld ctx 0 8 ≠ o.num 24 8) →
        exec (.unpark n faults vfaults) s0 = .next (refuse o.uid .parkInvalid s1)) ∧
      (parkTag key (b.take 2064) = b.drop 2064 → fld ctx 0 8 = o.num 24 8 → s1.storeKey = true →
        s1.sessions.length < 4096 → ∃ x : Session, x.idx < 4096 ∧ (∀ y ∈ s1.sessions, y.idx ≠ x.idx) ∧ x.qp = o.qp ∧ x.owner = BitVec.ofNat 64 (fld ctx 0 8) ∧
        (∀ a, 16 ≤ a → a < 2048 → x.page.get a = ctx.getD a 0) ∧
        ∃ f, exec (.unpark n faults vfaults) s0 = .next (complete o.uid (retriedOk (faults + vfaults)) none x.handle.toNat 0
          { s1 with sessions := s1.sessions ++ [x], freeCtr := f }))) ∧
    (o.kind = .unpark → (o.desc 0).len ≤ 2112 → room → s.parkKey = none →
      exec (.unpark n) s0 = .next (refuse o.uid .parkInvalid s))

/-- CALL and RUN start a frame; SECTOR and SEAL reach their blocks; ABORT (R108, R127, R131, R201, R295, R333, R101). -/
def Obligations.FrameAndDataOrders : Prop :=
  ∀ (s0 s : State) (n : BitVec 8) (o : Order), Admissible s0 n o s →
    let core (c : Fin 8) (fr : Fr) (f : Nat) := exec (if o.kind = .call then .call n c none else .run n c) s0 =
      .next (schedule c (setFrame c f (some fr) (chanOp (40 + c) false (wakeDomainN (14 + c) (setOrder
        { o with st := .admitted } (if o.kind = .call then reloadApplet c (o.num 24 4) s else s)))))) ∧
      (∀ r : BitVec 5, r ≠ 1 → fr.reg r = 0) ∧ fr.h = Vector.replicate 16 .empty ∧ fr.t = Vector.replicate 8 .empty ∧
      fr.icount = 0 ∧ fr.uid = o.uid ∧ fr.tag = o.tag ∧ fr.session = o.session ∧ fr.windows = o.windows ∧
      fr.slides = Vector.replicate 16 0 ∧ fr.presses = Vector.replicate 4 none
    (∀ (c : Fin 8) (r : Resident) (f : Nat), o.kind = .call →
      (s.core c).resident.find? (fun r => r.img.id == o.num 24 4) = some r → o.num 28 2 < r.img.entries.length →
      (∀ d x, (s.core d).resident.find? (fun r => r.img.id == o.num 24 4) = some x → x.img = r.img) →
      s.freeFrame? c = some f → s.coreTakes c (some (o.num 24 4)) = true → ∃ fr, core c fr f ∧ fr.mode = .a ∧
        fr.reg 1 = BitVec.ofNat 64 (o.num 28 2) ∧ fr.pc = BitVec.ofNat 32 (r.img.entries.getD (o.num 28 2) 0) ∧
        fr.applet = o.num 24 4 ∧ fr.entry = o.num 28 2 ∧ fr.codeLen = r.img.codeLen ∧
        fr.dataLen = r.img.dataLen + r.img.zeroFill ∧ fr.runMs = r.img.runMs) ∧
    (∀ c : Fin 8, o.kind = .call → (∀ d < 8, (s.core d).resident.find? (fun r => r.img.id == o.num 24 4) = none) →
      exec (.call n c none) s0 = .next (refuse o.uid .operandRange s)) ∧
    (∀ (c : Fin 8) (a : Applet), o.kind = .call → s.residentImage (o.num 24 4) = some a → a.entries.length ≤ o.num 28 2 →
      exec (.call n c none) s0 = .next (refuse o.uid .operandRange s)) ∧
    (∀ c : Fin 8, o.kind = .call → exec (.call n c none) s0 = .next (callOn c o s) ∧
      exec (.call n c (some .keyCache)) s0 = .next (callOn c o (healthLog 0x0F 0xFF 0 s)) ∧
      (o.session ≠ 0 → ∃ t, exec (.call n c (some .sessionStore)) s0 = .next t ∧ t.order? o.uid = none ∧
        ∀ x ∈ t.sessions, x.handle ≠ o.session) ∧
      (∃ t, exec (.call n c (some .guardBlock)) s0 = .next t ∧ t.rind.guard = true)) ∧
    (∀ (c : Fin 8) (f : Nat), o.kind = .run → 4 ≤ o.num 24 4 → o.num 24 4 % 4 = 0 → s.freeFrame? c = some f →
      s.coreTakes c none = true → ∃ fr, core c fr f ∧ fr.mode = .j ∧ fr.reg 1 = BitVec.ofNat 64 (o.num 28 4) ∧
        fr.pc = 0 ∧ fr.codeLen = o.num 24 4 ∧ fr.code = s.hostMem.read (o.desc 0).addr (o.num 24 4) ∧ fr.dataLen = 65536 ∧ fr.runMs = 1000 ∧
        fr.data = Mem.write [] 0 (s.hostMem.read ((o.desc 0).addr + o.num 24 4) (o.num 28 4))) ∧
    (∀ c : Fin 8, o.kind = .run → (o.num 24 4 < 4 ∨ o.num 24 4 % 4 ≠ 0) →
      exec (.run n c) s0 = .next (refuse o.uid .operandRange s)) ∧
    (∀ (x : Session) (v : Nat) (k : Slot) (w : Nat) (s' : State), o.kind = .sector → s.session o.session = some x →
      x.vol = some v → s.cardVolume v = none → 0 < o.num 32 4 → o.num 24 8 + o.num 32 4 ≤ 2 ^ 36 →
      let enc := o.num 36 1 == 1
      let s1 := setOrder { o with st := .admitted } s
      s1.slotCheck .host v (needXts (if enc then 0 else 1)) o.session = .ok k → s1.spent k = none →
      vatCheck s1 k.cmLevel false = none → xtsHalves k = false → drawUse k false s1 = .got k w s' →
      ∃ j : Job, exec (.sector n) s0 = .next (vatAdmit j s') ∧ j.ref = .order o.uid ∧ j.key = some ⟨2, v, enc, k.gen⟩ ∧
        j.segs = o.num 32 4 ∧ j.count = 4096 * o.num 32 4 ∧ j.status = .ok ∧
        j.outs = [(.host (o.desc 0).addr, xtsAll enc k.material (o.num 24 8)
          (s'.hostMem.read (o.desc 0).addr (4096 * o.num 32 4)) (o.num 32 4))]) ∧
    (∀ (x : Session) (v ch : Nat), o.kind = .sector → s.session o.session = some x → x.vol = some v →
      s.cardVolume v = some ch → o.num 36 1 = 2 → 0 < o.num 32 4 → (s.card ch).queue.length < 64 →
      (∀ r : CardReq, r.kind = .read → r.first = o.num 24 8 → r.count = o.num 32 4 → cardRefused s ch r = none) →
      ∃ r : CardReq, exec (.sector n) s0 = .next (cardAdmit ch r (setOrder { o with st := .admitted } s)) ∧
        r.kind = .read ∧ r.ref = .order o.uid ∧ r.first = o.num 24 8 ∧ r.count = o.num 32 4 ∧
        r.dst = .host (o.desc 0).addr ∧ r.phase = .queued) ∧
    (∀ b, o.kind = .seal → b = o.num 24 1 → b ≤ 63 → 0 < (o.desc 0).len → s.syncFollower = false →
      sealRefused s b = none → sealWaits s b = false → (s.book b).waiting = [] →
      let posting := s.hostMem.read (o.desc 0).addr (o.desc 0).len
      let s' := setOrder { o with st := .admitted } s
      ∀ faults,
        let s1 := wakeOwn true 8 (ownFaults true false faults s')
        let d := doSeal b posting s1
        (s1.rind.guard = true → exec (.seal n faults) s0 = .next s1) ∧
        (s1.rind.guard = false → s1.keyedOk = false →
          exec (.seal n faults) s0 = .next (finish (.order o.uid) .noHealthyChannel 0 0 s1)) ∧
        (s1.rind.guard = false → s1.keyedOk = true →
          exec (.seal n faults) s0 = .next (settle (.order o.uid) (if faults = 0 then .ok else .okRetried)
            (o.desc 0).len d.2.1 [(.host (o.desc 1).addr, d.1)] d.2.2) ∧
          d.2.1 = ((ownSegs true 1 (digestSegs 136 posting.length + 2) s1).book b).head.c + 1)) ∧
    (∀ b st, o.kind = .seal → b = o.num 24 1 → b ≤ 63 → 0 < (o.desc 0).len → s.syncFollower = false →
      sealRefused s b = some st → ∀ faults, exec (.seal n faults) s0 = .next (refuse o.uid st (sealFault b st s)))

/-- ADMIN functions without an officer, ABORT among them (R51, R57, R98, R101, R292, R302, R409). -/
def Obligations.AdminFunctions : Prop :=
  (∀ (s0 s : State) (n : BitVec 8) (o : Order), Admissible s0 n o s →
    let doneAt (s : State) (out : Bytes) (r : Nat) (st : Status) := complete o.uid st none r out.length
      { s with hostMem := s.hostMem.write o.out.addr out }
    let done (out : Bytes) (r : Nat) := doneAt s out r .ok
    let reads (addr len : Nat) (out : Bytes) (r : Nat) (i : Ecc → Instr) := ∀ e,
      let w := groupRead e addr s
      (w.badRange addr len = false → exec (i e) s0 = .next (doneAt w out r .ok)) ∧
      (w.badRange addr len = true → exec (i e) s0 = .next (refuse o.uid .faultPermanent (badRead addr len w)))
    let b := s.hostMem.read o.inp.addr 144
    let book := s.book (fld b 1 1)
    (o.admin [1] = true → s.updateCounter ≠ none → ∃ out : Bytes, exec (.status n) s0 = .next (done out 64) ∧
      out.length = 64 ∧ fld out 0 4 = s.lcStatus % 2 ^ 32 ∧ fld out 4 4 = s.lsStat % 2 ^ 32 ∧
      fld out 8 8 = s.press.epoch % 2 ^ 64 ∧ (∀ u, s.updateCounter = some u → fld out 16 8 = u % 2 ^ 64) ∧
      fld out 24 2 = s.sessions.length % 2 ^ 16 ∧ fld out 26 2 = s.parkable % 2 ^ 16) ∧
    (o.admin [2] = true →
      reads certArea.1 s.certOrRequest.length s.certOrRequest s.certOrRequest.length (fun e => .getCert n e)) ∧
    (o.admin [3] = true → s.vault.lc = .retired → ∀ r, s.lc.retirement = some r →
      reads lifePage.1 lifePage.2 r r.length (fun e => .getRetirement n e)) ∧
    (o.admin [3] = true → s.vault.lc ≠ .retired → exec (.getRetirement n) s0 = .next (done [] 0)) ∧
    (o.admin [5] = true → exec (.timeToken n) s0 = .next (timeToken (.order o.uid) (s.classOf o) []
      (s.descBytes o.inp 64) (.host o.out.addr) 4851 (setOrder { o with st := .admitted } s))) ∧
    (o.admin [6] = true → zeroAt b 2 6 = true → fld b 1 1 ≤ 63 → s.bookSub o = fld b 0 1 →
      (fld b 0 1 = 0 → let w := groupRead .good (headAddr (fld b 1 1) + 288) s
        (w.badRange (headAddr (fld b 1 1) + 288) 64 = false → exec (.bookReadHead n) s0 =
          .next (doneAt w (book.head.bytes ++ book.config) 192 .ok)) ∧
        (w.badRange (headAddr (fld b 1 1) + 288) 64 = true → exec (.bookReadHead n) s0 =
          .next (refuse o.uid .faultPermanent (badRead (headAddr (fld b 1 1) + 288) 64 w)))) ∧
      (fld b 0 1 = 1 → ∀ r, book.pressedWheel (fld b 8 8) = some r →
        reads (placeAddr (fld b 1 1) (fld b 8 8 % 2)) 4800 r 4800 (fun e => .bookReadWheel n e)) ∧
      (fld b 0 1 = 1 → book.pressedWheel (fld b 8 8) = none →
        exec (.bookReadWheel n) s0 = .next (refuse o.uid .operandRange s)) ∧
      (fld b 0 1 = 2 → ∀ r, book.gapRec = some r → reads (headAddr (fld b 1 1) + 352) 128 r 128 (fun e => .bookReadGap n e)) ∧
      (fld b 0 1 = 2 → book.gapRec = none → exec (.bookReadGap n) s0 = .next (done [] 0)) ∧
      (fld b 0 1 = 3 → let r := sl b 16 128
        (book.gen < fld r 8 4 → exec (.bookReadCheck n) s0 = .next (refuse o.uid .operandRange s)) ∧
        (fld r 8 4 ≤ book.gen → s.keyedOk = true → ∀ faults,
          let s1 := ownSegs true 1 1 (ownFaults true true faults s)
          s1.rind.guard = false →
          (s1.keyedOk = false → exec (.bookReadCheck n faults) s0 = .next (refuse o.uid .noHealthyChannel s1)) ∧
          (s1.keyedOk = true → receiptOk s1 (fld b 1 1) r = true →
            exec (.bookReadCheck n faults) s0 = .next (doneAt s1 [] 0 (retriedOk faults))) ∧
          (s1.keyedOk = true → receiptOk s1 (fld b 1 1) r = false →
            exec (.bookReadCheck n faults) s0 = .next (refuse o.uid .tagFail s1))))) ∧
    (o.admin [6] = true → s.bookSub o = fld b 0 1 → fld b 0 1 = 1 →
      (zeroAt b 2 6 = false → exec (.bookReadWheel n) s0 = .next (refuse o.uid .badFormat s)) ∧
      (zeroAt b 2 6 = true → 63 < fld b 1 1 → exec (.bookReadWheel n) s0 = .next (refuse o.uid .operandRange s)))) ∧
  (∀ (s : State) (n : BitVec 8) (o : Order), s.awake = true →
    s.orders.find? (fun o => o.qp == n && o.st == .held && o.isAbort) = some o →
    let s1 := setOrder { o with st := .admitted } s
    let target := s1.orders.find? fun x => x.qp == o.qp && x.tag == BitVec.ofNat 64 (o.num 32 8) && x.uid != o.uid
    (∀ st, s.admitCheck o = some st → exec (.abort n) s = .next (refuse o.uid st s)) ∧
    (s.admitCheck o = none → ∀ x, target = some x →
      (x.st = .held → exec (.abort n) s = .next (complete o.uid .ok none 1 0 (refuse x.uid .aborted s1))) ∧
      (x.st = .admitted → x.kind = .sector → exec (.abort n) s = .next (complete o.uid .ok none 2 0
        (stopCards (.order x.uid) (stopJobs (fun j => j.ref == .order x.uid) s1)))) ∧
      (x.st = .admitted → (x.kind = .call ∨ x.kind = .run) → ∀ c f fr, s1.frameOf x.uid = some (c, f) →
        s1.frame c f = some fr → exec (.abort n) s =
          .next (complete o.uid .ok none 2 0 (reapCards (endFrame c f .aborted s1)))) ∧
      (x.st = .forwarded ∨ x.st = .admitted ∧ x.kind ∉ [OKind.sector, .call, .run] →
        exec (.abort n) s = .next (complete o.uid .ok none 3 0 s1))) ∧
    (s.admitCheck o = none → target = none → (∀ q, s.qp? o.qp = some q → q.gathered = []) →
      exec (.abort n) s = .next (complete o.uid .ok none 0 0 s1)))

/-- The commands that take up an officer order: refused by R175's checks, or its press handed over with the update
counter's increment (R44, R175 to R177), both in the state in which the signatures have run on the lanes (`verifyRuns`,
R231); PERSONALISE and CERT_INSTALL (R50, R52). -/
def Obligations.OfficerOrders : Prop :=
  ∀ (s0 s : State) (n : BitVec 8) (o : Order), Admissible s0 n o s → s.officerBusy = false →
    (∀ (t : Nat) (b : Body) (i : Instr),
      (OfficerRow n t b i ∨ (t = 0x4A ∧ b = bookCloseBody ∧ i = .bookClose n ∧
        (let k := s.book (fld (s.hostMem.read (o.inp.addr + 50) 1) 0 1); k.closes = false ∨ k.wheels.length < 16))) →
      o.admin [0x20] = true → rowType (s.bodyType o) = t → s.rind.guard = false → s.syncFollower = false →
      s.staleFollower = false →
      let r := o.officer s
      let s := verifyRuns b r s
      let s1 := setOrder { o with st := .admitted } s
      (∀ st, envRefused s b r = some st → exec i s0 = .next (refuse o.uid st
        (if st = .faultPermanent ∧ s.updateCounter ≠ none then badRead officerArea.1 officerArea.2 s else s))) ∧
      (envRefused s b r = none → (namesOwn s r.env = true ∨ b.device (envBody r.env) = false) →
        (∀ m s2, b.make r (envBody r.env) s = .ok (m, s2) → ∃ p : Press,
          exec i s0 = .next (enqueue p (setOrder { o with st := .admitted } s2)) ∧ p.origin = .order o.uid ∧
          p.items = m.items ++ (if envCount r.env = 0 then [] else [.updInc]) ∧
          p.outs = (if m.out = [] then [] else [(o.out.addr, m.out)])) ∧
        (∀ st t, b.make r (envBody r.env) s = .error ⟨st, none, t⟩ → exec i s0 = .next (refuse o.uid st (t.getD s)))) ∧
      (envRefused s b r = none → namesOwn s r.env = false → b.device (envBody r.env) = true → ∃ p : Press,
        exec i s0 = .next (enqueue p s1) ∧ p.origin = .order o.uid ∧
        p.items = (if envCount r.env = 0 then [] else [.updInc]))) ∧
    (o.admin [0x10] = true → s.lc.cert ≠ none → o.inp.len ≤ 32 + 7432 * 255 →
      let b := s.hostMem.read o.inp.addr o.inp.len
      officersLayout 1 b = true → firstOf (officersBad s b) = none → ∃ p : Press,
        exec (.personalise n) s0 = .next (enqueue p (setOrder { o with st := .admitted } s)) ∧ p.origin = .order o.uid ∧
        p.items = [.officers (officersIn b) (fld b 3 1) (sl b 20 8), .updSet 0, .lifeCycle .service]) ∧
    (o.admin [0x11] = true →
      let c := s.hostMem.read o.inp.addr 9131
      (3 < fld c 28 4 → exec (.certInstall n) s0 = .next (refuse o.uid .operandRange s)) ∧
      (fld c 28 4 ≤ 3 → matchesRequest c s.lc.request = false → exec (.certInstall n) s0 = .next (refuse o.uid .badOrder s)) ∧
      (fld c 28 4 ≤ 3 → matchesRequest c s.lc.request = true → s.lanesOk = true →
        Config.vendorVerify (fld c 28 4) (c.take 4408) (c.drop 4408) = false →
        exec (.certInstall n) s0 = .next (refuse o.uid .orderSignature s)) ∧
      (fld c 28 4 ≤ 3 → matchesRequest c s.lc.request = true → s.lanesOk = true →
        Config.vendorVerify (fld c 28 4) (c.take 4408) (c.drop 4408) = true → ∃ p : Press,
        exec (.certInstall n) s0 = .next (enqueue p (setOrder { o with st := .admitted } s)) ∧
        p.origin = .order o.uid ∧ p.items = [.cert c]))

/-- What the bodies of officer orders press, and what their own checks refuse (R43, R56, R59, R63, R287, R290, R294,
R345, R384, R386).
The states that allow each body, and the bodies for one device only. -/
def Obligations.OfficerBodies : Prop :=
  (∀ (r : OffReq) (b : Bytes) (s : State),
    let items (k : Body) (l : List PItem) := ∃ m, k.make r b s = .ok (m, s) ∧ m.items = l ∧ m.out = []
    let refused (k : Body) (st : Status) := k.make r b s = .error ⟨st, none, none⟩
    (fld b 2 1 = 7 → items lcChangeBody [.retire 1 (b.getD 3 0)]) ∧
    (fld b 2 1 = 3 → s.vault.lc = .service → items lcChangeBody [.lifeCycle .recovery]) ∧
    (fld b 2 1 = 2 → s.vault.lc = .recovery → items lcChangeBody [.lifeCycle .service]) ∧
    (fld b 2 1 ≠ 7 → (fld b 2 1 ≠ 3 ∨ s.vault.lc ≠ .service) → (fld b 2 1 ≠ 2 ∨ s.vault.lc ≠ .recovery) →
      refused lcChangeBody .lifecycle) ∧
    items debugPermitBody [.permit true] ∧
    (fld b 2 1 ≤ 3 → items lastSelectBody [.pendLast (some (BitVec.ofNat 2 (fld b 2 1)))]) ∧
    (3 < fld b 2 1 → refused lastSelectBody .operandRange) ∧
    (fld (b.drop 8) 8 1 = fld b 2 1 → lastInRange (b.drop 8) = true → items lastInstallBody
      [.last (BitVec.ofNat 2 (fld b 2 1)) (lastOf (b.drop 8) (s.lastGeneration (fld b 2 1)))]) ∧
    (firstOf (officersBad s b) = none → items officerSetBody
      [.officers (officersIn b) (fld b 3 1) (sl b 20 8)]) ∧
    (fld b 2 1 ≤ 63 → (s.book (fld b 2 1)).st ≠ .closed → s.vault.lc = .service → items bookCloseBody
      [.bookClose (fld b 2 1)]) ∧
    ((63 < fld b 2 1 ∨ (s.book (fld b 2 1)).st = .closed) → refused bookCloseBody .operandRange) ∧
    (s.cellar.applets.any (fun a => a.id == fld b 4 4 && a.ver == fld b 8 2) = true → items appletRemoveBody
      [.appletRm (fld b 4 4) (fld b 8 2)]) ∧
    (s.cellar.applets.any (fun a => a.id == fld b 4 4 && a.ver == fld b 8 2) = false →
      refused appletRemoveBody .operandRange) ∧
    (s.welt.role ≠ .follower → items weltUnpairBody [.weltUnpair]) ∧
    (s.welt.role = .follower → refused weltUnpairBody .lifecycle) ∧
    (s.welt.role = .lead → items weltModeBody [.weltMode (fld b 2 1 == 1)]) ∧
    (s.welt.role ≠ .lead → refused weltModeBody .lifecycle) ∧
    (s.syncLead = true → items weltHandoverBody [.weltHandover]) ∧
    (s.welt.role = .follower → s.welt.link = false → s.welt.granted = false → items weltTakeoverBody [.weltTakeover]) ∧
    ((s.welt.role ≠ .follower ∨ s.welt.link = true ∨ s.welt.granted = true) → refused weltTakeoverBody .lifecycle) ∧
    (∀ ch : Fin 3, fld b 2 1 = ch → (s.active.roles.getD ch 0 = 1 ∨ s.active.roles.getD ch 0 = 2) →
      s.chanOk (48 + ch) = true → (s.card ch).st = .identified → (s.card ch).present = true →
      (s.card ch).csdWp = false → bit (fld b 3 1) 0 = false → (s.card ch).vol.serial < 0xFFFFFF → items cardEraseBody [.volErase ch false])) ∧
  (officerSetBody.states = [.service] ∧
  (∀ b ∈ [lcChangeBody, debugPermitBody, lastSelectBody, lastInstallBody, keyBodyOf, timeConfigBody, timeSlewBody,
    timeStepBody, bookOpenBody, bookConfigBody, bookCloseBody, appletInstallBody, appletRemoveBody, weltPairBody,
    weltUnpairBody, weltModeBody, weltHandoverBody, weltTakeoverBody, cardEraseBody],
    b.states = [Lifecycle.service, .recovery]) ∧
  (∀ x : Bytes, (∀ b ∈ [debugPermitBody, lastSelectBody, timeConfigBody, timeSlewBody, timeStepBody, weltPairBody,
    weltUnpairBody, weltTakeoverBody, cardEraseBody], b.device x = true) ∧
    ∀ b ∈ [officerSetBody, lastInstallBody, keyBodyOf, bookOpenBody, bookConfigBody, bookCloseBody, appletInstallBody,
      appletRemoveBody, weltModeBody, weltHandoverBody], b.device x = false))

/-- The forerunner mailbox: what each command answers (R103 to R105, R182 to R185, R212, R213). -/
def Obligations.MailboxCommands : Prop :=
  ∀ (s : State) (req : Bytes), s.mbReach = true →
    let s1 := mbStore 0 req s
    let started := sample 292 { s1 with mb := { s1.mb with busy := true, response := [] } }
    let rq := started.mbRequest
    let d := reqBody rq
    let loaned (types : List Nat) (enable : Loan → Nat) (usage : Nat) (l : Loan) (s' : State) :=
      s.debugOn = false ∧ started.loanWaits (reqBlob rq) = false ∧ loanFor (reqBlob rq) started = .ok (l, s') ∧ l.keyType ∈ types ∧
        s'.active.enables.getLsbD (enable l) = true ∧ l.uses usage = true
    let vat (i : Instr) (s' : State) (j : Job) := exec i s = .next (vatAdmit j s')
    (s.mb.busy = false → 32 ≤ req.length → req.length ≤ requestSize →
      req.length = 32 + roundUp (reqBlobLen req) 8 + reqData req → rq = req) ∧
    (s.mb.busy = true → ∀ code, ∀ i ∈ [Instr.mbEcho req, .mbGetStatus req, .mbRandom req, .mbTdeaCbcDec req,
      .mbTdeaCbcEnc req, .mbTdeaMacGen req, .mbTdeaMacVer req, .aesCbcDec req, .aesCbcEnc req, .mbSha256 req, .rsaSign req,
      .rsaVerify req, .blobFlush req, .mbGetTime req, .mbCmdOverrun code],
      exec i s = .next { s with mb := { s.mb with overrun := true } }) ∧
    (s.mb.busy = false → (∀ code, exec (.mbCmdOverrun code) s = .next s) ∧
      (s.rind.guard = true → ∀ i ∈ [Instr.mbEcho req, .mbGetStatus req, .mbRandom req, .mbTdeaCbcDec req,
        .mbTdeaCbcEnc req, .mbTdeaMacGen req, .mbTdeaMacVer req, .aesCbcDec req, .aesCbcEnc req, .mbSha256 req,
        .rsaSign req, .rsaVerify req, .blobFlush req, .mbGetTime req],
        exec i s = .next (mbEnd .guardActive [] started)) ∧
      (s.rind.guard = false → ∀ code : BitVec 16, mbKnown code.toNat = false → ∃ t, exec (.mbUnknownCommand code) s = .next t ∧
        t.mb.result = 1 ∧ t.mb.done = true ∧ t.mb.busy = false ∧ t.mb.response = []) ∧
      (s.rind.guard = false → s.vault.lc ≠ .manufacture → s.vault.lc ≠ .retired →
        (reqOk rq true false = true →
          exec (.mbEcho req) s = .next (mbEnd .ok (fit d (reqData rq)) started) ∧
          exec (.blobFlush req) s = .next (mbEnd .ok [] (emptyLoans started)) ∧
          (∃ out s', exec (.mbGetStatus req) s = .next (mbEnd .ok out s') ∧ out.length = 16 ∧
            fld out 0 4 = s.lcStatus % 2 ^ 32 ∧ fld out 4 4 = s.lsStat % 2 ^ 32 ∧ fld out 8 8 = s.press.epoch % 2 ^ 64) ∧
          (∃ out s', exec (.mbGetTime req) s = .next (mbEnd .ok out s') ∧ out.length = 16 ∧
            out = timeBytes s'.time.t ++ le s'.time.unc 4) ∧
          (s.active.enables.getLsbD 8 = true → s.anyOk 16 8 = true → ∃ j : Job,
            exec (.mbSha256 req) s = .next (digestAdmit j started) ∧ j.ref = .mailbox ∧ j.status = .ok ∧
            j.outs = [(.response, digestOut 2 false [] d 32 [])]) ∧
          (∀ l s', loaned [2, 3] aesEnable 0 l s' → vatCheck s' 2 false = none → d.length % 16 = 0 →
            vat (.aesCbcDec req) s' { mbVatJob 0x0006 false l d.length
              (some (fit (Config.aesCbcDec l.material (sl rq 8 16) d) d.length)) .ok with width := 4 }) ∧
          (∀ l s', loaned [2, 3] aesEnable 1 l s' → vatCheck s' 2 false = none → d.length % 16 = 0 →
            vat (.aesCbcEnc req) s' (mbVatJob 0x0005 true l d.length
              (some (fit (Config.aesCbcEnc l.material (sl rq 8 16) d) d.length)) .ok)) ∧
          (∀ l s', loaned [4] (fun l => rsaBit l.material) 4 l s' → s'.anyOk 16 8 = true → s'.lanesOk = true →
            s'.drbgOk = true → exec (.rsaSign req) s = .next (digestAdmit (mbRsaJob 0x0112 d
              (signWork l.material 2 [] (rsaK l.material) false) (rsaPrivCost l.material)) s')) ∧
          (∀ l s', loaned [5] (fun l => rsaBit l.material) 5 l s' → s'.anyOk 16 8 = true → s'.lanesOk = true →
            let k := rsaK l.material
            k ≤ d.length → modInt (beN (d.take k)) (rsaN l.material) = true →
            exec (.rsaVerify req) s = .next (digestAdmit (mbRsaJob 0x0113 (d.drop k)
              { signWork l.material 2 [d.take k] 0 false with verify := true, random := false }
              (rsaPubCost l.material)) s'))) ∧
        (reqOk rq false false = true → 1 ≤ reqData rq → reqData rq ≤ 32768 → s.drbgOk = true → ∃ out s',
          exec (.mbRandom req) s = .next (mbEnd .ok out s') ∧ out.length = reqData rq ∧
          out = (started.drbgBytes (reqData rq)).1) ∧
        (reqOk rq true true = true → ∀ l s', vatCheck s' 2 false = none →
          let more (x : Loan) : Loan := { x with blocks := x.blocks + d.length / 8 }
          let spent := { s' with loaned := updFirst (fun x => x.n == l.n) more s'.loaned }
          (loaned [1] (fun _ => 6) 0 l s' → d.length % 8 = 0 → vat (.mbTdeaCbcDec req) s' (mbVatJob 0x0010 false l
            d.length (some (fit (tdeaCbcDec l.material (sl rq 8 8) d) d.length)) .ok)) ∧
          (loaned [1] (fun _ => 6) 1 l s' → d.length % 8 = 0 → l.blocks + d.length / 8 ≤ 2 ^ 20 →
            vat (.mbTdeaCbcEnc req) spent (mbVatJob 0x0011 true l d.length
              (some (fit (tdeaCbcEnc l.material (sl rq 8 8) d) d.length)) .ok)) ∧
          (loaned [1] (fun _ => 6) 1 l s' → d.length % 8 = 0 → 2 ^ 20 < l.blocks + d.length / 8 →
            exec (.mbTdeaCbcEnc req) s = .next (mbEnd .keyExhausted [] s')) ∧
          (loaned [1] (fun _ => 6) 2 l s' → l.blocks + tdeaBlocks d.length ≤ 2 ^ 20 → ∃ s2,
            s2 = { s' with loaned := s2.loaned } ∧
            vat (.mbTdeaMacGen req) s2 (mbVatJob 0x0012 true l d.length (some (fit (tdeaMac l.material d) 8)) .ok)) ∧
          (loaned [1] (fun _ => 6) 3 l s' → 8 ≤ d.length →
            let m := d.take (d.length - 8)
            vat (.mbTdeaMacVer req) s' (mbVatJob 0x0013 true l m.length none
              (if fit (tdeaMac l.material m) 8 = d.drop (d.length - 8) then .ok else .tagFail)))) ∧
        (requestSize < reqData rq → ∀ i ∈ [Instr.mbTdeaCbcDec req, .mbTdeaCbcEnc req, .mbTdeaMacGen req, .mbTdeaMacVer req],
          exec i s = .next (mbEnd .lengthRange [] started)) ∧
        (reqOk rq true true = true → s.debugOn = false → started.loanWaits (reqBlob rq) = true →
          ∀ x ∈ [(0x10, Instr.mbTdeaCbcDec req), (0x11, .mbTdeaCbcEnc req), (0x12, .mbTdeaMacGen req),
            (0x13, .mbTdeaMacVer req), (0x20, .aesCbcDec req), (0x21, .aesCbcEnc req), (0x40, .rsaSign req),
            (0x41, .rsaVerify req)],
            exec x.2 s = .next { started with mb := { started.mb with waiting := some x.1 } })))

/-- Reset and power: RESET_N, main power, hold-up, the retirement wipe (R39, R56, R62, R266, R268, R271, R283, R394,
R395). -/
def Obligations.ResetAndPower : Prop :=
  ∀ (s : State),
    let cleared (t : State) := t.orders = [] ∧ t.qps = [] ∧ t.sessions = [] ∧ t.loaned = [] ∧ t.press.queue = [] ∧
      t.keys = ⟨none, none, 0, none⟩ ∧ t.supSram = [] ∧ (∀ c f : Nat, c < 8 → t.frame c f = none) ∧
      t.vault = s.vault ∧ t.press.epoch = s.press.epoch ∧ t.cellar = s.cellar
    ((s.power.st = .active ∨ s.power.st = .idle ∨ s.power.st = .dormant) →
      ∃ t, exec .resetNAssert s = .next t ∧ t.power.st = .inReset ∧ cleared t) ∧
    ((s.power.st = .inReset ∨ s.power.st = .battery ∨ s.power.st = .off) → exec .resetNAssert s = .next s) ∧
    ((s.power.st = .battery ∨ s.power.st = .off) → exec .powerUp s =
      .next { s with power := { s.power with st := .inReset, pwrfailN := true } }) ∧
    (s.power.st ≠ .battery → s.power.st ≠ .off → exec .powerUp s = .next s) ∧
    (∀ ends, s.power.st ≠ .battery → s.power.st ≠ .off → ∃ t, exec (.powerFail ends) s = .next t ∧
      t.power.st = (if s.power.vbat then .battery else .off) ∧ t.power.pwrfailN = false ∧ cleared t ∧
      (s.awake = true → s.bankRetired 0 = false → ∃ m, t.time.mark.read = some m ∧ s.time.t ≤ m ∧ m / second = s.time.t / second) ∧
      (s.awake = true → t.smb.lcKept = s.lcStatus ∧ t.smb.idKept = fit s.identity 16) ∧
      (∀ d : Fin 64, d ∈ t.power.domainsOff ↔ d ≠ 0 ∨ s.power.vbat = false) ∧
      (ends = true → s.awake = true → s.bankRetired 0 = false → s.rind.guard = false → s.brine.mode = .holdup → s.debugBars = false →
        t.brine.word.read = some ((s.saveCount + 1) * 256) ∧
        t.brine.entries.map (·.slot) = s.brine.entries.map (·.slot) ∧
        ∀ e ∈ t.brine.entries, e.dist = 0 ∧ (e ∈ s.brine.entries ∨ e.dur.read = some ⟨e.inv, e.uses, e.gen⟩))) ∧
    (∀ ends logs, (s.power.st = .battery ∨ s.power.st = .off) → exec (.powerFail ends logs) s = .next s) ∧
    (∀ ends logs, s.power.st ≠ .battery → s.power.st ≠ .off → ∃ t, exec (.powerFail ends logs) s = .next t ∧
      t.power.st = (if s.power.vbat then .battery else .off) ∧ t.orders = [] ∧ t.qps = [] ∧ t.sessions = [] ∧
      t.press.queue = []) ∧
    (s.awake = true → s.rind.guard = false → ∀ s', s' = endLogWrite s → s'.awake = true → s'.rind.guard = false →
      exec (.resetNAssert true) s = exec .resetNAssert s') ∧
    ((s.awake = false ∨ s.rind.guard = true) → exec (.resetNAssert true) s = exec .resetNAssert s) ∧
    (s.awake = true → s.brine.mode = .holdup → (s.debugBars = true ∨ s.rind.guard = true) →
      ∃ t, exec .vholdLow s = .next t ∧ t.brine = { s.brine with mode := .writeThrough } ∧ t.power.holdup = false) ∧
    (s.awake = true → s.brine.mode = .holdup → s.debugBars = false → s.rind.guard = false → s.bankRetired 0 = false →
      ∃ t, exec .vholdLow s = .next t ∧ t.brine.mode = .writeThrough ∧ t.power.holdup = false ∧ t.smb.alert = true ∧
        t.brine.word.read = some (s.saveCount * 256 + 2)) ∧
    (s.power.st = .battery → ∃ t, exec .vbatLoss s = .next t ∧ t.power.st = .off ∧ t.power.vbat = false ∧
      t.power.soleInvalid = true ∧ t.rind.log = RLog.empty ∧ t.time.alarm = 0) ∧
    (s.power.st ≠ .battery → exec .vbatLoss s = .next { s with power := { s.power with vbat := false } }) ∧
    (s.vault.lc = .retired → s.lc.wipe = true → s.awake = true → ∃ t, exec .retirementWipe s = .next t ∧
      t.cellar.slots = [] ∧ t.brine.entries = [] ∧ t.lc = { s.lc with wipe := false } ∧
      (∀ b : Fin 64, (t.book b).head = Head.zero) ∧ t.cellar.parts = s.cellar.parts ∧ t.vault = s.vault)

/-- The start at RESET_N release: selection of the last, the life cycle, first start (R42, R43, R54, R62 to R64). -/
def Obligations.StartSequence : Prop :=
  ∀ (s : State),
    (∀ f, s.power.st = .inReset → exec (.resetNRelease f) s = .next (start f s)) ∧
    (∀ f, s.power.st ≠ .inReset → exec (.resetNRelease f) s = .next s) ∧
    (∀ (balls : BitVec 2) (pend : Option (BitVec 2)) (r : Last),
      let n := pend.getD balls
      let t := selectLast balls pend s
      (s.lasts[n.toNat]? = some (some r) → r.digestOk = true →
        t.active = { r with number := n } ∧ t.ls = ⟨n, false, pend.isSome⟩ ∧ t.ev = Events.ofLast r ∧ t.smb = s.smb) ∧
      ((s.lasts[n.toNat]? = some none ∨ (s.lasts[n.toNat]? = some (some r) ∧ r.digestOk = false)) →
        t.active = { baseLast with number := n } ∧ t.ls = ⟨n, true, pend.isSome⟩ ∧ t.smb.alert = true)) ∧
    ((s.vault.lc = .manufacture ∨ s.vault.lc = .test) →
      (∀ cut, startLifecycle true cut s =
        { s with vault := { s.vault.become .test with root0 := none, root1 := none } }) ∧
      (s.drbg.noise0 = true → s.drbg.noise1 = true →
        let x := startLifecycle false true s
        x.vault.lc = .manufacture ∧ x.vault.root = some (s.drbgBytes 32).1 ∧ x.lc.lcRecord = s.lc.lcRecord) ∧
      (s.drbg.noise0 = true → s.drbg.noise1 = true →
        let t := startLifecycle false false s
        t.vault.lc = .issued ∧ t.vault.root = some (s.drbgBytes 32).1 ∧ t.time.t = 0 ∧ t.press.epoch = 0 ∧ t.lc.officers = [] ∧
        t.updateCounter = some 0 ∧ t.cellar.slots = [] ∧ t.brine.entries = [] ∧ t.lc.cert = none ∧
        t.lc.lcRecord = some .issued ∧ t.welt.role = .unpaired) ∧
      ((s.drbg.noise0 = false ∨ s.drbg.noise1 = false) → ∀ cut,
        let t := startLifecycle false cut s
        t.vault.lc = .manufacture ∧ t.lc.firstStart = true ∧ t.vault.root = none)) ∧
    (∀ l, s.vault.word.read = some l → readVault s = { s with vault := { s.vault with lc := l } }) ∧
    (s.vault.word.read = none → (readVault s).vault.lc = .retired) ∧
    (∀ test cut, s.vault.lc = .retired → startLifecycle test cut s = s) ∧
    (∀ test cut, s.vault.lc = .service → s.lc.lcRecord = some .service →
      ((s.updateCounter ≠ none ∧ s.ringOk = true) → (startLifecycle test cut s).vault.lc = .service) ∧
      ((s.updateCounter = none ∨ s.ringOk = false) → (startLifecycle test cut s).vault.lc = .recovery)) ∧
    (∀ test cut, (s.vault.lc = .service ∨ s.vault.lc = .recovery ∨ s.vault.lc = .issued) → s.lc.lcRecord = some .retired →
      (startLifecycle test cut s).vault.lc = .retired ∧ (startLifecycle test cut s).vault.root = none)

/-- Domains, DORMANT, host-link reset and host sleep (R30, R31, R35 to R38, R77, R317, R319, R320). -/
def Obligations.LinkAndSleep : Prop :=
  ∀ (s : State),
    (s.sessions ≠ [] → s.dormantBar = some 1) ∧
    (s.sessions = [] → s.orders ≠ [] → s.dormantBar = some 2) ∧
    (s.sessions = [] → s.orders = [] → (∀ q ∈ s.qps, q.gathered = []) → s.active.dormantOk = false →
      s.dormantBar = some 3) ∧
    (s.sessions = [] → s.orders = [] → (∀ q ∈ s.qps, q.gathered = []) → s.active.dormantOk = true →
      s.dormantBar = if s.welt.mode = .sync then some 4 else none) ∧
    (s.hostReach = true →
      (exec (.pwCtlReqWrite 0) s = .next { s with power := { s.power with req := false } }) ∧
      (s.dormantBar = none → exec (.pwCtlReqWrite 1) s = .next { s with power := { s.power with req := true } }) ∧
      (∀ r, s.dormantBar = some r → exec (.pwCtlReqWrite 1) s = .next { s with power :=
        { s.power with req := false, refused := true, reason := BitVec.ofNat 4 r } }) ∧
      (∀ v, v = 2 ∨ v = 3 → exec (.pwCtlReqWrite v) s =
        .next { s with power := { s.power with refused := true, reason := 5 } }) ∧
      (exec (.holdWarmWrite false) s = .next { s with power := { s.power with holdWarm := false } }) ∧
      (s.health.katDue = [] → ∃ t, exec (.holdWarmWrite true) s = .next t ∧ t.power.holdWarm = true ∧ { t with power := s.power } = s ∧
        (∀ d ∈ t.power.domainsOff, d ∈ s.power.domainsOff) ∧
        ∀ i : Fin 16, s.chanOk i = true → Fin.ofNat 64 (22 + i) ∉ t.power.domainsOff) ∧
      (∀ p, let s1 := { flushGroups s with link := { (flushGroups s).link with d3hot := true, pmeEn := p } }
        exec (.d3hotEntry p) s = .next (requestDormant s1))) ∧
    (∀ d : Fin 64, s.awake = true → s.domainIdle d = true → s.aboveWarm d = true → d ∉ s.power.domainsOff →
      ∃ t, exec (.domainPowerOff d) s = .next t ∧ t.power = { s.power with domainsOff := d :: s.power.domainsOff } ∧
        t.eng.schedules = s.eng.schedules.filter (fun x => x.1 + 22 != d.val) ∧
        { t with power := s.power, eng := s.eng } = s) ∧
    (∀ d : Fin 64, (s.domainIdle d = false ∨ s.aboveWarm d = false) → exec (.domainPowerOff d) s = .next s) ∧
    (s.awake = true → s.power.req = true →
      (∀ r x, s.dormantBar = some r → exec (.dormantEntry x) s = .next { s with power :=
        { s.power with req := false, refused := true, reason := BitVec.ofNat 4 r } }) ∧
      (s.dormantBar = none → exec (.dormantEntry true) s = .next { s with power :=
        { s.power with req := false, refused := true, reason := 2 } }) ∧
      (s.dormantBar = none → s.working = true → exec (.dormantEntry false) s = .next s) ∧
      (s.dormantBar = none → s.working = false → ∃ t, exec (.dormantEntry false) s = .next t ∧ t.power.st = .dormant ∧
        t.link.l12 = true ∧ t.keys.sessionKey = none ∧ t.keys.stateKeys = none ∧ t.keys.bootNonce = s.keys.bootNonce ∧
        t.loaned = [] ∧ t.eng.schedules = [] ∧ t.eng.streams = [] ∧ t.time.tokens = [] ∧ t.vault = s.vault ∧
        ∀ d : Fin 64, d ∉ t.power.domainsOff ↔ d = 0)) ∧
    (∀ k, s.power.st = .dormant → s.rind.latchedTrip = none → ∃ t, exec (.dormantExit k) s = .next t ∧
      t.power.st = .active ∧ t.power.req = false ∧ t.link.l12 = false ∧ t.vault = s.vault ∧ t.ev.wakePend = []) ∧
    (∀ k c, s.power.st = .dormant → s.rind.latchedTrip = some c → ∃ t, exec (.dormantExit k) s = .next t ∧
      t.power.st = .active ∧ t.rind.guard = true ∧ t.rind.wiping = true ∧ t.sessions = []) ∧
    (∀ k w, s.power.st ≠ .dormant → exec (.dormantExit k w) s = .next s) ∧
    (∀ k, (s.ev.wakeExit = false → exec (.dormantExit k true) s = .next s) ∧
      (s.ev.wakeExit = true → exec (.dormantExit k true) s = exec (.dormantExit k) s)) ∧
    (s.awake = true →
      (exec .l1Entry s = .next (flushGroups s)) ∧
      (s.link.d3hot = true → exec .d0Return s = .next (signalAll { s with
        link := { s.link with d3hot := false }, power := { s.power with req := false } })) ∧
      (s.link.d3hot = false → exec .pmeStatusClear s = .next { s with link := { s.link with pmeStatus := false } }) ∧
      (s.link.d3hot = true → s.link.pmeStatus = true → exec .pmeResend s = .next (if s.ev.gdisHost = true then s
        else { s with tx := s.tx ++ [.pme] })) ∧
      (∀ cfg, ∃ t, exec (.hostLinkReset cfg) s = .next t ∧ t.link.cfg = cfg ∧ t.orders = [] ∧ t.qps = [] ∧ t.sessions = [] ∧ t.loaned = [] ∧
        t.link.d3hot = false ∧ t.hl = ⟨0, 0, 0, 0, false, false, 0⟩ ∧ t.mb.busy = false ∧ t.time.tokens = [] ∧
        t.ev.gdisHost = true ∧ t.msix.enable = false ∧ (∀ c f : Nat, c < 8 → t.frame c f = none) ∧
        (s.rind.guard = true → t.keys.bootNonce = none) ∧ t.vault = s.vault ∧ t.press.epoch = s.press.epoch))

/-- Card events (R323, R324, R326 to R331, R339, R340, R342 to R346; 02 R27, R28). -/
def Obligations.CardEvents : Prop :=
  ∀ (s : State) (ch : Fin 4),
    let k := s.card ch
    let s0 := setCard ch { k with withdrawn := false } s
    (s.sampling = true → k.present = false → exec (.cardPresent ch) s = .next (raiseSample (261 + ch)
      (setCard ch { k with present := true, st := if cardsOn s ch then .identifying else .none }
        (if cardsOn s ch then wakeDomainN (9 + ch) s else s)))) ∧
    ((s.sampling = false ∨ k.present = true) → exec (.cardPresent ch) s = .next s) ∧
    (∀ busy, s.sampling = true → k.present = true →
      let lost (r : CardReq) := if busy && (r.phase == .payload || r.phase == .header) then .writeUnknown else .mediaGone
      exec (.cardRemoved ch busy) s = .next (raise (257 + ch) (raiseSample (261 + ch) (failCard ch lost
        (setCard ch { k.rest with present := false, st := .none, locked := false, lv := false, mode := 0, cap := 7, width := 4
                                  narrow := false } s))))) ∧
    (∀ busy, (s.sampling = false ∨ k.present = false) → exec (.cardRemoved ch busy) s = .next s) ∧
    (∀ b, s.sampling = true → exec (.cardTabChange b) s = .next { s with cards := { s.cards with tab := b } }) ∧
    (∀ r, (cardsOn s ch = false ∨ k.tune = .running) → exec (.cardResponse ch r) s = .next s) ∧
    (cardsOn s ch = true → k.tune ≠ .running → k.st = .identifying →
      (exec (.cardResponse ch .switchFailed) s = .next (setCard ch { k with withdrawn := false, s18off := true } s0)) ∧
      (k.idTries < 3 → exec (.cardResponse ch .fault) s =
        .next (setCard ch { k with withdrawn := false, idTries := k.idTries + 1 } s0)) ∧
      (3 ≤ k.idTries → ∃ t, exec (.cardResponse ch .fault) s = .next t ∧ (t.card ch).st = .quarantined) ∧
      (k.withdrawn = false → (∀ w ∈ [none, some CardWait.ready], exec (.cardTimeout ch true w) s = .next (rejectCard ch s)) ∧
        (∀ w ∈ [CardWait.response, .data, .busy, .eraseEnd], exec (.cardTimeout ch true (some w)) s =
          .next (identFault ch s)) ∧
        ∀ w, exec (.cardTimeout ch false w) s = .next (setCard ch { k with withdrawn := true } s)) ∧
      (∀ i : CardIdent,
        ((i.accepted = false ∨ 3906250000 < i.blocks) →
          exec (.cardResponse ch (.identified i)) s = .next (rejectCard ch s0)) ∧
        (i.accepted = true → i.blocks ≤ 3906250000 → k.queue = [] → ch ≠ 3 → ∃ k' : CardCh,
          exec (.cardResponse ch (.identified i)) s = .next (retryAppends ch (raise (257 + ch) (setCard ch k'
            (if i.locked = true ∧ k.vol.state = 3 then
              { s0 with tx := s0.tx ++ [.cmd42 ch .unlock (volPassword s0 ch k.vol)] } else s0)))) ∧
          k'.st = .identified ∧ k'.media = i.media ∧ k'.m = i.blocks / 8 ∧ k'.csdWp = i.csdWp ∧
          k'.headerOk = i.headerOk ∧ k'.present = k.present ∧ k'.vol = k.vol ∧ k'.queue = [] ∧ k'.withdrawn = false ∧
          k'.locked = (i.locked && !(i.unlocked && k.vol.state == 3)) ∧ ((i.media = .sd ∨ 5 ≤ k.cap) → k'.mode ≤ k.cap) ∧
          (i.media = .mmc → k'.lv = false ∧ 5 ≤ k'.mode) ∧ (i.media = .sd → (k'.lv = true ↔ 2 ≤ k'.mode)) ∧
          (k.s18off = true → k'.lv = false) ∧ (i.tuneRun < 6 → k'.mode ≠ 3 ∧ k'.mode ≠ 4) ∧
          k'.width = if i.media = .mmc ∧ (i.busTest = false ∨ k.narrow = true) then 1 else 4))) ∧
    (∀ r w, k.withdrawn = true → exec (.cardTimeout ch r w) s = .next s) ∧
    (cardsOn s ch = true → k.tune ≠ .running → k.st = .identified → ∀ (r : CardReq) (rest : List CardReq),
      k.queue = r :: rest →
      (k.lowest = false → r.phase ≠ .queued → r.phase ≠ .press →
        exec (.cardResponse ch .stepOk) s = .next (cardBetween ch (goodStep ch r s0))) ∧
      (r.phase = .read → exec (.cardResponse ch .tagFail) s = .next (cardBetween ch
        (endHead ch .mediaTagFail (4096 * r.count) (writeOut r.ref r.dst (zeros (4096 * r.count)) s0)))) ∧
      (r.phase = .path → exec (.cardResponse ch .tagFail) s = .next (cardBetween ch (endHead ch .mediaTagFail 0 s0))) ∧
      (r.phase ≠ .queued → r.phase ≠ .press →
        (exec (.cardResponse ch .fault) s = .next (cardBetween ch (transferFault ch s0))) ∧
        (∀ f : CardFrame, (f.crc7 = false ∨ false ∈ f.crc16 ∨ f.token = some false) → exec (.cardResponse ch (.frame f)) s =
          .next (cardBetween ch (transferFault ch (setCard ch (s0.card ch).due s0)))) ∧
        (∀ f : CardFrame, f.crc7 = true → false ∉ f.crc16 → f.token ≠ some false →
          (f.errorBit = true → exec (.cardResponse ch (.frame f)) s = .next (cardBetween ch (transferFault ch s0))) ∧
          (f.errorBit = false → r.phase ≠ .erase → k.blk < 7 → exec (.cardResponse ch (.frame f)) s =
            .next (cardBetween ch (setCard ch { s0.card ch with blk := k.blk + 1 } s0))) ∧
          (f.errorBit = false → r.phase ≠ .erase → 7 ≤ k.blk → exec (.cardResponse ch (.frame f)) s =
            .next (cardBetween ch (cardGood ch (setCard ch { s0.card ch with blk := 0 } s0))))) ∧
        (k.withdrawn = false →
          (∀ w, (r.phase ≠ .erase ∨ ∃ x, w = some x ∧ x ≠ .eraseEnd) →
            exec (.cardTimeout ch true w) s = .next (cardBetween ch (transferFault ch s))) ∧
          (∀ w ∈ [none, some CardWait.eraseEnd], r.phase = .erase →
            exec (.cardTimeout ch true w) s = .next (endHead ch .faultPermanent 0 s)) ∧
          (∀ w, exec (.cardTimeout ch false w) s =
            .next (setHead ch { r with closeCall := true } (setCard ch { k with withdrawn := true } s)))) ∧
        (k.lowest = false →
          let retry := setHead ch { r with tries := r.tries + 1, retried := true } s
          (3 ≤ r.tries → transferFault ch s = quarantine ch r s) ∧
          (r.tries < 3 → ch = 3 → s.cards.tab = true → transferFault ch s = endHead ch .mediaWriteProtected 0 s) ∧
          ((ch ≠ 3 ∨ s.cards.tab = false) →
            (r.tries = 0 → transferFault ch s = retry) ∧
            (r.tries = 1 → transferFault ch s = setCard ch (retry.card ch).due retry) ∧
            (r.tries = 2 → transferFault ch s = stepDown ch retry)))) ∧
      (r.kind = .read → r.phase = .read →
        let s2 := ownSealing s
        let w := writeOut r.ref (r.dst.shift (4096 * r.pos)) ((s2.card ch).sector (r.first + r.pos)) s2
        let s3 := setCard ch ((w.card ch).keep (journalTags (w.card ch).vol (r.first + r.pos) 1)) w
        (s2.deviceCores = false → goodStep ch r s = endHead ch .noHealthyChannel (4096 * r.pos) s2) ∧
        (s2.deviceCores = true →
          (r.count ≤ r.pos + 1 → goodStep ch r s = endHead ch .ok (4096 * r.count) s3) ∧
          (r.pos + 1 < r.count → r.stop = true → goodStep ch r s = endHead ch .aborted (4096 * (r.pos + 1)) s3) ∧
          (r.pos + 1 < r.count → r.stop = false →
            goodStep ch r s = setHead ch { r with tries := 0, pos := r.pos + 1 } s3))) ∧
      (s.deviceCores = true → r.phase = .header → r.kind = .write →
        let s1 := putJournal ch r.first r.data (setHead ch { r with tries := 0, phase := .press } s)
        ∃ p : Press, p.items = [.volWrite ch r.first r.data] ∧ p.origin = r.ref ∧ p.behind = s1.writesBefore r ∧
          p.retried = r.retried ∧ p.closeCall = r.closeCall ∧
          goodStep ch r s = freeBehind r.ref (enqueueAhead p s1))) ∧
    (∀ n first, cardsOn s ch = true → k.st = .identified →
      (k.mode ≠ 3 → k.mode ≠ 4 → exec (.cardTuning ch n first) s = .next s) ∧
      ((k.mode = 3 ∨ k.mode = 4) →
        (k.tune ≠ .running → k.inService = true → exec (.cardTuning ch n first) s = .next (setCard ch k.due s)) ∧
        ((k.tune = .running ∨ k.inService = false) →
          (n < 6 → exec (.cardTuning ch n first) s =
            .next (cardBetween ch (stepDown ch (setCard ch { k with tune := .good } s)))) ∧
          (6 ≤ n → exec (.cardTuning ch n first) s = .next (setCard ch { k with
            tune := .good, phaseAt := (first + n / 2) % 32, tunedAt := s.time.t / second, tunedC := s.cards.dieC } s)))))

/-- Frames of the Welt: which act, and what each does (R371 to R373, R376, R377, R379 to R383, R385, R389). -/
def Obligations.WeltFrames : Prop :=
  ∀ (s : State) (fr : Frame),
    let s1 := inSequence s fr
    let s0 := chanOp (52 + fr.lane) false s
    (∀ (acked epoch seq last twinUnc first uc : Nat) (ref : BitVec 64) (p : PressPiece) (us : List BrineUpdate)
      (st : BitVec 16) (r by_ : BitVec 32) (out : Bytes) (d : CopyData) (offset : Int) (req : Forwarded) (m : Fin 16384), forwardWaits req s = false →
      ∀ i ∈ [Instr.weltLease fr, .weltAck fr acked epoch, .weltNak fr seq, .weltPress fr p, .weltBrine fr us,
        .weltForward fr ref req, .weltReply fr ref st r by_ out, .weltGrant fr m first, .weltCopy fr d,
        .weltCopyEnd fr epoch uc, .weltTime fr offset twinUnc, .weltDepart fr last],
      ((s.welt.link = false ∨ fr.lane ∉ s.welt.lanes) → exec i s = .next s) ∧
      (s.welt.link = true → fr.lane ∈ s.welt.lanes → fr.crcOk = true → (fr.tagOk = false ∨ fr.seq < s.welt.rxSeq) →
        exec i s = .next (breakSession s0)) ∧
      (s.welt.link = true → fr.lane ∈ s.welt.lanes → fr.crcOk = true → fr.tagOk = true → fr.seq = s.welt.rxSeq →
        s.welt.term < fr.term → exec i s = .next (endLink (higherTerm fr.term s1)))) ∧
    (Received s fr →
      (s.welt.role = .lead → exec (.weltLease fr) s = .next { s1 with welt := { s1.welt with lease := true } }) ∧
      (∀ acked epoch, s.welt.mode ≠ .copying → exec (.weltAck fr acked epoch) s = .next (ackUpTo acked s1)) ∧
      (∀ seq type, s.welt.unacked.find? (fun u => u.1 == seq) = some (seq, type) →
        exec (.weltNak fr seq) s = .next { s1 with tx := s1.tx ++ [.welt (wireType type) seq] }) ∧
      (∀ p : PressPiece, s.syncFollower = true → p.off = s.welt.gathered →
        (p.off + p.len < p.total → exec (.weltPress fr p) s =
          .next { s1 with welt := { s1.welt with gathered := p.off + p.len } }) ∧
        (p.total ≤ p.off + p.len → s1.ringOk = true → s.press.epoch < p.epoch → ∃ s2,
          s2 = { s1 with welt := { s1.welt with gathered := 0 } } ∧ exec (.weltPress fr p) s =
          .next (weltCtl 0x03 (p.items.foldl (pairItem p.epoch)
            (mirrorRecord p.epoch p.total (p.items.filterMap (PairItem.item s2)) s2))))) ∧
      (∀ us, s.syncFollower = true → exec (.weltBrine fr us) s = .next (weltCtl 0x03 (us.foldl brineUpdate s1))) ∧
      (∀ (ref : BitVec 64) (req : Forwarded), s.syncLead = true → forwardWaits req s = false →
        exec (.weltForward fr ref req) s = .next (weltCtl 0x03 (runForwarded (.twin ref) req s1))) ∧
      (∀ (ref : BitVec 64) (r by_ : BitVec 32) (out : Bytes) (e : Option Nat) (w : WeltWait),
        s1.welt.waits.find? (fun w => w.fwd && w.seq == ref.toNat) = some w →
        exec (.weltReply fr ref 0 r by_ out e) s = .next (weltCtl 0x03 (finish w.ref .ok by_.toNat r.toNat (replyEpoch w e
          (writeOut w.ref w.dst out { s1 with welt := { s1.welt with waits := s1.welt.waits.filter fun y => y != w } }))))) ∧
      (∀ (n : Fin 16384) (first : Nat), s.syncFollower = true → (∀ g ∈ s.welt.grants, g.1 ≠ n) →
        s.welt.grants.length < 1024 → exec (.weltGrant fr n first) s =
          .next (weltCtl 0x03 { s1 with welt := { s1.welt with grants := (n.val, first, 65536) :: s1.welt.grants } })) ∧
      (∀ d : CopyData, s.copies = true → s.welt.mode = .copying → exec (.weltCopy fr d) s =
        .next (weltCtl 0x03 { s1 with welt := { s1.welt with copied := s1.welt.copied ++ d.items } })) ∧
      (∀ epoch uc, s.copies = true → s.welt.mode = .copying → s1.ringOk = true → ∃ t,
        exec (.weltCopyEnd fr epoch uc) s = .next t ∧ t.welt.role = .follower ∧ t.welt.mode = .sync ∧
        t.welt.stale = false ∧ t.welt.copied = [] ∧ t.welt.grants = []) ∧
      (∀ (offset : Int) (unc : Nat),
        let bad := decide (s1.time.unc + unc < offset.natAbs)
        let t := { s1 with welt := { s1.welt with timeBad := bad } }
        exec (.weltTime fr offset unc) s = .next (if bad && !s.welt.timeBad then raiseSample 269 t else sample 269 t)) ∧
      (∀ last, s.welt.role = .lead → exec (.weltDepart fr last) s =
        .next (endLink (leadDetached { s1 with welt := { s1.welt with lease := false } }))) ∧
      (∀ last, s.syncFollower = true → s1.power.pwrfailN = true → last ≤ s.welt.rxSeq + 1 →
        exec (.weltDepart fr last) s =
          .next (endLink (promote { s1 with welt := { s1.welt with granted := false } }))))

/-- Lanes, HELLO, leases, acknowledgement timeouts and link loss (R372, R374, R377, R381, R382, R385, R388, R390). -/
def Obligations.WeltEvents : Prop :=
  ∀ (s : State),
    (∀ lane : Fin 2, s.awake = true → s.welt.role ≠ .unpaired → s.rind.guard = false → s.chanOk (52 + lane) = true →
      lane ∉ s.welt.lanes → let s1 := { s with welt := { s.welt with lanes := lane :: s.welt.lanes } }
        exec (.weltLaneTrained lane) s = .next (if s.welt.lanes = [] then sendHello s1 else s1)) ∧
    (∀ lane, s.welt.role = .unpaired → exec (.weltLaneTrained lane) s = .next s) ∧
    (∀ h : Hello, s.awake = true → s.welt.role ≠ .unpaired → s.welt.lanes ≠ [] → s.rind.guard = false →
      s.debugBars = false →
      (h.pairing = false → s.welt.secret = none → exec (.weltHello h) s = .next s) ∧
      (h.pairing = false → (h.tagOk = false ∨ fit h.identity 16 ≠ fit s.welt.twin 16 ∨
        h.lcCode.toNat ≠ s.vault.lc.code) → exec (.weltHello h) s = .next s) ∧
      (h.pairing = false → s.welt.secret ≠ none → h.tagOk = true → fit h.identity 16 = fit s.welt.twin 16 →
        h.lcCode.toNat = s.vault.lc.code → h.term = s.welt.term → s.welt.role = .lead → h.role ≠ 1 →
        s.welt.link = false → s.welt.mode = .detached →
        exec (.weltHello h) s = .next (startCopy (raiseSample 267 { s with
          welt := { s.welt with link := true, linkKey := sessionLinkKey s h.nonce, txSeq := 0, rxSeq := 0, unacked := []
                                unsent := [] } }))) ∧
      (h.pairing = true → (s.welt.secret ≠ none ∨ s.welt.pairRefused = true ∨ h.tagOk = false ∨ s.drbgOk = false) →
        exec (.weltHello h) s = .next s) ∧
      (h.pairing = true → s.welt.secret = none → s.welt.pairRefused = false → h.tagOk = true → s.drbgOk = true →
        s.lanesOk = true → (fit h.identity 16 ≠ fit s.welt.twin 16 ∨ h.role.toNat ≠ otherRole s.welt.role) →
        exec (.weltHello h) s = .next (raiseSample 270 { s with welt := { s.welt with pairRefused := true } })) ∧
      (h.pairing = true → s.welt.secret = none → s.welt.pairRefused = false → h.tagOk = true → s.drbgOk = true →
        s.lanesOk = true → fit h.identity 16 = fit s.welt.twin 16 → h.role.toNat = otherRole s.welt.role →
        ∃ k s1, exec (.weltHello h) s = .next (pressOwn [.weltSecret k] s1) ∧ k.length = 32 ∧ s1.welt = s.welt)) ∧
    (s.welt.role = .follower → s.welt.link = true → exec .leaseRenewal s =
      .next (weltCtl 0x02 { s with welt := { s.welt with granted := true } })) ∧
    (s.welt.role ≠ .follower → exec .leaseRenewal s = .next s) ∧
    (s.welt.role = .lead → s.welt.lease = true → exec (.leaseExpiry true) s =
      .next (startCopy (leadDetached { s with welt := { s.welt with lease := false } }))) ∧
    (exec (.leaseExpiry false) s = .next s) ∧
    (s.welt.role = .follower → s.welt.granted = true → exec .grantedLeaseExpiry s =
      .next (followerStale { s with welt := { s.welt with granted := false } })) ∧
    (s.syncLead = true → s.welt.unacked ≠ [] →
      (∃ ws, exec (.weltAckTimeout false) s = .next { s with welt := { s.welt with closeCall := true, waits := ws } } ∧
        ws = s.welt.waits.map fun w =>
          { w with closeCall := w.closeCall || (!w.fwd && (resent s.welt.unacked).any fun u => u.1 == w.seq) }) ∧
      (s.welt.closeCall = true → exec (.weltAckTimeout true) s = .next s) ∧
      (s.welt.closeCall = false → 2 ≤ s.welt.timeouts → exec (.weltAckTimeout true) s =
        .next (startCopy (leadDetached s))) ∧
      (s.welt.closeCall = false → s.welt.timeouts < 2 → s.welt.link = false → exec (.weltAckTimeout true) s =
        .next { s with welt := { s.welt with timeouts := s.welt.timeouts + 1 } }) ∧
      (s.welt.closeCall = false → s.welt.timeouts < 2 → s.welt.link = true → ∀ q t rest, s.welt.unacked = (q, t) :: rest →
        (t % 256 ≠ 0x10 → exec (.weltAckTimeout true) s = .next { s with
          welt := { s.welt with timeouts := s.welt.timeouts + 1 }, tx := s.tx ++ [.welt (t % 256) q] }) ∧
        (t % 256 = 0x10 → (rest.head?.map Prod.snd) ≠ some pressMore → exec (.weltAckTimeout true) s = .next { s with
          welt := { s.welt with timeouts := s.welt.timeouts + 1 }, tx := s.tx ++ [.welt 0x10 q] }))) ∧
    (s.welt.link = true → exec .timeExchange s = .next { s with
      welt := { s.welt with txSeq := s.welt.txSeq + 1 }, tx := s.tx ++ [.welt 0x40 s.welt.txSeq] }) ∧
    (∃ t, exec .weltLinkLoss s = .next t ∧ t.welt.link = false ∧ t.welt.lanes = [] ∧ t.welt.role = s.welt.role ∧
      t.welt.term = s.welt.term ∧ t.welt.unacked = s.welt.unacked) ∧
    (s.welt.role = .lead → s.welt.mode ≠ .detached → (leadDetached s).welt.mode = .detached ∧
      (s.welt.link = false → (leadDetached s).welt.unacked = [] ∧ (leadDetached s).welt.unsent = []) ∧
      (leadDetached s).welt.waits = [] ∧ (leadDetached s).welt.role = .lead) ∧
    (∀ type, s.welt.link = true →
      (s.welt.unsent = [] → s.welt.unacked.length < 64 → weltSend type s = { s with
        welt := { s.welt with txSeq := s.welt.txSeq + 1, unacked := s.welt.unacked ++ [(s.welt.txSeq, type)] }
        tx := s.tx ++ [.welt (type % 256) s.welt.txSeq] }) ∧
      ((s.welt.unsent ≠ [] ∨ 64 ≤ s.welt.unacked.length) → (weltSend type s).tx = s.tx ∧
        (weltSend type s).welt.unacked = s.welt.unacked ∧ (weltSend type s).welt.txSeq = s.welt.txSeq)) ∧
    (s.welt.role = .follower → (followerStale s).welt.stale = true ∧ (followerStale s).welt.mode = .detached ∧
      (followerStale s).welt.grants = [] ∧ (followerStale s).welt.waits = [])

/-- The SMBus port and the debug port (R401 to R404). -/
def Obligations.SmbusAndDebug : Prop :=
  ∀ (s : State),
    let replies (s : State) (b : Option Bytes) := { s with smb := { s.smb with reply := b } }
    (s.power.st ≠ .off →
      (∀ v : BitVec 16, v.toNat % 4 = 0 → v.toNat ≤ 0x27FC → exec (.setPointer v) s =
        .next { s with smb := { s.smb with pointer := v.toNat, reply := some [] } }) ∧
      (∀ v : BitVec 16, (v.toNat % 4 ≠ 0 ∨ 0x27FC < v.toNat) → exec (.setPointer v) s = .next (replies s none)) ∧
      (∃ b : Bytes, b.length = 32 ∧ exec .readBlock s = .next { s with smb := { s.smb with
          pointer := if s.smb.pointer + 32 ≤ 0x27FF then s.smb.pointer + 32 else 0, reply := some b } } ∧
        ∀ i : Fin 8, fld b (4 * i) 4 = smbWord s ((s.smb.pointer + 4 * i) % 0x2800) % 2 ^ 32) ∧
      (∃ b : Bytes, b.length = 16 ∧ exec .readSummary s = .next (replies s (some b)) ∧
        fld b 0 4 = smbWord s 0 % 2 ^ 32 ∧ fld b 4 4 = smbWord s 4 % 2 ^ 32 ∧ fld b 8 4 = smbWord s 8 % 2 ^ 32 ∧
        fld b 12 4 = (if s.soleOnly then s.smb.lcKept else s.lcStatus) % 2 ^ 32) ∧
      (exec .identity s = .next (replies s (some
        (fit (if s.soleOnly then s.smb.idKept else s.identity) 16 ++ [0x6C, 0x1F, 0x00, 0x88])))) ∧
      (s.smb.alert = true → exec .alertResponseAddress s =
        .next { s with smb := { s.smb with alert := false, reply := some [0x3A] } }) ∧
      (s.smb.alert = false → exec .alertResponseAddress s = .next (replies s none)) ∧
      (exec .smbusTimeout s = .next (replies s none))) ∧
    (s.power.st = .off → ∀ i ∈ [Instr.setPointer 0, .readBlock, .readSummary, .identity, .alertResponseAddress,
      .smbusTimeout, .select 0, .halt, .resume, .step, .setAddr 0, .readMem, .readReg 0, .dbgStatus],
      exec i s = .next s) ∧
    (s.dbgUp = false → s.power.st ≠ .off → ∀ t a r, ∀ i ∈ [Instr.select t, .halt, .resume, .step, .setAddr a, .readMem,
      .readReg r, .dbgStatus], exec i s = .next (replies s none)) ∧
    (s.dbgUp = true →
      (∀ t : BitVec 8, (t.toNat ≤ 8 ∨ (0x10 ≤ t.toNat ∧ t.toNat < 0x20)) → exec (.select t) s =
        .next { s with dbg := { s.dbg with target := t.toNat }, smb := { s.smb with reply := some [] } }) ∧
      (∀ t : BitVec 8, 8 < t.toNat → (t.toNat < 0x10 ∨ 0x20 ≤ t.toNat) → exec (.select t) s = .next (replies s none)) ∧
      (∀ a : BitVec 32, a.toNat % 4 = 0 → a.toNat < dbgSize s.dbg.target → exec (.setAddr a) s =
        .next { s with dbg := { s.dbg with addr := a.toNat }, smb := { s.smb with reply := some [] } }) ∧
      (∀ a : BitVec 32, (a.toNat % 4 ≠ 0 ∨ dbgSize s.dbg.target ≤ a.toNat) →
        exec (.setAddr a) s = .next (replies s none)) ∧
      (∀ c : Fin 9, s.dbg.target = c →
        (exec .halt s = .next (replies (setCore c { s.core c with halted := true, stepping := false } s) (some []))) ∧
        (exec .resume s = .next (replies (setCore c { s.core c with halted := false, stepping := false } s) (some []))) ∧
        (exec .step s = .next (replies (setCore c { s.core c with stepping := (s.core c).halted } s) (some []))) ∧
        (∀ r, (s.core c).halted = false → exec (.readReg r) s = .next (replies s (some (1 :: zeros 8)))) ∧
        (∀ (r : BitVec 32) (fr : Fr), (s.core c).halted = true → s.dbgFrame c = some fr →
          (r.toNat < 32 → exec (.readReg r) s =
            .next (replies s (some (0 :: le (fr.reg (BitVec.ofNat 5 r.toNat)).toNat 8)))) ∧
          (r = 32 → exec (.readReg r) s = .next (replies s (some (0 :: le fr.pc.toNat 8)))) ∧
          (32 < r.toNat → r.toNat < 0x10000 → exec (.readReg r) s = .next (replies s (some (2 :: zeros 8)))))) ∧
      (0x10 ≤ s.dbg.target → (∀ i ∈ [Instr.halt, .resume, .step], exec i s = .next (replies s none)) ∧
        ∀ r, exec (.readReg r) s = .next (replies s (some (2 :: zeros 8)))) ∧
      (s.dbg.target = 8 → exec .readMem s = .next { s with
        dbg := { s.dbg with addr := (s.dbg.addr + 32) % 0x80000 }
        smb := { s.smb with reply := some (s.supSram.read s.dbg.addr 32) } }) ∧
      (∃ b t, exec .readMem s = .next t ∧ t.smb.reply = some b ∧ b.length = 32 ∧
        { t with dbg := s.dbg, smb := s.smb, freeCtr := s.freeCtr } = s) ∧
      (∃ v, v % 2 ^ 16 < 512 ∧ v / 2 ^ 16 = s.dbg.target ∧ exec .dbgStatus s = .next (replies s (some (le v 4))) ∧
        ∀ c : Fin 9, v.testBit c = (s.core c).halted))

/-- Failures of host memory and of the host link (R75, R76, R84, R85), and what raises ILLEGAL: undefined instruction
words and numbers of 16 or more in a handle field, with no other effect than the trap (R119). -/
def Obligations.Failures : Prop :=
  ∀ (s : State),
    (s.hostReach = true →
      (∀ (n : BitVec 8) (tag : BitVec 64) (left : BitVec 32) (o : Order),
        s.orders.find? (fun o => o.qp == n && o.tag == tag) = some o →
        let done := if o.kind = .park then 0 else left.toNat
        (∀ c f, s.frameOf o.uid = some (c, f) → exec (.hostDmaFailure (.order n tag left)) s =
          .next (reapCards (dropReads o.uid (cutFrame c f .aborted done (logAer (.order tag) s))))) ∧
        (s.frameOf o.uid = none → exec (.hostDmaFailure (.order n tag left)) s = .next (complete o.uid .aborted none 0 done
          (dropReads o.uid (stopCards (.order o.uid)
            (dropJobs (fun j => j.ref == .order o.uid) (logAer (.order tag) s))))))) ∧
      (∀ (n : BitVec 8) (tag : BitVec 64) (left : BitVec 32), (∀ o ∈ s.orders, o.qp ≠ n ∨ o.tag ≠ tag) →
        exec (.hostDmaFailure (.order n tag left)) s = .next s) ∧
      (∀ (c : Fin 8) (f : Nat) (fr : Fr), s.runningFrame c = some (f, fr) →
        exec (.hostDmaFailure (.window c)) s = .next (dropReads fr.uid (trap c f .windowDma 0 (logAer (.window c) s)))) ∧
      (∀ (c : Fin 9) (f : Fin 4) (t : BitVec 3) (k : BitVec 32), ∃ u, exec (.hostDmaFailure (.scrub c f t k)) s = .next u ∧
        { u with eng := s.eng, link := s.link } = s ∧
        (∀ fr, s.frame c f = some fr → u.link = { s.link with aer := s.link.aer ++ [.order fr.tag] }) ∧
        ∀ (j : Job) (uid : Nat), j ∈ s.eng.vat.jobs → j.ref = .token c f uid t.toNat →
          ∃ j' ∈ u.eng.vat.jobs, j' = { j with scrubFail := some k.toNat }) ∧
      (∀ n q, s.liveQp n = some q →
        exec (.hostDmaFailure (.sqFetch n)) s = .next (haltQp n 0xFFFFFFFD (logAer (.sqFetch n) s))) ∧
      (∀ n q, s.qp? n = some q → exec (.hostDmaFailure (.cqWrite n)) s = .next (setQp { q with cqFails := true } s)) ∧
      (∀ (n : BitVec 8) (cause : BitVec 32) (q : Qp), s.qp? n = some q → q.deleting = false →
        (q.halted = true → haltQp n cause s = s) ∧
        (q.halted = false → q.gathered = [] → haltQp n cause s = payHalt n (setQp { q with
          halted := true, haltOwed := some cause, gathered := [], timedOut := false } s)))) ∧
    (∀ g : Fin 2, s.awake = true → s.chanOk (54 + g) = true →
      exec (.hostLinkReceiverError g) s = .next (chanOp (54 + g) true s)) ∧
    (∀ g : Fin 2, s.chanOk (54 + g) = false → exec (.hostLinkReceiverError g) s = .next s) ∧
    (∀ (c : Fin 9) (f : Nat) (fr : Fr) (w : BitVec 32), Runs s c f fr 1 → wordDefined w = false →
      exec (.illegalOpcode c w) s = .next (trapped c f .illegal 0 s)) ∧
    (∀ (c : Fin 9) (f : Nat) (fr : Fr) (d a b : BitVec 5) (ty : BitVec 4), Runs s c f fr 1 →
      (16 ≤ d.toNat → ∀ i ∈ [Instr.hclr c d, .hmov c d a, .hbind c d a b ty],
        exec i s = .next (trapped c f .illegal 0 s)) ∧
      (16 ≤ a.toNat → ∀ i ∈ [Instr.htype c d a, .hmov c d a, .ccstat c d a],
        exec i s = .next (trapped c f .illegal 0 s))) ∧
    (∀ w ∈ [(0x00000006 : BitVec 32), 0x00000030 ||| 0x200, 0x0D000000, 0x1F000000, 0x4C000001, 0x82800000, 0xB0000000,
      0xC0000000, 0xFFFFFFFF], wordDefined w = false) ∧
    (∀ x ∈ [(Instr.liw 0 4 0 1 0xF0000000, (0x0A200001 : BitVec 32)), (.ld 0 5 4 0 .good, 0x40290000),
      (.andi 0 6 5 1, 0x02314001), (.bne 0 6 0 (-2), 0x61303FFE), (.exit 0 9 0, 0x6C480000), (.addi 0 0 0 0, 0x01000000),
      (.bkissSeal 0 0 1 0, 0xB0020001), (.twait 0 4 5 0 0, 0xC8200A00), (.hybridSign 0 1 2, 0xC0248500),
      (.compare 0 1, 0xC0204600), (.gcmDec 0 0 1, 0xC0020002), (.wcpyToWindow 0 2 3, 0xE8460002),
      (.hbind 0 1 2 4 7, 0x82088807), (.ori 0 2 0 17, 0x03100011)],
      instrWord x.1 = some x.2 ∧ wordDefined x.2 = true) ∧
    (∀ w ∈ [(0x00000000 : BitVec 32), 0x00000030, 0x01080001, 0x60000008, 0xB0000001, 0x82000001], wordDefined w = true)

/-- Every command answers a next state in every state, and keeps the queue of waiting commands as it is. -/
def Obligations.QueueKept : Prop :=
  ∀ (c : Instr) (s : State), ∃ t, Sys2Proof.Machine.exec c s = .next t ∧ t.pending = s.pending

/-- RETIRED is final: no command leaves it, and none gives the device a root again (R42). -/
def Obligations.RetiredIsFinal : Prop :=
  ∀ (s t : State), s.vault.lc = .retired → s.vault.root = none → Sys2Proof.Machine.step s = .next t →
    t.vault.lc = .retired ∧ t.vault.root = none

/-- The block right after reset: a blank part in reset, memory canonical, nothing waiting. -/
def Obligations.ResetState : Prop :=
  State.reset.pending = [] ∧ State.reset.memWf = true ∧ State.reset.vault.lc = .manufacture ∧
  State.reset.vault.root = none ∧ State.reset.power.st = .inReset ∧ State.reset.qps = [] ∧ State.reset.orders = [] ∧
  State.reset.sessions = [] ∧ (∀ c f : Nat, c < 8 → State.reset.frame c f = none) ∧ State.reset.press.log = [] ∧
  State.reset.ev.gdisHost = true ∧ State.reset.ev.gdisT0 = true ∧ State.reset.lcStatus = 0 ∧
  State.reset.time.timeSet = false ∧ State.reset.hl.busy = false ∧ State.reset.msix.enable = false ∧
  (∀ n : Fin 512, (State.reset.src n).pend = false ∧ (State.reset.src n).act = false) ∧
  (∀ i < 60, State.reset.chanOk i = true) ∧ State.reset.rind.guard = false ∧ State.reset.welt.role = .unpaired

/-- A memory write keeps the canonical form, is read back, and leaves every other byte as it was; equal bytes make equal
memories (log 2). -/
def Obligations.MemoryLaws : Prop :=
  ∀ (m : Mem) (a : Nat) (bs : Bytes), m.wf = true →
    (m.write a bs).wf = true ∧ (m.write a bs).read a bs.length = bs ∧
    (∀ x, x < a ∨ a + bs.length ≤ x → (m.write a bs).get x = m.get x) ∧
    (∀ m' : Mem, m'.wf = true → (∀ x, m'.get x = m.get x) → m' = m)
end

