-- ==== Sys2Proof/Laws/Instr.lean ====
section
/-! SUPPORT. What running one instruction does, by the answer of its body: the lemmas that statements about
instructions cite in place of unfolding `runInstr`. -/

namespace Sys2Proof.Machine

/-- Writing a general register changes no other part of the frame. -/
theorem Fr.setReg_rest (fr : Fr) (d : BitVec 5) (v : Word) :
    fr.setReg d v = { fr with g := (fr.setReg d v).g } := by
  unfold Fr.setReg; split <;> rfl

@[simp] theorem Fr.setReg_pc (fr : Fr) (d : BitVec 5) (v : Word) : (fr.setReg d v).pc = fr.pc := by
  unfold Fr.setReg; split <;> rfl

@[simp] theorem Fr.setReg_mode (fr : Fr) (d : BitVec 5) (v : Word) : (fr.setReg d v).mode = fr.mode := by
  unfold Fr.setReg; split <;> rfl

@[simp] theorem Fr.setReg_uid (fr : Fr) (d : BitVec 5) (v : Word) : (fr.setReg d v).uid = fr.uid := by
  unfold Fr.setReg; split <;> rfl

@[simp] theorem Fr.setReg_icount (fr : Fr) (d : BitVec 5) (v : Word) : (fr.setReg d v).icount = fr.icount := by
  unfold Fr.setReg; split <;> rfl

@[simp] theorem Fr.setTok_pc (fr : Fr) (t : BitVec 3) (v : Tok) : (fr.setTok t v).pc = fr.pc := rfl
@[simp] theorem Fr.setTok_icount (fr : Fr) (t : BitVec 3) (v : Tok) : (fr.setTok t v).icount = fr.icount := rfl
@[simp] theorem Fr.setHnd_pc (fr : Fr) (h : BitVec 4) (v : Handle) : (fr.setHnd h v).pc = fr.pc := rfl
@[simp] theorem Fr.setHnd_icount (fr : Fr) (h : BitVec 4) (v : Handle) : (fr.setHnd h v).icount = fr.icount := rfl

/-- g0 reads zero. -/
@[simp] theorem Fr.reg_zero (fr : Fr) : fr.reg 0 = 0 := rfl

/-- A write to g0 is discarded (R106). -/
@[simp] theorem Fr.setReg_zero (fr : Fr) (v : Word) : fr.setReg 0 v = fr := rfl

/-- A register other than g0 reads what was written last. -/
theorem Fr.reg_setReg_same (fr : Fr) (d : BitVec 5) (v : Word) (h : d ≠ 0) : (fr.setReg d v).reg d = v := by
  simp only [Fr.setReg, Fr.reg, if_neg h]
  simp

/-- Writing register d leaves every other register. -/
theorem Fr.reg_setReg_other (fr : Fr) (d r : BitVec 5) (v : Word) (h : r ≠ d) : (fr.setReg d v).reg r = fr.reg r := by
  have hn : d.toNat ≠ r.toNat := fun e => h (BitVec.eq_of_toNat_eq e.symm)
  simp only [Fr.setReg, Fr.reg]
  split
  · rfl
  · split
    · rfl
    · simp [hn]

/-- The body retires: frame and state as it gives them, pc past the instruction. -/
theorem runInstr_ok {s : State} {c f : Nat} {fr : Fr} {w : Nat} {body : Nat → Fr → IRes} {fr' : Fr} {s' : State}
    {k : State → State} (h : Runs s c f fr w) (hb : body f fr = .ok fr' s' k) (hp : fr'.pc = fr.pc) :
    runInstr c w s body = retiredThen c f w fr' k s' := by
  obtain ⟨h1, h2, h4⟩ := h
  have h3 : ¬(fr.mode != .s && decide (fr.codeLen < fr.pc.toNat + 4 * w)) = true := by
    rcases h2 with h2 | h2
    · simp [h2]
    · simp; intro _; exact h2
  simp only [runInstr, h1, h4, Bool.false_eq_true, if_false, hb, retiredThen, stepped, hp]
  rw [if_neg h3]

/-- As `runInstr_ok` for a body that only changes its frame and state. -/
theorem runInstr_ret {s : State} {c f : Nat} {fr : Fr} {w : Nat} {body : Nat → Fr → IRes} {fr' : Fr} {s' : State}
    (h : Runs s c f fr w) (hb : body f fr = .ok fr' s' id) (hp : fr'.pc = fr.pc) :
    runInstr c w s body = retired c f w fr' s' := runInstr_ok h hb hp

/-- The body jumps. -/
theorem runInstr_jump {s : State} {c f : Nat} {fr : Fr} {w : Nat} {body : Nat → Fr → IRes} {fr' : Fr} {s' : State}
    {pc : BitVec 32} (h : Runs s c f fr w) (hb : body f fr = .jump fr' pc s') :
    runInstr c w s body = jumped c f fr' pc s' := by
  obtain ⟨h1, h2, h4⟩ := h
  have h3 : ¬(fr.mode != .s && decide (fr.codeLen < fr.pc.toNat + 4 * w)) = true := by
    rcases h2 with h2 | h2
    · simp [h2]
    · simp; intro _; exact h2
  simp only [runInstr, h1, h4, Bool.false_eq_true, if_false, hb, jumped]
  rw [if_neg h3]

/-- The body traps. -/
theorem runInstr_trap {s : State} {c f : Nat} {fr : Fr} {w : Nat} {body : Nat → Fr → IRes} {cause : Cause} {a : Nat}
    (h : Runs s c f fr w) (hb : body f fr = .trap cause a) : runInstr c w s body = trapped c f cause a s := by
  obtain ⟨h1, h2, h4⟩ := h
  have h3 : ¬(fr.mode != .s && decide (fr.codeLen < fr.pc.toNat + 4 * w)) = true := by
    rcases h2 with h2 | h2
    · simp [h2]
    · simp; intro _; exact h2
  simp only [runInstr, h1, h4, Bool.false_eq_true, if_false, hb, trapped]
  rw [if_neg h3]

/-- The body leaves the state it names and keeps pc. -/
theorem runInstr_keep {s : State} {c f : Nat} {fr : Fr} {w : Nat} {body : Nat → Fr → IRes} {s' : State}
    (h : Runs s c f fr w) (hb : body f fr = .keep s') : runInstr c w s body = endStep c s' := by
  obtain ⟨h1, h2, h4⟩ := h
  have h3 : ¬(fr.mode != .s && decide (fr.codeLen < fr.pc.toNat + 4 * w)) = true := by
    rcases h2 with h2 | h2
    · simp [h2]
    · simp; intro _; exact h2
  simp only [runInstr, h1, h4, Bool.false_eq_true, if_false, hb]
  rw [if_neg h3]

/-- An instruction that waits for a hazard or for room leaves everything as it is. -/
theorem runInstr_stall {s : State} {c f : Nat} {fr : Fr} {w : Nat} {body : Nat → Fr → IRes} (h : Runs s c f fr w)
    (hb : body f fr = .stall) : runInstr c w s body = s := by
  obtain ⟨h1, h2, h4⟩ := h
  have h3 : ¬(fr.mode != .s && decide (fr.codeLen < fr.pc.toNat + 4 * w)) = true := by
    rcases h2 with h2 | h2
    · simp [h2]
    · simp; intro _; exact h2
  simp only [runInstr, h1, h4, Bool.false_eq_true, if_false, hb]
  rw [if_neg h3]

/-- A frame whose EXIT has been granted within the guard of its run limit traps on another instruction (R111). -/
theorem runInstr_due {s : State} {c f : Nat} {fr : Fr} {w : Nat} {body : Nat → Fr → IRes}
    (h : s.runningFrame c = some (f, fr)) (hd : fr.exitDue = true) :
    runInstr c w s body = trapped c f .runLimit 0 s := by
  simp only [runInstr, h, hd, if_true, trapped]

/-- Where no frame executes, nothing happens. -/
theorem runInstr_none {s : State} {c : Nat} {w : Nat} {body : Nat → Fr → IRes} (h : s.runningFrame c = none) :
    runInstr c w s body = s := by
  simp only [runInstr, h]

/-- Bringing the shared page up to date leaves the cores and the supply as they are. -/
@[simp] theorem touchShared_cores (s : State) : (touchShared s).cores = s.cores := by
  simp only [touchShared]; split <;> split <;> rfl

@[simp] theorem touchShared_power (s : State) : (touchShared s).power = s.power := by
  simp only [touchShared]; split <;> split <;> rfl

@[simp] theorem touchOperands_cores (c : Nat) (s : State) : (touchOperands c s).cores = s.cores := by
  unfold touchOperands; split
  · split <;> simp
  · rfl

@[simp] theorem touchOperands_power (c : Nat) (s : State) : (touchOperands c s).power = s.power := by
  unfold touchOperands; split
  · split <;> simp
  · rfl

/-- The frame that executes is the same after the shared page is brought up to date. -/
@[simp] theorem touchOperands_runningFrame (c d : Nat) (s : State) :
    (touchOperands c s).runningFrame d = s.runningFrame d := by
  unfold State.runningFrame State.frame State.core State.awake
  rw [touchOperands_cores, touchOperands_power]

theorem touchOperands_runs {c d f w : Nat} {s : State} {fr : Fr} (h : Runs s d f fr w) :
    Runs (touchOperands c s) d f fr w := by
  obtain ⟨h1, h2, h3⟩ := h
  exact ⟨by rw [touchOperands_runningFrame]; exact h1, h2, h3⟩

/-- An engine instruction whose token is empty runs its body, on the state with the shared page up to date. -/
theorem engIssue_body {s : State} {c : Fin 9} {f : Nat} {fr : Fr} {t : BitVec 3} {body : State → Nat → Fr → IRes}
    {k : State → State} {s' : State} (h : Runs s c f fr 1) (ht : fr.tok t = .empty)
    (hb : body (touchOperands c s) f fr = .issue fr t s' k) : engIssue c t s body = issued c f fr t k s' := by
  unfold engIssue issued
  exact runInstr_ok (touchOperands_runs h) (by simp only [ht, bne_self_eq_false]; exact hb) rfl

/-- An engine instruction whose token is not empty traps (R134). -/
theorem engIssue_busy {s : State} {c : Fin 9} {f : Nat} {fr : Fr} {t : BitVec 3} {body : State → Nat → Fr → IRes}
    (h : Runs s c f fr 1) (ht : fr.tok t ≠ .empty) :
    engIssue c t s body = trapped c f .illegal 0 (touchOperands c s) := by
  unfold engIssue
  exact runInstr_trap (touchOperands_runs h) (by simp [ht])

/-- A use of a slot that passes its checks and draws goes on with the slot, the value and the state drawn. -/
theorem withKey_use {s : State} {fr : Fr} {t : BitVec 3} {n : Nat} {need : Need} {inv : Bool}
    {late : Status → State → State} {fc : Slot → Option Status} {go : Slot → Nat → State → IRes} {k : Slot} {v : Nat} {s' : State}
    (h : KeyUse s fr n need inv fc k v s') : withKey fr t s n need inv late fc go = go k v s' := by
  obtain ⟨h0, h1, h2, h3, h4⟩ := h
  simp only [withKey, h0, h1, h2, h3, h4, Bool.false_eq_true, if_false]

end Sys2Proof.Machine
end

