-- ==== Sys2Proof/Laws/Memory.lean ====
section
/-! SUPPORT. Laws of the canonical memories: every operation keeps the form, and what a byte reads after one. -/

namespace Sys2Proof.Machine

theorem Mem.wfFrom_mono {m : Mem} : ∀ {lo lo' : Nat}, lo' ≤ lo → m.wfFrom lo = true → m.wfFrom lo' = true := by
  cases m with
  | nil => intros; rfl
  | cons c m =>
    obtain ⟨x, v⟩ := c
    intro lo lo' h hw
    simp only [Mem.wfFrom, Bool.and_eq_true, decide_eq_true_eq] at hw ⊢
    exact ⟨⟨le_trans h hw.1.1, hw.1.2⟩, hw.2⟩

/-- A canonical memory reads 0 below its first address. -/
theorem Mem.get_below {m : Mem} {lo a : Nat} (hw : m.wfFrom lo = true) (h : a < lo) : m.get a = 0 := by
  cases m with
  | nil => rfl
  | cons c m =>
    obtain ⟨x, v⟩ := c
    simp only [Mem.wfFrom, Bool.and_eq_true, decide_eq_true_eq] at hw
    have h1 : x ≠ a := by omega
    have h2 : a < x := by omega
    simp [Mem.get, h1, h2]

/-- Writing one byte keeps the canonical form. -/
theorem Mem.set_wfFrom {m : Mem} {a : Nat} {v : Byte} : ∀ {lo : Nat}, lo ≤ a → m.wfFrom lo = true →
    (m.set a v).wfFrom lo = true := by
  induction m with
  | nil =>
    intro lo h _
    by_cases hv : v = 0#8 <;> simp [Mem.set, Mem.wfFrom, hv, h]
  | cons c m ih =>
    obtain ⟨x, w⟩ := c
    intro lo h hw
    simp only [Mem.wfFrom, Bool.and_eq_true, decide_eq_true_eq] at hw
    obtain ⟨⟨h1, h2⟩, h3⟩ := hw
    simp only [Mem.set]
    split
    · rename_i hax
      split
      · simp [Mem.wfFrom, h1, h3]; simpa using h2
      · rename_i hv
        have hv' : ¬v = 0#8 := hv
        have h4 : a + 1 ≤ x := hax
        simp [Mem.wfFrom, h, hv', h4, h3]; simpa using h2
    · split
      · rename_i hax
        subst hax
        split
        · exact Mem.wfFrom_mono (by omega) h3
        · rename_i hv
          have hv' : ¬v = 0#8 := hv
          simp [Mem.wfFrom, h, hv', h3]
      · rename_i hax hne
        have := ih (lo := x + 1) (by omega) h3
        simp [Mem.wfFrom, h1, this]; simpa using h2

/-- Writing one byte keeps the canonical form. -/
theorem Mem.set_wf {m : Mem} (a : Nat) (v : Byte) (h : m.wf = true) : (m.set a v).wf = true :=
  Mem.set_wfFrom (Nat.zero_le a) h

/-- The byte at address x after one byte is written at address a. -/
theorem Mem.get_set {m : Mem} {a x : Nat} {v : Byte} : ∀ {lo : Nat}, m.wfFrom lo = true →
    (m.set a v).get x = if x = a then v else m.get x := by
  induction m with
  | nil =>
    intro lo _
    by_cases hv : v = 0#8
    · simp [Mem.set, Mem.get, hv]
    · by_cases hx : x = a
      · simp [Mem.set, Mem.get, hv, hx]
      · have : a ≠ x := fun e => hx e.symm
        simp [Mem.set, Mem.get, hv, hx, this]
  | cons c m ih =>
    obtain ⟨y, w⟩ := c
    intro lo hw
    simp only [Mem.wfFrom, Bool.and_eq_true, decide_eq_true_eq] at hw
    obtain ⟨⟨h1, h2⟩, h3⟩ := hw
    simp only [Mem.set]
    split
    · rename_i hay
      split
      · rename_i hv
        by_cases hx : x = a
        · have hn : y ≠ a := by omega
          simp [Mem.get, hx, hv, hn, hay]
        · simp [hx]
      · rename_i hv
        by_cases hx : x = a
        · simp [Mem.get, hx]
        · have ha : a ≠ x := fun e => hx e.symm
          by_cases hl : x < a
          · have hn : y ≠ x := by omega
            have hl' : x < y := by omega
            simp [Mem.get, ha, hl, hn, hl', hx]
          · simp [Mem.get, ha, hl, hx]
    · split
      · rename_i hay
        subst hay
        split
        · rename_i hv
          by_cases hx : x = a
          · subst hx
            rw [Mem.get_below h3 (by omega)]; simp [hv]
          · have ha : a ≠ x := fun e => hx e.symm
            by_cases hl : x < a
            · rw [Mem.get_below h3 (by omega)]; simp [Mem.get, ha, hl, hx]
            · simp [Mem.get, ha, hl, hx]
        · by_cases hx : x = a
          · simp [Mem.get, hx]
          · have ha : a ≠ x := fun e => hx e.symm
            by_cases hl : x < a
            · simp [Mem.get, ha, hl, hx]
            · simp [Mem.get, ha, hl, hx]
      · rename_i hlt hne
        have hi := ih h3
        by_cases hyx : y = x
        · have : x ≠ a := by omega
          simp [Mem.get, hyx, this]
        · by_cases hxy : x < y
          · have : x ≠ a := by omega
            simp [Mem.get, hyx, hxy, this]
          · simp [Mem.get, hyx, hxy, hi]

/-- Writing bytes keeps the canonical form. -/
theorem Mem.write_keeps {m : Mem} (bs : Bytes) : ∀ (a : Nat), m.wf = true → (m.write a bs).wf = true := by
  induction bs generalizing m with
  | nil => intro a h; exact h
  | cons b bs ih => intro a h; exact ih (a + 1) (Mem.set_wf a b h)

/-- Bytes outside those written read as before. -/
theorem Mem.get_write_outside {m : Mem} (bs : Bytes) : ∀ {a x : Nat}, m.wf = true → (x < a ∨ a + bs.length ≤ x) →
    (m.write a bs).get x = m.get x := by
  induction bs generalizing m with
  | nil => intro a x _ _; rfl
  | cons b bs ih =>
    intro a x hw hx
    have hx' : x < a ∨ a + (bs.length + 1) ≤ x := hx
    have hne : x ≠ a := by omega
    rw [Mem.write, ih (Mem.set_wf a b hw) (by omega), Mem.get_set hw, if_neg hne]

/-- What is written is read back. -/
theorem Mem.read_back {m : Mem} (bs : Bytes) : ∀ {a : Nat}, m.wf = true → (m.write a bs).read a bs.length = bs := by
  induction bs generalizing m with
  | nil => intro a _; rfl
  | cons b bs ih =>
    intro a hw
    have hset := Mem.set_wf a b hw
    simp only [Mem.write, List.length_cons, Mem.read]
    rw [Mem.get_write_outside bs hset (Or.inl (Nat.lt_succ_self a)), Mem.get_set hw, if_pos rfl, ih hset]

theorem fit_length (b : Bytes) (n : Nat) : (fit b n).length = n := by simp [fit, zeros]; omega

/-- The memories of the state right after reset are canonical. -/
theorem reset_memories : State.reset.hostMem.wf = true ∧ State.reset.supSram.wf = true ∧
    State.reset.sessions = [] := ⟨rfl, rfl, rfl⟩

end Sys2Proof.Machine
end

