-- ==== Sys2Proof/Laws/Records.lean ====
section
/-! SUPPORT. Reading back what was written: vectors, books, cards, cores, channels, and two-copy records. -/

namespace Sys2Proof.Machine

/-! ### Vectors -/

@[simp] theorem vget_vset_same {α : Type} {n : Nat} (v : Vector α n) (i : Nat) (x d : α) (h : i < n) :
    vget (vset v i x) i d = x := by
  simp [vget, vset, h]

@[simp] theorem vget_vset_other {α : Type} {n : Nat} (v : Vector α n) (i j : Nat) (x d : α) (h : i ≠ j) :
    vget (vset v i x) j d = vget v j d := by
  unfold vget vset
  split
  · simp [List.getD, h]
  · rfl

/-! ### Objects named by number -/

@[simp] theorem book_setBook_same (b : Nat) (k : Book) (s : State) (h : b < 64) : (setBook b k s).book b = k :=
  vget_vset_same _ _ _ _ h

@[simp] theorem book_setBook_other (b c : Nat) (k : Book) (s : State) (h : b ≠ c) : (setBook b k s).book c = s.book c :=
  vget_vset_other _ _ _ _ _ h

@[simp] theorem card_setCard_same (c : Nat) (k : CardCh) (s : State) (h : c < 4) : (setCard c k s).card c = k :=
  vget_vset_same _ _ _ _ h

@[simp] theorem card_setCard_other (b c : Nat) (k : CardCh) (s : State) (h : b ≠ c) :
    (setCard b k s).card c = s.card c := vget_vset_other _ _ _ _ _ h

@[simp] theorem core_setCore_same (c : Nat) (k : Core) (s : State) (h : c < 9) : (setCore c k s).core c = k :=
  vget_vset_same _ _ _ _ h

@[simp] theorem core_setCore_other (b c : Nat) (k : Core) (s : State) (h : b ≠ c) :
    (setCore b k s).core c = s.core c := vget_vset_other _ _ _ _ _ h

@[simp] theorem chan_setChan_other (i j : Nat) (k : Chan) (s : State) (h : i ≠ j) :
    (setChan i k s).chan j = s.chan j := by
  simp [State.chan, setChan, List.getD, h]

/-! ### Two-copy records -/

@[simp] theorem Copies.read_both {α : Type} (v : α) : (Copies.both v).read = some v := by
  simp [Copies.both, Copies.read, Copies.newer]

@[simp] theorem Copies.read_lose {α : Type} (t : Copies α) : t.lose.read = none := by
  simp [Copies.lose, Copies.read, Copies.newer]

end Sys2Proof.Machine
end

