-- ==== Sys2Proof/Laws/State.lean ====
section
/-! SUPPORT. The fields of the state after each update: one lemma per field per update. -/

namespace Sys2Proof.Machine

variable (s : State)

@[simp] theorem setSrc_power (n : Nat) (x : Source) : (setSrc n x s).power = s.power := rfl
@[simp] theorem setSrc_link (n : Nat) (x : Source) : (setSrc n x s).link = s.link := rfl
@[simp] theorem setSrc_hostRead (n : Nat) (x : Source) : (setSrc n x s).hostRead = s.hostRead := rfl
@[simp] theorem setSrc_vault (n : Nat) (x : Source) : (setSrc n x s).vault = s.vault := rfl
@[simp] theorem setSrc_lc (n : Nat) (x : Source) : (setSrc n x s).lc = s.lc := rfl
@[simp] theorem setSrc_keys (n : Nat) (x : Source) : (setSrc n x s).keys = s.keys := rfl
@[simp] theorem setSrc_lasts (n : Nat) (x : Source) : (setSrc n x s).lasts = s.lasts := rfl
@[simp] theorem setSrc_active (n : Nat) (x : Source) : (setSrc n x s).active = s.active := rfl
@[simp] theorem setSrc_ls (n : Nat) (x : Source) : (setSrc n x s).ls = s.ls := rfl
@[simp] theorem setSrc_hl (n : Nat) (x : Source) : (setSrc n x s).hl = s.hl := rfl
@[simp] theorem setSrc_qps (n : Nat) (x : Source) : (setSrc n x s).qps = s.qps := rfl
@[simp] theorem setSrc_orders (n : Nat) (x : Source) : (setSrc n x s).orders = s.orders := rfl
@[simp] theorem setSrc_turns (n : Nat) (x : Source) : (setSrc n x s).turns = s.turns := rfl
@[simp] theorem setSrc_nextUid (n : Nat) (x : Source) : (setSrc n x s).nextUid = s.nextUid := rfl
@[simp] theorem setSrc_hostMem (n : Nat) (x : Source) : (setSrc n x s).hostMem = s.hostMem := rfl
@[simp] theorem setSrc_msix (n : Nat) (x : Source) : (setSrc n x s).msix = s.msix := rfl
@[simp] theorem setSrc_tx (n : Nat) (x : Source) : (setSrc n x s).tx = s.tx := rfl
@[simp] theorem setSrc_sessions (n : Nat) (x : Source) : (setSrc n x s).sessions = s.sessions := rfl
@[simp] theorem setSrc_gens (n : Nat) (x : Source) : (setSrc n x s).gens = s.gens := rfl
@[simp] theorem setSrc_genBase (n : Nat) (x : Source) : (setSrc n x s).genBase = s.genBase := rfl
@[simp] theorem setSrc_mb (n : Nat) (x : Source) : (setSrc n x s).mb = s.mb := rfl
@[simp] theorem setSrc_loaned (n : Nat) (x : Source) : (setSrc n x s).loaned = s.loaned := rfl
@[simp] theorem setSrc_loanClock (n : Nat) (x : Source) : (setSrc n x s).loanClock = s.loanClock := rfl
@[simp] theorem setSrc_cores (n : Nat) (x : Source) : (setSrc n x s).cores = s.cores := rfl
@[simp] theorem setSrc_tp (n : Nat) (x : Source) : (setSrc n x s).tp = s.tp := rfl
@[simp] theorem setSrc_supSram (n : Nat) (x : Source) : (setSrc n x s).supSram = s.supSram := rfl
@[simp] theorem setSrc_eng (n : Nat) (x : Source) : (setSrc n x s).eng = s.eng := rfl
@[simp] theorem setSrc_press (n : Nat) (x : Source) : (setSrc n x s).press = s.press := rfl
@[simp] theorem setSrc_cellar (n : Nat) (x : Source) : (setSrc n x s).cellar = s.cellar := rfl
@[simp] theorem setSrc_brine (n : Nat) (x : Source) : (setSrc n x s).brine = s.brine := rfl
@[simp] theorem setSrc_books (n : Nat) (x : Source) : (setSrc n x s).books = s.books := rfl
@[simp] theorem setSrc_time (n : Nat) (x : Source) : (setSrc n x s).time = s.time := rfl
@[simp] theorem setSrc_ev (n : Nat) (x : Source) : (setSrc n x s).ev = { s.ev with sources := s.ev.sources.set n x } := rfl
@[simp] theorem setSrc_drbg (n : Nat) (x : Source) : (setSrc n x s).drbg = s.drbg := rfl
@[simp] theorem setSrc_freeCtr (n : Nat) (x : Source) : (setSrc n x s).freeCtr = s.freeCtr := rfl
@[simp] theorem setSrc_health (n : Nat) (x : Source) : (setSrc n x s).health = s.health := rfl
@[simp] theorem setSrc_rind (n : Nat) (x : Source) : (setSrc n x s).rind = s.rind := rfl
@[simp] theorem setSrc_cards (n : Nat) (x : Source) : (setSrc n x s).cards = s.cards := rfl
@[simp] theorem setSrc_welt (n : Nat) (x : Source) : (setSrc n x s).welt = s.welt := rfl
@[simp] theorem setSrc_smb (n : Nat) (x : Source) : (setSrc n x s).smb = s.smb := rfl
@[simp] theorem setSrc_dbg (n : Nat) (x : Source) : (setSrc n x s).dbg = s.dbg := rfl
@[simp] theorem setSrc_pending (n : Nat) (x : Source) : (setSrc n x s).pending = s.pending := rfl

@[simp] theorem setGroup_power (g : Nat) (x : Group) : (setGroup g x s).power = s.power := rfl
@[simp] theorem setGroup_link (g : Nat) (x : Group) : (setGroup g x s).link = s.link := rfl
@[simp] theorem setGroup_hostRead (g : Nat) (x : Group) : (setGroup g x s).hostRead = s.hostRead := rfl
@[simp] theorem setGroup_vault (g : Nat) (x : Group) : (setGroup g x s).vault = s.vault := rfl
@[simp] theorem setGroup_lc (g : Nat) (x : Group) : (setGroup g x s).lc = s.lc := rfl
@[simp] theorem setGroup_keys (g : Nat) (x : Group) : (setGroup g x s).keys = s.keys := rfl
@[simp] theorem setGroup_lasts (g : Nat) (x : Group) : (setGroup g x s).lasts = s.lasts := rfl
@[simp] theorem setGroup_active (g : Nat) (x : Group) : (setGroup g x s).active = s.active := rfl
@[simp] theorem setGroup_ls (g : Nat) (x : Group) : (setGroup g x s).ls = s.ls := rfl
@[simp] theorem setGroup_hl (g : Nat) (x : Group) : (setGroup g x s).hl = s.hl := rfl
@[simp] theorem setGroup_qps (g : Nat) (x : Group) : (setGroup g x s).qps = s.qps := rfl
@[simp] theorem setGroup_orders (g : Nat) (x : Group) : (setGroup g x s).orders = s.orders := rfl
@[simp] theorem setGroup_turns (g : Nat) (x : Group) : (setGroup g x s).turns = s.turns := rfl
@[simp] theorem setGroup_nextUid (g : Nat) (x : Group) : (setGroup g x s).nextUid = s.nextUid := rfl
@[simp] theorem setGroup_hostMem (g : Nat) (x : Group) : (setGroup g x s).hostMem = s.hostMem := rfl
@[simp] theorem setGroup_msix (g : Nat) (x : Group) : (setGroup g x s).msix = s.msix := rfl
@[simp] theorem setGroup_tx (g : Nat) (x : Group) : (setGroup g x s).tx = s.tx := rfl
@[simp] theorem setGroup_sessions (g : Nat) (x : Group) : (setGroup g x s).sessions = s.sessions := rfl
@[simp] theorem setGroup_gens (g : Nat) (x : Group) : (setGroup g x s).gens = s.gens := rfl
@[simp] theorem setGroup_genBase (g : Nat) (x : Group) : (setGroup g x s).genBase = s.genBase := rfl
@[simp] theorem setGroup_mb (g : Nat) (x : Group) : (setGroup g x s).mb = s.mb := rfl
@[simp] theorem setGroup_loaned (g : Nat) (x : Group) : (setGroup g x s).loaned = s.loaned := rfl
@[simp] theorem setGroup_loanClock (g : Nat) (x : Group) : (setGroup g x s).loanClock = s.loanClock := rfl
@[simp] theorem setGroup_cores (g : Nat) (x : Group) : (setGroup g x s).cores = s.cores := rfl
@[simp] theorem setGroup_tp (g : Nat) (x : Group) : (setGroup g x s).tp = s.tp := rfl
@[simp] theorem setGroup_supSram (g : Nat) (x : Group) : (setGroup g x s).supSram = s.supSram := rfl
@[simp] theorem setGroup_eng (g : Nat) (x : Group) : (setGroup g x s).eng = s.eng := rfl
@[simp] theorem setGroup_press (g : Nat) (x : Group) : (setGroup g x s).press = s.press := rfl
@[simp] theorem setGroup_cellar (g : Nat) (x : Group) : (setGroup g x s).cellar = s.cellar := rfl
@[simp] theorem setGroup_brine (g : Nat) (x : Group) : (setGroup g x s).brine = s.brine := rfl
@[simp] theorem setGroup_books (g : Nat) (x : Group) : (setGroup g x s).books = s.books := rfl
@[simp] theorem setGroup_time (g : Nat) (x : Group) : (setGroup g x s).time = s.time := rfl
@[simp] theorem setGroup_ev (g : Nat) (x : Group) : (setGroup g x s).ev = { s.ev with groups := s.ev.groups.set g x } := rfl
@[simp] theorem setGroup_drbg (g : Nat) (x : Group) : (setGroup g x s).drbg = s.drbg := rfl
@[simp] theorem setGroup_freeCtr (g : Nat) (x : Group) : (setGroup g x s).freeCtr = s.freeCtr := rfl
@[simp] theorem setGroup_health (g : Nat) (x : Group) : (setGroup g x s).health = s.health := rfl
@[simp] theorem setGroup_rind (g : Nat) (x : Group) : (setGroup g x s).rind = s.rind := rfl
@[simp] theorem setGroup_cards (g : Nat) (x : Group) : (setGroup g x s).cards = s.cards := rfl
@[simp] theorem setGroup_welt (g : Nat) (x : Group) : (setGroup g x s).welt = s.welt := rfl
@[simp] theorem setGroup_smb (g : Nat) (x : Group) : (setGroup g x s).smb = s.smb := rfl
@[simp] theorem setGroup_dbg (g : Nat) (x : Group) : (setGroup g x s).dbg = s.dbg := rfl
@[simp] theorem setGroup_pending (g : Nat) (x : Group) : (setGroup g x s).pending = s.pending := rfl

@[simp] theorem setQp_power (q : Qp) : (setQp q s).power = s.power := rfl
@[simp] theorem setQp_link (q : Qp) : (setQp q s).link = s.link := rfl
@[simp] theorem setQp_hostRead (q : Qp) : (setQp q s).hostRead = s.hostRead := rfl
@[simp] theorem setQp_vault (q : Qp) : (setQp q s).vault = s.vault := rfl
@[simp] theorem setQp_lc (q : Qp) : (setQp q s).lc = s.lc := rfl
@[simp] theorem setQp_keys (q : Qp) : (setQp q s).keys = s.keys := rfl
@[simp] theorem setQp_lasts (q : Qp) : (setQp q s).lasts = s.lasts := rfl
@[simp] theorem setQp_active (q : Qp) : (setQp q s).active = s.active := rfl
@[simp] theorem setQp_ls (q : Qp) : (setQp q s).ls = s.ls := rfl
@[simp] theorem setQp_hl (q : Qp) : (setQp q s).hl = s.hl := rfl
@[simp] theorem setQp_qps (q : Qp) : (setQp q s).qps = updFirst (fun x => x.n == q.n) (fun _ => q) s.qps := rfl
@[simp] theorem setQp_orders (q : Qp) : (setQp q s).orders = s.orders := rfl
@[simp] theorem setQp_turns (q : Qp) : (setQp q s).turns = s.turns := rfl
@[simp] theorem setQp_nextUid (q : Qp) : (setQp q s).nextUid = s.nextUid := rfl
@[simp] theorem setQp_hostMem (q : Qp) : (setQp q s).hostMem = s.hostMem := rfl
@[simp] theorem setQp_msix (q : Qp) : (setQp q s).msix = s.msix := rfl
@[simp] theorem setQp_tx (q : Qp) : (setQp q s).tx = s.tx := rfl
@[simp] theorem setQp_sessions (q : Qp) : (setQp q s).sessions = s.sessions := rfl
@[simp] theorem setQp_gens (q : Qp) : (setQp q s).gens = s.gens := rfl
@[simp] theorem setQp_genBase (q : Qp) : (setQp q s).genBase = s.genBase := rfl
@[simp] theorem setQp_mb (q : Qp) : (setQp q s).mb = s.mb := rfl
@[simp] theorem setQp_loaned (q : Qp) : (setQp q s).loaned = s.loaned := rfl
@[simp] theorem setQp_loanClock (q : Qp) : (setQp q s).loanClock = s.loanClock := rfl
@[simp] theorem setQp_cores (q : Qp) : (setQp q s).cores = s.cores := rfl
@[simp] theorem setQp_tp (q : Qp) : (setQp q s).tp = s.tp := rfl
@[simp] theorem setQp_supSram (q : Qp) : (setQp q s).supSram = s.supSram := rfl
@[simp] theorem setQp_eng (q : Qp) : (setQp q s).eng = s.eng := rfl
@[simp] theorem setQp_press (q : Qp) : (setQp q s).press = s.press := rfl
@[simp] theorem setQp_cellar (q : Qp) : (setQp q s).cellar = s.cellar := rfl
@[simp] theorem setQp_brine (q : Qp) : (setQp q s).brine = s.brine := rfl
@[simp] theorem setQp_books (q : Qp) : (setQp q s).books = s.books := rfl
@[simp] theorem setQp_time (q : Qp) : (setQp q s).time = s.time := rfl
@[simp] theorem setQp_ev (q : Qp) : (setQp q s).ev = s.ev := rfl
@[simp] theorem setQp_drbg (q : Qp) : (setQp q s).drbg = s.drbg := rfl
@[simp] theorem setQp_freeCtr (q : Qp) : (setQp q s).freeCtr = s.freeCtr := rfl
@[simp] theorem setQp_health (q : Qp) : (setQp q s).health = s.health := rfl
@[simp] theorem setQp_rind (q : Qp) : (setQp q s).rind = s.rind := rfl
@[simp] theorem setQp_cards (q : Qp) : (setQp q s).cards = s.cards := rfl
@[simp] theorem setQp_welt (q : Qp) : (setQp q s).welt = s.welt := rfl
@[simp] theorem setQp_smb (q : Qp) : (setQp q s).smb = s.smb := rfl
@[simp] theorem setQp_dbg (q : Qp) : (setQp q s).dbg = s.dbg := rfl
@[simp] theorem setQp_pending (q : Qp) : (setQp q s).pending = s.pending := rfl

@[simp] theorem setOrder_power (o : Order) : (setOrder o s).power = s.power := rfl
@[simp] theorem setOrder_link (o : Order) : (setOrder o s).link = s.link := rfl
@[simp] theorem setOrder_hostRead (o : Order) : (setOrder o s).hostRead = s.hostRead := rfl
@[simp] theorem setOrder_vault (o : Order) : (setOrder o s).vault = s.vault := rfl
@[simp] theorem setOrder_lc (o : Order) : (setOrder o s).lc = s.lc := rfl
@[simp] theorem setOrder_keys (o : Order) : (setOrder o s).keys = s.keys := rfl
@[simp] theorem setOrder_lasts (o : Order) : (setOrder o s).lasts = s.lasts := rfl
@[simp] theorem setOrder_active (o : Order) : (setOrder o s).active = s.active := rfl
@[simp] theorem setOrder_ls (o : Order) : (setOrder o s).ls = s.ls := rfl
@[simp] theorem setOrder_hl (o : Order) : (setOrder o s).hl = s.hl := rfl
@[simp] theorem setOrder_qps (o : Order) : (setOrder o s).qps = s.qps := rfl
@[simp] theorem setOrder_orders (o : Order) : (setOrder o s).orders = updFirst (fun x => x.uid == o.uid) (fun _ => o) s.orders := rfl
@[simp] theorem setOrder_turns (o : Order) : (setOrder o s).turns = s.turns := rfl
@[simp] theorem setOrder_nextUid (o : Order) : (setOrder o s).nextUid = s.nextUid := rfl
@[simp] theorem setOrder_hostMem (o : Order) : (setOrder o s).hostMem = s.hostMem := rfl
@[simp] theorem setOrder_msix (o : Order) : (setOrder o s).msix = s.msix := rfl
@[simp] theorem setOrder_tx (o : Order) : (setOrder o s).tx = s.tx := rfl
@[simp] theorem setOrder_sessions (o : Order) : (setOrder o s).sessions = s.sessions := rfl
@[simp] theorem setOrder_gens (o : Order) : (setOrder o s).gens = s.gens := rfl
@[simp] theorem setOrder_genBase (o : Order) : (setOrder o s).genBase = s.genBase := rfl
@[simp] theorem setOrder_mb (o : Order) : (setOrder o s).mb = s.mb := rfl
@[simp] theorem setOrder_loaned (o : Order) : (setOrder o s).loaned = s.loaned := rfl
@[simp] theorem setOrder_loanClock (o : Order) : (setOrder o s).loanClock = s.loanClock := rfl
@[simp] theorem setOrder_cores (o : Order) : (setOrder o s).cores = s.cores := rfl
@[simp] theorem setOrder_tp (o : Order) : (setOrder o s).tp = s.tp := rfl
@[simp] theorem setOrder_supSram (o : Order) : (setOrder o s).supSram = s.supSram := rfl
@[simp] theorem setOrder_eng (o : Order) : (setOrder o s).eng = s.eng := rfl
@[simp] theorem setOrder_press (o : Order) : (setOrder o s).press = s.press := rfl
@[simp] theorem setOrder_cellar (o : Order) : (setOrder o s).cellar = s.cellar := rfl
@[simp] theorem setOrder_brine (o : Order) : (setOrder o s).brine = s.brine := rfl
@[simp] theorem setOrder_books (o : Order) : (setOrder o s).books = s.books := rfl
@[simp] theorem setOrder_time (o : Order) : (setOrder o s).time = s.time := rfl
@[simp] theorem setOrder_ev (o : Order) : (setOrder o s).ev = s.ev := rfl
@[simp] theorem setOrder_drbg (o : Order) : (setOrder o s).drbg = s.drbg := rfl
@[simp] theorem setOrder_freeCtr (o : Order) : (setOrder o s).freeCtr = s.freeCtr := rfl
@[simp] theorem setOrder_health (o : Order) : (setOrder o s).health = s.health := rfl
@[simp] theorem setOrder_rind (o : Order) : (setOrder o s).rind = s.rind := rfl
@[simp] theorem setOrder_cards (o : Order) : (setOrder o s).cards = s.cards := rfl
@[simp] theorem setOrder_welt (o : Order) : (setOrder o s).welt = s.welt := rfl
@[simp] theorem setOrder_smb (o : Order) : (setOrder o s).smb = s.smb := rfl
@[simp] theorem setOrder_dbg (o : Order) : (setOrder o s).dbg = s.dbg := rfl
@[simp] theorem setOrder_pending (o : Order) : (setOrder o s).pending = s.pending := rfl

@[simp] theorem setCore_power (c : Nat) (k : Core) : (setCore c k s).power = s.power := rfl
@[simp] theorem setCore_link (c : Nat) (k : Core) : (setCore c k s).link = s.link := rfl
@[simp] theorem setCore_hostRead (c : Nat) (k : Core) : (setCore c k s).hostRead = s.hostRead := rfl
@[simp] theorem setCore_vault (c : Nat) (k : Core) : (setCore c k s).vault = s.vault := rfl
@[simp] theorem setCore_lc (c : Nat) (k : Core) : (setCore c k s).lc = s.lc := rfl
@[simp] theorem setCore_keys (c : Nat) (k : Core) : (setCore c k s).keys = s.keys := rfl
@[simp] theorem setCore_lasts (c : Nat) (k : Core) : (setCore c k s).lasts = s.lasts := rfl
@[simp] theorem setCore_active (c : Nat) (k : Core) : (setCore c k s).active = s.active := rfl
@[simp] theorem setCore_ls (c : Nat) (k : Core) : (setCore c k s).ls = s.ls := rfl
@[simp] theorem setCore_hl (c : Nat) (k : Core) : (setCore c k s).hl = s.hl := rfl
@[simp] theorem setCore_qps (c : Nat) (k : Core) : (setCore c k s).qps = s.qps := rfl
@[simp] theorem setCore_orders (c : Nat) (k : Core) : (setCore c k s).orders = s.orders := rfl
@[simp] theorem setCore_turns (c : Nat) (k : Core) : (setCore c k s).turns = s.turns := rfl
@[simp] theorem setCore_nextUid (c : Nat) (k : Core) : (setCore c k s).nextUid = s.nextUid := rfl
@[simp] theorem setCore_hostMem (c : Nat) (k : Core) : (setCore c k s).hostMem = s.hostMem := rfl
@[simp] theorem setCore_msix (c : Nat) (k : Core) : (setCore c k s).msix = s.msix := rfl
@[simp] theorem setCore_tx (c : Nat) (k : Core) : (setCore c k s).tx = s.tx := rfl
@[simp] theorem setCore_sessions (c : Nat) (k : Core) : (setCore c k s).sessions = s.sessions := rfl
@[simp] theorem setCore_gens (c : Nat) (k : Core) : (setCore c k s).gens = s.gens := rfl
@[simp] theorem setCore_genBase (c : Nat) (k : Core) : (setCore c k s).genBase = s.genBase := rfl
@[simp] theorem setCore_mb (c : Nat) (k : Core) : (setCore c k s).mb = s.mb := rfl
@[simp] theorem setCore_loaned (c : Nat) (k : Core) : (setCore c k s).loaned = s.loaned := rfl
@[simp] theorem setCore_loanClock (c : Nat) (k : Core) : (setCore c k s).loanClock = s.loanClock := rfl
@[simp] theorem setCore_cores (c : Nat) (k : Core) : (setCore c k s).cores = vset s.cores c k := rfl
@[simp] theorem setCore_tp (c : Nat) (k : Core) : (setCore c k s).tp = s.tp := rfl
@[simp] theorem setCore_supSram (c : Nat) (k : Core) : (setCore c k s).supSram = s.supSram := rfl
@[simp] theorem setCore_eng (c : Nat) (k : Core) : (setCore c k s).eng = s.eng := rfl
@[simp] theorem setCore_press (c : Nat) (k : Core) : (setCore c k s).press = s.press := rfl
@[simp] theorem setCore_cellar (c : Nat) (k : Core) : (setCore c k s).cellar = s.cellar := rfl
@[simp] theorem setCore_brine (c : Nat) (k : Core) : (setCore c k s).brine = s.brine := rfl
@[simp] theorem setCore_books (c : Nat) (k : Core) : (setCore c k s).books = s.books := rfl
@[simp] theorem setCore_time (c : Nat) (k : Core) : (setCore c k s).time = s.time := rfl
@[simp] theorem setCore_ev (c : Nat) (k : Core) : (setCore c k s).ev = s.ev := rfl
@[simp] theorem setCore_drbg (c : Nat) (k : Core) : (setCore c k s).drbg = s.drbg := rfl
@[simp] theorem setCore_freeCtr (c : Nat) (k : Core) : (setCore c k s).freeCtr = s.freeCtr := rfl
@[simp] theorem setCore_health (c : Nat) (k : Core) : (setCore c k s).health = s.health := rfl
@[simp] theorem setCore_rind (c : Nat) (k : Core) : (setCore c k s).rind = s.rind := rfl
@[simp] theorem setCore_cards (c : Nat) (k : Core) : (setCore c k s).cards = s.cards := rfl
@[simp] theorem setCore_welt (c : Nat) (k : Core) : (setCore c k s).welt = s.welt := rfl
@[simp] theorem setCore_smb (c : Nat) (k : Core) : (setCore c k s).smb = s.smb := rfl
@[simp] theorem setCore_dbg (c : Nat) (k : Core) : (setCore c k s).dbg = s.dbg := rfl
@[simp] theorem setCore_pending (c : Nat) (k : Core) : (setCore c k s).pending = s.pending := rfl

@[simp] theorem setFrame_power (c f : Nat) (x : Option Fr) : (setFrame c f x s).power = s.power := rfl
@[simp] theorem setFrame_link (c f : Nat) (x : Option Fr) : (setFrame c f x s).link = s.link := rfl
@[simp] theorem setFrame_hostRead (c f : Nat) (x : Option Fr) : (setFrame c f x s).hostRead = s.hostRead := rfl
@[simp] theorem setFrame_vault (c f : Nat) (x : Option Fr) : (setFrame c f x s).vault = s.vault := rfl
@[simp] theorem setFrame_lc (c f : Nat) (x : Option Fr) : (setFrame c f x s).lc = s.lc := rfl
@[simp] theorem setFrame_keys (c f : Nat) (x : Option Fr) : (setFrame c f x s).keys = s.keys := rfl
@[simp] theorem setFrame_lasts (c f : Nat) (x : Option Fr) : (setFrame c f x s).lasts = s.lasts := rfl
@[simp] theorem setFrame_active (c f : Nat) (x : Option Fr) : (setFrame c f x s).active = s.active := rfl
@[simp] theorem setFrame_ls (c f : Nat) (x : Option Fr) : (setFrame c f x s).ls = s.ls := rfl
@[simp] theorem setFrame_hl (c f : Nat) (x : Option Fr) : (setFrame c f x s).hl = s.hl := rfl
@[simp] theorem setFrame_qps (c f : Nat) (x : Option Fr) : (setFrame c f x s).qps = s.qps := rfl
@[simp] theorem setFrame_orders (c f : Nat) (x : Option Fr) : (setFrame c f x s).orders = s.orders := rfl
@[simp] theorem setFrame_turns (c f : Nat) (x : Option Fr) : (setFrame c f x s).turns = s.turns := rfl
@[simp] theorem setFrame_nextUid (c f : Nat) (x : Option Fr) : (setFrame c f x s).nextUid = s.nextUid := rfl
@[simp] theorem setFrame_hostMem (c f : Nat) (x : Option Fr) : (setFrame c f x s).hostMem = s.hostMem := rfl
@[simp] theorem setFrame_msix (c f : Nat) (x : Option Fr) : (setFrame c f x s).msix = s.msix := rfl
@[simp] theorem setFrame_tx (c f : Nat) (x : Option Fr) : (setFrame c f x s).tx = s.tx := rfl
@[simp] theorem setFrame_sessions (c f : Nat) (x : Option Fr) : (setFrame c f x s).sessions = s.sessions := rfl
@[simp] theorem setFrame_gens (c f : Nat) (x : Option Fr) : (setFrame c f x s).gens = s.gens := rfl
@[simp] theorem setFrame_genBase (c f : Nat) (x : Option Fr) : (setFrame c f x s).genBase = s.genBase := rfl
@[simp] theorem setFrame_mb (c f : Nat) (x : Option Fr) : (setFrame c f x s).mb = s.mb := rfl
@[simp] theorem setFrame_loaned (c f : Nat) (x : Option Fr) : (setFrame c f x s).loaned = s.loaned := rfl
@[simp] theorem setFrame_loanClock (c f : Nat) (x : Option Fr) : (setFrame c f x s).loanClock = s.loanClock := rfl
@[simp] theorem setFrame_cores (c f : Nat) (x : Option Fr) : (setFrame c f x s).cores = vset s.cores c { s.core c with frames := vset (s.core c).frames f x } := rfl
@[simp] theorem setFrame_tp (c f : Nat) (x : Option Fr) : (setFrame c f x s).tp = s.tp := rfl
@[simp] theorem setFrame_supSram (c f : Nat) (x : Option Fr) : (setFrame c f x s).supSram = s.supSram := rfl
@[simp] theorem setFrame_eng (c f : Nat) (x : Option Fr) : (setFrame c f x s).eng = s.eng := rfl
@[simp] theorem setFrame_press (c f : Nat) (x : Option Fr) : (setFrame c f x s).press = s.press := rfl
@[simp] theorem setFrame_cellar (c f : Nat) (x : Option Fr) : (setFrame c f x s).cellar = s.cellar := rfl
@[simp] theorem setFrame_brine (c f : Nat) (x : Option Fr) : (setFrame c f x s).brine = s.brine := rfl
@[simp] theorem setFrame_books (c f : Nat) (x : Option Fr) : (setFrame c f x s).books = s.books := rfl
@[simp] theorem setFrame_time (c f : Nat) (x : Option Fr) : (setFrame c f x s).time = s.time := rfl
@[simp] theorem setFrame_ev (c f : Nat) (x : Option Fr) : (setFrame c f x s).ev = s.ev := rfl
@[simp] theorem setFrame_drbg (c f : Nat) (x : Option Fr) : (setFrame c f x s).drbg = s.drbg := rfl
@[simp] theorem setFrame_freeCtr (c f : Nat) (x : Option Fr) : (setFrame c f x s).freeCtr = s.freeCtr := rfl
@[simp] theorem setFrame_health (c f : Nat) (x : Option Fr) : (setFrame c f x s).health = s.health := rfl
@[simp] theorem setFrame_rind (c f : Nat) (x : Option Fr) : (setFrame c f x s).rind = s.rind := rfl
@[simp] theorem setFrame_cards (c f : Nat) (x : Option Fr) : (setFrame c f x s).cards = s.cards := rfl
@[simp] theorem setFrame_welt (c f : Nat) (x : Option Fr) : (setFrame c f x s).welt = s.welt := rfl
@[simp] theorem setFrame_smb (c f : Nat) (x : Option Fr) : (setFrame c f x s).smb = s.smb := rfl
@[simp] theorem setFrame_dbg (c f : Nat) (x : Option Fr) : (setFrame c f x s).dbg = s.dbg := rfl
@[simp] theorem setFrame_pending (c f : Nat) (x : Option Fr) : (setFrame c f x s).pending = s.pending := rfl

@[simp] theorem setSession_power (x : Session) : (setSession x s).power = s.power := rfl
@[simp] theorem setSession_link (x : Session) : (setSession x s).link = s.link := rfl
@[simp] theorem setSession_hostRead (x : Session) : (setSession x s).hostRead = s.hostRead := rfl
@[simp] theorem setSession_vault (x : Session) : (setSession x s).vault = s.vault := rfl
@[simp] theorem setSession_lc (x : Session) : (setSession x s).lc = s.lc := rfl
@[simp] theorem setSession_keys (x : Session) : (setSession x s).keys = s.keys := rfl
@[simp] theorem setSession_lasts (x : Session) : (setSession x s).lasts = s.lasts := rfl
@[simp] theorem setSession_active (x : Session) : (setSession x s).active = s.active := rfl
@[simp] theorem setSession_ls (x : Session) : (setSession x s).ls = s.ls := rfl
@[simp] theorem setSession_hl (x : Session) : (setSession x s).hl = s.hl := rfl
@[simp] theorem setSession_qps (x : Session) : (setSession x s).qps = s.qps := rfl
@[simp] theorem setSession_orders (x : Session) : (setSession x s).orders = s.orders := rfl
@[simp] theorem setSession_turns (x : Session) : (setSession x s).turns = s.turns := rfl
@[simp] theorem setSession_nextUid (x : Session) : (setSession x s).nextUid = s.nextUid := rfl
@[simp] theorem setSession_hostMem (x : Session) : (setSession x s).hostMem = s.hostMem := rfl
@[simp] theorem setSession_msix (x : Session) : (setSession x s).msix = s.msix := rfl
@[simp] theorem setSession_tx (x : Session) : (setSession x s).tx = s.tx := rfl
@[simp] theorem setSession_sessions (x : Session) : (setSession x s).sessions = updFirst (fun y => y.idx == x.idx) (fun _ => x) s.sessions := rfl
@[simp] theorem setSession_gens (x : Session) : (setSession x s).gens = s.gens := rfl
@[simp] theorem setSession_genBase (x : Session) : (setSession x s).genBase = s.genBase := rfl
@[simp] theorem setSession_mb (x : Session) : (setSession x s).mb = s.mb := rfl
@[simp] theorem setSession_loaned (x : Session) : (setSession x s).loaned = s.loaned := rfl
@[simp] theorem setSession_loanClock (x : Session) : (setSession x s).loanClock = s.loanClock := rfl
@[simp] theorem setSession_cores (x : Session) : (setSession x s).cores = s.cores := rfl
@[simp] theorem setSession_tp (x : Session) : (setSession x s).tp = s.tp := rfl
@[simp] theorem setSession_supSram (x : Session) : (setSession x s).supSram = s.supSram := rfl
@[simp] theorem setSession_eng (x : Session) : (setSession x s).eng = s.eng := rfl
@[simp] theorem setSession_press (x : Session) : (setSession x s).press = s.press := rfl
@[simp] theorem setSession_cellar (x : Session) : (setSession x s).cellar = s.cellar := rfl
@[simp] theorem setSession_brine (x : Session) : (setSession x s).brine = s.brine := rfl
@[simp] theorem setSession_books (x : Session) : (setSession x s).books = s.books := rfl
@[simp] theorem setSession_time (x : Session) : (setSession x s).time = s.time := rfl
@[simp] theorem setSession_ev (x : Session) : (setSession x s).ev = s.ev := rfl
@[simp] theorem setSession_drbg (x : Session) : (setSession x s).drbg = s.drbg := rfl
@[simp] theorem setSession_freeCtr (x : Session) : (setSession x s).freeCtr = s.freeCtr := rfl
@[simp] theorem setSession_health (x : Session) : (setSession x s).health = s.health := rfl
@[simp] theorem setSession_rind (x : Session) : (setSession x s).rind = s.rind := rfl
@[simp] theorem setSession_cards (x : Session) : (setSession x s).cards = s.cards := rfl
@[simp] theorem setSession_welt (x : Session) : (setSession x s).welt = s.welt := rfl
@[simp] theorem setSession_smb (x : Session) : (setSession x s).smb = s.smb := rfl
@[simp] theorem setSession_dbg (x : Session) : (setSession x s).dbg = s.dbg := rfl
@[simp] theorem setSession_pending (x : Session) : (setSession x s).pending = s.pending := rfl

@[simp] theorem setChan_power (i : Nat) (c : Chan) : (setChan i c s).power = s.power := rfl
@[simp] theorem setChan_link (i : Nat) (c : Chan) : (setChan i c s).link = s.link := rfl
@[simp] theorem setChan_hostRead (i : Nat) (c : Chan) : (setChan i c s).hostRead = s.hostRead := rfl
@[simp] theorem setChan_vault (i : Nat) (c : Chan) : (setChan i c s).vault = s.vault := rfl
@[simp] theorem setChan_lc (i : Nat) (c : Chan) : (setChan i c s).lc = s.lc := rfl
@[simp] theorem setChan_keys (i : Nat) (c : Chan) : (setChan i c s).keys = s.keys := rfl
@[simp] theorem setChan_lasts (i : Nat) (c : Chan) : (setChan i c s).lasts = s.lasts := rfl
@[simp] theorem setChan_active (i : Nat) (c : Chan) : (setChan i c s).active = s.active := rfl
@[simp] theorem setChan_ls (i : Nat) (c : Chan) : (setChan i c s).ls = s.ls := rfl
@[simp] theorem setChan_hl (i : Nat) (c : Chan) : (setChan i c s).hl = s.hl := rfl
@[simp] theorem setChan_qps (i : Nat) (c : Chan) : (setChan i c s).qps = s.qps := rfl
@[simp] theorem setChan_orders (i : Nat) (c : Chan) : (setChan i c s).orders = s.orders := rfl
@[simp] theorem setChan_turns (i : Nat) (c : Chan) : (setChan i c s).turns = s.turns := rfl
@[simp] theorem setChan_nextUid (i : Nat) (c : Chan) : (setChan i c s).nextUid = s.nextUid := rfl
@[simp] theorem setChan_hostMem (i : Nat) (c : Chan) : (setChan i c s).hostMem = s.hostMem := rfl
@[simp] theorem setChan_msix (i : Nat) (c : Chan) : (setChan i c s).msix = s.msix := rfl
@[simp] theorem setChan_tx (i : Nat) (c : Chan) : (setChan i c s).tx = s.tx := rfl
@[simp] theorem setChan_sessions (i : Nat) (c : Chan) : (setChan i c s).sessions = s.sessions := rfl
@[simp] theorem setChan_gens (i : Nat) (c : Chan) : (setChan i c s).gens = s.gens := rfl
@[simp] theorem setChan_genBase (i : Nat) (c : Chan) : (setChan i c s).genBase = s.genBase := rfl
@[simp] theorem setChan_mb (i : Nat) (c : Chan) : (setChan i c s).mb = s.mb := rfl
@[simp] theorem setChan_loaned (i : Nat) (c : Chan) : (setChan i c s).loaned = s.loaned := rfl
@[simp] theorem setChan_loanClock (i : Nat) (c : Chan) : (setChan i c s).loanClock = s.loanClock := rfl
@[simp] theorem setChan_cores (i : Nat) (c : Chan) : (setChan i c s).cores = s.cores := rfl
@[simp] theorem setChan_tp (i : Nat) (c : Chan) : (setChan i c s).tp = s.tp := rfl
@[simp] theorem setChan_supSram (i : Nat) (c : Chan) : (setChan i c s).supSram = s.supSram := rfl
@[simp] theorem setChan_eng (i : Nat) (c : Chan) : (setChan i c s).eng = s.eng := rfl
@[simp] theorem setChan_press (i : Nat) (c : Chan) : (setChan i c s).press = s.press := rfl
@[simp] theorem setChan_cellar (i : Nat) (c : Chan) : (setChan i c s).cellar = s.cellar := rfl
@[simp] theorem setChan_brine (i : Nat) (c : Chan) : (setChan i c s).brine = s.brine := rfl
@[simp] theorem setChan_books (i : Nat) (c : Chan) : (setChan i c s).books = s.books := rfl
@[simp] theorem setChan_time (i : Nat) (c : Chan) : (setChan i c s).time = s.time := rfl
@[simp] theorem setChan_ev (i : Nat) (c : Chan) : (setChan i c s).ev = s.ev := rfl
@[simp] theorem setChan_drbg (i : Nat) (c : Chan) : (setChan i c s).drbg = s.drbg := rfl
@[simp] theorem setChan_freeCtr (i : Nat) (c : Chan) : (setChan i c s).freeCtr = s.freeCtr := rfl
@[simp] theorem setChan_health (i : Nat) (c : Chan) : (setChan i c s).health = { s.health with chans := s.health.chans.set i c } := rfl
@[simp] theorem setChan_rind (i : Nat) (c : Chan) : (setChan i c s).rind = s.rind := rfl
@[simp] theorem setChan_cards (i : Nat) (c : Chan) : (setChan i c s).cards = s.cards := rfl
@[simp] theorem setChan_welt (i : Nat) (c : Chan) : (setChan i c s).welt = s.welt := rfl
@[simp] theorem setChan_smb (i : Nat) (c : Chan) : (setChan i c s).smb = s.smb := rfl
@[simp] theorem setChan_dbg (i : Nat) (c : Chan) : (setChan i c s).dbg = s.dbg := rfl
@[simp] theorem setChan_pending (i : Nat) (c : Chan) : (setChan i c s).pending = s.pending := rfl

@[simp] theorem setBook_power (b : Nat) (x : Book) : (setBook b x s).power = s.power := rfl
@[simp] theorem setBook_link (b : Nat) (x : Book) : (setBook b x s).link = s.link := rfl
@[simp] theorem setBook_hostRead (b : Nat) (x : Book) : (setBook b x s).hostRead = s.hostRead := rfl
@[simp] theorem setBook_vault (b : Nat) (x : Book) : (setBook b x s).vault = s.vault := rfl
@[simp] theorem setBook_lc (b : Nat) (x : Book) : (setBook b x s).lc = s.lc := rfl
@[simp] theorem setBook_keys (b : Nat) (x : Book) : (setBook b x s).keys = s.keys := rfl
@[simp] theorem setBook_lasts (b : Nat) (x : Book) : (setBook b x s).lasts = s.lasts := rfl
@[simp] theorem setBook_active (b : Nat) (x : Book) : (setBook b x s).active = s.active := rfl
@[simp] theorem setBook_ls (b : Nat) (x : Book) : (setBook b x s).ls = s.ls := rfl
@[simp] theorem setBook_hl (b : Nat) (x : Book) : (setBook b x s).hl = s.hl := rfl
@[simp] theorem setBook_qps (b : Nat) (x : Book) : (setBook b x s).qps = s.qps := rfl
@[simp] theorem setBook_orders (b : Nat) (x : Book) : (setBook b x s).orders = s.orders := rfl
@[simp] theorem setBook_turns (b : Nat) (x : Book) : (setBook b x s).turns = s.turns := rfl
@[simp] theorem setBook_nextUid (b : Nat) (x : Book) : (setBook b x s).nextUid = s.nextUid := rfl
@[simp] theorem setBook_hostMem (b : Nat) (x : Book) : (setBook b x s).hostMem = s.hostMem := rfl
@[simp] theorem setBook_msix (b : Nat) (x : Book) : (setBook b x s).msix = s.msix := rfl
@[simp] theorem setBook_tx (b : Nat) (x : Book) : (setBook b x s).tx = s.tx := rfl
@[simp] theorem setBook_sessions (b : Nat) (x : Book) : (setBook b x s).sessions = s.sessions := rfl
@[simp] theorem setBook_gens (b : Nat) (x : Book) : (setBook b x s).gens = s.gens := rfl
@[simp] theorem setBook_genBase (b : Nat) (x : Book) : (setBook b x s).genBase = s.genBase := rfl
@[simp] theorem setBook_mb (b : Nat) (x : Book) : (setBook b x s).mb = s.mb := rfl
@[simp] theorem setBook_loaned (b : Nat) (x : Book) : (setBook b x s).loaned = s.loaned := rfl
@[simp] theorem setBook_loanClock (b : Nat) (x : Book) : (setBook b x s).loanClock = s.loanClock := rfl
@[simp] theorem setBook_cores (b : Nat) (x : Book) : (setBook b x s).cores = s.cores := rfl
@[simp] theorem setBook_tp (b : Nat) (x : Book) : (setBook b x s).tp = s.tp := rfl
@[simp] theorem setBook_supSram (b : Nat) (x : Book) : (setBook b x s).supSram = s.supSram := rfl
@[simp] theorem setBook_eng (b : Nat) (x : Book) : (setBook b x s).eng = s.eng := rfl
@[simp] theorem setBook_press (b : Nat) (x : Book) : (setBook b x s).press = s.press := rfl
@[simp] theorem setBook_cellar (b : Nat) (x : Book) : (setBook b x s).cellar = s.cellar := rfl
@[simp] theorem setBook_brine (b : Nat) (x : Book) : (setBook b x s).brine = s.brine := rfl
@[simp] theorem setBook_books (b : Nat) (x : Book) : (setBook b x s).books = vset s.books b x := rfl
@[simp] theorem setBook_time (b : Nat) (x : Book) : (setBook b x s).time = s.time := rfl
@[simp] theorem setBook_ev (b : Nat) (x : Book) : (setBook b x s).ev = s.ev := rfl
@[simp] theorem setBook_drbg (b : Nat) (x : Book) : (setBook b x s).drbg = s.drbg := rfl
@[simp] theorem setBook_freeCtr (b : Nat) (x : Book) : (setBook b x s).freeCtr = s.freeCtr := rfl
@[simp] theorem setBook_health (b : Nat) (x : Book) : (setBook b x s).health = s.health := rfl
@[simp] theorem setBook_rind (b : Nat) (x : Book) : (setBook b x s).rind = s.rind := rfl
@[simp] theorem setBook_cards (b : Nat) (x : Book) : (setBook b x s).cards = s.cards := rfl
@[simp] theorem setBook_welt (b : Nat) (x : Book) : (setBook b x s).welt = s.welt := rfl
@[simp] theorem setBook_smb (b : Nat) (x : Book) : (setBook b x s).smb = s.smb := rfl
@[simp] theorem setBook_dbg (b : Nat) (x : Book) : (setBook b x s).dbg = s.dbg := rfl
@[simp] theorem setBook_pending (b : Nat) (x : Book) : (setBook b x s).pending = s.pending := rfl

@[simp] theorem setCard_power (c : Nat) (k : CardCh) : (setCard c k s).power = s.power := rfl
@[simp] theorem setCard_link (c : Nat) (k : CardCh) : (setCard c k s).link = s.link := rfl
@[simp] theorem setCard_hostRead (c : Nat) (k : CardCh) : (setCard c k s).hostRead = s.hostRead := rfl
@[simp] theorem setCard_vault (c : Nat) (k : CardCh) : (setCard c k s).vault = s.vault := rfl
@[simp] theorem setCard_lc (c : Nat) (k : CardCh) : (setCard c k s).lc = s.lc := rfl
@[simp] theorem setCard_keys (c : Nat) (k : CardCh) : (setCard c k s).keys = s.keys := rfl
@[simp] theorem setCard_lasts (c : Nat) (k : CardCh) : (setCard c k s).lasts = s.lasts := rfl
@[simp] theorem setCard_active (c : Nat) (k : CardCh) : (setCard c k s).active = s.active := rfl
@[simp] theorem setCard_ls (c : Nat) (k : CardCh) : (setCard c k s).ls = s.ls := rfl
@[simp] theorem setCard_hl (c : Nat) (k : CardCh) : (setCard c k s).hl = s.hl := rfl
@[simp] theorem setCard_qps (c : Nat) (k : CardCh) : (setCard c k s).qps = s.qps := rfl
@[simp] theorem setCard_orders (c : Nat) (k : CardCh) : (setCard c k s).orders = s.orders := rfl
@[simp] theorem setCard_turns (c : Nat) (k : CardCh) : (setCard c k s).turns = s.turns := rfl
@[simp] theorem setCard_nextUid (c : Nat) (k : CardCh) : (setCard c k s).nextUid = s.nextUid := rfl
@[simp] theorem setCard_hostMem (c : Nat) (k : CardCh) : (setCard c k s).hostMem = s.hostMem := rfl
@[simp] theorem setCard_msix (c : Nat) (k : CardCh) : (setCard c k s).msix = s.msix := rfl
@[simp] theorem setCard_tx (c : Nat) (k : CardCh) : (setCard c k s).tx = s.tx := rfl
@[simp] theorem setCard_sessions (c : Nat) (k : CardCh) : (setCard c k s).sessions = s.sessions := rfl
@[simp] theorem setCard_gens (c : Nat) (k : CardCh) : (setCard c k s).gens = s.gens := rfl
@[simp] theorem setCard_genBase (c : Nat) (k : CardCh) : (setCard c k s).genBase = s.genBase := rfl
@[simp] theorem setCard_mb (c : Nat) (k : CardCh) : (setCard c k s).mb = s.mb := rfl
@[simp] theorem setCard_loaned (c : Nat) (k : CardCh) : (setCard c k s).loaned = s.loaned := rfl
@[simp] theorem setCard_loanClock (c : Nat) (k : CardCh) : (setCard c k s).loanClock = s.loanClock := rfl
@[simp] theorem setCard_cores (c : Nat) (k : CardCh) : (setCard c k s).cores = s.cores := rfl
@[simp] theorem setCard_tp (c : Nat) (k : CardCh) : (setCard c k s).tp = s.tp := rfl
@[simp] theorem setCard_supSram (c : Nat) (k : CardCh) : (setCard c k s).supSram = s.supSram := rfl
@[simp] theorem setCard_eng (c : Nat) (k : CardCh) : (setCard c k s).eng = s.eng := rfl
@[simp] theorem setCard_press (c : Nat) (k : CardCh) : (setCard c k s).press = s.press := rfl
@[simp] theorem setCard_cellar (c : Nat) (k : CardCh) : (setCard c k s).cellar = s.cellar := rfl
@[simp] theorem setCard_brine (c : Nat) (k : CardCh) : (setCard c k s).brine = s.brine := rfl
@[simp] theorem setCard_books (c : Nat) (k : CardCh) : (setCard c k s).books = s.books := rfl
@[simp] theorem setCard_time (c : Nat) (k : CardCh) : (setCard c k s).time = s.time := rfl
@[simp] theorem setCard_ev (c : Nat) (k : CardCh) : (setCard c k s).ev = s.ev := rfl
@[simp] theorem setCard_drbg (c : Nat) (k : CardCh) : (setCard c k s).drbg = s.drbg := rfl
@[simp] theorem setCard_freeCtr (c : Nat) (k : CardCh) : (setCard c k s).freeCtr = s.freeCtr := rfl
@[simp] theorem setCard_health (c : Nat) (k : CardCh) : (setCard c k s).health = s.health := rfl
@[simp] theorem setCard_rind (c : Nat) (k : CardCh) : (setCard c k s).rind = s.rind := rfl
@[simp] theorem setCard_cards (c : Nat) (k : CardCh) : (setCard c k s).cards = { s.cards with ch := vset s.cards.ch c k } := rfl
@[simp] theorem setCard_welt (c : Nat) (k : CardCh) : (setCard c k s).welt = s.welt := rfl
@[simp] theorem setCard_smb (c : Nat) (k : CardCh) : (setCard c k s).smb = s.smb := rfl
@[simp] theorem setCard_dbg (c : Nat) (k : CardCh) : (setCard c k s).dbg = s.dbg := rfl
@[simp] theorem setCard_pending (c : Nat) (k : CardCh) : (setCard c k s).pending = s.pending := rfl

@[simp] theorem setPart_power (p : Nat) (x : Part) : (setPart p x s).power = s.power := rfl
@[simp] theorem setPart_link (p : Nat) (x : Part) : (setPart p x s).link = s.link := rfl
@[simp] theorem setPart_hostRead (p : Nat) (x : Part) : (setPart p x s).hostRead = s.hostRead := rfl
@[simp] theorem setPart_vault (p : Nat) (x : Part) : (setPart p x s).vault = s.vault := rfl
@[simp] theorem setPart_lc (p : Nat) (x : Part) : (setPart p x s).lc = s.lc := rfl
@[simp] theorem setPart_keys (p : Nat) (x : Part) : (setPart p x s).keys = s.keys := rfl
@[simp] theorem setPart_lasts (p : Nat) (x : Part) : (setPart p x s).lasts = s.lasts := rfl
@[simp] theorem setPart_active (p : Nat) (x : Part) : (setPart p x s).active = s.active := rfl
@[simp] theorem setPart_ls (p : Nat) (x : Part) : (setPart p x s).ls = s.ls := rfl
@[simp] theorem setPart_hl (p : Nat) (x : Part) : (setPart p x s).hl = s.hl := rfl
@[simp] theorem setPart_qps (p : Nat) (x : Part) : (setPart p x s).qps = s.qps := rfl
@[simp] theorem setPart_orders (p : Nat) (x : Part) : (setPart p x s).orders = s.orders := rfl
@[simp] theorem setPart_turns (p : Nat) (x : Part) : (setPart p x s).turns = s.turns := rfl
@[simp] theorem setPart_nextUid (p : Nat) (x : Part) : (setPart p x s).nextUid = s.nextUid := rfl
@[simp] theorem setPart_hostMem (p : Nat) (x : Part) : (setPart p x s).hostMem = s.hostMem := rfl
@[simp] theorem setPart_msix (p : Nat) (x : Part) : (setPart p x s).msix = s.msix := rfl
@[simp] theorem setPart_tx (p : Nat) (x : Part) : (setPart p x s).tx = s.tx := rfl
@[simp] theorem setPart_sessions (p : Nat) (x : Part) : (setPart p x s).sessions = s.sessions := rfl
@[simp] theorem setPart_gens (p : Nat) (x : Part) : (setPart p x s).gens = s.gens := rfl
@[simp] theorem setPart_genBase (p : Nat) (x : Part) : (setPart p x s).genBase = s.genBase := rfl
@[simp] theorem setPart_mb (p : Nat) (x : Part) : (setPart p x s).mb = s.mb := rfl
@[simp] theorem setPart_loaned (p : Nat) (x : Part) : (setPart p x s).loaned = s.loaned := rfl
@[simp] theorem setPart_loanClock (p : Nat) (x : Part) : (setPart p x s).loanClock = s.loanClock := rfl
@[simp] theorem setPart_cores (p : Nat) (x : Part) : (setPart p x s).cores = s.cores := rfl
@[simp] theorem setPart_tp (p : Nat) (x : Part) : (setPart p x s).tp = s.tp := rfl
@[simp] theorem setPart_supSram (p : Nat) (x : Part) : (setPart p x s).supSram = s.supSram := rfl
@[simp] theorem setPart_eng (p : Nat) (x : Part) : (setPart p x s).eng = s.eng := rfl
@[simp] theorem setPart_press (p : Nat) (x : Part) : (setPart p x s).press = s.press := rfl
@[simp] theorem setPart_cellar (p : Nat) (x : Part) : (setPart p x s).cellar = { s.cellar with parts := vset s.cellar.parts p x } := rfl
@[simp] theorem setPart_brine (p : Nat) (x : Part) : (setPart p x s).brine = s.brine := rfl
@[simp] theorem setPart_books (p : Nat) (x : Part) : (setPart p x s).books = s.books := rfl
@[simp] theorem setPart_time (p : Nat) (x : Part) : (setPart p x s).time = s.time := rfl
@[simp] theorem setPart_ev (p : Nat) (x : Part) : (setPart p x s).ev = s.ev := rfl
@[simp] theorem setPart_drbg (p : Nat) (x : Part) : (setPart p x s).drbg = s.drbg := rfl
@[simp] theorem setPart_freeCtr (p : Nat) (x : Part) : (setPart p x s).freeCtr = s.freeCtr := rfl
@[simp] theorem setPart_health (p : Nat) (x : Part) : (setPart p x s).health = s.health := rfl
@[simp] theorem setPart_rind (p : Nat) (x : Part) : (setPart p x s).rind = s.rind := rfl
@[simp] theorem setPart_cards (p : Nat) (x : Part) : (setPart p x s).cards = s.cards := rfl
@[simp] theorem setPart_welt (p : Nat) (x : Part) : (setPart p x s).welt = s.welt := rfl
@[simp] theorem setPart_smb (p : Nat) (x : Part) : (setPart p x s).smb = s.smb := rfl
@[simp] theorem setPart_dbg (p : Nat) (x : Part) : (setPart p x s).dbg = s.dbg := rfl
@[simp] theorem setPart_pending (p : Nat) (x : Part) : (setPart p x s).pending = s.pending := rfl

@[simp] theorem enqueue_power (p : Press) : (enqueue p s).power = s.power := rfl
@[simp] theorem enqueue_link (p : Press) : (enqueue p s).link = s.link := rfl
@[simp] theorem enqueue_hostRead (p : Press) : (enqueue p s).hostRead = s.hostRead := rfl
@[simp] theorem enqueue_vault (p : Press) : (enqueue p s).vault = s.vault := rfl
@[simp] theorem enqueue_lc (p : Press) : (enqueue p s).lc = s.lc := rfl
@[simp] theorem enqueue_keys (p : Press) : (enqueue p s).keys = s.keys := rfl
@[simp] theorem enqueue_lasts (p : Press) : (enqueue p s).lasts = s.lasts := rfl
@[simp] theorem enqueue_active (p : Press) : (enqueue p s).active = s.active := rfl
@[simp] theorem enqueue_ls (p : Press) : (enqueue p s).ls = s.ls := rfl
@[simp] theorem enqueue_hl (p : Press) : (enqueue p s).hl = s.hl := rfl
@[simp] theorem enqueue_qps (p : Press) : (enqueue p s).qps = s.qps := rfl
@[simp] theorem enqueue_orders (p : Press) : (enqueue p s).orders = s.orders := rfl
@[simp] theorem enqueue_turns (p : Press) : (enqueue p s).turns = s.turns := rfl
@[simp] theorem enqueue_nextUid (p : Press) : (enqueue p s).nextUid = s.nextUid := rfl
@[simp] theorem enqueue_hostMem (p : Press) : (enqueue p s).hostMem = s.hostMem := rfl
@[simp] theorem enqueue_msix (p : Press) : (enqueue p s).msix = s.msix := rfl
@[simp] theorem enqueue_tx (p : Press) : (enqueue p s).tx = s.tx := rfl
@[simp] theorem enqueue_sessions (p : Press) : (enqueue p s).sessions = s.sessions := rfl
@[simp] theorem enqueue_gens (p : Press) : (enqueue p s).gens = s.gens := rfl
@[simp] theorem enqueue_genBase (p : Press) : (enqueue p s).genBase = s.genBase := rfl
@[simp] theorem enqueue_mb (p : Press) : (enqueue p s).mb = s.mb := rfl
@[simp] theorem enqueue_loaned (p : Press) : (enqueue p s).loaned = s.loaned := rfl
@[simp] theorem enqueue_loanClock (p : Press) : (enqueue p s).loanClock = s.loanClock := rfl
@[simp] theorem enqueue_cores (p : Press) : (enqueue p s).cores = s.cores := rfl
@[simp] theorem enqueue_tp (p : Press) : (enqueue p s).tp = s.tp := rfl
@[simp] theorem enqueue_supSram (p : Press) : (enqueue p s).supSram = s.supSram := rfl
@[simp] theorem enqueue_eng (p : Press) : (enqueue p s).eng = s.eng := rfl
@[simp] theorem enqueue_press (p : Press) : (enqueue p s).press = { s.press with queue := s.press.queue ++ [p] } := rfl
@[simp] theorem enqueue_cellar (p : Press) : (enqueue p s).cellar = s.cellar := rfl
@[simp] theorem enqueue_brine (p : Press) : (enqueue p s).brine = s.brine := rfl
@[simp] theorem enqueue_books (p : Press) : (enqueue p s).books = s.books := rfl
@[simp] theorem enqueue_time (p : Press) : (enqueue p s).time = s.time := rfl
@[simp] theorem enqueue_ev (p : Press) : (enqueue p s).ev = s.ev := rfl
@[simp] theorem enqueue_drbg (p : Press) : (enqueue p s).drbg = s.drbg := rfl
@[simp] theorem enqueue_freeCtr (p : Press) : (enqueue p s).freeCtr = s.freeCtr := rfl
@[simp] theorem enqueue_health (p : Press) : (enqueue p s).health = s.health := rfl
@[simp] theorem enqueue_rind (p : Press) : (enqueue p s).rind = s.rind := rfl
@[simp] theorem enqueue_cards (p : Press) : (enqueue p s).cards = s.cards := rfl
@[simp] theorem enqueue_welt (p : Press) : (enqueue p s).welt = s.welt := rfl
@[simp] theorem enqueue_smb (p : Press) : (enqueue p s).smb = s.smb := rfl
@[simp] theorem enqueue_dbg (p : Press) : (enqueue p s).dbg = s.dbg := rfl
@[simp] theorem enqueue_pending (p : Press) : (enqueue p s).pending = s.pending := rfl

@[simp] theorem wakeDomain_power (d : Fin 64) : (wakeDomain d s).power = { s.power with domainsOff := s.power.domainsOff.filter (· != d) } := rfl
@[simp] theorem wakeDomain_link (d : Fin 64) : (wakeDomain d s).link = s.link := rfl
@[simp] theorem wakeDomain_hostRead (d : Fin 64) : (wakeDomain d s).hostRead = s.hostRead := rfl
@[simp] theorem wakeDomain_vault (d : Fin 64) : (wakeDomain d s).vault = s.vault := rfl
@[simp] theorem wakeDomain_lc (d : Fin 64) : (wakeDomain d s).lc = s.lc := rfl
@[simp] theorem wakeDomain_keys (d : Fin 64) : (wakeDomain d s).keys = s.keys := rfl
@[simp] theorem wakeDomain_lasts (d : Fin 64) : (wakeDomain d s).lasts = s.lasts := rfl
@[simp] theorem wakeDomain_active (d : Fin 64) : (wakeDomain d s).active = s.active := rfl
@[simp] theorem wakeDomain_ls (d : Fin 64) : (wakeDomain d s).ls = s.ls := rfl
@[simp] theorem wakeDomain_hl (d : Fin 64) : (wakeDomain d s).hl = s.hl := rfl
@[simp] theorem wakeDomain_qps (d : Fin 64) : (wakeDomain d s).qps = s.qps := rfl
@[simp] theorem wakeDomain_orders (d : Fin 64) : (wakeDomain d s).orders = s.orders := rfl
@[simp] theorem wakeDomain_turns (d : Fin 64) : (wakeDomain d s).turns = s.turns := rfl
@[simp] theorem wakeDomain_nextUid (d : Fin 64) : (wakeDomain d s).nextUid = s.nextUid := rfl
@[simp] theorem wakeDomain_hostMem (d : Fin 64) : (wakeDomain d s).hostMem = s.hostMem := rfl
@[simp] theorem wakeDomain_msix (d : Fin 64) : (wakeDomain d s).msix = s.msix := rfl
@[simp] theorem wakeDomain_tx (d : Fin 64) : (wakeDomain d s).tx = s.tx := rfl
@[simp] theorem wakeDomain_sessions (d : Fin 64) : (wakeDomain d s).sessions = s.sessions := rfl
@[simp] theorem wakeDomain_gens (d : Fin 64) : (wakeDomain d s).gens = s.gens := rfl
@[simp] theorem wakeDomain_genBase (d : Fin 64) : (wakeDomain d s).genBase = s.genBase := rfl
@[simp] theorem wakeDomain_mb (d : Fin 64) : (wakeDomain d s).mb = s.mb := rfl
@[simp] theorem wakeDomain_loaned (d : Fin 64) : (wakeDomain d s).loaned = s.loaned := rfl
@[simp] theorem wakeDomain_loanClock (d : Fin 64) : (wakeDomain d s).loanClock = s.loanClock := rfl
@[simp] theorem wakeDomain_cores (d : Fin 64) : (wakeDomain d s).cores = s.cores := rfl
@[simp] theorem wakeDomain_tp (d : Fin 64) : (wakeDomain d s).tp = s.tp := rfl
@[simp] theorem wakeDomain_supSram (d : Fin 64) : (wakeDomain d s).supSram = s.supSram := rfl
@[simp] theorem wakeDomain_eng (d : Fin 64) : (wakeDomain d s).eng = s.eng := rfl
@[simp] theorem wakeDomain_press (d : Fin 64) : (wakeDomain d s).press = s.press := rfl
@[simp] theorem wakeDomain_cellar (d : Fin 64) : (wakeDomain d s).cellar = s.cellar := rfl
@[simp] theorem wakeDomain_brine (d : Fin 64) : (wakeDomain d s).brine = s.brine := rfl
@[simp] theorem wakeDomain_books (d : Fin 64) : (wakeDomain d s).books = s.books := rfl
@[simp] theorem wakeDomain_time (d : Fin 64) : (wakeDomain d s).time = s.time := rfl
@[simp] theorem wakeDomain_ev (d : Fin 64) : (wakeDomain d s).ev = s.ev := rfl
@[simp] theorem wakeDomain_drbg (d : Fin 64) : (wakeDomain d s).drbg = s.drbg := rfl
@[simp] theorem wakeDomain_freeCtr (d : Fin 64) : (wakeDomain d s).freeCtr = s.freeCtr := rfl
@[simp] theorem wakeDomain_health (d : Fin 64) : (wakeDomain d s).health = s.health := rfl
@[simp] theorem wakeDomain_rind (d : Fin 64) : (wakeDomain d s).rind = s.rind := rfl
@[simp] theorem wakeDomain_cards (d : Fin 64) : (wakeDomain d s).cards = s.cards := rfl
@[simp] theorem wakeDomain_welt (d : Fin 64) : (wakeDomain d s).welt = s.welt := rfl
@[simp] theorem wakeDomain_smb (d : Fin 64) : (wakeDomain d s).smb = s.smb := rfl
@[simp] theorem wakeDomain_dbg (d : Fin 64) : (wakeDomain d s).dbg = s.dbg := rfl
@[simp] theorem wakeDomain_pending (d : Fin 64) : (wakeDomain d s).pending = s.pending := rfl

@[simp] theorem reply_power (b : Option Bytes) : (reply b s).power = s.power := rfl
@[simp] theorem reply_link (b : Option Bytes) : (reply b s).link = s.link := rfl
@[simp] theorem reply_hostRead (b : Option Bytes) : (reply b s).hostRead = s.hostRead := rfl
@[simp] theorem reply_vault (b : Option Bytes) : (reply b s).vault = s.vault := rfl
@[simp] theorem reply_lc (b : Option Bytes) : (reply b s).lc = s.lc := rfl
@[simp] theorem reply_keys (b : Option Bytes) : (reply b s).keys = s.keys := rfl
@[simp] theorem reply_lasts (b : Option Bytes) : (reply b s).lasts = s.lasts := rfl
@[simp] theorem reply_active (b : Option Bytes) : (reply b s).active = s.active := rfl
@[simp] theorem reply_ls (b : Option Bytes) : (reply b s).ls = s.ls := rfl
@[simp] theorem reply_hl (b : Option Bytes) : (reply b s).hl = s.hl := rfl
@[simp] theorem reply_qps (b : Option Bytes) : (reply b s).qps = s.qps := rfl
@[simp] theorem reply_orders (b : Option Bytes) : (reply b s).orders = s.orders := rfl
@[simp] theorem reply_turns (b : Option Bytes) : (reply b s).turns = s.turns := rfl
@[simp] theorem reply_nextUid (b : Option Bytes) : (reply b s).nextUid = s.nextUid := rfl
@[simp] theorem reply_hostMem (b : Option Bytes) : (reply b s).hostMem = s.hostMem := rfl
@[simp] theorem reply_msix (b : Option Bytes) : (reply b s).msix = s.msix := rfl
@[simp] theorem reply_tx (b : Option Bytes) : (reply b s).tx = s.tx := rfl
@[simp] theorem reply_sessions (b : Option Bytes) : (reply b s).sessions = s.sessions := rfl
@[simp] theorem reply_gens (b : Option Bytes) : (reply b s).gens = s.gens := rfl
@[simp] theorem reply_genBase (b : Option Bytes) : (reply b s).genBase = s.genBase := rfl
@[simp] theorem reply_mb (b : Option Bytes) : (reply b s).mb = s.mb := rfl
@[simp] theorem reply_loaned (b : Option Bytes) : (reply b s).loaned = s.loaned := rfl
@[simp] theorem reply_loanClock (b : Option Bytes) : (reply b s).loanClock = s.loanClock := rfl
@[simp] theorem reply_cores (b : Option Bytes) : (reply b s).cores = s.cores := rfl
@[simp] theorem reply_tp (b : Option Bytes) : (reply b s).tp = s.tp := rfl
@[simp] theorem reply_supSram (b : Option Bytes) : (reply b s).supSram = s.supSram := rfl
@[simp] theorem reply_eng (b : Option Bytes) : (reply b s).eng = s.eng := rfl
@[simp] theorem reply_press (b : Option Bytes) : (reply b s).press = s.press := rfl
@[simp] theorem reply_cellar (b : Option Bytes) : (reply b s).cellar = s.cellar := rfl
@[simp] theorem reply_brine (b : Option Bytes) : (reply b s).brine = s.brine := rfl
@[simp] theorem reply_books (b : Option Bytes) : (reply b s).books = s.books := rfl
@[simp] theorem reply_time (b : Option Bytes) : (reply b s).time = s.time := rfl
@[simp] theorem reply_ev (b : Option Bytes) : (reply b s).ev = s.ev := rfl
@[simp] theorem reply_drbg (b : Option Bytes) : (reply b s).drbg = s.drbg := rfl
@[simp] theorem reply_freeCtr (b : Option Bytes) : (reply b s).freeCtr = s.freeCtr := rfl
@[simp] theorem reply_health (b : Option Bytes) : (reply b s).health = s.health := rfl
@[simp] theorem reply_rind (b : Option Bytes) : (reply b s).rind = s.rind := rfl
@[simp] theorem reply_cards (b : Option Bytes) : (reply b s).cards = s.cards := rfl
@[simp] theorem reply_welt (b : Option Bytes) : (reply b s).welt = s.welt := rfl
@[simp] theorem reply_smb (b : Option Bytes) : (reply b s).smb = { s.smb with reply := b } := rfl
@[simp] theorem reply_dbg (b : Option Bytes) : (reply b s).dbg = s.dbg := rfl
@[simp] theorem reply_pending (b : Option Bytes) : (reply b s).pending = s.pending := rfl

end Sys2Proof.Machine
end

