-- ==== Sys2Proof/Machine/Layouts.lean ====
section
/-! DEFINITION. The bytes of the Press log, the log state and the health table in the Cellar (12, 16 R370), of volume
records and journals on cards (15 R336, R337), and of frames on the Welt (17 R372, R376), for what State keeps
opened. -/

namespace Sys2Proof.Machine

/-! ### The health table (16 R370) -/

/-- The entry of channel i. -/
def healthEntry (s : State) (i : Nat) : Bytes :=
  (look i s.health.table).elim (zeros 16) fun x => [1] ++ le x.1 1 ++ le x.2.1 6 ++ le x.2.2 8

def State.healthTable (s : State) : Bytes :=
  le s.health.pressed 4 ++ zeros 12 ++ ((List.range 60).map (healthEntry s)).flatten

/-! ### Volume records (15 R337) -/

/-- The volume record of a channel; zero where the channel has never held a volume. -/
def VolRec.bytes (v : VolRec) : Bytes :=
  if v.serial = 0 then zeros 128
  else ascii "JXVR" ++ le v.state 1 ++ le v.role 1 ++ le v.origin.code 1 ++ zeros 1 ++ le v.serial 4 ++ zeros 4
    ++ le v.sectors 8 ++ le v.seq 8 ++ fit v.root 32 ++ fit v.hdr 32 ++ le v.append 8 ++ le v.entryIx 8 ++ zeros 16

/-! ### The log record (12, The Press and The log record) -/

/-- An item of a press in the log: kind, target, the length its header gives, data padded to a multiple of 16. -/
def itemBytes (kind target len : Nat) (data : Bytes) : Bytes :=
  le kind 2 ++ zeros 2 ++ le len 4 ++ le target 8 ++ fit data (roundUp data.length 16)

/-- The item header of an item ZERO, which carries the length and no data. -/
def zeroItem (addr len : Nat) : Bytes := itemBytes 2 addr len []

/-- An item COUNTER: the new value and the generation guard. -/
def counterItem (addr value guard : Nat) : Bytes := itemBytes 3 addr 16 (le value 8 ++ le guard 4 ++ zeros 4)

/-- A log record of `n` items up to its digest: header, items and the first half of the trailer. -/
def logRecordBody (epoch core frame n : Nat) (items : Bytes) : Bytes :=
  ascii "JXPL" ++ le 1 2 ++ le n 2 ++ le (48 + items.length) 4 ++ zeros 4 ++ le epoch 8 ++ le (core + 16 * frame) 4
    ++ zeros 4 ++ items ++ le epoch 8

/-- The whole record: the last 8 bytes are the first of SHA3-256 over all before them. -/
def logRecordBytes (epoch core frame n : Nat) (items : Bytes) : Bytes :=
  logRecordBody epoch core frame n items ++ fit (Config.sha3 (logRecordBody epoch core frame n items)) 8

/-- Bytes whose layout the spec does not give: free values. -/
def openBytes (addr n : Nat) : Bytes := (List.range n).map fun i => BitVec.ofNat 8 (Config.free (2 ^ 64 + addr + i))

/-- An item WRITE. -/
def writeItem (addr : Nat) (data : Bytes) : Bytes := itemBytes 1 addr data.length data

/-- The log items of a press item, from the state in which its effect stands (R260, R262). Records whose layout the spec
does not give are written with free bytes (log 227). -/
def PItem.logged (s : State) (i : PItem) : List Bytes :=
  match i with
  | .write p off data => [writeItem (partBase p + off) data]
  | .clearPart p => [zeroItem (partBase p) 0x400000]
  | .ctrSet n v | .ctrAdd n v => [counterItem (counterAddr n) v 0]
  | .slotWrite h span _ init gen _ _ _ _ =>
    (List.range span).map (fun j => writeItem (slotAddr (h + j)) ((s.slot h).elim (zeros 256) fun k => slotRecord s k (h + j)))
      ++ [counterItem (useCountAddr h) init gen]
  | .slotFree h span gen =>
    (List.range span).map (fun j => writeItem (slotAddr (h + j)) (emptyRecord gen)) ++ [counterItem (useCountAddr h) 0 gen]
  | .cert b => [writeItem certArea.1 b]
  | .applet a => a.places.zipIdx.map fun x => writeItem (blockAddr x.1) (sl a.bytes (4096 * x.2) 4096)
  | .wheel b msg sig no _ => [writeItem (placeAddr b (no % 2)) (wheelRecord msg sig)]
  | .gapRecords => (List.range 64).map fun b => writeItem (headAddr b + 352) ((s.book b).gapRec.getD (zeros 128))
  | .bookOpen b _ _ _ _ | .bookConfig b _ _ _ _ | .bookClose b => [writeItem (headAddr b + 288) (s.book b).config]
  | .health _ _ => [writeItem healthPage.1 s.healthTable]
  | .volErase c _ | .volFormat c | .volReady c _ _ | .volWrite c _ _ | .archive c _ _ =>
    [writeItem (volumeAddr c) (s.card c).vol.bytes]
  | i => (i.spans.take 1).map fun x => writeItem x.1 (openBytes x.1 (i.len - 16))

/-- A log record's bytes. -/
def LogRecord.bytes (s : State) (r : LogRecord) : Bytes :=
  let items := (r.items.map (PItem.logged s)).flatten
  logRecordBytes r.epoch r.core r.frame items.length items.flatten

/-- A record found in the ring is valid for epoch x, with `room` bytes up to the ring's end (R264). -/
def recordValid (r : Bytes) (x room : Nat) : Bool :=
  let n := fld r 8 4
  sl r 0 4 == ascii "JXPL" && fld r 4 2 == 1 && decide (48 ≤ n) && decide (n ≤ room) && fld r 16 8 == x
    && fld r (n - 16) 8 == x && sl r (n - 8) 8 == fit (Config.sha3 (r.take (n - 8))) 8

/-- A copy of the log state as it is stored at `addr`: next position, retired halves, applied epoch. -/
def LogState.bytes (l : LogState) (addr : Nat) (seq : BitVec 32) : Bytes :=
  copyBytes addr (le l.pos 4 ++ le (b2n l.half0 + 2 * b2n l.half1) 1 ++ zeros 11 ++ le l.applied 8) seq

/-! ### Card volumes (15 R336, R337) -/

/-- The journal header (15 R336). -/
def Journal.bytes (s : State) (ch : Nat) (v : VolRec) (j : Journal) : Bytes :=
  let h := fit (ascii "JXJH" ++ le 1 2 ++ le j.state 1 ++ zeros 1 ++ le j.seq 8 ++ le j.first 8 ++ le j.data.length 4
    ++ le j.homes.length 4 ++ fit j.root 32 ++ (j.homes.map fun x => le x 4).flatten) 4064
  h ++ fit (Config.kmac (volKey s ch v "CARD-TAG") h 256 (ascii "JEXVOR JOURNAL")) 32

/-- The journal header of a write of n sectors: state 1 written, 2 applied. -/
def journalHeader (s : State) (ch : Nat) (v : VolRec) (state first n : Nat) (root : Bytes) : Bytes :=
  Journal.bytes s ch v ⟨state, v.seq + 1, first, List.replicate n [], journalTags v first n, root⟩

/-! ### Frames on the Welt (17 R372, R374, R376) -/

/-- The half of the session key that keys the frames this device sends. -/
def State.sendKey (s : State) : Bytes :=
  if lowerFirst.fldBe s.identity < lowerFirst.fldBe s.welt.twin then s.welt.linkKey.take 32 else s.welt.linkKey.drop 32

/-- A frame as the lanes carry it, with its payload under AES-256-GCM and the CRC over all before it. -/
def frameBytes (key : Bytes) (type seq : Nat) (term : BitVec 32) (payload : Bytes) : Bytes :=
  let head := le type 1 ++ zeros 1 ++ le payload.length 2 ++ le term.toNat 4 ++ le seq 8
  let iv := be term.toNat 4 ++ be seq 8
  let ct := fit (Config.aesGcmEnc key iv head payload) payload.length
  let f := head ++ ct ++ fit (Config.aesGcmTag key iv head ct) 16
  f ++ le (crc32c f).toNat 4

/-- The payloads of the PRESS frames of a press in pair form: each piece under its header of epoch, offset and total. -/
def pressPayloads (epoch : Nat) (pair : Bytes) : List Bytes :=
  (List.range (pieces pair.length)).map fun i =>
    le epoch 8 ++ le (4080 * i) 4 ++ le pair.length 4 ++ sl pair (4080 * i) (min 4080 (pair.length - 4080 * i))

end Sys2Proof.Machine
end

