-- ==== Sys2Proof/WellFormed.lean ====
section
/-! DEFINITION. Well-formed commands: operands that the outside of the block can present at all. A meaning does not
rely on it; it says which operands stand for something real. -/

namespace Sys2Proof

/-- Host memory addresses are 64 bits, and a host write ends below the top. -/
def wfHostWrites (ws : List (Nat × Bytes)) : Bool := ws.all fun w => decide (w.1 + w.2.length ≤ 2 ^ 64)

/-- Sensor classes and channels are named once each. -/
def wfStart (f : StartFacts) : Bool :=
  decide f.tripped.Nodup && decide f.katFail.Nodup && decide f.lost.Nodup && decide f.spoiled.Nodup

/-- Twin identity, HELLO nonce and exchange secrets have their fixed lengths (R374, R388); the role code is one of the
four of WL_STAT and the life-cycle code one of the six of LC_STATUS. -/
def wfHello (h : Hello) : Bool :=
  h.identity.length == 16 && h.nonce.length == 32 && (!h.pairing || (h.secretS.length == 32 && h.secretZ.length == 48))
    && h.lcCode != 5 && h.lcCode != 6

/-- A mailbox command's writes fit the mailbox's request buffer of 28,672 bytes. -/
def wfMailbox (req : Bytes) : Bool := decide (req.length ≤ 28672)

/-- A card reports an officer medium's identity with 16 bytes (R344). -/
def wfCard (r : CardResp) : Bool :=
  match r with
  | .identified i => i.omIdentity.length == 16
  | .stepOk | .frame _ | .fault | .switchFailed | .tagFail => true

/-- Well-formedness, command by command. -/
def Instr.wellFormed (i : Instr) : Bool :=
  match i with
  | .resetNRelease f => wfStart f
  | .registerWrite off _ _ => off.toNat % 4 == 0
  | .sqTailDoorbell _ _ wr => wfHostWrites wr
  | .mbEcho r | .mbGetStatus r | .mbRandom r | .mbTdeaCbcDec r | .mbTdeaCbcEnc r | .mbTdeaMacGen r | .mbTdeaMacVer r
  | .aesCbcDec r | .aesCbcEnc r | .mbSha256 r | .rsaSign r | .rsaVerify r | .blobFlush r | .mbGetTime r => wfMailbox r
  | .cardResponse _ r => wfCard r
  | .weltHello h => wfHello h
  | .setAddr a => a.toNat % 4 == 0
  | _ => true

end Sys2Proof
end

