-- ==== Sys2Proof/Tests/Slice0.lean ====
section
/-! SUPPORT. Tests of single commands on small states, and for each statement states and operands that meet its
hypotheses. -/

set_option Elab.async false

open Sys2Proof Sys2Proof.Machine

namespace Sys2Proof.Tests

/-! ### States the tests start from -/

/-- A last with every enable set. -/
def openLast : Last := { baseLast with enables := 0xFFFFFFFFFFFFFFFF, appletCount := 16384, roles := [1, 2, 0, 3] }

/-- A device in SERVICE, awake, with working noise sources and keys. -/
def live : State :=
  { State.reset with
    power := { State.reset.power with st := .active }
    vault := Vault.holding .service (some (zeros 32))
    active := openLast
    drbg := ⟨true, true, true, 0, false⟩
    keys := ⟨some (zeros 16), some (zeros 32), 0, some (zeros 32, zeros 32)⟩
    eng := { Engines.empty with microcodeOk := true } }

/-- A frame at pc 0 with 4 KiB of code and 64 KiB of data; register n holds the n-th number of `rs` after g0. -/
def frame (m : Mode) (rs : List Nat) : Fr :=
  { Fr.fresh m 7 with
    g := Vector.ofFn fun i => if i.val = 0 then 0 else BitVec.ofNat 64 (rs.getD (i.val - 1) 0)
    codeLen := 4096, dataLen := 65536, runMs := 1000, tag := 1 }

/-- Core 0 runs fr on device s. -/
def on (fr : Fr) (s : State) : State := setCore 0 { Core.idle with frames := #v[some fr, none, none, none], running := some 0 } s

/-- The next state of an outcome. -/
def next (o : Host.Outcome State Fault Refusal) : State :=
  match o with
  | .next t => t
  | _ => State.reset

/-- Register d of the frame on core 0 after a command. -/
def out (d : BitVec 5) (o : Host.Outcome State Fault Refusal) : Nat := (((next o).frame 0 0).map fun f => (f.reg d).toNat).getD 0

/-- pc of the frame on core 0 after a command. -/
def pcOf (o : Host.Outcome State Fault Refusal) : Nat := (((next o).frame 0 0).map fun f => f.pc.toNat).getD 0

/-- A frame with g1 = x and g2 = y. -/
def pair (x y : Nat) : State := on (frame .a [x, y]) live

/-! ### Instructions (expected results from the instruction tables of 06) -/

theorem test_add_wraps : out 3 (exec (.add 0 3 1 2) (pair (2 ^ 64 - 1) 2)) = 1 := by decide
theorem test_cry : out 3 (exec (.cry 0 3 1 2) (pair (2 ^ 64 - 1) 1)) = 1 := by decide
theorem test_brw : out 3 (exec (.brw 0 3 1 2) (pair 1 2)) = 1 := by decide
theorem test_sub : out 3 (exec (.sub 0 3 1 2) (pair 1 2)) = 2 ^ 64 - 1 := by decide
theorem test_mulhu : out 3 (exec (.mulhu 0 3 1 2) (pair (2 ^ 63) 4)) = 2 := by decide
theorem test_mulhs : out 3 (exec (.mulhs 0 3 1 2) (pair (2 ^ 64 - 1) 1)) = 2 ^ 64 - 1 := by decide
theorem test_divs : out 3 (exec (.divs 0 3 1 2) (pair (2 ^ 64 - 7) 2)) = 2 ^ 64 - 3 := by decide
theorem test_rems : out 3 (exec (.rems 0 3 1 2) (pair (2 ^ 64 - 7) 2)) = 2 ^ 64 - 1 := by decide
theorem test_divs_corner : out 3 (exec (.divs 0 3 1 2) (pair (2 ^ 63) (2 ^ 64 - 1))) = 2 ^ 63 := by decide
theorem test_sra : out 3 (exec (.sra 0 3 1 2) (pair (2 ^ 63) 63)) = 2 ^ 64 - 1 := by decide
theorem test_sll_amount : out 3 (exec (.sll 0 3 1 2) (pair 1 65)) = 2 := by decide
theorem test_ror : out 3 (exec (.ror 0 3 1 2) (pair 1 1)) = 2 ^ 63 := by decide
theorem test_slt : out 3 (exec (.slt 0 3 1 2) (pair (2 ^ 64 - 1) 0)) = 1 := by decide
theorem test_clz_zero : out 3 (exec (.clz 0 3 1) (pair 0 0)) = 64 := by decide
theorem test_ctz : out 3 (exec (.ctz 0 3 1) (pair 8 0)) = 3 := by decide
theorem test_bswap : out 3 (exec (.bswap 0 3 1) (pair 1 0)) = 2 ^ 56 := by decide
theorem test_bfx_signed : out 3 (exec (.bfx 0 3 1 4 3 true) (pair 0xF0 0)) = 2 ^ 64 - 1 := by decide
theorem test_bfi : out 2 (exec (.bfi 0 2 1 8 7) (pair 0x1FF 0xABCDEF)) = 0xABFFEF := by decide
theorem test_addi : out 3 (exec (.addi 0 3 1 0x3FFF) (pair 0 0)) = 2 ^ 64 - 1 := by decide
theorem test_liw_signed : out 3 (exec (.liw 0 3 0 0 0x80000000) (pair 0 0)) = 2 ^ 64 - 2 ^ 31 := by decide
theorem test_liw_pc : pcOf (exec (.liw 0 3 0 1 5) (pair 0 0)) = 8 := by decide
theorem test_beq_taken : pcOf (exec (.beq 0 1 2 5) (pair 4 4)) = 20 := by decide
theorem test_bne_not_taken : pcOf (exec (.bne 0 1 2 5) (pair 4 4)) = 4 := by decide
theorem test_jal_link : out 3 (exec (.jal 0 3 4) (pair 0 0)) = 4 := by decide
theorem test_jalr : pcOf (exec (.jalr 0 3 1 8) (pair 0x100 0)) = 0x108 := by decide
theorem test_divide_ends_order : ((next (exec (.divu 0 3 1 2) (pair 1 0))).frame 0 0).isNone = true := by
  decide +kernel
/-- A job frame with g1 = x and g2 = y. -/
def job (x y : Nat) : State := on (frame .j [x, y]) live

theorem test_store_load :
    out 3 (exec (.lh 0 3 1 0 .good) (next (exec (.sh 0 2 1 0) (job 0x40000010 0x8001)))) = 2 ^ 64 - 0x7FFF := by
  decide +kernel
theorem test_store_last_byte : (((next (exec (.sb 0 2 1 0) (job 0x4000FFFF 7))).frame 0 0).map (·.data)) =
    some [(0xFFFF, 7)] := by decide
theorem test_store_past_end_traps : ((next (exec (.sh 0 2 1 0) (job 0x40010000 7))).frame 0 0).isNone = true := by
  decide +kernel
theorem test_swr_count : out 3 (exec (.swr 0 3 0x2) (pair 0 0)) = 0 := by decide
theorem test_hbind_empty_slot : out 3 (exec (.hbind 0 2 1 3 1) (pair 5 0)) = 0x0303 := by decide +kernel

/-! ### Hypotheses met: instructions -/

theorem witness_runs : Runs (pair 3 4) 0 0 (frame .a [3, 4]) 1 ∧ Runs (pair 3 4) 0 0 (frame .a [3, 4]) 2 :=
  ⟨⟨rfl, by decide, rfl⟩, ⟨rfl, by decide, rfl⟩⟩

/-- The last word of the backed code: one word fits, two do not. -/
theorem witness_runs_at_end : let fr := { frame .a [] with pc := 4092 }
    Runs (on fr live) 0 0 fr 1 ∧ fr.mode ≠ .s ∧ fr.codeLen < fr.pc.toNat + 8 := ⟨⟨rfl, by decide, rfl⟩, by decide, by decide⟩

theorem witness_fetch_outside : let fr := { frame .a [] with pc := 4096 }
    (on fr live).runningFrame 0 = some (0, fr) ∧ fr.mode ≠ .s ∧ fr.codeLen < fr.pc.toNat + 4 :=
  ⟨rfl, by decide, by decide⟩

theorem witness_supervisor : ∃ fr, Runs live 8 0 fr 1 ∧ fr.mode = .s := ⟨_, ⟨rfl, .inl rfl, rfl⟩, rfl⟩

theorem witness_divide_by_zero : (frame .a [1, 0]).reg 2 = 0 ∧ (frame .a [1, 3]).reg 2 ≠ 0 := by decide

/-- LoadResults and StoreResults: an access at the last bytes of the data region, and one of the shared page. -/
theorem witness_place : let fr := frame .j [0x4000FFF8, 0xF0000000]
    (on fr live).place fr 0x4000FFF8 8 false = some ⟨spData, 0xFFF8, 8, false⟩ ∧
    (on fr live).hazard fr.uid [⟨spData, 0xFFF8, 8, false⟩] = false ∧
    (on fr live).place fr 0x4000FFF8 8 true = some ⟨spData, 0xFFF8, 8, true⟩ ∧
    (on fr live).place fr 0xF0000FF8 8 false = some ⟨spShared, 0xFF8, 8, false⟩ ∧
    (on fr live).place fr 0xF0000FF8 8 true = none ∧ (on fr live).place fr 0x40010000 1 false = none := by decide

/-- MemoryTraps: a window with its slide, and the session page of a general session. -/
theorem witness_spaces :
    let fr := { frame .j [] with
                windows := (Vector.replicate 16 none).set 15 (some ⟨0x1000, 0x08000000, true, false⟩)
                slides := (Vector.replicate 16 0).set 15 1, session := 0x1003 }
    let s := on fr { live with sessions := [⟨3, 1, 0, 9, none, []⟩] }
    vget fr.windows 15 none = some ⟨0x1000, 0x08000000, true, false⟩ ∧
    s.place fr (0x80000000 + 15 * 0x07000000 + 0x06FFFFF8) 8 false = some ⟨spWindow 15, 0x07FFFFF8, 8, false⟩ ∧
    s.place fr (0x80000000 + 15 * 0x07000000) 8 true = none ∧ (s.generalSession fr).isSome = true ∧
    s.place fr 0xF00010FF 1 true = none ∧ s.place fr 0xF0001100 1 true = some ⟨spPage, 0x100, 1, true⟩ := by decide

theorem witness_exit : ∃ n : BitVec 19, Status.ok.code = n.toNat ∧ (frame .a []).mode ≠ .s ∧
    ∃ m : BitVec 19, Status.compareFail.code = m.toNat ∧ Status.compareFail.cls = 4 := by
  exact ⟨0, by decide, by decide, 0x402, by decide, by decide⟩

theorem witness_break : ({ live with lc := { live.lc with debug := true } } : State).lc.debug = true ∧
    live.lc.debug = false ∧ live.vault.lc ≠ .test := by decide

theorem witness_wide_jump : let fr := frame .a [2 ^ 40]
    let j := (fr.reg 1 + BitVec.ofInt 64 (0 : BitVec 14).toInt).toNat
    j % 4 = 0 ∧ 2 ^ 32 ≤ j := by decide

theorem witness_words : wordReach 0x106 .a = none ∧ wordReach 0x200 .a = some .denied ∧ wordReach 0 .a = some .ro ∧
    wordReach 0x105 .a = some .rw ∧ wordReach 0x201 .s = some .rw := by decide

/-- Handles and HBIND: a slot that exists, one that is empty, one out of reach, and debug. -/
def withSlot (n alg usage : Nat) (m : Bytes) (s : State) : State :=
  { s with
    cellar := { s.cellar with slots := [⟨n, 1, BitVec.ofNat 64 (alg * 2 ^ 48 + 2 ^ 40 + 2 ^ usage), 0, .service, 1, 0, 0,
      none, 0, m, true⟩] }
    brine := { s.brine with entries := [⟨0, n, 5, 0, 1, 0, Copies.both ⟨5, 0, 1⟩⟩] } }

/-- An EXPIRE_AT_RESET slot of an earlier boot. -/
theorem witness_lapsed : let s : State := { live with cellar := { live.cellar with slots := [⟨9, 1, 0x0101010000200001, 0, .service, 1, 0, 0,
      some (List.replicate 16 1), 0, zeros 32, true⟩] } }
    ∃ k, s.slot 9 = some k ∧ k.expire = true ∧ k.nonce ≠ s.keys.bootNonce ∧ s.keys.bootNonce ≠ none :=
  ⟨_, rfl, by decide, by decide, by decide⟩

theorem witness_hbind : let s := withSlot 9 0x0101 0 (zeros 32) live
    (s.debugOn = false ∧ (Rq.ofMode .a).reaches s.active 9 = true ∧ (s.slot 9).isSome = true ∧ s.slot 8 = none ∧
      ({ s with lc := { s.lc with debug := true } } : State).debugOn = true) ∧
    (∃ o, bindObject s 0 (frame .a [9]) 1 9 = .ok o) ∧ (∃ e, bindObject s 0 (frame .a [9]) 1 8 = .error e) := by
  refine ⟨by decide, ⟨_, rfl⟩, ⟨_, rfl⟩⟩

theorem witness_out_of_reach : let s := { live with active := { openLast with hostCount := 9, appletCount := 0 } }
    s.debugOn = false ∧ (Rq.ofMode .j).reaches s.active 9 = false := by decide

theorem witness_run_limit : live.awake = true ∧ (pair 1 2).frame 0 (0 : Fin 4) = some (frame .a [1, 2]) ∧
    (frame .a [1, 2]).runMs ≠ 0 := ⟨by decide, rfl, by decide⟩

/-- Tokens: an empty, a busy and a done token, and a frame that waits with a limit. -/
theorem witness_tokens : (frame .a []).tok 3 = .empty ∧ ((frame .a []).setTok 3 .busy).tok 3 = .busy ∧
    ((frame .a []).setTok 3 (.done .ok 1 2)).tok 3 = .done .ok 1 2 := by decide

theorem witness_wait_limit : let y := { frame .a [] with wait := some (3, 1, 2), waitLimit := 5 }
    (on y live).awake = true ∧ (on y live).frame 0 (0 : Fin 4) = some y ∧ y.wait = some (3, 1, 2) ∧ y.waitLimit ≠ 0 :=
  ⟨by decide, rfl, rfl, by decide⟩

/-- OpenPresses: reserve of 1 and of 65,536 bytes, a full reserve, a protected page and an open one. -/
theorem witness_press_reserve : let fr := frame .j [65536, 1]
    fr.openPress 3 = none ∧ (fr.reg 1).toNat ≤ 65536 ∧ 1 ≤ (fr.reg 2).toNat ∧
    live.press.bufUsed + (fr.reg 1).toNat ≤ 1048576 := by decide

def pressFr : Fr := (frame .j [7 * 2 ^ 32 + 5, 0x40000000, 8, 3]).setPress 1 (some ⟨48, 0, [], []⟩)

theorem witness_press_write : ∃ r q off, pressFr.openPress 1 = some ⟨48, 0, [], []⟩ ∧
    1 ≤ (pressFr.reg 3).toNat ∧ (pressFr.reg 3).toNat ≤ 65536 ∧
    onChip (on pressFr live) pressFr (pressFr.reg 2) (pressFr.reg 3).toNat false = some r ∧
    (on pressFr live).hazard pressFr.uid [r] = false ∧
    partRange (on pressFr live) 0 pressFr (pressFr.reg 1) (pressFr.reg 3).toNat 1 = .ok (q, off) ∧
    underProtect ((on pressFr live).part q).protect (pagesOf off (pressFr.reg 3).toNat) = false ∧
    0 + ((pressFr.reg 3).toNat + 16 + 15) / 16 * 16 ≤ 48 := by
  refine ⟨_, _, _, rfl, by decide, by decide, rfl, by decide, rfl, by decide, by decide⟩

/-- CellarAccess: a read of the last bytes of a partition, a counter read, lost, and advanced by the two ends of its
range. -/
def ctrFr (amount : Nat) : Fr := (frame .s [amount, 3]).setHnd 4 (.counter 1023)

theorem witness_counters : let s := on (ctrFr (2 ^ 32)) live
    counterOf s 0 (ctrFr (2 ^ 32)) 4 0 = .ok 1023 ∧ counterOf s 0 (ctrFr (2 ^ 32)) 4 1 = .ok 1023 ∧
    s.counter 1023 = some 0 ∧ ((ctrFr (2 ^ 32)).reg 1).toNat = 2 ^ 32 ∧ ((ctrFr 0).reg 1).toNat = 0 ∧
    ({ s with cellar := { s.cellar with counters := [(1023, { TwoCopy.zero with ok0 := false, ok1 := false })] } } : State).counter 1023 = none ∧
    (frame .s []).openPress 1 = none ∧ ((ctrFr 1).setPress 1 (some ⟨64, 32, [], []⟩)).openPress 1 = some ⟨64, 32, [], []⟩ :=
  ⟨rfl, rfl, by decide, by decide, by decide, by decide, by decide, by decide⟩

def readFr : Fr := frame .j [7 * 2 ^ 32 + 2 ^ 22 - 8, 0x40000000, 8]

theorem witness_prread :
    onChip (on readFr live) readFr (readFr.reg 2) (readFr.reg 3).toNat true = some ⟨spData, 0, 8, true⟩ ∧
    (on readFr live).hazard readFr.uid [⟨spData, 0, 8, true⟩] = false ∧
    partRange (on readFr live) 0 readFr (readFr.reg 1) (readFr.reg 3).toNat 0 = .ok (7, 2 ^ 22 - 8) ∧
    (on readFr live).badRange (partBase 7 + (2 ^ 22 - 8)) (readFr.reg 3).toNat = false :=
  ⟨by decide, by decide, rfl, by decide⟩

theorem witness_protect : live.debugOn = false ∧ live.serving = true ∧ live.bankRetired ((7 : Fin 8) / 2 : Nat) = false ∧
    (live.part 7).protect = 0 ∧ ((frame .j [2]).reg 1).extractLsb' 0 2 = 2 ∧
    ({ live with vault := Vault.holding .recovery none } : State).vault.lc = .recovery := by decide

/-- TimeAndBookInstructions: a time stamp and the smallest buffers of the three functions. -/
theorem witness_time_book :
    let fr := { frame .s [0x40000010, 0, 0, 0, 0, 0, 0, 0, 0, 0, 0, 0, 0, 0, 0, 0x1000, 64, 0x2000, 4851] with dataLen := 65536 }
    fr.mode ≠ .j ∧ fr.tok 0 = .empty ∧ (fr.reg 17).toNat ≤ 64 ∧ 4851 ≤ (fr.reg 19).toNat ∧
    (on fr live).buffer fr (fr.reg 16) (fr.reg 17).toNat false = some ⟨spData, 0x1000, 64, false⟩ ∧
    (on fr live).buffer fr (fr.reg 18) (fr.reg 19).toNat true = some ⟨spData, 0x2000, 4851, true⟩ ∧
    (on fr live).hazard fr.uid [⟨spData, 0x1000, 64, false⟩, ⟨spData, 0x2000, 4851, true⟩] = false ∧
    (fr.setHnd 2 (.book 63)).hnd 2 = .book 63 ∧ (on fr live).granted 0 fr 7 63 (some 2) = true := by decide

theorem witness_stamp : let fr := frame .j [0x40000010]
    onChip (on fr live) fr (fr.reg 1) 16 true = some ⟨spData, 16, 16, true⟩ ∧
    (on fr live).hazard fr.uid [⟨spData, 16, 16, true⟩] = false := by decide

/-! ### Hypotheses met: engine instructions -/

/-- Core 0 runs the A-mode frame fr of an applet with every right on every volume, channel and book. -/
def app (fr : Fr) (s : State) : State :=
  setCore 0 { Core.idle with
    frames := #v[some fr, none, none, none], running := some 0
    resident := [⟨{ (default : Applet) with
      id := 5, grants := [⟨4, 0xFF, 0, 16384⟩, ⟨5, 0xFF, 0, 4⟩, ⟨7, 0xFF, 0, 64⟩] }, [], false⟩] } s

/-- fr as a frame of that applet. -/
def ofApp (fr : Fr) : Fr := { fr with mode := .a, applet := 5 }

/-- A job frame whose engine registers name source, destination and auxiliary buffers of the lengths given, token and
handle 1. -/
def engFr (h : Handle) (src dst aux w : Nat) : Fr :=
  (frame .j [0, 0, 0, 0, 0, 0, 0, 0, 0, 0, 0, 0, 0, 0, 0, 0x40000000, src, 0x40004000, dst, 0x40008000, aux, w, 17]).setHnd 1 h

def engOn (h : Handle) (src dst aux w : Nat) (s : State) : State := on (engFr h src dst aux w) s

/-- The buffers of such a frame, and no hazard. -/
theorem witness_buffers : let fr := engFr .empty 32 64 16 0
    let s := engOn .empty 32 64 16 0 live
    fr.tok 0 = .empty ∧ s.buffer fr (fr.reg 16) (fr.reg 17).toNat false = some ⟨spData, 0, 32, false⟩ ∧
    s.buffer fr (fr.reg 18) (fr.reg 19).toNat true = some ⟨spData, 0x4000, 64, true⟩ ∧
    s.buffer fr (fr.reg 20) (fr.reg 21).toNat false = some ⟨spData, 0x8000, 16, false⟩ ∧
    s.hazard fr.uid [⟨spData, 0, 32, false⟩, ⟨spData, 0x4000, 64, true⟩, ⟨spData, 0x8000, 16, false⟩] = false ∧
    s.hazard fr.uid [⟨spData, 0, 32, false⟩, ⟨spData, 0x4000, 64, true⟩] = false := by decide

/-- No register of such a frame names the shared page, so nothing of it is touched (log 221). -/
theorem witness_touch : touchOperands 0 (engOn .empty 32 64 16 0 live) = engOn .empty 32 64 16 0 live := rfl

/-- Slot n passes every check of a use by the frame, at leakage level 0, and draws v. -/
def Used (h : Handle) (src dst aux : Nat) (n : Nat) (need : Need) (inv : Bool) (v : Nat) (s : State) : Prop :=
  (engOn h src dst aux 0 s).slotOpen n = false ∧ ∃ k s', (engOn h src dst aux 0 s).slotCheck (Rq.ofMode .j) n need 0 = .ok k ∧ (engOn h src dst aux 0 s).spent k = none ∧
    k.cmLevel = 0 ∧ (engOn h src dst aux 0 s).anyOk 0 16 = true ∧
    drawUse k inv (engOn h src dst aux 0 s) = .got k v s'

theorem witness_encrypt :
    Used (.keySlot 9) 32 64 0 9 (needAes 4 0) true 5 (withSlot 9 0x0101 0 (zeros 32) live) ∧
    Used (.keySlot 9) 32 64 0 9 (needAes 1 0) true 5 (withSlot 9 0x0103 0 (zeros 16) live) ∧
    Used (.keySlot 9) 32 64 0 9 (needAes 1 0) false 5 (withSlot 9 0x0102 0 (zeros 24) live) ∧
    Used (.keySlot 9) 32 64 0 9 (needAes 5 7) false 5 (withSlot 9 0x0101 7 (zeros 32) live) :=
  ⟨⟨rfl, _, _, rfl, by decide, by decide, by decide, rfl⟩, ⟨rfl, _, _, rfl, by decide, by decide, by decide, rfl⟩,
    ⟨rfl, _, _, rfl, by decide, by decide, by decide, rfl⟩, ⟨rfl, _, _, rfl, by decide, by decide, by decide, rfl⟩⟩

theorem witness_decrypt :
    Used (.keySlot 9) 28 0 0 9 (needAes 4 1) false 5 (withSlot 9 0x0101 1 (zeros 32) live) ∧
    Used (.keySlot 9) 16 0 0 9 (needAes 1 1) false 5 (withSlot 9 0x0101 1 (zeros 32) live) ∧
    Used (.keySlot 9) 8 0 0 9 (needTdea 1) false 5 (withSlot 9 0x0120 1 (zeros 24) live) ∧
    Used (.keySlot 9) 8 0 0 9 (needTdea 7) false 5 (withSlot 9 0x0120 7 (zeros 24) live) :=
  ⟨⟨rfl, _, _, rfl, by decide, by decide, by decide, rfl⟩, ⟨rfl, _, _, rfl, by decide, by decide, by decide, rfl⟩,
    ⟨rfl, _, _, rfl, by decide, by decide, by decide, rfl⟩, ⟨rfl, _, _, rfl, by decide, by decide, by decide, rfl⟩⟩

/-- The shortest sources: 28 bytes with a destination of 0, 16 of CTR at its last counter block, 8 of TDEA. -/
theorem witness_short_buffers :
    (engOn .empty 28 0 0 0 live).buffer (engFr .empty 28 0 0 0) (engFr .empty 28 0 0 0 |>.reg 18) 0 true =
      some ⟨spData, 0, 0, true⟩ ∧
    beN (sl (zeros 12 ++ [0xFF, 0xFF, 0xFF, 0xFF] ++ zeros 16) 12 4) + (32 - 16 + 15) / 16 ≤ 2 ^ 32 := by decide

/-- XtsSectors: the last sector of a volume. -/
theorem witness_xts : let fr := ofApp (engFr (.volume 9) 4096 4096 0 (2 ^ 36 - 1))
    let s := app fr (withSlot 9 0x0111 0 (zeros 32 ++ List.replicate 32 1) live)
    Runs s 0 0 fr 1 ∧ fr.hnd 1 = .volume 9 ∧ s.granted 0 fr 4 9 (some 1) = true ∧ s.cardVolume 9 = none ∧
    (fr.reg 22).toNat + 4096 / 4096 ≤ 2 ^ 36 ∧
    (∃ k v s', s.slotCheck (Rq.ofMode .a) 9 (needXts 0) 0 = .ok k ∧ s.spent k = none ∧
      k.material.take (k.material.length / 2) ≠ k.material.drop (k.material.length / 2) ∧
      drawUse k false s = .got k v s') :=
  ⟨⟨rfl, by decide⟩, by decide, by decide, by decide, by decide, _, _, _, rfl, by decide, by decide, rfl⟩

/-- DigestInstructions: a hash, a keyed hash of each kind, the ends of the lengths of COMPARE. -/
theorem witness_digest : digestAlg (0x02 : BitVec 8).toNat = some ⟨8, 64, 32, 2 ^ 61 - 1⟩ ∧
    digestAlg 0x18 = some ⟨10, 168, 0, 2 ^ 64 - 2⟩ := ⟨rfl, rfl⟩

theorem witness_digest_lengths : isKmac 0x02 = false ∧
    (Rq.ofMode .j).governed = true ∧ live.active.enables.getLsbD 8 = true ∧ isKmac 0x1C = true ∧
    (engFr .empty 8 0 8 8).tok 0 = .empty ∧ ((engFr .empty 64 0 64 64).reg 22).toNat = 64 := by decide

theorem witness_mac : let s := withSlot 9 0x0201 7 (le 16 2 ++ zeros 16) live
    let t := withSlot 9 0x0202 7 (le 16 2 ++ zeros 16) live
    (∃ k v s', KeyUse (engOn (.keySlot 9) 32 64 0 0 s) (engFr (.keySlot 9) 32 64 0 0) 9 (needMac 2) false
      (fun k => hashCheck (engOn (.keySlot 9) 32 64 0 0 s) k.cmLevel) k v s') ∧
    (∃ k v s', KeyUse (engOn (.keySlot 9) 32 64 0 0 t) (engFr (.keySlot 9) 32 64 0 0) 9 (needMac 0x1C) false
      (fun k => hashCheck (engOn (.keySlot 9) 32 64 0 0 t) k.cmLevel) k v s') :=
  ⟨⟨_, _, _, rfl, rfl, by decide, by decide, rfl⟩, ⟨_, _, _, rfl, rfl, by decide, by decide, rfl⟩⟩

/-- HashStreams: START with a free record, and a record at its declared length. -/
theorem witness_start : let fr := engFr .empty 32 64 512 100
    let s := on fr live
    s.keys.stateKeys = some (zeros 32, zeros 32) ∧ blockBuffer s fr = some ⟨spData, 0x8000, 512, true⟩ ∧
    s.anyOk 16 8 = true ∧ (fr.reg 22).toNat ≤ 2 ^ 61 - 1 ∧
    (s.eng.streams.filter fun r => r.uid == fr.uid).length < 8 ∧ freeStream s = some 0 ∧
    s.hazard fr.uid [⟨spData, 0x8000, 512, true⟩] = false := by decide +kernel

theorem witness_slh : let s := withSlot 9 0x0803 2 (zeros 96) live
    let t := withSlot 9 0x0813 3 (zeros 48) live
    slhLen (3 : BitVec 8).toNat = some 35664 ∧ live.drbgOk = true ∧
    (∃ k v s', KeyUse (engOn (.keySlot 9) 32 35664 0 0 s) (engFr (.keySlot 9) 32 35664 0 0) 9 (needSlh 0x0803 2) false
      (fun _ => none) k v s') ∧
    (∃ k v s', KeyUse (engOn (.keySlot 9) 32 0 35664 0 t) (engFr (.keySlot 9) 32 0 35664 0) 9 (needSlh 0x0813 3) false
      (fun _ => none) k v s') :=
  ⟨by decide, by decide, ⟨_, _, _, rfl, rfl, by decide, rfl, rfl⟩, ⟨_, _, _, rfl, rfl, by decide, rfl, rfl⟩⟩

/-- LaneKeyed: an ECDSA signature; LaneBare: a modular exponentiation. -/
theorem witness_lane_keyed : let fr := engFr (.keySlot 9) 32 64 0 2
    let s := on fr (withSlot 9 0x0401 2 (zeros 32) live)
    LaneForm 0 0 1 0 (.ecdsaSign 0 0 1) fnEcdsaSign ∧ fnEcdsaSign.need = some (ecNeed 0x0401 2 18) ∧
    LaneBuffers s fr fnEcdsaSign ⟨spData, 0, 32, false⟩ ⟨spData, 0x4000, 64, true⟩ ⟨spData, 0, 0, false⟩ ∧
    (fnEcdsaSign.early true (fr.reg 22) 32 0).2 = false ∧ s.lanesOk = true ∧ s.drbgOk = true ∧
    ∃ k v s', KeyUse s fr 9 (ecNeed 0x0401 2 18) false (fun _ => none) k v s' ∧
      (fnEcdsaSign.plan (some (k.alg, k.material)) (fr.reg 22) [] []).out = 64 := by
  refine ⟨by simp [LaneForm], rfl, ⟨⟨by decide, by decide, by decide⟩, ⟨by decide, by decide⟩, rfl, by decide⟩, by decide, by decide, by decide, _, _, _, ⟨rfl, rfl, by decide, rfl, rfl⟩, by decide⟩

theorem witness_lane_bare : let fr := engFr .empty 16 8 1 (8 * 2 ^ 16)
    let s := on (fr.setHnd 1 .empty) live
    fr.hnd 0 = .empty ∧ fnModexp.bare.isSome = true ∧
    LaneBuffers s fr fnModexp ⟨spData, 0, 16, false⟩ ⟨spData, 0x4000, 8, true⟩ ⟨spData, 0x8000, 1, false⟩ ∧
    fnModexp.early false (fr.reg 22) 16 1 = (8, false) ∧ (fnModexp.plan none (fr.reg 22) (zeros 16) [1]).out = 8 := by
  refine ⟨by decide, by decide, ⟨⟨by decide, by decide, by decide⟩, ⟨by decide, by decide⟩,
    ⟨by decide, by decide, by decide⟩, by decide⟩, by decide, by decide⟩

/-- LaneOutcomes: a plan whose second rule fails, and the sizes at each curve and parameter set. -/
theorem witness_rules : ∃ post, [(true, Status.tagFail), (false, .operandRange)] =
    [(true, Status.tagFail)] ++ (false, Status.operandRange) :: post ∧ ∀ q ∈ [(true, Status.tagFail)], q.1 = true :=
  ⟨[], rfl, by decide⟩

theorem test_sizes : [0, 1, 2].map (fun p => (fnEncaps p |>.plan none 0 [] []).out) = [800, 1120, 1600] ∧
    (fnEcdh.plan (some (0x0403, [])) 0 (zeros 133) []).bad = false := by decide +kernel

/-- KeyGeneration: the second handle in g23, an operand slot to retain. -/
theorem witness_keygen : let fr := engFr (.operand 3) 0 133 0 (256 * 3)
    let s := on fr live
    (fr.reg 23).toNat = 16 + (1 : BitVec 4).toNat ∧ fr.hnd 1 = .operand 3 ∧
    s.buffer fr (fr.reg 18) (fr.reg 19).toNat true = some ⟨spData, 0x4000, 133, true⟩ ∧ s.lanesOk = true ∧
    (match retainSlot fr.uid 3 s with | .ok _ => true | .error _ => false) = true ∧
    live.active.enables.getLsbD 20 = true :=
  ⟨by decide, by decide, by decide, by decide, by decide +kernel, by decide⟩

/-- RandomCardsAndCopies: a channel under its grant and without, a card volume, a window. -/
theorem witness_random_cards :
    let fr := ofApp ((engFr (.volume 1021) 4096 16384 0 0).setHnd 2 (.channel 0))
    let s := app fr live
    fr.hnd 2 = .channel 0 ∧ s.granted 0 fr 5 0 (some 0) = true ∧ live.granted 0 fr 5 0 (some 0) = false ∧
    s.buffer fr (fr.reg 18) (fr.reg 19).toNat true = some ⟨spData, 0x4000, 16384, true⟩ ∧
    s.cardVolume 1021 = some 1 ∧ s.buffer fr (fr.reg 16) 4096 true = some ⟨spData, 0, 4096, true⟩ ∧
    s.granted 0 fr 4 1021 (some 0) = true ∧
    ({ live with drbg := ⟨false, false, false, 0, false⟩ } : State).drbgOk = false := by decide

theorem witness_window_copy :
    let fr := { (frame .j [0, 0, 0, 0, 0, 0, 0, 0, 0, 0, 0, 0, 0, 0, 0, 0x40000000, 64, 0x40]).setHnd 1 (.window 2) with
      windows := (Vector.replicate 16 none).set 2 (some ⟨0x1000, 0x80, true, true⟩) }
    vget fr.windows 2 none = some ⟨0x1000, 0x80, true, true⟩ ∧ (fr.reg 18).toNat + (fr.reg 17).toNat ≤ 0x80 ∧
    onChip (on fr live) fr (fr.reg 16) 64 true = some ⟨spData, 0, 64, true⟩ ∧
    (on fr live).hazard fr.uid [⟨spData, 0, 64, true⟩, ⟨spWindow 2, 0x40, 64, false⟩] = false := by decide

/-! ### Hypotheses met: engines, the Press, time, the Rind -/

/-- A job of frame 0's token 3. -/
def someJob (segs : Nat) : Job := { Job.base (.token 0 0 7 3) 1 (.frame 0 0) 0x0001 with id := 4, segs := segs, estT := 2500000 }

def unitRuns (j : Job) : Sched := { Sched.empty with jobs := [j], runs := [⟨5, j.id, 0⟩] }

/-- EngineEnds: the last and an earlier segment on unit 5, a compare, a lane job, a short job that may run beside it. -/
theorem witness_units :
    (unitRuns (someJob 1)).unitJob 5 = some (someJob 1, 0) ∧ (someJob 1).segs ≤ (someJob 1).ended + 1 ∧
    (someJob 2).ended + 1 < (someJob 2).segs ∧ (someJob 2).stop = false ∧ 2000000 ≤ (someJob 1).estT ∧
    [{ someJob 1 with lane := some 1 }].find? (fun x => x.lane == some 1) = some { someJob 1 with lane := some 1 } ∧
    (someJob 1).faults < 2 ∧ 2 ≤ ({ someJob 1 with faults := 2 } : Job).faults := by decide

theorem witness_short_job : ∃ x w, wrrPick Wrr.full
    (({ live with eng := { live.eng with lanes := { unitRuns (someJob 1) with
      jobs := [someJob 1, { someJob 1 with id := 9, estT := 10, stream := .session 3 }] } } } : State).shortFor 5 (someJob 1)) = some (x, w) :=
  ⟨_, _, rfl⟩

theorem witness_outcome : (someJob 1).fin = .plain ∧ (someJob 1).streamed = false ∧ Status.tagFail.isOk = false ∧
    ({ someJob 1 with scrub := 16, outs := [(.host 0, [1])] } : Job).outs = [(.host 0, [1])] := by decide

theorem witness_outcome_frame : let fr := { frame .a [] with wait := some (3, 1, 2) }
    (on fr live).frame 0 (0 : Fin 4) = some fr ∧ fr.wait = some (3, 1, 2) ∧ fr.waitClose = false ∧
    (frame .a []).wait = none ∧ (frame .a []).exiting = none ∧ 8 ≠ fr.uid := ⟨rfl, rfl, by decide, by decide, by decide, by decide⟩

/-- PressCommit: a press that commits, an empty one, one a condition stops, one under debug. -/
def aPress (items : List PItem) (conds : List (Nat × Word)) : Press :=
  { (default : Press) with items := items, conds := conds, len := 64, origin := .none, core := 8 }

/-- Cellar bank 0 has retired. -/
def bankGone (s : State) : State := { s with cellar := { s.cellar with retiredBanks := [0] } }

def pressing (p : Press) (s : State) : State := { s with press := { s.press with queue := [p] } }

theorem witness_press_commits : let s := pressing (aPress [.ctrAdd 3 1] []) live
    s.awake = true ∧ s.nextPress = some (aPress [.ctrAdd 3 1] []) ∧ s.press.log.length < 2 ∧
    pressFails s (aPress [.ctrAdd 3 1] []) = none := by decide

theorem witness_press_fails : pressFails (pressing (aPress [] [(3, 1)]) live) (aPress [] [(3, 1)]) ≠ none ∧
    pressFails (pressing (aPress [] []) live) (aPress [] []) = none ∧
    ({ live with lc := { live.lc with debug := true } } : State).debugBars = true ∧
    ({ live with press := { live.press with half0 := true, half1 := true } } : State).ringOk = false ∧
    live.bankRetired 0 = false ∧ (bankGone live).bankRetired 0 = true := by decide +kernel

theorem witness_apply : live.counter 1023 = some 0 ∧ live.updateCounter = some 0 ∧
    ({ live with press := { live.press with log := [⟨64, 1, [], 0, 8, 0⟩] } } : State).press.log = [⟨64, 1, [], 0, 8, 0⟩] := by decide

theorem test_press_write : let t := applyItem 1 live (.write 7 (2 ^ 22 - 1) [5])
    ((t.part 7).mem = [(2 ^ 22 - 1, 5)] ∧ (t.part 6).mem = []) := by decide

theorem test_counter_add : (applyItem 1 live (.ctrAdd 3 (2 ^ 32))).counter 3 = some (2 ^ 32) := by decide

/-- RecordsBrineScrubDrbg: each state of the two copies, hold-up mode, a row of the last bank. -/
theorem witness_copies :
    (TwoCopy.zero.read = some 0 ∧ TwoCopy.zero.ok0 = true ∧ TwoCopy.zero.ok1 = true ∧ TwoCopy.zero.seq1 = TwoCopy.zero.seq0 + 1) ∧
    (let t : TwoCopy := ⟨0, 5, true, 0xFFFFFFFF, 4, true⟩; t.seq0 = t.seq1 + 1 ∧ t.read = some 5 ∧ t.cut.read = some 5) ∧
    (⟨7, 5, true, 5, 4, true⟩ : TwoCopy).read = none ∧ (⟨0, 5, false, 1, 6, true⟩ : TwoCopy).read = some 6 := by decide

theorem witness_checkpoint : let s := { live with brine := { live.brine with mode := .holdup } }
    s.awake = true ∧ s.brine.mode = .holdup := by decide

/-- An entry 3 uses after its durable copy. -/
def lagEntry : Entry := ⟨0, 5, 100, 8, 4, 3, Copies.both ⟨97, 9, 4⟩⟩

/-- A counter entry and an open book whose durable copies lag the Brine. -/
def lagging : State :=
  { live with
    cellar := { live.cellar with slots :=
      [⟨5, 1, 0x0103010000800001, 9, .service, 4, 0, 0, none, 0, List.replicate 32 7, true⟩] }
    brine := { live.brine with mode := .holdup, entries := [lagEntry] }
    books := live.books.set 63 { Book.zero with
      st := .opened, n := 25, arch := 255, gen := 1, head := { Head.zero with c := 12 }, durable := Copies.both Head.zero } }

theorem witness_reload : let e := lagEntry
    lagging.awake = true ∧ lagging.debugBars = false ∧ lagging.rind.guard = false ∧ lagging.entry 5 = some e ∧
    ((lagging.slot 5).any fun k => k.gen == 4 && k.inBrine) = true ∧ e.dur.read = some ⟨97, 9, 4⟩ ∧
    (lagging.book 63).durable.read = some Head.zero ∧ (lagging.book 63).st ≠ .halted := by decide +kernel

theorem test_reload : let t := next (exec (.brineCheckpoint [.entry 5, .head 63]) lagging)
    (t.entry 5).map (fun e => (e.inv, e.uses)) = some (97 + 2 ^ 20, 0) ∧ (t.book 63).head.c = 2 ^ 20 ∧
    (t.book 63).head.gap = true := by decide +kernel

theorem witness_scrub_row : live.scrubRow = (0 : BitVec 16).toNat ∧ live.bankRetired ((0 : BitVec 16).toNat / 16384) = false ∧
    (1 : BitVec 16).toNat ≠ live.scrubRow ∧ live.bankRetired (live.cellar.scrubAt / 16384) = false ∧
    (bankGone live).bankRetired 0 = true ∧ lagging.brine.mode = .holdup ∧ lagging.bankRetired 0 = false := by decide +kernel

theorem witness_scrub : live.bankRetired ((0xFFFF : BitVec 16).toNat / 16384) = false ∧ live.drbgOk = true ∧
    live.drbg.seedReady = true ∧ (if (1 : Fin 2) = 0 then live.drbg.noise0 else live.drbg.noise1) = true := by decide

/-- TimeBaseEvents: an alarm of the next second, a qualified and an unqualified gate, a slew within the second. -/
theorem witness_time : let t := { live.time with qualified := true, prevGate := some 5, alarm := 1, r := 5000000000, rate := 1000 }
    t.alarm ≠ 0 ∧ t.alarm ≤ t.t / second + 1 ∧ t.prevGate = some 5 ∧ (1005 - 5 : Int).natAbs ≤ 1000 ∧
    (1005 : Int).natAbs ≤ 100000 ∧ live.time.qualified = false ∧ live.time.refTripped = false ∧ live.power.st ≠ .off ∧
    live.ringOk = true ∧ live.debugBars = false ∧ live.rind.guard = false ∧ live.syncFollower = false ∧
    ({ t with pps := true } : TimeBase).pps = true := by decide

theorem witness_slew : let t := { live.time with r := 5, rate := 1000 }
    t.r ≠ 0 ∧ t.rate ≠ 0 ∧ (t.t + (t.r.natAbs / 1000000000 * 1000000 / t.rate + t.r.natAbs / 1000000000)) / second =
      t.t / second := by decide

/-- RindEvents: a class of each tier that is sensed and not tripped. -/
def tiered (t : Byte) (s : State) : State :=
  { s with active := { s.active with tamper := { s.active.tamper with tiers := List.replicate 16 t } } }

theorem witness_trip : [1, 2, 3].all (fun t => let s := tiered (BitVec.ofNat 8 t) live
    s.senses 0 0 && (s.tierOf 0 == t) && decide ((0 : Fin 13) ∉ s.rind.tripped)) = true ∧
    live.awake = true ∧ live.rind.guard = false := by decide

/-- RindEvents: a class that is not sensed, one that is tripped already, and the rate monitor below and at its guard
count. -/
theorem witness_trip_forms : let s : State := { live with rind := { live.rind with tripped := [9] } }
    s.senses 11 0 = false ∧ s.senses 9 1 = true ∧ s.tierOf 9 ≠ 0 ∧ (9 : Fin 13) ∈ s.rind.tripped ∧
    s.senses 10 0 = true ∧ s.tierOf 10 ≠ 0 ∧ (10 : Fin 13) ∉ s.rind.tripped ∧ 63 < s.active.tamper.guardCount ∧
    s.active.tamper.guardCount ≤ 64 ∧ 15 < s.active.tamper.alertCount ∧ s.active.tamper.alertCount ≤ 16 := by decide

theorem witness_wipe : ({ live with rind := { live.rind with wiping := true } } : State).rind.wiping = true ∧
    (8 : Fin 13) ≠ 9 := by decide

/-! ### Hypotheses met: events and logs -/

/-- Source 300 asserted at priority 5 for the host, in service with `act`; interrupts let through. -/
def evState (act : Bool) : State :=
  { live with ev := { live.ev with
      sources := live.ev.sources.set 300 ⟨0x90000005, true, true, act, false⟩, gdisHost := false, gdisT0 := false } }

theorem witness_sources : (evState false).ev.sources.length = 512 ∧ (evState false).ev.groups.length = 64 ∧
    (evState false).hostReach = true ∧ (evState false).supervisorRuns = true := by decide +kernel

theorem witness_claim : (evState false).ev.gdisHost = false ∧ ((evState false).src 300).asserted = true ∧
    ((evState false).src 300).target = 9 ∧ 0 < ((evState false).src 300).priority ∧
    (evState false).ev.sources.all (fun x => !(x.asserted && x.target == 9 && decide (5 ≤ x.priority)) ||
      x == ⟨0x90000005, true, true, false, false⟩) = true ∧
    live.ev.sources.all (fun x => !x.asserted) = true ∧ live.ev.gdisHost = true := by decide +kernel

theorem test_claim : (next (exec (.evClaim true) (evState false))).hostRead = 300 := by decide +kernel
theorem test_claim_none : (next (exec (.evClaim true) (evState true))).hostRead = 0 := by decide +kernel

theorem witness_signal : let s := { evState false with ev := { (evState false).ev with
      sources := (evState false).ev.sources.set 301 ⟨0x90020003, false, false, false, false⟩ } }
    s.ev.sources.length = 512 ∧ s.awake = true ∧ (s.src 301).priority ≠ 0 ∧ (s.src 301).grouped = false ∧
    (s.src 301).act = false ∧ (s.src 301).target = 9 ∧ s.ev.gdisHost = false ∧ s.link.d3hot = false ∧
    (s.src 301).vector ∉ s.msix.disarmed ∧ s.vecMasked (s.src 301).vector = true ∧
    ({ s with msix := { s.msix with enable := true, table := [⟨1, 0, 0, false⟩] } } : State).vecMasked 1 = false ∧
    1 ∈ ({ s with msix := { s.msix with disarmed := [1] } } : State).msix.disarmed := by decide +kernel

/-- EventCompletion: the source in service, one of no service, source 0; both sides of DISABLE; a doorbell of 320. -/
theorem witness_complete : let s := evState true
    (300 : BitVec 32).toNat % 512 ≠ 0 ∧ (s.src 300).target = 9 ∧ (s.src 300).act = true ∧
    (512 : BitVec 32).toNat % 512 = 0 ∧ (s.src 301).act = false ∧ s.ev.gdisHost = false ∧
    (1 : BitVec 32).getLsbD 0 = true ∧ live.ev.gdisHost = true ∧ live.ev.gdisT0 = true ∧
    320 ≤ (320 : BitVec 64).toNat % 512 ∧ (319 : BitVec 64).toNat % 512 < 320 := by decide +kernel

theorem witness_resample : let s := evState true
    (s.src 300).target = 9 ∧ s.condOf 300 = none ∧ s.condOf 275 = some false ∧
    (⟨0x90000105, false, false, true, true⟩ : Source).level = true ∧ (s.src 300).level = false ∧
    (s.src 300).priority ≠ 0 ∧ (⟨0x90000100, false, false, true, true⟩ : Source).priority = 0 := by decide +kernel

theorem test_complete : let t := next (exec (.evComplete true 300) (evState true))
    (t.src 300).act = false ∧ t.ev.stat.badcomp = false := by decide +kernel
theorem test_complete_bad : (next (exec (.evComplete true 301) (evState true))).ev.stat.badcomp = true := by decide +kernel

/-- EventConfiguration: a write that breaks a rule and one that does not; a threshold of 0; a running group. -/
theorem witness_config : let s := evState false
    srcWriteBad 300 0x00000010 s = true ∧ srcWriteBad 302 3 { s with ev := { s.ev with
      sources := s.ev.sources.set 302 ⟨0x90000005, false, false, false, false⟩ } } = false ∧
    (0x0000001F : BitVec 32).extractLsb' 8 16 = 0 ∧ (0x0000641F : BitVec 32).extractLsb' 8 16 ≠ 0 ∧
    (s.groupTarget 3 = 9 ∨ s.groupTarget 3 = 15) ∧
    ({ s with ev := { s.ev with groups := s.ev.groups.set 3 ⟨0x641F, some 0x0A1F, 2, true⟩ } } : State).group 3 =
      ⟨0x641F, some 0x0A1F, 2, true⟩ ∧
    (⟨0x641F, some 0x0A1F, 2, true⟩ : Group).next = some 0x0A1F ∧ (⟨0x641F, none, 0, false⟩ : Group).next = none := by
  decide +kernel

/-- A write of the supervisor to a source of its own that breaks no rule, and one that does. -/
theorem witness_sup_write : let s := { live with ev := { live.ev with
      sources := live.ev.sources.set 321 ⟨0x00000005, false, false, false, false⟩ } }
    s.ev.sources.length = 512 ∧ s.ev.groups.length = 64 ∧ s.supervisorRuns = true ∧ (s.src 321).target = 0 ∧
    supWriteBad 321 3 s = false ∧ (0x00020003 : BitVec 32).extractLsb' 17 11 ≠ 0 ∧ ((evState false).src 300).target = 9 := by decide +kernel

/-- Logs: a record like the last within the second, one of another event, a full log. -/
def aRec (e : Byte) (t : Nat) : LogRec := ⟨1, 0, e, 0, 0, 0, t, 0⟩

theorem witness_log : let l : RLog := ⟨[aRec 1 0], 1, 0, false⟩
    let full : RLog := ⟨[aRec 1 0, aRec 2 0], 2, 0, false⟩
    (l.recs.length ≤ 2 ∧ l.recs.getLast? = some (aRec 1 0) ∧ (aRec 1 5).t < (aRec 1 0).t + second) ∧
    (aRec 1 0).event ≠ (aRec 2 0).event ∧ (l.w - l.r).toNat < 2 ∧ 2 ≤ (full.w - full.r).toNat := by decide

theorem test_log_overflow : let l := (⟨[aRec 1 0, aRec 2 0], 2, 0, false⟩ : RLog).write 2 (aRec 3 0)
    l.ovf = true ∧ l.r = 1 ∧ l.w = 3 := by decide

/-! ### Hypotheses met: the host link and orders -/

/-- A queue pair of depth 4 whose submission queue holds one entry. -/
def aQp : Qp := ⟨3, 0x10000, 0x20000, 4, 4, 1, 0, 1, 0, 0, true, 0, false, none, [], false, false, false⟩

/-- A held order on queue pair 3. -/
def anOrder (k : OKind) (body : Bytes) (descs : List Desc) (session : BitVec 32) : Order :=
  ⟨5, 3, k, false, session, 9, 0, fit body 40, descs, .held, false, false, none⟩

def ordered (o : Order) (s : State) : State := { s with qps := [{ aQp with reserved := 1 }], orders := [o] }

/-- QueueRegisters: each refusal of a creation, a deletion, the doorbells at the ends of their rings. -/
theorem witness_queue_pair : let s := { live with qps := [aQp], hl := ⟨0x1000, 0x2000, 0, 0, false, false, 0⟩ }
    s.hostReach = true ∧ s.hl.busy = false ∧ s.qp? 3 = some aQp ∧ s.qp? 4 = none ∧ s.liveQp 3 = some aQp ∧
    aQp.deleting = false ∧ aQp.gathered = [] ∧ (∀ o ∈ s.orders, o.qp ≠ 3) ∧
    s.hl.sqBase.toNat % 4096 = 0 ∧ s.hl.sqBase.toNat + 64 * depthOf 0 ≤ 2 ^ 64 ∧
    ((3 : BitVec 16).toNat < aQp.sqD) ∧ aQp.sqD ≤ (4 : BitVec 16).toNat ∧
    ((0 : BitVec 16).toNat + aQp.cqD - aQp.cqHead) % aQp.cqD ≤ aQp.used ∧
    aQp.used < ((1 : BitVec 16).toNat + aQp.cqD - aQp.cqHead) % aQp.cqD := by decide

theorem witness_queue_refused :
    ({ live with hl := { live.hl with busy := true } } : State).hl.busy = true ∧
    ({ live with hl := { live.hl with qcfg := 1 } } : State).hl.qcfg.toNat % 65536 = 1 ∧
    ({ live with hl := { live.hl with sqBase := 0x1040 } } : State).hl.sqBase.toNat % 4096 ≠ 0 ∧
    live.liveQp 3 = none := by decide

theorem test_create_delete : let s := { live with hl := ⟨0x1000, 0x2000, 0x00010000, 0, false, false, 0⟩ }
    (next (exec (.queueCreate 3 1) s)).hl.result = 2 := by decide

/-- RegisterAccess: vector 5 pending and masked, and a device whose host registers can be reached. -/
theorem witness_registers : let s := { live with
      msix := ⟨true, false, [⟨5, 0, 0, true⟩], [5], [5]⟩
      ev := { live.ev with sources := live.ev.sources.set 300 ⟨0x900A0005, true, true, false, false⟩, gdisHost := false } }
    s.hostReach = true ∧ (5 : Nat) ∈ s.msix.pba ∧ s.msix.enable = true ∧ s.msix.funcMask = false ∧
    s.ev.gdisHost = false ∧ s.vecAsserted 5 = true ∧ live.vecAsserted 5 = false ∧ live.msix.pba = [] ∧
    (0x40000002 : BitVec 32).toNat / 2 ^ 30 = 1 ∧ (0xBFFFFFFF : BitVec 32).toNat / 2 ^ 30 = 2 := by decide +kernel

/-- OrderFetch: a CALL entry fetched alone, one with extensions to come, a bad one, a gathered queue pair. -/
def callEntry (flags : Nat) : Bytes := le 1 2 ++ le flags 2 ++ zeros 4 ++ le 9 8 ++ zeros 48

theorem witness_fetch :
    let s := { live with qps := [aQp], hostMem := live.hostMem.write 0x10000 (callEntry 0) }
    s.qp? 3 = some aQp ∧ s.fetchable aQp = true ∧ (fld (s.hostMem.read 0x10000 64) 2 2 % 2 = 1) = False ∧
    fetchCheck s [callEntry 0] = none ∧ s.heldOf 3 < 8 ∧ aQp.hasSlot = true ∧
    fld (callEntry 1) 2 2 % 2 = 1 ∧ fld (callEntry 1) 0 2 = 1 ∧
    formatOk [callEntry 8] = false ∧ fetchCheck s [callEntry 8] = some .badFormat ∧
    s.fetchable { aQp with halted := true } = false ∧
    ({ aQp with gathered := [callEntry 1] } : Qp).gathered ≠ [] ∧ fld (le 0x000E 2 ++ le 1 2 ++ zeros 60) 0 2 = 0x000E := by
  decide +kernel

/-- OrderFetch: no order has the next number; OrderAdmission: the host link has no lane group left. -/
theorem witness_next_number : (∀ o ∈ ({ live with qps := [aQp] } : State).orders, o.uid ≠ live.nextUid) ∧ live.linkUp = true ∧
    (setChan 54 { Chan.fresh with retired := true } (setChan 55 { Chan.fresh with retired := true } live)).linkUp = false := by
  decide +kernel

theorem witness_late_deadline : let e := le 1 2 ++ zeros 6 ++ le 9 8 ++ List.replicate 8 0xFF ++ zeros 40
    formatOk [e] = true ∧ fld e 16 8 = 2 ^ 64 - 1 := by decide +kernel

theorem witness_deadline : let o := { anOrder .call [] [] 0 with deadline := 100 }
    (ordered o live).orders.find? (fun o => o.qp == 3 && o.tag == 9 && o.st == .held && o.deadline != 0) = some o ∧
    live.orders.find? (fun o => o.qp == 3 && o.tag == 9 && o.st == .held && o.deadline != 0) = none := by decide

/-- The state in which queue pair 3 has had its turn. -/
def turned (s : State) : State := ((s.chosen 3).map (·.2)).getD s

/-- Admissible orders, and those the checks refuse. -/
def Admits (o : Order) (s : State) : Prop := Admissible (ordered o s) 3 o (turned (ordered o s))

theorem witness_call : Admits (anOrder .call (le 5 4) [] 0) live := ⟨by decide, by decide, by decide, rfl, by decide +kernel⟩
theorem witness_status : Admits (anOrder .admin (le 1 2) [⟨0x1000, 64, 0, 3⟩] 0) live :=
  ⟨by decide, by decide, by decide, rfl, by decide +kernel⟩

theorem witness_refused : let o := anOrder .seal [64] [⟨0, 32, 0, 1⟩, ⟨0x100, 128, 0, 2⟩] 0
    let s := ordered o { live with vault := Vault.holding .issued none }
    s.candidate 3 = some o ∧ s.admitCheck o = some .lifecycle ∧ s.rind.guard = false ∧ o.isAbort = false ∧
    (ordered o { live with rind := { live.rind with guard := true } }).admitCheck o = some .guardActive := by decide

theorem witness_candidates :
    let x := { anOrder .call [] [] 0x1003 with st := .admitted }
    let y := { anOrder .call [] [] 0x1003 with uid := 6 }
    ({ live with orders := [x, y] } : State).candidate 3 = none ∧
    ({ live with orders := [x, { y with fence := true }] } : State).candidate 3 = none ∧
    ({ live with orders := [x, { y with session := 0 }] } : State).candidate 3 = some { y with session := 0 } := by decide

theorem witness_completion : let s := ordered (anOrder .call [] [] 0) live
    (s.order? 5).isSome = true ∧ s.qp? 3 = some { aQp with reserved := 1 } ∧ aQp.haltOwed = none := by decide

theorem test_completion : let t := complete 5 .ok none 7 0 (ordered (anOrder .call [] [] 0) live)
    fld (t.hostMem.read 0x20000 32) 0 8 = 9 ∧ t.orders = [] := by decide +kernel

/-- SessionOrders. -/
def aSession : Session := ⟨3, 1, 3, 77, none, []⟩

theorem witness_open : Admits (anOrder .openS (le 77 8) [] 0) live ∧ live.sessions.length < 4096 ∧ live.storeKey = true :=
  ⟨⟨by decide, by decide, by decide, rfl, by decide +kernel⟩, by decide +kernel, by decide⟩

theorem witness_open_refused : let o := anOrder .openS (le 77 8 ++ le 1 4 ++ le 1024 4) [] 0
    Admits o live ∧ o.num 32 1 = 1 ∧ 1023 < o.num 36 4 := ⟨⟨by decide, by decide, by decide, rfl, by decide +kernel⟩, by decide, by decide⟩

theorem witness_no_room : ¬ ({ live with sessions := List.replicate 4096 aSession } : State).sessions.length < 4096 := by
  show ¬ (List.replicate 4096 aSession).length < 4096
  rw [List.length_replicate]; exact Nat.lt_irrefl _

theorem witness_close_park : let s := { live with sessions := [aSession] }
    Admits (anOrder .closeS [] [] 0x1003) s ∧ s.session 0x1003 = some aSession ∧
    Admits (anOrder .park [] [⟨0x4000, 2112, 0, 2⟩] 0x1003) s ∧ s.deviceCores = true ∧ (∃ key, s.parkKey = some key) :=
  ⟨⟨by decide, by decide, by decide, rfl, by decide +kernel⟩, by decide, ⟨by decide, by decide, by decide, rfl, by decide +kernel⟩, by decide,
    ⟨_, rfl⟩⟩

/-- SessionOrders: the runs of a context, on healthy cores and where the last hash core goes with them. -/
theorem witness_context : let gone : Chan := { Chan.fresh with retired := true }
    let chans := (List.range live.health.chans.length).map fun i =>
      if 17 ≤ i ∧ i < 24 then gone else { Chan.fresh with ops := 10, f1 := some 5, f2 := some 8 }
    let s : State := { live with health := { live.health with chans := chans }, sessions := [aSession] }
    (contextRuns 0 0 live).rind.guard = false ∧ (contextRuns 0 0 live).deviceCores = true ∧
    (contextRuns 0 0 live).storeKey = true ∧ s.deviceCores = true ∧ (contextRuns 1 0 s).rind.guard = false ∧
    (contextRuns 1 0 s).deviceCores = false := by decide +kernel

/-- A blob of this boot with a good tag, and the owner it names: UNPARK accepts it. -/
theorem witness_unpark (key : Bytes) (hk : live.parkKey = some key) :
    ∃ (o : Order) (s : State), s.parkKey = some key ∧ (o.desc 0).len ≤ 2112 ∧ o.kind = .unpark ∧
      parkTag key ((s.hostMem.read (o.desc 0).addr 2112).take 2064) = (s.hostMem.read (o.desc 0).addr 2112).drop 2064 := by
  obtain ⟨blob, hb⟩ : ∃ b, b = zeros 2064 ++ parkTag key (zeros 2064) := ⟨_, rfl⟩
  have hk' : ∀ m, ({ live with hostMem := m } : State).parkKey = live.parkKey := fun _ => rfl
  have hz : (zeros 2064).length = 2064 := List.length_replicate
  have hl : blob.length = 2112 := by
    simp only [hb, List.length_append, hz, parkTag, fit_length]
  have hr : (Mem.write live.hostMem 0x4000 blob).read 0x4000 2112 = blob := by
    have := Mem.read_back (m := live.hostMem) blob (a := 0x4000) rfl
    rwa [hl] at this
  refine ⟨anOrder .unpark (le 77 8) [⟨0x4000, 2112, 0, 1⟩] 0, { live with hostMem := live.hostMem.write 0x4000 blob },
    (hk' _).trans hk, Nat.le_refl _, rfl, ?_⟩
  have h1 : blob.take 2064 = zeros 2064 := by rw [hb]; exact List.take_left' hz
  have h2 : blob.drop 2064 = parkTag key (zeros 2064) := by rw [hb]; exact List.drop_left' hz
  have h3 := congrArg (fun b => parkTag key (b.take 2064)) hr
  have h4 := congrArg (fun b : Bytes => b.drop 2064) hr
  simp only [h1, h2] at h3 h4
  exact h3.trans h4.symm

theorem witness_unpark_other_boot : ({ live with keys := ⟨none, none, 0, none⟩ } : State).parkKey = none := by decide

/-- FrameAndDataOrders: a resident applet and a free frame; a job; orders refused. -/
def resident5 : State :=
  setCore 0 { Core.idle with resident := [⟨{ (default : Applet) with
    id := 5, entries := [0, 8], codeLen := 64, dataLen := 16, zeroFill := 16, runMs := 10 }, [], false⟩] } live

theorem witness_call_order : let o := anOrder .call (le 5 4 ++ le 1 2) [] 0
    let s := ordered o resident5
    Admissible s 3 o (turned s) ∧ ∃ r, (s.core 0).resident.find? (fun r => r.img.id == o.num 24 4) = some r ∧
      o.num 28 2 < r.img.entries.length ∧ s.freeFrame? 0 = some 0 ∧ s.chanOk 40 = true ∧
      ∀ d x, (s.core d).resident.find? (fun r => r.img.id == o.num 24 4) = some x → x.img = r.img := by
  refine ⟨⟨by decide, by decide, by decide, rfl, by decide +kernel⟩, _, rfl, by decide, by decide, by decide, ?_⟩
  intro d x h
  rcases d with _ | _ | _ | _ | _ | _ | _ | _ | _ | d
  · cases h; rfl
  all_goals cases h

/-- Core 0 takes the order of a resident applet, core 7 a job; an entry the applet has not. -/
theorem witness_core_takes : let s := ordered (anOrder .call (le 5 4 ++ le 1 2) [] 0) resident5
    s.coreTakes 0 (some 5) = true ∧ (ordered (anOrder .run (le 4 4) [⟨0x4000, 65536, 0, 1⟩] 0) live).coreTakes 7 none = true ∧
    ∃ a, s.residentImage 5 = some a ∧ a.entries.length ≤ 2 := ⟨by decide +kernel, by decide +kernel, _, rfl, by decide +kernel⟩

theorem witness_call_unknown : let o := anOrder .call (le 6 4) [] 0
    Admits o resident5 ∧ ∀ d < 8, ((ordered o resident5).core d).resident.find? (fun r => r.img.id == o.num 24 4) = none :=
  ⟨⟨by decide, by decide, by decide, rfl, by decide +kernel⟩, by decide⟩

theorem witness_run_order : let o := anOrder .run (le 4 4 ++ le 65532 4) [⟨0x4000, 65536, 0, 1⟩] 0
    let s := ordered o live
    Admissible s 3 o (turned s) ∧ 4 ≤ o.num 24 4 ∧ o.num 24 4 % 4 = 0 ∧ s.freeFrame? 7 = some 0 ∧ s.chanOk 47 = true ∧
    ∃ o' : Order, Admits o' live ∧ o'.kind = .run ∧ o'.num 24 4 < 4 :=
  ⟨⟨by decide, by decide, by decide, rfl, by decide +kernel⟩, by decide, by decide, by decide, by decide,
    anOrder .run [] [⟨0x4000, 65536, 0, 1⟩] 0, ⟨by decide, by decide, by decide, rfl, by decide +kernel⟩, by decide, by decide⟩

theorem witness_sector : let o := anOrder .sector (le (2 ^ 36 - 1) 8 ++ le 1 4 ++ le 1 1) [⟨0x4000, 4096, 0, 3⟩] 0x1003
    let s := ordered o (withSlot 9 0x0111 0 (zeros 32 ++ List.replicate 32 1)
      { live with sessions := [{ aSession with vol := some 9 }] })
    Admissible s 3 o (turned s) ∧ s.session o.session = some { aSession with vol := some 9 } ∧ s.cardVolume 9 = none ∧
    o.num 24 8 + o.num 32 4 ≤ 2 ^ 36 ∧ ∃ k w s', (setOrder { o with st := .admitted } s).slotCheck .host 9 (needXts 0) o.session = .ok k ∧
      (setOrder { o with st := .admitted } s).spent k = none ∧
      vatCheck (setOrder { o with st := .admitted } s) k.cmLevel false = none ∧ xtsHalves k = false ∧
      drawUse k false (setOrder { o with st := .admitted } s) = .got k w s' :=
  ⟨⟨by decide, by decide, by decide, rfl, by decide +kernel⟩, by decide, by decide, by decide, _, _, _, rfl, by decide, by decide,
    by decide, rfl⟩

theorem witness_card_sector : let o := anOrder .sector (le 0 8 ++ le 1 4 ++ le 2 1) [⟨0x4000, 4096, 0, 3⟩] 0x1003
    let k : CardCh := { CardCh.absent with present := true, st := .identified, headerOk := true, m := 64
                                           vol := { VolRec.none with state := 3, role := 2, origin := .service, sectors := 8 } }
    let s := ordered o { live with sessions := [{ aSession with vol := some 1021 }], cards := { live.cards with ch := live.cards.ch.set 1 k } }
    Admissible s 3 o (turned s) ∧ s.cardVolume 1021 = some 1 ∧ (s.card 1).queue.length < 64 ∧ o.num 36 1 = 2 :=
  ⟨⟨by decide, by decide, by decide, rfl, by decide +kernel⟩, by decide, by decide, by decide⟩

theorem witness_seal : let o := anOrder .seal [63] [⟨0x100, 32, 0, 1⟩, ⟨0x200, 128, 0, 2⟩] 0
    let s := ordered o (withSlot 9 0x0701 8 (zeros 64) { live with
      books := live.books.set 63 { Book.zero with st := .opened, n := 16, slot := 9, gen := 1 } })
    Admissible s 3 o (turned s) ∧ o.num 24 1 = 63 ∧ 0 < (o.desc 0).len ∧ s.syncFollower = false ∧ sealRefused s 63 = none ∧
    sealWaits s 63 = false ∧ (s.book 63).waiting = [] ∧ sealRefused s 0 = some .operandRange :=
  ⟨⟨by decide, by decide, by decide, rfl, by decide +kernel⟩, by decide, by decide, by decide, by decide, by decide, by decide, by decide⟩

set_option maxRecDepth 20000 in
/-- The clause of the last hash core: it is retired by the fault, without GUARD. -/
theorem witness_seal_cores : let o := anOrder .seal [63] [⟨0x100, 32, 0, 1⟩, ⟨0x200, 128, 0, 2⟩] 0
    let gone : Chan := { Chan.fresh with retired := true }
    let chans := (List.range live.health.chans.length).map fun i =>
      if 17 ≤ i ∧ i < 24 then gone else { Chan.fresh with ops := 10, f1 := some 5, f2 := some 8 }
    let s := ordered o (withSlot 9 0x0701 8 (zeros 64) { live with
      health := { live.health with chans := chans }
      books := live.books.set 63 { Book.zero with st := .opened, n := 16, slot := 9, gen := 1 } })
    let s1 := wakeOwn true 8 (ownFaults true false 1 (setOrder { o with st := .admitted } s))
    sealRefused s 63 = none ∧ s1.rind.guard = false ∧ s1.keyedOk = false := by decide

set_option maxRecDepth 20000 in
/-- A faulted run and two segments of 4,080 and 20 bytes on core H0 (R216, R230). -/
theorem test_seal_segments : let s := ownSegs true 1 (digestSegs 136 4100) (ownFaults true false 1 live)
    (s.chan 16).ops = 3 ∧ (s.chan 16).faults = 1 ∧ s.rind.detections.length = 1 := by decide

/-- AdminFunctions: each function's order, and the targets of ABORT. -/
theorem witness_admin : Admits (anOrder .admin (le 2 2) [⟨0x1000, 0, 0, 3⟩] 0) live ∧
    Admits (anOrder .admin (le 3 2) [⟨0x1000, 0, 0, 3⟩] 0) live ∧
    Admits (anOrder .admin (le 3 2) [⟨0x1000, 32, 0, 3⟩] 0) { live with
      vault := Vault.holding .retired none, lc := { live.lc with retirement := some (zeros 32) } } ∧
    Admits (anOrder .admin (le 5 2) [⟨0x1000, 64, 0, 1⟩, ⟨0x2000, 4851, 0, 2⟩] 0) live :=
  ⟨⟨by decide, by decide, by decide, rfl, by decide +kernel⟩, ⟨by decide, by decide, by decide, rfl, by decide +kernel⟩,
    ⟨by decide, by decide, by decide, rfl, by decide +kernel⟩, ⟨by decide, by decide, by decide, rfl, by decide +kernel⟩⟩

def bookReadAt (sub b : Nat) (s : State) : State := { s with hostMem := s.hostMem.write 0x1000 (le sub 1 ++ le b 1) }

theorem witness_book_read : let o := anOrder .admin (le 6 2) [⟨0x1000, 144, 0, 1⟩, ⟨0x2000, 4800, 0, 2⟩] 0
    [0, 1, 2, 3].all (fun sub => let s := ordered o (bookReadAt sub 63 live)
      s.awake && !s.changing && (s.candidate 3 == some o) && (s.admitCheck o == none) && (s.bookSub o == sub) &&
      zeroAt (s.hostMem.read o.inp.addr 144) 2 6 && (fld (s.hostMem.read o.inp.addr 144) 1 1 == 63)) = true ∧
    (ordered o (bookReadAt 1 64 live)).bookSub o = 1 := by decide

/-- A certificate and a place that have gone bad, before the read and at it. -/
theorem witness_bad_read : let s : State := { live with lc := { live.lc with cert := some (zeros 9131) } }
    (groupRead .uncorrectable certArea.1 s).badRange certArea.1 s.certOrRequest.length = true ∧
    (groupRead .good certArea.1 s).badRange certArea.1 s.certOrRequest.length = false ∧
    (ownSegs true 1 1 (ownFaults true true 1 live)).rind.guard = false ∧
    (ownSegs true 1 1 (ownFaults true true 1 live)).keyedOk = true := by decide +kernel

theorem witness_book_records : ({ Book.zero with place0 := some (List.replicate 4800 1) } : Book).pressedWheel
      (fld (List.replicate 16 1) 8 8) ≠ none ∨ Book.zero.pressedWheel 1 = none := by
  right; decide

theorem witness_abort : let a := { anOrder .admin (le 4 2 ++ zeros 6 ++ le 11 8) [] 0 with uid := 8, tag := 10 }
    let x := { anOrder .call [] [] 0 with tag := 11 }
    let s := { live with qps := [aQp], orders := [x, a] }
    a.isAbort = true ∧ s.awake = true ∧ s.orders.find? (fun o => o.qp == 3 && o.st == .held && o.isAbort) = some a ∧
    s.admitCheck a = none ∧ s.orders.find? (fun o => o.qp == a.qp && o.tag == BitVec.ofNat 64 (a.num 32 8) && o.uid != a.uid) =
      some x ∧ ({ s with rind := { s.rind with guard := true } } : State).admitCheck a = some .guardActive := by decide

/-- OfficerOrders: an unsigned retirement of a part no officer set is installed on, named through the twin. -/
def retireEnv : Bytes := ascii "JXOD" ++ le 1 2 ++ le 0 2 ++ le 56 4 ++ le 8 4 ++ List.replicate 16 3 ++ zeros 16 ++
  le 0x10 2 ++ le 7 1 ++ le 1 1 ++ zeros 4

def issuedLead : State := { live with
  vault := Vault.holding .issued (some (zeros 32))
  welt := { live.welt with role := .lead, mode := .sync, twin := List.replicate 16 3 } }

theorem witness_officer_order : let o := anOrder .admin (le 0x20 2) [⟨0x1000, 56, 0, 1⟩] 0
    let s := ordered o { issuedLead with hostMem := issuedLead.hostMem.write 0x1000 retireEnv }
    Admissible s 3 o (turned s) ∧ s.officerBusy = false ∧ rowType (s.bodyType o) = 0x10 ∧ s.syncFollower = false ∧
    s.staleFollower = false ∧ lcChangeBody.device (envBody (o.officer s).env) = true ∧
    envCount (o.officer s).env = 0 ∧ envBefore s lcChangeBody (o.officer s) = none ∧
    envRefused s lcChangeBody (o.officer s) = none := by
  have h : ∀ (a b : Bool), b = true → (!a && !b) = false := by decide
  have hb : let o := anOrder .admin (le 0x20 2) [⟨0x1000, 56, 0, 1⟩] 0
      let s := ordered o { issuedLead with hostMem := issuedLead.hostMem.write 0x1000 retireEnv }
      envBefore s lcChangeBody (o.officer s) = none := by
    intro o s
    unfold envBefore
    rw [h (namesOwn s (o.officer s).env) (s.syncLead && sl (o.officer s).env 16 16 == s.welt.twin) (by decide)]
    decide
  refine ⟨⟨by decide, by decide, by decide, rfl, by decide +kernel⟩, by decide, by decide, by decide, by decide, by decide,
    by decide, hb, ?_⟩
  unfold envRefused
  rw [hb]
  decide

theorem witness_officer_refused : let o := anOrder .admin (le 0x20 2) [⟨0x1000, 56, 0, 1⟩] 0
    let s := ordered o live
    envRefused s officerSetBody (o.officer s) = some .badFormat ∧ rowType (s.bodyType o) = 2 := by decide

/-- PERSONALISE with one officer, whatever identity and verifications are. -/
theorem witness_personalise (hi : issuedLead.identity = zeros 16) (hv : ∀ a b c d, Config.pkVerify a b c d = true) :
    let b := le 1 2 ++ le 1 1 ++ le 1 1 ++ zeros 7460
    firstOf (officersBad issuedLead b) = none ∧ officersLayout 1 b = true := by
  have hl : issuedLead.lanesOk = true := by decide
  refine ⟨?_, by decide +kernel⟩
  have h1 : sl (le 1 2 ++ le 1 1 ++ le 1 1 ++ zeros 7460) 4 16 = zeros 16 := by decide +kernel
  have h2 : (officersIn (le 1 2 ++ le 1 1 ++ le 1 1 ++ zeros 7460)).any (fun o => decide (15 < o.num)) = false := by
    decide +kernel
  have h3 : shared (officersIn (le 1 2 ++ le 1 1 ++ le 1 1 ++ zeros 7460)) = false := by decide +kernel
  have h4 : possession (le 1 2 ++ le 1 1 ++ le 1 1 ++ zeros 7460) = true := by
    simp [possession, Officer.verifies, hv]
  simp only [officersBad, hi, h1, h2, h3, h4, hl]
  decide +kernel

theorem witness_cert : matchesRequest (zeros 9131) (zeros 4410) = true ∧ fld (zeros 9131) 28 4 ≤ 3 ∧
    matchesRequest (1 :: zeros 9130) (zeros 4410) = false ∧ 3 < fld (zeros 28 ++ le 4 4) 28 4 := by decide +kernel

/-- OfficerBodies: the values each body accepts and refuses. -/
theorem witness_bodies : fld [0x10, 0, 7, 1] 2 1 = 7 ∧ fld [0x10, 0, 3, 1] 2 1 = 3 ∧ live.vault.lc = .service ∧
    fld [0x20, 0, 3] 2 1 ≤ 3 ∧ 3 < fld [0x20, 0, 4] 2 1 ∧ fld [0x4A, 0, 63] 2 1 ≤ 63 ∧ 63 < fld [0x4A, 0, 64] 2 1 ∧
    (live.book 63).st = .closed ∧ live.welt.role ≠ .follower ∧ issuedLead.welt.role = .lead ∧ issuedLead.syncLead = true ∧
    ({ live with welt := { live.welt with role := .follower } } : State).welt.granted = false ∧
    (live.active.roles.getD 1 0 = 1 ∨ live.active.roles.getD 1 0 = 2) ∧ live.chanOk 49 = true := by decide

/-- MailboxCommands: each request layout at its longest, a loaned key, the random lengths, TDEA at its limit. -/
def mailReq (n blob : Nat) : Bytes := le n 4 ++ le blob 2 ++ zeros 26 ++ zeros (roundUp blob 8 + n)

theorem witness_mailbox : ({ live with active := { openLast with asinfel := true } } : State).mbReach = true ∧ live.mb.busy = false ∧ reqOk (mailReq 8 0) true true = true ∧
    reqOk (mailReq 32768 0) false false = true ∧ reqData (mailReq 32768 0) = 32768 ∧ reqOk (le 28640 4 ++ zeros 28) true false = true ∧
    reqOk (le 28641 4 ++ zeros 28) true false = false ∧ live.rind.guard = false ∧ mbKnown 0x7FFF = false := by decide +kernel

theorem witness_loan (req : Bytes) (t : Nat) (u : BitVec 16) (m : Bytes) :
    (loanFor (reqBlob req) { live with loaned := [⟨0, blobDigest (reqBlob req), t, u, m, 0, 0, 1⟩] }).toOption.map
      (fun p => (p.1.keyType, p.1.usage, p.1.material)) = some (t, u, m) := by
  simp only [loanFor, List.find?, BEq.rfl]
  rfl

/-! ### Hypotheses met: power, start, cards, the twin, ports -/

theorem witness_power : (State.reset.power.st = .inReset) ∧ live.power.st = .active ∧ live.power.vbat = true ∧
    ({ live with power := { live.power with st := .battery } } : State).power.st = .battery ∧
    ({ live with brine := { live.brine with mode := .holdup } } : State).brine.mode = .holdup ∧ live.debugBars = false ∧
    ({ live with vault := Vault.holding .retired none, lc := { live.lc with wipe := true } } : State).awake = true := by decide

theorem witness_last : State.reset.lasts[(0 : BitVec 2).toNat]? = some (some asinfelLast) ∧ asinfelLast.digestOk = true ∧
    State.reset.lasts[(3 : BitVec 2).toNat]? = some none ∧ (some (3 : BitVec 2)).getD 0 = 3 := ⟨rfl, rfl, rfl, rfl⟩

theorem witness_lifecycle : live.updateCounter = some 0 ∧ live.ringOk = true ∧ live.drbg.noise0 = true ∧
    State.reset.vault.lc = .manufacture ∧
    ({ live with lc := { live.lc with updateCounter := { TwoCopy.zero with ok0 := false, ok1 := false } } } : State).updateCounter = none ∧
    ({ live with lc := { live.lc with lcRecord := some .retired } } : State).lc.lcRecord = some .retired := by decide

/-- LinkAndSleep: each bar of DORMANT and none; a domain that may be switched off; D3hot. -/
theorem witness_dormant : ({ live with sessions := [aSession] } : State).dormantBar = some 1 ∧
    (ordered (anOrder .call [] [] 0) live).dormantBar = some 2 ∧
    ({ live with active := { openLast with dormantOk := false } } : State).dormantBar = some 3 ∧
    issuedLead.dormantBar = some 4 ∧ live.dormantBar = none ∧ live.hostReach = true ∧ live.working = false ∧
    ({ live with eng := { live.eng with vat := unitRuns (someJob 1) } } : State).working = true ∧
    ({ live with link := { live.link with d3hot := true, pmeStatus := true } } : State).link.d3hot = true ∧
    ({ live with power := { live.power with st := .dormant } } : State).rind.latchedTrip = none := by decide

/-- LinkAndSleep: an exit that its wake event asks for, and one with a trip latched. -/
theorem witness_exits : let s : State := { live with power := { live.power with st := .dormant } }
    s.rind.latchedTrip = none ∧ s.ev.wakeExit = false ∧
    ({ s with ev := { s.ev with wakeExit := true } } : State).ev.wakeExit = true ∧
    ({ s with rind := { s.rind with latchedTrip := some 0 } } : State).rind.latchedTrip = some 0 := by decide +kernel

theorem witness_domain : live.awake = true ∧ live.domainIdle 37 = true ∧ live.aboveWarm 37 = true ∧
    (37 : Fin 64) ∉ live.power.domainsOff ∧ live.domainIdle 0 = false := by decide

/-- CardEvents: an empty slot, a card being identified, requests in each phase, with 0, 2 and 3 tries. -/
def aCard (st : CardSt) (q : List CardReq) (mode : Nat) : CardCh :=
  { CardCh.absent with present := true, st := st, mode := mode, queue := q, m := 64 }

def withCard (k : CardCh) : State := setCard 1 k { live with power := { live.power with domainsOff := [] } }

def aReq (kind : CardReqKind) (phase : CardPhase) (tries : Nat) : CardReq :=
  { CardReq.new kind .none 0 2 with phase := phase, tries := tries }

theorem witness_cards : live.sampling = true ∧ (live.card 1).present = false ∧
    cardsOn (withCard (aCard .identifying [] 0)) 1 = true ∧ ((withCard (aCard .identifying [] 0)).card 1).st = .identifying ∧
    ((withCard (aCard .identified [aReq .read .read 2] 3)).card 1).queue = [aReq .read .read 2] ∧
    (aCard .identified [] 3).lowest = false ∧ (aReq .read .read 0).tries < 2 ∧ 3 ≤ (aReq .read .read 3).tries ∧
    (aReq .write .header 0).phase ≠ .queued ∧ (aReq (.erase false) .erase 0).phase = .erase ∧
    (aReq .read .read 0).pos + 1 < (aReq .read .read 0).count := by decide

/-- WeltFrames: a lead and a follower in SYNC that receive the next frame. -/
def linked (role : WRole) (mode : WMode) : State :=
  { live with welt := { live.welt with
      role := role, mode := mode, link := true, lanes := [0], term := 2, rxSeq := 4, secret := some (zeros 32), unacked := [(9, 0x11)] } }

def aFrame (seq term : Nat) (tag : Bool) : Frame :=
  { (default : Frame) with lane := 0, seq := seq, term := BitVec.ofNat 32 term, crcOk := true, tagOk := tag }

theorem witness_frames : Received (linked .follower .sync) (aFrame 4 2 true) ∧ (linked .follower .sync).syncFollower = true ∧
    (linked .lead .sync).syncLead = true ∧ (linked .follower .copying).copies = true ∧
    (linked .lead .sync).welt.unacked.find? (fun u => u.1 == 9) = some (9, 0x11) ∧
    (linked .lead .sync).welt.term < (aFrame 4 3 true).term ∧ (aFrame 3 2 true).seq < (linked .lead .sync).welt.rxSeq ∧
    (inSequence (linked .follower .sync) (aFrame 4 2 true)).ringOk = true ∧
    forwardWaits (.useOf 3) (linked .lead .sync) = false := by
  refine ⟨⟨by decide, by decide, by decide, by decide, by decide, by decide⟩, by decide⟩

/-- A SYNC follower commits its promotion, and no other press of its own (R23, R383). -/
theorem test_promotion : let s := pressing (aPress [.weltPromote] []) (linked .follower .sync)
    s.nextPress = some (aPress [.weltPromote] []) ∧ (applyItem 1 s .weltPromote).welt.role = .lead ∧
    (applyItem 1 s .weltPromote).welt.term = 3 := by decide

theorem witness_follower_press : let s := pressing (aPress [.ctrAdd 3 1] []) (linked .follower .sync)
    s.syncFollower = true ∧ s.nextPress = none := by decide

/-- The record of the example of 12: a write of 600 bytes and an advance take 704 bytes. -/
theorem test_log_record : let items := itemBytes 1 0x183FF80 600 (zeros 600) ++ counterItem 0x218180 4412 0
    (logRecordBody 5 2 0 2 items).length + 8 = 704 ∧ fld (logRecordBody 5 2 0 2 items) 8 4 = 704 := by decide +kernel

/-- The SDXC card of the example of 15: level starts, and the sectors on the path of volume sector 0. -/
theorem test_levels : levelStarts 15464999 = [66049, 66050, 66054, 66526, 126937] ∧
    journalTags { VolRec.none with sectors := 15464999 } 0 1 = [66526, 66054, 66050, 66049] := by decide

theorem test_pieces : pieces 65536 = 17 ∧ pieces 4080 = 1 := by decide

theorem witness_reply : let w : WeltWait := ⟨5, true, [], .none, .none, .ok, 0, 0, 0, [], false⟩
    let s := { linked .follower .sync with welt := { (linked .follower .sync).welt with waits := [w] } }
    (inSequence s (aFrame 4 2 true)).welt.waits.find? (fun w => w.fwd && w.seq == (5 : BitVec 64).toNat) = some w := by decide

/-- WeltEvents: training, HELLO of each kind, leases and timeouts. -/
def aHello (pairing : Bool) : Hello :=
  { (default : Hello) with identity := zeros 16, nonce := zeros 32, pairing := pairing, tagOk := true, lcCode := 2 }

theorem witness_welt_events : let s := { linked .lead .detached with
      welt := { (linked .lead .detached).welt with link := false, secret := none, lanes := [1], lease := true, timeouts := 2 } }
    s.awake = true ∧ s.welt.role ≠ .unpaired ∧ s.rind.guard = false ∧ s.chanOk 52 = true ∧ (0 : Fin 2) ∉ s.welt.lanes ∧
    s.debugBars = false ∧ (aHello true).tagOk = true ∧ fit (aHello true).identity 16 = fit s.welt.twin 16 ∧
    s.welt.lease = true ∧ (linked .lead .sync).syncLead = true ∧ (linked .lead .sync).welt.unacked ≠ [] ∧
    2 ≤ s.welt.timeouts ∧ (linked .lead .sync).welt.timeouts < 2 ∧ (aHello false).lcCode.toNat = live.vault.lc.code ∧
    s.drbgOk = true ∧ s.lanesOk = true := by decide

/-- SmbusAndDebug: pointers at the ends of the window, debug on core 8, on a lane and past the targets. -/
def debugged (t : Nat) : State :=
  { live with lc := { live.lc with debug := true }, dbg := ⟨t, 0⟩, cores := live.cores.set 8 { Core.supervisor with halted := true } }

theorem witness_ports : live.power.st ≠ .off ∧ (0x27FC : BitVec 16).toNat ≤ 0x27FC ∧ 0x27FC < (0x2800 : BitVec 16).toNat ∧
    (debugged 8).dbgUp = true ∧ live.dbgUp = false ∧ ((debugged 8).core 8).halted = true ∧ ((debugged 8).dbgFrame 8).isSome = true ∧
    (0x1F : BitVec 8).toNat < 0x20 ∧ 0x20 ≤ (0x20 : BitVec 8).toNat ∧ 8 < (9 : BitVec 8).toNat ∧
    (0x7FFFC : BitVec 32).toNat < dbgSize (debugged 8).dbg.target ∧ dbgSize (debugged 8).dbg.target ≤ (0x80000 : BitVec 32).toNat ∧
    0x10 ≤ (debugged 0x1F).dbg.target ∧ ({ live with smb := { live.smb with alert := true } } : State).smb.alert = true := by decide

theorem test_pointer : (next (exec (.setPointer 0x27FC) live)).smb.pointer = 0x27FC ∧
    (next (exec (.setPointer 0x2800) live)).smb.reply = none := by decide

/-- Failures: an order with a frame and without, a window access, a fault of each group, an undefined word. -/
theorem witness_failures : let o := anOrder .park [] [] 0
    (ordered o live).orders.find? (fun o => o.qp == 3 && o.tag == 9) = some o ∧ (ordered o live).frameOf o.uid = none ∧
    (pair 1 2).frameOf 7 = some (0, 0) ∧ live.chanOk 55 = true ∧ wordDefined 0xFFFFFFFF = false ∧
    16 ≤ (16 : BitVec 5).toNat := by decide

/-! ### The invariants -/

/-- QueueKept and RetiredIsFinal: a step that answers a next state, in RETIRED. -/
theorem witness_steps : let s := { State.reset with vault := Vault.holding .retired none, pending := [.setPointer 0] }
    s.vault.lc = .retired ∧ s.vault.root = none ∧ ∃ t, step s = .next t ∧ t.pending = [] := ⟨rfl, rfl, _, rfl, rfl⟩

theorem witness_memory : Mem.wf [(3, 1), (9, 255)] = true ∧ Mem.wf [(9, 1), (3, 1)] = false ∧ Mem.wf [(3, 0)] = false := by
  decide

/-! ### Well-formed commands: each check refuses an ill-formed one -/

theorem test_wf_start : Instr.wellFormed (.resetNRelease { (default : StartFacts) with tripped := [(1, 0), (1, 0)] }) = false := by decide
theorem test_wf_offset : Instr.wellFormed (.registerWrite 2 0 0xF) = false := by decide
theorem test_wf_host_write : Instr.wellFormed (.sqTailDoorbell 0 0 [(2 ^ 64 - 1, [1, 2])]) = false := by decide
theorem test_wf_mailbox : Instr.wellFormed (.mbEcho (zeros 28673)) = false := by
  show decide ((zeros 28673).length ≤ 28672) = false
  rw [show (zeros 28673).length = 28673 from List.length_replicate]; decide
theorem test_wf_card : Instr.wellFormed (.cardResponse 0 (.identified { (default : CardIdent) with omIdentity := [1] })) = false := by
  decide
theorem test_wf_hello : Instr.wellFormed (.weltHello (default : Hello)) = false := by decide
theorem test_wf_addr : Instr.wellFormed (.setAddr 2) = false := by decide
theorem test_wf_good : Instr.wellFormed (.setAddr 4) = true := by decide

/-! ### Words and records spelt out -/

/-- The check value of CRC-32C (12 R257, log 182). -/
theorem test_crc32c : crc32c (ascii "123456789") = 0xE3069283 := by decide +kernel

/-- Instruction words in their fields of R118: LIW, LD with its offset, and a word no row has. -/
theorem test_words : instrWord (.liw 0 4 0 1 0xF0000000) = some 0x0A200001 ∧
    instrWord (.ld 0 5 4 0 .good) = some 0x40290000 ∧ instrWord (.bne 0 6 0 (-2)) = some 0x61303FFE ∧
    instrWord (.exit 0 9 0) = some 0x6C480000 ∧ wordDefined 0x82088807 = true ∧ wordDefined 0xB0000000 = false := by decide

/-! ### Hypotheses met: waits, limits and failures -/

/-- PrivilegedAndLimit: a frame that owes its EXIT, one whose EXIT is waiting for tokens, one at its EXIT. -/
theorem witness_exit_due : let due := { frame .a [] with exitDue := true }
    let ending := { frame .a [] with exiting := some (0, .ok) }
    (on due live).runningFrame 0 = some (0, due) ∧ due.exitDue = true ∧ ending.exiting ≠ none ∧ ending.runMs ≠ 0 ∧
    (frame .a []).exiting = none ∧ (frame .a []).runnable = true ∧ (frame .a []).pressing = false ∧
    ((on (frame .a []) live).core 0).running = some (0 : Fin 4) := by decide

/-- A read clear of every record that awaits application, and one under such a record (CellarAccess). -/
theorem witness_awaits : (on readFr live).awaits (partBase 7 + (2 ^ 22 - 8)) 8 = false ∧
    live.awaits (counterAddr 1023) 32 = false ∧
    ({ live with press := { live.press with log := [⟨64, 1, [.ctrAdd 1023 1], 0, 8, 0⟩] } } : State).awaits (counterAddr 1023) 32 =
      true := by decide

/-- No press is open on a slot, and one is (R21). -/
theorem witness_slot_open : live.slotOpen 9 = false ∧ live.time.cfg.slot = none ∧
    (pressing (aPress [.slotFree 9 1 1] []) live).slotOpen 9 = true := by decide

/-- LaneOutcomes: a job of a plan with a rule that fails after one that holds. -/
theorem witness_lane_outcome : ∃ (p : LanePlan) (j : Job) (dst : Dst), j.fn = fnModexp.fn ∧
    j.work = some (laneWork fnModexp p) ∧ j.outs = [(dst, [])] ∧ j.status = .ok :=
  let p := fnModexp.plan none 0 [] []
  ⟨p, { someJob 1 with fn := fnModexp.fn, work := some (laneWork fnModexp p), outs := [(.none, [])] }, .none,
    rfl, rfl, rfl, rfl⟩

/-- EngineEnds: a lane that runs a job of a frame and one of the device, a job stopped, a job whose scrub fails. -/
theorem witness_lane_ends : (unitRuns (someJob 1)).unitJob 5 = some (someJob 1, 0) ∧
    (∀ n, (someJob 1).stream ≠ .device n) ∧ ({ someJob 1 with stream := .device 2 } : Job).stream = .device 2 ∧
    ({ someJob 1 with stop := true } : Job).stop = true ∧ (someJob 1).stop = false ∧ (someJob 1).defer = none ∧
    (someJob 1).scrubFail = none ∧ ({ someJob 1 with scrubFail := some 8 } : Job).scrubFail = some 8 ∧
    look 5 (unitRuns (someJob 1)).susp = none ∧
    ({ someJob 3 with aad := 1, streamed := true, outs := [(.host 0, [1])] } : Job).aad ≤ 2 :=
  ⟨by decide, (fun _ h => nomatch h), by decide⟩

/-- RecordsBrineScrubDrbg: a reseed that has fallen due; TimeBaseEvents: the states in which time stands apart. -/
theorem witness_due : ({ live with drbg := { live.drbg with due := true } } : State).drbg.due = true ∧
    live.drbg.due = false ∧ ({ live with power := { live.power with st := .battery } } : State).power.st = .battery ∧
    ({ live with power := { live.power with st := .off } } : State).power.st = .off ∧ live.time.pps = false ∧
    live.health.katDue = [] ∧ live.hostReach = true ∧
    ({ live with link := { live.link with d3hot := true }, power := { live.power with st := .dormant } } : State).hostReach = false ∧
    (live.group 3).timer = false := by decide +kernel

/-- OrderAdmission: the order whose turn it is, none whose turn it is, a queue pair whose completion write fails. -/
theorem witness_chosen : let o := anOrder .call (le 5 4) [] 0
    let s := ordered o live
    s.chosen 3 = some (o, turned s) ∧ live.chosen 3 = none ∧ s.candidate 3 = some o ∧ s.held o = false ∧
    (∀ x ∈ s.admissible o.block, x = o) ∧
    (let q := { aQp with reserved := 2, cqFails := true }
     q.cqFails = true ∧ 1 < q.reserved ∧ q.gathered = [] ∧ q.haltOwed = none ∧ q.deleting = false) :=
  ⟨rfl, by decide, by decide, by decide, by decide, by decide⟩

/-- AdminFunctions: a pressed wheel that reads well. -/
theorem witness_pressed_wheel : let r := zeros 24 ++ le 1 8
    (∃ b : Book, b.place1 = some r ∧ b.pressedWheel 1 = some r) ∧ live.badRange (placeAddr 63 1) 4800 = false ∧
    live.badRange certArea.1 live.certOrRequest.length = false := by
  refine ⟨⟨{ Book.zero with place1 := some (zeros 24 ++ le 1 8) }, rfl, ?_⟩, by decide, by decide⟩
  decide +kernel

/-- MailboxCommands: a request whose blob's master slot has an open press, and a TDEA request that is too long. -/
theorem witness_loan_waits :
    let blob := [1, 1, 3, 0] ++ le 24 2 ++ [0, 0] ++ zeros 32
    let s := pressing (aPress [.slotFree 16380 1 1] []) live
    s.debugOn = false ∧ s.loanWaits (reqBlob (le 8 4 ++ le 40 2 ++ zeros 26 ++ blob ++ zeros 8)) = true ∧
    live.loanWaits (reqBlob (le 8 4 ++ le 40 2 ++ zeros 26 ++ blob ++ zeros 8)) = false ∧
    requestSize < reqData (le 28673 4 ++ zeros 28) := by decide +kernel

/-- The request a command brings is the one in the buffer (MailboxCommands). -/
theorem test_request : (mbStore 0 (mailReq 8 0) live).mbRequest = mailReq 8 0 := by decide +kernel

/-- CardEvents: cards above their lowest step, no device core, a stopped read, an MMC card that fails its bus test. -/
theorem witness_card_steps : let i : CardIdent := { (default : CardIdent) with accepted := true, blocks := 64, media := .mmc, busTest := false }
    (aCard .identified [aReq .read .read 0] 3).lowest = false ∧ live.deviceCores = true ∧
    ({ live with health := { live.health with chans := List.replicate 60 { Chan.fresh with retired := true } } } : State).deviceCores = false ∧
    ({ aReq .read .read 0 with stop := true } : CardReq).stop = true ∧ i.accepted = true ∧ i.blocks ≤ 3906250000 ∧
    i.media = .mmc ∧ i.busTest = false ∧ (aCard .identifying [] 0).queue = [] ∧
    ((aCard .identified [] 4).mode = 4 ∧ cardsOn (withCard (aCard .identified [] 4)) 1 = true) := by decide +kernel

/-- CardEvents: a tuning under way, one that is due, a withdrawn timeout, a frame of each kind, faults of an
identification. -/
theorem witness_tuning : let k := aCard .identified [aReq .read .read 0] 4
    let idle := aCard .identified [] 4
    k.inService = true ∧ idle.inService = false ∧ k.tune ≠ .running ∧ k.due.tune = .due ∧ idle.due.tune = .running ∧
    k.withdrawn = false ∧ ({ k with withdrawn := true } : CardCh).withdrawn = true ∧ k.blk < 7 ∧
    frameBad ⟨true, false, [true, true, true, true], some true⟩ = false ∧ frameBad ⟨false, false, [], none⟩ = true ∧
    (aCard .identifying [] 0).idTries < 3 ∧ 3 ≤ ({ aCard .identifying [] 0 with idTries := 3 } : CardCh).idTries ∧
    (aReq .read .read 1).tries = 1 ∧ (aReq .read .read 2).tries = 2 ∧ ({ live with cards := { live.cards with tab := true } } : State).cards.tab = true ∧
    (ownSealing live).deviceCores = true := by decide +kernel

/-- WeltEvents: room among the unacknowledged frames and none; a wait whose own frame was not in time. -/
theorem witness_window : (linked .lead .sync).welt.unsent = [] ∧ (linked .lead .sync).welt.unacked.length < 64 ∧
    64 ≤ (List.replicate 64 (9, 0x11)).length ∧ (linked .lead .sync).welt.closeCall = false ∧
    (linked .lead .sync).welt.unacked = (9, 0x11) :: [] ∧ (linked .lead .sync).welt.link = true := by decide

/-- Failures: a job of a token, a queue pair that is being read. -/
theorem witness_scrub_failure : let s := { live with eng := { live.eng with vat := unitRuns (someJob 1) }, qps := [aQp] }
    someJob 1 ∈ s.eng.vat.jobs ∧ (someJob 1).ref = .token 0 0 7 (3 : BitVec 3).toNat ∧ s.liveQp 3 = some aQp ∧
    s.hostReach = true := by decide

theorem test_scrub_failure : let s := { live with eng := { live.eng with vat := unitRuns (someJob 1) } }
    (next (exec (.hostDmaFailure (.scrub 0 0 3 5)) s)).eng.vat.jobs.map (·.scrubFail) = [some 5] := by decide +kernel

/-- HashStreams: an open record takes an UPDATE and a FINISH, an unknown block none. -/
def aStream : HashStream := ⟨0, 0, 0, 7, 2, false, [], 0, 5, [1, 2], false, 1⟩

theorem witness_streams : let s := { live with eng := { live.eng with streams := [aStream] } }
    aStream.runs s = true ∧ s.keys.stateKeys = some (zeros 32, zeros 32) ∧ aStream.idx < 1024 ∧ aStream.level < 4 ∧
    aStream.serial < 2 ^ 64 ∧ acceptBlock s 7 [] = none ∧ live.keys.stateKeys = some (zeros 32, zeros 32) ∧
    freeStream s = some 1 ∧ (s.eng.streams.filter fun r => r.uid == 7).length < 8 ∧
    ({ aStream with keyed := true, level := 2 } : HashStream).runs { s with drbg := ⟨false, false, false, 0, false⟩ } = false ∧
    8 ≤ ((List.replicate 8 aStream).filter fun r => r.uid == 7).length := by decide +kernel

/-- A state block of an open record is accepted (HashStreams). -/
theorem witness_accept : acceptBlock { live with eng := { live.eng with streams := [aStream] } } 7
    (stateBlock (zeros 32, zeros 32) aStream) = some aStream := by
  obtain ⟨x, hx⟩ : ∃ x, x = fit (Config.aesCtr (zeros 32) (be aStream.serial 8 ++ zeros 8)
    (fit (Config.hashState aStream.alg aStream.key aStream.absorbed) 432)) 432 := ⟨_, rfl⟩
  have hl : x.length = 432 := by rw [hx, fit_length]
  obtain ⟨c, hc⟩ : ∃ c, c = ascii "JXDS" ++ le 1 2 ++ le aStream.alg 1
    ++ le (b2n aStream.keyed + 2 * b2n aStream.truncated + 4 * aStream.level) 1
    ++ le aStream.serial 8 ++ le aStream.idx 2 ++ zeros 6 ++ le aStream.declared 8 ++ le aStream.absorbed.length 8 := ⟨_, rfl⟩
  have hcl : c.length = 40 := by rw [hc]; decide
  obtain ⟨k, hk⟩ : ∃ k, k = fit (Config.kmac (zeros 32) (c ++ x ++ zeros 8) 256 (ascii "JEXVOR DIGEST STATE")) 32 := ⟨_, rfl⟩
  have hkl : k.length = 32 := by rw [hk, fit_length]
  have hb : stateBlock (zeros 32, zeros 32) aStream = c ++ x ++ zeros 8 ++ k := by
    rw [hk, hx, hc]; rfl
  have h8 : (zeros 8).length = 8 := rfl
  have e1 : sl (c ++ x ++ zeros 8 ++ k) 0 480 = c ++ x ++ zeros 8 := by
    exact List.take_left' (by simp [hcl, hl, h8])
  have e2 : sl (c ++ x ++ zeros 8 ++ k) 480 32 = k := by
    rw [sl, List.drop_left' (by simp [hcl, hl, h8])]; exact List.take_of_length_le (by omega)
  have e3 : sl (c ++ x ++ zeros 8 ++ k) 472 8 = zeros 8 := by
    rw [sl, List.append_assoc (c ++ x), List.drop_left' (by simp [hcl, hl])]; exact List.take_left' h8
  have e4 : ∀ off n, off + n ≤ 40 → sl (c ++ x ++ zeros 8 ++ k) off n = sl c off n := by
    intro off n h
    simp only [sl, List.append_assoc]
    rw [List.drop_append_of_le_length (by omega), List.take_append_of_le_length (by simp; omega)]
  have f1 : (sl c 0 4 == ascii "JXDS") = true := by rw [hc]; decide
  have f2 : leN (sl c 4 2) = 1 := by rw [hc]; decide
  have f3 : allZero (sl c 18 6) = true := by rw [hc]; decide
  have f4 : leN (sl c 7 1) = 0 := by rw [hc]; decide
  have f5 : leN (sl c 16 2) = 0 := by rw [hc]; decide
  have f6 : leN (sl c 8 8) = 1 := by rw [hc]; decide
  have f7 : allZero (zeros 8) = true := by decide
  have hs : ({ live with eng := { live.eng with streams := [aStream] } } : State).keys.stateKeys = some (zeros 32, zeros 32) := rfl
  rw [hb]
  unfold acceptBlock
  rw [hs]
  simp only [zeroAt, fld, e1, e2, e3, e4 0 4 (by decide), e4 4 2 (by decide), e4 18 6 (by decide), e4 7 1 (by decide),
    e4 16 2 (by decide), e4 8 8 (by decide), f1, f2, f3, f4, f5, f6, f7, ← hk]
  simp [List.find?, aStream]

end Sys2Proof.Tests
end

section
/-! Control flow (06 R122): where branches, JAL and JALR go, and an instruction past the backed code. -/

namespace Sys2Proof.Machine

/-- pc plus four times a sign-extended word offset, as a number (format B and JAL). -/
theorem pc_add_offset {w : Nat} (pc : BitVec 32) (off : BitVec w) :
    pc + (off.signExtend 32 <<< 2) = BitVec.ofInt 32 (pc.toNat + 4 * off.toInt) := by
  rw [BitVec.ofInt_add, BitVec.ofInt_natCast, BitVec.ofNat_toNat, BitVec.setWidth_eq, BitVec.shiftLeft_eq_mul_twoPow,
    BitVec.ofInt_mul, BitVec.mul_comm]
  rfl

/-- The link is the address of the next word, modulo 2^32. -/
theorem linkWord_eq (fr : Fr) : linkWord fr = BitVec.ofNat 64 ((fr.pc.toNat + 4) % 2 ^ 32) := by
  apply BitVec.eq_of_toNat_eq
  simp [linkWord]

section
variable {s : State} {c f : Nat} {fr fr' : Fr} {w : Nat} {body : Nat → Fr → IRes}

/-- A body that goes to t: the jump, or MISALIGNED with the frame as it was (R122). -/
theorem runInstr_goTo {t : BitVec 32} (h : Runs s c f fr w) (hb : body f fr = goTo fr' t s) :
    runInstr c w s body = if t.toNat % 4 = 0 then jumped c f fr' t s else trapped c f .misaligned t.toNat s := by
  by_cases ht : t.toNat % 4 = 0
  · rw [if_pos ht]
    exact runInstr_jump h (by simp [hb, goTo, ht])
  · rw [if_neg ht]
    exact runInstr_trap h (by simp [hb, goTo, ht])

/-- An instruction that does not lie whole in the backed code traps when it is fetched, whatever its body (R112,
R122). -/
theorem runInstr_pastCode (h : s.runningFrame c = some (f, fr)) (hm : fr.mode ≠ .s) (hd : fr.exitDue = false)
    (hl : fr.codeLen < fr.pc.toNat + 4 * w) : runInstr c w s body = trapped c f .access fr.pc.toNat s := by
  simp [runInstr, h, hd, hm, hl, trapped]

end

/-- A command that is a branch on `p` goes to its target where the condition P holds, else to the next word. -/
theorem exec_branch {s : State} {c : Fin 9} {f : Nat} {fr : Fr} {a b : BitVec 5} {off : BitVec 14} {i : Instr}
    {p : Word → Word → Bool} {P : Prop} [Decidable P] (h : Runs s c f fr 1)
    (hi : exec i s = .next (branch c a b off p s)) (hp : p (fr.reg a) (fr.reg b) = true ↔ P) :
    let t := BitVec.ofInt 32 (fr.pc.toNat + 4 * off.toInt)
    exec i s = if P then .next (if t.toNat % 4 = 0 then jumped c f fr t s else trapped c f .misaligned t.toNat s)
      else .next (retired c f 1 fr s) := by
  intro t
  have ht : target14 fr.pc off = t := pc_add_offset fr.pc off
  rw [hi, branch]
  by_cases hP : P
  · rw [if_pos hP, runInstr_goTo (t := t) (fr' := fr) h (by rw [if_pos (hp.2 hP), ht])]
  · rw [if_neg hP, runInstr_ret h (by rw [if_neg (mt hp.1 hP)]) rfl]

section
variable {s : State} {c : Fin 9} {f : Nat} {fr : Fr} {d a : BitVec 5}

/-- JAL goes to pc + 4 × offset with the link in d. -/
theorem exec_jal {off : BitVec 19} (h : Runs s c f fr 1) :
    let t := BitVec.ofInt 32 (fr.pc.toNat + 4 * off.toInt)
    exec (.jal c d off) s = .next (if t.toNat % 4 = 0 then jumped c f (fr.setReg d (linkWord fr)) t s
      else trapped c f .misaligned t.toNat s) :=
  congrArg Host.Outcome.next (runInstr_goTo h (by rw [pc_add_offset]))

/-- JALR to a multiple of 4 within 32 bits goes there with the link in d. -/
theorem exec_jalr_aligned {imm : BitVec 14} {t : Word} (h : Runs s c f fr 1) (ht : fr.reg a + imm.signExtend 64 = t)
    (h4 : t.toNat % 4 = 0) (h32 : t.toNat < 2 ^ 32) :
    exec (.jalr c d a imm) s = .next (jumped c f (fr.setReg d (linkWord fr)) (BitVec.ofNat 32 t.toNat) s) := by
  refine congrArg Host.Outcome.next (runInstr_jump h ?_)
  have hlow : t.extractLsb' 0 32 = BitVec.ofNat 32 t.toNat := rfl
  simp [ht, h4, hlow, show t.toNat < 4294967296 from h32]

/-- JALR to an address that is no multiple of 4 traps with no register written (R122). -/
theorem exec_jalr_misaligned {imm : BitVec 14} {t : Word} (h : Runs s c f fr 1)
    (ht : fr.reg a + imm.signExtend 64 = t) (h4 : t.toNat % 4 ≠ 0) :
    exec (.jalr c d a imm) s = .next (trapped c f .misaligned t.toNat s) :=
  congrArg Host.Outcome.next (runInstr_trap h (by simp [ht, h4]))

end

/-- Settles O11: each command by the rule of its body, `exec_branch`, `exec_jal`, `exec_jalr_aligned` and
`exec_jalr_misaligned`; the fetch by `runInstr_pastCode`, which asks nothing of the body. -/
theorem controlFlow : Obligations.ControlFlow := by
  unfold Obligations.ControlFlow
  refine ⟨fun s c f fr d a b off o h => ?_, fun s c f fr d a b off o lit e h hm hd => ⟨fun hl i hi => ?_, fun hl => ?_⟩⟩
  · intro x y t on go j link
    have hlink : link = fr.setReg d (linkWord fr) := by rw [linkWord_eq]
    have hjalr (h4 : j % 4 = 0) (h32 : j < 2 ^ 32) : exec (.jalr c d a off) s = on link (BitVec.ofNat 32 j) := by
      have hlow : (BitVec.ofNat 32 j).toNat % 4 = 0 := by rw [BitVec.toNat_ofNat, Nat.mod_eq_of_lt h32, h4]
      rw [exec_jalr_aligned h rfl h4 h32, hlink]
      exact congrArg Host.Outcome.next (if_pos hlow).symm
    have hjal : exec (.jal c d o) s = on link (t o.toInt) := by rw [hlink]; exact exec_jal h
    have hge : (!x.slt y) = true ↔ y.toInt ≤ x.toInt := by simp [BitVec.slt]
    have hgeu : (!x.ult y) = true ↔ y.toNat ≤ x.toNat := by simp [BitVec.ult]
    exact ⟨exec_branch h rfl beq_iff_eq, exec_branch h rfl bne_iff_ne, exec_branch h rfl BitVec.slt_iff_toInt_lt,
      exec_branch h rfl hge, exec_branch h rfl BitVec.ult_iff_toNat_lt, exec_branch h rfl hgeu, hjal, hjalr,
      exec_jalr_misaligned h rfl⟩
  · have hrun : ∃ body, exec i s = .next (runInstr c 1 s body) := by
      revert i
      simp only [List.forall_mem_cons]
      exact ⟨⟨_, rfl⟩, ⟨_, rfl⟩, ⟨_, rfl⟩, ⟨_, rfl⟩, ⟨_, rfl⟩, ⟨_, rfl⟩, ⟨_, rfl⟩, nofun⟩
    obtain ⟨body, hbody⟩ := hrun
    rw [hbody, runInstr_pastCode h hm hd hl]
  · exact congrArg Host.Outcome.next (runInstr_pastCode h hm hd hl)

end Sys2Proof.Machine
end

section
/-! Failures of host memory and of the host link (05 R75, R76, R84, R85), and what raises ILLEGAL (06 R119). -/

namespace Sys2Proof.Machine

/-! ### A failed host access, by what it was for -/

section
variable {s : State}

theorem exec_hostDmaFailure_order (hr : s.hostReach = true) (n : BitVec 8) (tag : BitVec 64) (left : BitVec 32) :
    exec (.hostDmaFailure (.order n tag left)) s = .next (dmaOrder n tag left.toNat s) := by
  simp [exec, execHostDmaFailure, hr]

theorem exec_hostDmaFailure_window {c : Fin 8} {f : Nat} {fr : Fr} (hr : s.hostReach = true)
    (h : s.runningFrame c = some (f, fr)) :
    exec (.hostDmaFailure (.window c)) s = .next (dropReads fr.uid (trap c f .windowDma 0 (logAer (.window c) s))) := by
  simp [exec, execHostDmaFailure, hr, h]

theorem exec_hostDmaFailure_scrub (hr : s.hostReach = true) (c : Fin 9) (f : Fin 4) (t : BitVec 3) (k : BitVec 32) :
    exec (.hostDmaFailure (.scrub c f t k)) s = .next (scrubFails c f t.toNat k.toNat s) := by
  simp [exec, execHostDmaFailure, hr]

theorem exec_hostDmaFailure_sqFetch {n : BitVec 8} {q : Qp} (hr : s.hostReach = true) (h : s.liveQp n = some q) :
    exec (.hostDmaFailure (.sqFetch n)) s = .next (haltQp n 0xFFFFFFFD (logAer (.sqFetch n) s)) := by
  simp [exec, execHostDmaFailure, hr, h]

theorem exec_hostDmaFailure_cqWrite {n : BitVec 8} {q : Qp} (hr : s.hostReach = true) (h : s.qp? n = some q) :
    exec (.hostDmaFailure (.cqWrite n)) s = .next (setQp { q with cqFails := true } s) := by
  simp [exec, execHostDmaFailure, hr, h]

/-- No outstanding order has the tag: there is nothing to abort. -/
theorem dmaOrder_absent {n : BitVec 8} {tag : BitVec 64} (left : Nat) (h : ∀ o ∈ s.orders, o.qp ≠ n ∨ o.tag ≠ tag) :
    dmaOrder n tag left s = s := by
  have hnone : s.orders.find? (fun o => o.qp == n && o.tag == tag) = none :=
    List.find?_eq_none.2 fun o ho => by simpa [imp_iff_not_or] using h o ho
  simp only [dmaOrder, hnone]

/-- The order with the tag runs in a frame: the frame is cut off. -/
theorem dmaOrder_frame {n : BitVec 8} {tag : BitVec 64} {o : Order} {c f : Nat} (left : Nat)
    (h : s.orders.find? (fun o => o.qp == n && o.tag == tag) = some o) (hf : s.frameOf o.uid = some (c, f)) :
    dmaOrder n tag left s = reapCards (dropReads o.uid
      (cutFrame c f .aborted (if o.kind = .park then 0 else left) (logAer (.order tag) s))) := by
  have hlog : (logAer (.order tag) s).frameOf o.uid = some (c, f) := hf
  simp only [dmaOrder, h, hlog, beq_iff_eq]

/-- The order with the tag runs in no frame: its work is dropped and it completes. -/
theorem dmaOrder_noFrame {n : BitVec 8} {tag : BitVec 64} {o : Order} (left : Nat)
    (h : s.orders.find? (fun o => o.qp == n && o.tag == tag) = some o) (hf : s.frameOf o.uid = none) :
    dmaOrder n tag left s = complete o.uid .aborted none 0 (if o.kind = .park then 0 else left)
      (dropReads o.uid (stopCards (.order o.uid) (dropJobs (fun j => j.ref == .order o.uid) (logAer (.order tag) s)))) := by
  have hlog : (logAer (.order tag) s).frameOf o.uid = none := hf
  simp only [dmaOrder, h, hlog, beq_iff_eq]

/-- A scrub that fails is noted in the jobs and logged; nothing else changes. -/
theorem scrubFails_rest (c f t n : Nat) :
    { scrubFails c f t n s with eng := s.eng, link := s.link } = s := rfl

theorem scrubFails_link {c f : Nat} {fr : Fr} (t n : Nat) (h : s.frame c f = some fr) :
    (scrubFails c f t n s).link = { s.link with aer := s.link.aer ++ [.order fr.tag] } := by
  simp [scrubFails, logAer, h]

/-- The job of the token is cut short after the bytes accepted (R205). -/
theorem mem_scrubFails {c f t uid : Nat} (n : Nat) {j : Job} (hj : j ∈ s.eng.vat.jobs) (href : j.ref = .token c f uid t) :
    { j with scrubFail := some n } ∈ (scrubFails c f t n s).eng.vat.jobs :=
  List.mem_map.2 ⟨j, hj, by simp [href]⟩

/-! ### Queue pairs that halt (R85) -/

theorem liveQp_of_qp? {n : BitVec 8} {q : Qp} (h : s.qp? n = some q) (hd : q.deleting = false) :
    s.liveQp n = some q := by
  obtain ⟨hn, before, after, hqps, hfirst⟩ := List.find?_eq_some_iff_append.1 h
  refine List.find?_eq_some_iff_append.2 ⟨by simp [hn, hd], before, after, hqps, fun x hx => ?_⟩
  have hx' := hfirst x hx
  simp_all

theorem haltQp_halted {n : BitVec 8} {q : Qp} (cause : BitVec 32) (h : s.liveQp n = some q) (hh : q.halted = true) :
    haltQp n cause s = s := by
  simp only [haltQp, h, hh, if_true]

theorem haltQp_running {n : BitVec 8} {q : Qp} (cause : BitVec 32) (h : s.liveQp n = some q) (hh : q.halted = false) :
    haltQp n cause s = payHalt n (setQp (q.halt cause) s) := by
  simp only [haltQp, h, hh, Bool.false_eq_true, if_false]

/-- Where no extension entry has been gathered, the halt releases no reserved slot. -/
theorem Qp.halt_gathered_nil {q : Qp} (cause : BitVec 32) (hh : q.halted = false) (hg : q.gathered = []) :
    q.halt cause = { q with halted := true, haltOwed := some cause, gathered := [], timedOut := false } := by
  simp [Qp.halt, hh, hg]

/-! ### Errors of the link's receiver (R76) -/

theorem exec_hostLinkReceiverError_ok {g : Fin 2} (ha : s.awake = true) (hc : s.chanOk (54 + g) = true) :
    exec (.hostLinkReceiverError g) s = .next (chanOp (54 + g) true s) := by
  simp [exec, execHostLinkReceiverError, ha, hc]

theorem exec_hostLinkReceiverError_retired {g : Fin 2} (hc : s.chanOk (54 + g) = false) :
    exec (.hostLinkReceiverError g) s = .next s := by
  simp [exec, execHostLinkReceiverError, hc]

end

/-! ### What raises ILLEGAL (R119) -/

/-- A handle field of 16 or more names no handle register. -/
theorem handleNo_eq_none {r : BitVec 5} (h : 16 ≤ r.toNat) : handleNo r = none := if_neg (Nat.not_lt.2 h)

section
variable {s : State} {c : Fin 9} {f : Nat} {fr : Fr} (h : Runs s c f fr 1)
include h

/-- A command whose body traps with ILLEGAL has no other effect. -/
theorem next_runInstr_illegal {body : Nat → Fr → IRes} (hb : body f fr = .trap .illegal 0) :
    (.next (runInstr c 1 s body) : Host.Outcome State Fault Refusal) = .next (trapped c f .illegal 0 s) :=
  congrArg Host.Outcome.next (runInstr_trap h hb)

theorem exec_illegalOpcode_undefined {w : BitVec 32} (hw : wordDefined w = false) :
    exec (.illegalOpcode c w) s = .next (trapped c f .illegal 0 s) := by
  simp only [exec, execIllegalOpcode, ite_self, hw, Bool.false_eq_true, if_false]
  exact next_runInstr_illegal h rfl

/-- A destination field that must name a handle register and does not. -/
theorem exec_illegal_of_handle_dest {d : BitVec 5} (hd : 16 ≤ d.toNat) (a b : BitVec 5) (ty : BitVec 4) :
    ∀ i ∈ [Instr.hclr c d, .hmov c d a, .hbind c d a b ty], exec i s = .next (trapped c f .illegal 0 s) := by
  have hn := handleNo_eq_none hd
  simp only [List.forall_mem_cons]
  exact ⟨next_runInstr_illegal h (by simp [hn]), next_runInstr_illegal h (by simp [hn]),
    next_runInstr_illegal h (by simp [hn]), nofun⟩

/-- A source field that must name a handle register and does not. -/
theorem exec_illegal_of_handle_source {a : BitVec 5} (ha : 16 ≤ a.toNat) (d : BitVec 5) :
    ∀ i ∈ [Instr.htype c d a, .hmov c d a, .ccstat c d a], exec i s = .next (trapped c f .illegal 0 s) := by
  have hn := handleNo_eq_none ha
  simp only [List.forall_mem_cons]
  exact ⟨next_runInstr_illegal h (by simp [hn]), next_runInstr_illegal h (by simp [hn]),
    next_runInstr_illegal h (by simp [hn]), nofun⟩

end

/-- Settles O56: each failure by the rule of what it hits, ILLEGAL by `next_runInstr_illegal`, and the listed words by
evaluation. -/
theorem failures : Obligations.Failures := by
  unfold Obligations.Failures
  intro s
  refine ⟨fun hr => ⟨fun n tag left o ho => ⟨fun c f hf => ?_, fun hf => ?_⟩, fun n tag left ho => ?_,
      fun c f fr h => exec_hostDmaFailure_window hr h, fun c f t k => ?_, fun n q h => exec_hostDmaFailure_sqFetch hr h,
      fun n q h => exec_hostDmaFailure_cqWrite hr h, fun n cause q h hd => ?_⟩,
    fun g => exec_hostLinkReceiverError_ok, fun g => exec_hostLinkReceiverError_retired,
    fun c f fr w h => exec_illegalOpcode_undefined h, fun c f fr d a b ty h =>
      ⟨fun hd => exec_illegal_of_handle_dest h hd a b ty, fun ha => exec_illegal_of_handle_source h ha d⟩,
    fun w hw => Bool.eq_false_iff.2 (List.any_eq_false.1 (by decide) w hw), by decide, List.all_eq_true.1 (by decide)⟩
  · rw [exec_hostDmaFailure_order hr, dmaOrder_frame _ ho hf]
  · rw [exec_hostDmaFailure_order hr, dmaOrder_noFrame _ ho hf]
  · rw [exec_hostDmaFailure_order hr, dmaOrder_absent _ ho]
  · exact ⟨_, exec_hostDmaFailure_scrub hr c f t k, scrubFails_rest .., fun fr => scrubFails_link _ _,
      fun j uid hj href => ⟨_, mem_scrubFails _ hj href, rfl⟩⟩
  · have hlive := liveQp_of_qp? h hd
    refine ⟨haltQp_halted cause hlive, fun hh hg => ?_⟩
    rw [haltQp_running cause hlive hh, Qp.halt_gathered_nil cause hh hg]

end Sys2Proof.Machine
end

section
/-! The event controller: claims (14 R308), signalling (R313), completions (R309), the global disable and doorbells
(R312, R316). -/

namespace Sys2Proof.Machine

/-! ### Reading and writing a source -/

section
variable {s : State} {n m : Nat}

theorem src_eq_getElem (h : n < s.ev.sources.length) : s.src n = s.ev.sources[n] :=
  (List.getElem_eq_getD _).symm

theorem mem_sources_src (h : n < s.ev.sources.length) : s.src n ∈ s.ev.sources :=
  src_eq_getElem h ▸ List.getElem_mem h

theorem src_of_set_same {t : State} {x : Source} (ht : t.ev.sources = s.ev.sources.set n x)
    (h : n < s.ev.sources.length) : t.src n = x := by
  rw [State.src, ht, List.getD_eq_getElem _ _ (by simpa using h), List.getElem_set_self]

theorem src_of_set_ne {t : State} {x : Source} (ht : t.ev.sources = s.ev.sources.set n x) (hm : m ≠ n) :
    t.src m = s.src m := by
  simp [State.src, ht, List.getD_eq_getElem?_getD, List.getElem?_set_ne hm.symm]

theorem src_setSrc_same (x : Source) (h : n < s.ev.sources.length) : (setSrc n x s).src n = x :=
  src_of_set_same rfl h

theorem src_setSrc_ne (x : Source) (hm : m ≠ n) : (setSrc n x s).src m = s.src m :=
  src_of_set_ne rfl hm

end

/-! ### Signalling a vector -/

section
variable {s : State} {v : Nat}

/-- Signalling touches the vectors and what is sent, nothing else. -/
theorem signalVec_rest (v : Nat) (s : State) : { signalVec v s with msix := s.msix, tx := s.tx } = s := by
  unfold signalVec
  split
  · rfl
  split
  · rfl
  split <;> rfl

theorem signalVec_ev (v : Nat) (s : State) : (signalVec v s).ev = s.ev :=
  (congrArg State.ev (signalVec_rest v s) :)

/-- A vector already signalled and not re-armed stays silent. -/
theorem signalVec_disarmed (h : v ∈ s.msix.disarmed) : signalVec v s = s := by
  simp [signalVec, h]

section
variable (hg : s.ev.gdisHost = false) (hd : s.link.d3hot = false) (hv : v ∉ s.msix.disarmed)
  (ha : s.vecAsserted v = true)
include hg hd hv ha

theorem signalVec_masked (hm : s.vecMasked v = true) : signalVec v s = { s with msix := { s.msix with
    pba := v :: s.msix.pba.filter (· != v), disarmed := v :: s.msix.disarmed } } := by
  simp [signalVec, hg, hd, hv, ha, hm]

theorem signalVec_unmasked (hm : s.vecMasked v = false) : signalVec v s =
    { s with msix := { s.msix with disarmed := v :: s.msix.disarmed },
             tx := s.tx ++ [.msix v (s.msixEntry v).addr (s.msixEntry v).data] } := by
  simp [signalVec, hg, hd, hv, ha, hm]

end

theorem rearm_rest (v : Nat) (s : State) : { rearm v s with msix := s.msix, tx := s.tx } = s :=
  congrArg (fun t : State => { t with msix := s.msix }) (signalVec_rest v
    { s with msix := { s.msix with disarmed := s.msix.disarmed.filter (· != v) } })

theorem rearmAll_rest (s : State) : { rearmAll s with msix := s.msix, tx := s.tx } = s :=
  List.foldlRecOn (motive := fun t : State => { t with msix := s.msix, tx := s.tx } = s) s.msix.disarmed _ rfl
    fun t ht v _ => (congrArg (fun u : State => { u with msix := s.msix, tx := s.tx }) (rearm_rest v t)).trans ht

theorem vecAsserted_src {n : Nat} (hn : n < s.ev.sources.length) (ha : (s.src n).asserted = true)
    (ht : (s.src n).target = 9) : s.vecAsserted (s.src n).vector = true :=
  List.any_eq_true.2 ⟨_, mem_sources_src hn, by simp [ha, ht]⟩

end

/-! ### An event of a source (R304, R313) -/

section
variable {s : State} {n : Nat}

/-- An asserted source of the host signals its vector. -/
theorem notify_host (ha : (s.src n).asserted = true) (ht : (s.src n).target = 9) (hd : s.link.d3hot = false) :
    notify n s = signalVec (s.src n).vector s := by
  simp [notify, ha, ht, hd]

theorem wakeT0_ev (s : State) : (wakeT0 s).ev = s.ev := by
  unfold wakeT0
  split <;> rfl

/-- A source of T0 can only wake the supervisor core. -/
theorem notify_t0_ev (ht : (s.src n).target = 0) : (notify n s).ev = s.ev := by
  by_cases ha : (s.src n).asserted = true
  · simp [notify, ha, ht, wakeT0_ev]
  · simp [notify, ha]

/-- Source n with an event waiting that has been released to its target. -/
def pended (n : Nat) (s : State) : State := setSrc n { s.src n with pend := true, deliv := true } s

/-- With the controller powered, an event of an enabled source of no group asserts it, unless it stands asserted. -/
theorem raise_ungrouped (hw : s.awake = true) (hp : (s.src n).priority ≠ 0) (hg : (s.src n).grouped = false) :
    raise n s = if (s.src n).asserted then s else notify n (pended n s) := by
  have hst : s.power.st = .active ∨ s.power.st = .idle := by simpa [State.awake] using hw
  obtain hst | hst := hst <;> simp [raise, pended, hst, hp, hg]

section
variable (hn : n < s.ev.sources.length) (hact : (s.src n).act = false) (ht : (s.src n).target = 9)
include hn

theorem src_pended : (pended n s).src n = { s.src n with pend := true, deliv := true } := src_setSrc_same _ hn

include hact

theorem asserted_pended : ((pended n s).src n).asserted = true := by
  simp [src_pended hn, Source.asserted, hact]

include ht

theorem vecAsserted_pended : (pended n s).vecAsserted (s.src n).vector = true := by
  have hsrc := src_pended hn
  have h := vecAsserted_src (s := pended n s) (n := n) (by simpa [pended] using hn) (asserted_pended hn hact)
    (by rw [hsrc]; exact ht)
  rwa [hsrc] at h

/-- An event that asserts a source of the host signals its vector. -/
theorem raise_host (hw : s.awake = true) (hp : (s.src n).priority ≠ 0) (hg : (s.src n).grouped = false)
    (hd : s.link.d3hot = false) (ha : (s.src n).asserted = false) :
    raise n s = signalVec (s.src n).vector (pended n s) := by
  have hsrc := src_pended hn
  rw [raise_ungrouped hw hp hg, if_neg (by simp [ha]),
    notify_host (asserted_pended hn hact) (by rw [hsrc]; exact ht) hd, hsrc]
  rfl

end

end

/-! ### The source a claim picks (R308) -/

/-- The sources a claim over `p` looks at. -/
def Source.claimable (p : Source → Bool) (x : Source) : Prop := x.asserted = true ∧ p x = true

/-- One source compared with the best so far, as `claimPick` does: its number, and its priority plus 1. -/
def claimStep (p : Source → Bool) (best : Nat × Nat) (e : Source × Nat) : Nat × Nat :=
  if e.1.asserted && p e.1 && decide (e.1.priority + 1 > best.2) then (e.2, e.1.priority + 1) else best

theorem claimPick_eq_foldl (p : Source → Bool) (xs : List Source) :
    claimPick p xs = (xs.zipIdx.foldl (claimStep p) (0, 0)).1 := rfl

section
variable {p : Source → Bool} {best : Nat × Nat} {e : Source × Nat} {k : Nat} {l : List (Source × Nat)}

theorem claimStep_keeps (h : e.1.claimable p → e.1.priority < best.2) : claimStep p best e = best := by
  refine if_neg fun hc => ?_
  simp only [Bool.and_eq_true, decide_eq_true_eq] at hc
  obtain ⟨hcl, hgt⟩ := hc
  have := h hcl
  omega

theorem claimStep_takes (hc : e.1.claimable p) (h : best.2 ≤ e.1.priority) :
    claimStep p best e = (e.2, e.1.priority + 1) := by
  obtain ⟨ha, hp⟩ := hc
  simp [claimStep, ha, hp, Nat.lt_succ_of_le h]

/-- No source that follows beats the best: it stays. -/
theorem foldl_claimStep_keeps (h : ∀ e ∈ l, e.1.claimable p → e.1.priority < best.2) :
    l.foldl (claimStep p) best = best :=
  List.foldlRecOn (motive := (· = best)) l _ rfl fun b hb e he => by
    rw [hb, claimStep_keeps (h e he)]

/-- Sources below priority k leave a best below priority k. -/
theorem foldl_claimStep_le (hb : best.2 ≤ k) (h : ∀ e ∈ l, e.1.claimable p → e.1.priority < k) :
    (l.foldl (claimStep p) best).2 ≤ k := by
  refine List.foldlRecOn (motive := fun b : Nat × Nat => b.2 ≤ k) l _ hb fun b hb e he => ?_
  unfold claimStep
  split
  · next hc =>
    simp only [Bool.and_eq_true] at hc
    exact h e he hc.1
  · exact hb

end

section
variable {p : Source → Bool} {s : State} {n : Nat}

theorem claimPick_none {xs : List Source} (h : ∀ x ∈ xs, ¬ x.claimable p) : claimPick p xs = 0 := by
  rw [claimPick_eq_foldl, foldl_claimStep_keeps fun e he hc => absurd hc (h _ (List.fst_mem_of_mem_zipIdx he))]

/-- Lower priorities before it, none higher after it: the claim takes this source. -/
theorem claimPick_split {before after : List Source} {x : Source} (hx : x.claimable p)
    (hb : ∀ y ∈ before, y.claimable p → y.priority < x.priority)
    (ha : ∀ y ∈ after, y.claimable p → y.priority ≤ x.priority) :
    claimPick p (before ++ x :: after) = before.length := by
  have hbefore : (before.zipIdx.foldl (claimStep p) (0, 0)).2 ≤ x.priority :=
    foldl_claimStep_le (Nat.zero_le _) fun e he => hb _ (List.fst_mem_of_mem_zipIdx he)
  rw [claimPick_eq_foldl, List.zipIdx_append, List.zipIdx_cons, List.foldl_append, List.foldl_cons,
    claimStep_takes (e := (x, _)) hx hbefore,
    foldl_claimStep_keeps fun e he hc => Nat.lt_succ_of_le (ha _ (List.fst_mem_of_mem_zipIdx he) hc), Nat.zero_add]

/-- Source n is the one a claim over `p` returns: asserted, of the highest priority, ties to the lowest number. -/
def State.BestClaim (s : State) (p : Source → Bool) (n : Nat) : Prop :=
  n < 512 ∧ (s.src n).asserted = true ∧ p (s.src n) = true ∧
    ∀ m < 512, (s.src m).asserted = true → p (s.src m) = true → (s.src m).priority < (s.src n).priority ∨
      ((s.src m).priority = (s.src n).priority ∧ n ≤ m)

/-- No source asserted satisfies `p`. -/
def State.NoClaim (s : State) (p : Source → Bool) : Prop :=
  ∀ m < 512, (s.src m).asserted = true → p (s.src m) = false

theorem claimFor_disabled (p : Source → Bool) (s : State) : claimFor p true s = 0 := rfl

theorem claimFor_noClaim (hl : s.ev.sources.length = 512) (h : s.NoClaim p) (dis : Bool) : claimFor p dis s = 0 := by
  have hpick : claimPick p s.ev.sources = 0 := claimPick_none fun x hx ⟨ha, hp⟩ => by
    obtain ⟨m, hm, rfl⟩ := List.getElem_of_mem hx
    rw [← src_eq_getElem hm] at ha hp
    simp [h m (hl ▸ hm) ha] at hp
  rw [claimFor, hpick, ite_self]

theorem claimFor_best (hl : s.ev.sources.length = 512) (h : s.BestClaim p n) : claimFor p false s = n := by
  obtain ⟨hn, ha, hp, hbest⟩ := h
  have hn' : n < s.ev.sources.length := hl ▸ hn
  have rank (m : Nat) (hm : m < s.ev.sources.length) (hc : s.ev.sources[m].claimable p) :
      s.ev.sources[m].priority < (s.src n).priority ∨ s.ev.sources[m].priority = (s.src n).priority ∧ n ≤ m := by
    rw [← src_eq_getElem hm] at hc ⊢
    exact hbest m (hl ▸ hm) hc.1 hc.2
  have hsplit : s.ev.sources = s.ev.sources.take n ++ s.src n :: s.ev.sources.drop (n + 1) := by
    rw [src_eq_getElem hn', List.getElem_cons_drop, List.take_append_drop]
  calc claimFor p false s = claimPick p (s.ev.sources.take n ++ s.src n :: s.ev.sources.drop (n + 1)) := by
        rw [← hsplit]; rfl
    _ = (s.ev.sources.take n).length := by
        refine claimPick_split ⟨ha, hp⟩ (fun y hy hc => ?_) (fun y hy hc => ?_)
        · obtain ⟨m, hm, rfl⟩ := List.mem_take_iff_getElem.1 hy
          have := rank m (by omega) hc
          omega
        · obtain ⟨m, hm, rfl⟩ := List.mem_drop_iff_getElem.1 hy
          have := rank (n + 1 + m) (by omega) hc
          omega
    _ = n := List.length_take_of_le hn'.le

end

/-! ### The claim registers (R308, R314, R316) -/

/-- What a read of a claim register leaves: source n claimed, or, with none to claim, the state `idle`. -/
def claimAnswer (n : Nat) (idle s : State) : State :=
  if n = 0 then { idle with hostRead := 0 } else { claimed n s with hostRead := BitVec.ofNat 32 n }

section
variable {s : State}

theorem exec_evClaim_host (h : s.hostReach = true) : exec (.evClaim true) s =
    .next (claimAnswer (claimFor (fun x => x.target == 9) s.ev.gdisHost s) (rearmAll s) s) := by
  simp only [exec, execEvClaim, claimRead, claimAnswer, if_true, h]
  split <;> rfl

theorem exec_evVclaim (h : s.hostReach = true) (v : Fin 2048) : exec (.evVclaim v) s =
    .next (claimAnswer (claimFor (fun x => x.target == 9 && x.vector == v.val) s.ev.gdisHost s) (rearm v s) s) := by
  simp only [exec, execEvVclaim, vclaimRead, claimAnswer, if_true, h]
  split <;> rfl

theorem exec_evClaim_supervisor (h : s.supervisorRuns = true) : exec (.evClaim false) s =
    .next (claimAnswer (claimFor (fun x => x.target == 0) s.ev.gdisT0 s) s s) := by
  simp only [exec, execEvClaim, claimRead, claimAnswer, Bool.false_eq_true, if_false, h, if_true]
  split <;> rfl

/-- R308 for a command that reads a claim register over `p`, `dis` being the DISABLE of its target. -/
def ClaimReads (s : State) (i : Instr) (p : Source → Bool) (dis : Bool) : Prop :=
  (dis = false → ∀ n, n ≠ 0 → s.BestClaim p n → ∃ t, exec i s = .next t ∧ t.hostRead = BitVec.ofNat 32 n ∧
    t.src n = { s.src n with act := true, pend := false, deliv := false } ∧
    (∀ m, m ≠ n → t.src m = s.src m) ∧ { t with ev := s.ev, hostRead := s.hostRead } = s) ∧
  ((dis = true ∨ s.NoClaim p) → ∃ t, exec i s = .next t ∧ t.hostRead = 0 ∧
    { t with msix := s.msix, tx := s.tx, link := s.link, hostRead := s.hostRead } = s)

/-- A command that answers by `claimAnswer`, and changes only the vectors when nothing is claimed, reads as R308 says. -/
theorem claimReads_of_claimAnswer {i : Instr} {p : Source → Bool} {dis : Bool} {idle : State}
    (hl : s.ev.sources.length = 512) (hi : exec i s = .next (claimAnswer (claimFor p dis s) idle s))
    (hidle : { idle with msix := s.msix, tx := s.tx } = s) : ClaimReads s i p dis := by
  refine ⟨fun hd n h0 hbest => ?_, fun h => ?_⟩
  · subst hd
    rw [claimFor_best hl hbest, claimAnswer, if_neg h0] at hi
    exact ⟨_, hi, rfl, src_setSrc_same (s := s) _ (hl ▸ hbest.1), fun m => src_setSrc_ne (s := s) _, rfl⟩
  · have hzero : claimFor p dis s = 0 := h.elim (fun hd => hd ▸ claimFor_disabled p s) (claimFor_noClaim hl · dis)
    rw [hzero, claimAnswer, if_pos rfl] at hi
    exact ⟨_, hi, rfl, congrArg (fun t : State => { t with link := s.link, hostRead := s.hostRead }) hidle⟩

end

/-- Settles O35: the claims by `claimReads_of_claimAnswer`, whose content is `claimFor_best`; an event by
`raise_ungrouped` and what `signalVec` does with an armed, masked or disarmed vector. -/
theorem eventClaims : Obligations.EventClaims := by
  unfold Obligations.EventClaims
  refine ⟨fun s hl => ⟨fun hr => ⟨?_, fun v => ?_⟩, fun hr => ?_⟩, fun s n hl hn hw hp hgrp hact ht hg hd => ?_⟩
  · exact claimReads_of_claimAnswer hl (exec_evClaim_host hr) (rearmAll_rest s)
  · exact claimReads_of_claimAnswer hl (exec_evVclaim hr v) (rearm_rest v s)
  · exact claimReads_of_claimAnswer hl (exec_evClaim_supervisor hr) rfl
  intro v x
  refine ⟨fun ha => by rw [raise_ungrouped hw hp hgrp, if_pos ha], fun ha => ?_⟩
  have hn' : n < s.ev.sources.length := hl ▸ hn
  have hva := vecAsserted_pended hn' hact ht
  have hsrc : (signalVec (s.src n).vector (pended n s)).ev.sources = s.ev.sources.set n x := by
    rw [signalVec_ev]
    rfl
  rw [raise_host hn' hact ht hw hp hgrp hd ha]
  refine ⟨⟨src_of_set_same hsrc hn', fun m => src_of_set_ne hsrc⟩, fun hv hm => ?_, fun hv hm => ?_, fun hv => ?_⟩
  · rw [signalVec_unmasked (s := pended n s) hg hd hv hva hm]
    exact ⟨rfl, rfl, rfl⟩
  · rw [signalVec_masked (s := pended n s) hg hd hv hva hm]
    exact ⟨rfl, List.mem_cons_self, rfl⟩
  · rw [signalVec_disarmed (s := pended n s) hv]
    exact ⟨rfl, rfl⟩

/-! ### Completion (R309) -/

/-- Source y re-sampled, its condition being b: a level-triggered source becomes pending or is withdrawn. -/
def Source.resampled (y : Source) (b : Bool) : Source :=
  if !y.level then y
  else if !b then y.withdrawn
  else if y.grouped then { y with pend := true }
  else { y with pend := true, deliv := true }

/-- Source x when its service ends, `c` being the sample of its condition taken at that moment. -/
def Source.ended (x : Source) : Option Bool → Source
  | none => { x with act := false }
  | some b => Source.resampled { x with act := false, cond := b } b

/-- What a completion of source n samples: its condition, unless priority 0 suspends the sampling (R304). -/
def State.completionSample (s : State) (n : Nat) : Option Bool := if (s.src n).priority == 0 then none else s.condOf n

section
variable (x y : Source) (b : Bool)

theorem Source.resampled_rest : { y.resampled b with pend := y.pend, deliv := y.deliv } = y := by
  unfold Source.resampled
  split
  · rfl
  split
  · rfl
  split <;> rfl

theorem Source.resampled_edge (hl : y.level = false) : y.resampled b = y :=
  if_pos (congrArg not hl)

theorem Source.ended_cfg (c : Option Bool) : (x.ended c).cfg = x.cfg := by
  cases c with
  | none => rfl
  | some b => exact (congrArg Source.cfg (Source.resampled_rest { x with act := false, cond := b } b) :)

theorem Source.ended_act (c : Option Bool) : (x.ended c).act = false := by
  cases c with
  | none => rfl
  | some b => exact (congrArg Source.act (Source.resampled_rest { x with act := false, cond := b } b) :)

theorem Source.ended_cond : (x.ended (some b)).cond = b :=
  (congrArg Source.cond (Source.resampled_rest { x with act := false, cond := b } b) :)

theorem Source.resampled_level (hl : y.level = true) : (y.resampled b).pend = b ∧
    (y.resampled b).deliv = if b then (if y.grouped then y.deliv else true) else false := by
  cases b with
  | false => simp [Source.resampled, hl, Source.withdrawn]
  | true => cases hg : y.grouped <;> simp [Source.resampled, hl, hg]

/-- Not re-sampled: what waits still waits. -/
theorem Source.ended_waiting {c : Option Bool} (h : c = none ∨ x.level = false) :
    (x.ended c).pend = x.pend ∧ (x.ended c).deliv = x.deliv := by
  cases c with
  | none => exact ⟨rfl, rfl⟩
  | some b =>
    have hedge : x.level = false := h.resolve_left nofun
    rw [Source.ended, Source.resampled_edge { x with act := false, cond := b } b hedge]
    exact ⟨rfl, rfl⟩

end

section
variable {s : State} {n : Nat}

theorem completionSample_eq (hp : (s.src n).priority ≠ 0) : s.completionSample n = s.condOf n :=
  if_neg (by simpa using hp)

theorem completionSample_none (h : s.condOf n = none ∨ (s.src n).priority = 0) : s.completionSample n = none := by
  obtain hc | hp := h
  · rw [State.completionSample, hc, ite_self]
  · exact if_pos (beq_iff_eq.2 hp)

/-- A completion changes the source alone: what follows it at the target leaves the controller. -/
theorem completed_sources (hn : n < s.ev.sources.length) (ht : (s.src n).target = 9 ∨ (s.src n).target = 0) :
    (completed n s).ev.sources = s.ev.sources.set n ((s.src n).ended (s.completionSample n)) := by
  have after (t : State) (h : t.ev.sources = s.ev.sources.set n ((s.src n).ended (s.completionSample n))) :
      (if (s.src n).target == 9 then t else notify n t).ev.sources =
        s.ev.sources.set n ((s.src n).ended (s.completionSample n)) := by
    obtain ht | ht := ht
    · simp [ht, h]
    · have htgt : (t.src n).target = 0 := by
        rw [src_of_set_same h hn, Source.target, Source.ended_cfg]
        exact ht
      simp [ht, notify_t0_ev htgt, h]
  refine after _ ?_
  split
  · next hc =>
    rw [show s.completionSample n = none from hc]
    rfl
  · next c hc =>
    rw [show s.completionSample n = some c from hc]
    simp only [Source.ended, Source.resampled, apply_ite State.ev, apply_ite Events.sources,
      apply_ite (s.ev.sources.set n), setSrc_ev, setGroup_ev]
    rfl

theorem completed_src_same (hn : n < s.ev.sources.length) (ht : (s.src n).target = 9 ∨ (s.src n).target = 0) :
    (completed n s).src n = (s.src n).ended (s.completionSample n) :=
  src_of_set_same (completed_sources hn ht) hn

theorem completed_src_ne {m : Nat} (hn : n < s.ev.sources.length)
    (ht : (s.src n).target = 9 ∨ (s.src n).target = 0) (hm : m ≠ n) : (completed n s).src m = s.src m :=
  src_of_set_ne (completed_sources hn ht) hm

/-- A write of EV_COMPLETE that names an active source of the target ends its service; the host's re-arms its vector. -/
theorem completeWrite_active {host : Bool} {v : Nat} (h0 : v % 512 ≠ 0)
    (ht : (s.src (v % 512)).target = if host then 9 else 0) (ha : (s.src (v % 512)).act = true) :
    completeWrite host v s = if host then rearm (s.src (v % 512)).vector (completed (v % 512) s)
      else completed (v % 512) s := by
  simp only [completeWrite]
  rw [if_neg (by simp [h0, ht, ha])]

/-- Any other write has no effect but BADCOMP on the host side. -/
theorem completeWrite_other {host : Bool} {v : Nat} (h : v % 512 = 0 ∨ (s.src (v % 512)).target ≠ (if host then 9 else 0) ∨
    (s.src (v % 512)).act = false) : completeWrite host v s =
      if host then { s with ev := { s.ev with stat := { s.ev.stat with badcomp := true } } } else s :=
  if_pos h

theorem exec_evComplete {host : Bool} (h : (if host then s.hostReach else s.supervisorRuns) = true) (v : BitVec 32) :
    exec (.evComplete host v) s = .next (completeWrite host v.toNat s) :=
  congrArg Host.Outcome.next (if_pos h)

theorem exec_evGdisWrite {host : Bool} (h : (if host then s.hostReach else s.supervisorRuns) = true) (v : BitVec 32) :
    exec (.evGdisWrite host v) s = .next (gdisWrite host (v.getLsbD 0) s) :=
  congrArg Host.Outcome.next (if_pos h)

theorem gdisWrite_set (host : Bool) (s : State) : gdisWrite host true s =
    if host then { s with ev := { s.ev with gdisHost := true } } else { s with ev := { s.ev with gdisT0 := true } } := by
  simp [gdisWrite]

theorem gdisWrite_clear_host (h : s.ev.gdisHost = true) :
    gdisWrite true false s = signalAll { s with ev := { s.ev with gdisHost := false } } := by
  simp [gdisWrite, h]

theorem gdisWrite_clear_t0 (h : s.ev.gdisT0 = true) :
    gdisWrite false false s = wakeT0 { s with ev := { s.ev with gdisT0 := false } } := by
  simp [gdisWrite, h]

theorem exec_evRing (h : s.supervisorRuns = true) (v : BitVec 64) :
    exec (.evRing v) s = .next (if 320 ≤ v.toNat % 512 then raise (v.toNat % 512) s else s) :=
  congrArg Host.Outcome.next (if_pos h)

end

/-- Settles O36: the writes by the rule of each register; the service that ends by `completed_sources`, and the state the
source is left in by the lemmas about `Source.ended`. -/
theorem eventCompletion : Obligations.EventCompletion := by
  unfold Obligations.EventCompletion
  refine fun s hl => ⟨fun host v hr => ⟨fun h0 ht ha => ?_, fun hh hbad => ?_, fun hh hbad => ?_, fun hv => ?_, fun hv =>
    ⟨fun hh hg => ?_, fun hh hg => ?_⟩⟩, fun hr v => ⟨fun hv => ?_, fun hv => ?_⟩, fun n hn ht => ?_⟩
  · rw [exec_evComplete hr, completeWrite_active h0 ht ha]
  · subst hh
    rw [exec_evComplete hr, completeWrite_other (host := true) hbad, if_pos rfl]
  · subst hh
    rw [exec_evComplete hr, completeWrite_other (host := false) hbad, if_neg Bool.false_ne_true]
  · rw [exec_evGdisWrite hr, hv, gdisWrite_set]
  · subst hh
    rw [exec_evGdisWrite hr, hv, gdisWrite_clear_host hg]
  · subst hh
    rw [exec_evGdisWrite hr, hv, gdisWrite_clear_t0 hg]
  · rw [exec_evRing hr, if_pos hv]
  · rw [exec_evRing hr, if_neg (Nat.not_le.2 hv)]
  · have hn' : n < s.ev.sources.length := hl ▸ hn
    intro x y
    have hy : y = x.ended (s.completionSample n) := completed_src_same hn' ht
    rw [hy]
    refine ⟨fun m => completed_src_ne hn' ht, x.ended_act _, x.ended_cfg _, fun hp b hb => ?_, fun h => ?_⟩
    · rw [completionSample_eq hp, hb]
      exact ⟨x.ended_cond b, Source.resampled_level { x with act := false, cond := b } b⟩
    · refine x.ended_waiting ?_
      obtain hc | hedge | hp := h
      · exact .inl (completionSample_none (.inl hc))
      · exact .inr hedge
      · exact .inl (completionSample_none (.inr hp))

end Sys2Proof.Machine
end

section
/-! Integer, logic, shift, bit and immediate instructions (06 R120, R121): one rule per body shape, and what the word
operations compute. -/

namespace Sys2Proof.Machine

/-! ### One rule per body shape -/

section
variable {s : State} {c : Fin 9} {f : Nat} {fr : Fr} {d a b : BitVec 5} {i : Instr} {v : Word}

theorem exec_aluBin {op : Word → Word → Word} (h : Runs s c f fr 1) (hi : exec i s = .next (aluBin c d a b op s))
    (hv : op (fr.reg a) (fr.reg b) = v) : exec i s = .next (retired c f 1 (fr.setReg d v) s) := by
  subst hv
  rw [hi, aluBin, runInstr_ret h rfl (Fr.setReg_pc ..)]

theorem exec_aluUn {op : Word → Word} (h : Runs s c f fr 1) (hi : exec i s = .next (aluUn c d a op s))
    (hv : op (fr.reg a) = v) : exec i s = .next (retired c f 1 (fr.setReg d v) s) := by
  subst hv
  rw [hi, aluUn, runInstr_ret h rfl (Fr.setReg_pc ..)]

theorem exec_aluImm {op : Word → Word → Word} {imm : BitVec 14} (h : Runs s c f fr 1)
    (hi : exec i s = .next (aluImm c d a imm op s)) (hv : op (fr.reg a) (imm.signExtend 64) = v) :
    exec i s = .next (retired c f 1 (fr.setReg d v) s) := by
  subst hv
  rw [hi, aluImm, runInstr_ret h rfl (Fr.setReg_pc ..)]

theorem exec_aluShift {op : Word → Nat → Word} {sh : BitVec 6} (h : Runs s c f fr 1)
    (hi : exec i s = .next (aluShift c d a sh op s)) (hv : op (fr.reg a) sh.toNat = v) :
    exec i s = .next (retired c f 1 (fr.setReg d v) s) := by
  subst hv
  rw [hi, aluShift, runInstr_ret h rfl (Fr.setReg_pc ..)]

section
variable {bad : Word → Word → Bool} {cause : Cause} {op : Word → Word → Word}

theorem exec_aluTrap_good (h : Runs s c f fr 1) (hi : exec i s = .next (aluTrap c d a b bad cause op s))
    (hb : bad (fr.reg a) (fr.reg b) = false) (hv : op (fr.reg a) (fr.reg b) = v) :
    exec i s = .next (retired c f 1 (fr.setReg d v) s) := by
  subst hv
  rw [hi, aluTrap, runInstr_ret h (by rw [hb]; rfl) (Fr.setReg_pc ..)]

theorem exec_aluTrap_bad (h : Runs s c f fr 1) (hi : exec i s = .next (aluTrap c d a b bad cause op s))
    (hb : bad (fr.reg a) (fr.reg b) = true) : exec i s = .next (trapped c f cause 0 s) := by
  rw [hi, aluTrap, runInstr_trap h (if_pos hb)]

end

/-- A conditional move writes g d or leaves the frame, by its test of g a. -/
theorem exec_aluMov {p : Word → Bool} (h : Runs s c f fr 1) (hi : exec i s = .next (aluMov c d a b p s)) :
    exec i s = .next (retired c f 1 (if p (fr.reg a) then fr.setReg d (fr.reg b) else fr) s) := by
  rw [hi, aluMov]
  cases hp : p (fr.reg a) with
  | true => rw [runInstr_ret h (if_pos hp) (Fr.setReg_pc ..), if_pos rfl]
  | false => rw [runInstr_ret h (by rw [hp]; rfl) rfl, if_neg Bool.false_ne_true]

end

/-! ### What the word operations compute -/

theorem flag_iff {p : Bool} {P : Prop} [Decidable P] (h : p = true ↔ P) : flag p = if P then 1 else 0 := by
  simp [flag, h]

theorem overflows_iff (n : Int) : overflows n = true ↔ ¬(-(2 ^ 63) ≤ n ∧ n < 2 ^ 63) := by
  simp [overflows]
  omega

theorem overflows_fits {n : Int} (h : -(2 ^ 63) ≤ n ∧ n < 2 ^ 63) : overflows n = false :=
  Bool.eq_false_iff.2 fun ho => (overflows_iff n).1 ho h

/-- MUL is the low half of the unsigned product. -/
theorem mul_eq_ofNat (x y : Word) : x * y = BitVec.ofNat 64 (x.toNat * y.toNat) := by
  rw [BitVec.ofNat_mul, BitVec.ofNat_toNat, BitVec.ofNat_toNat, BitVec.setWidth_eq, BitVec.setWidth_eq]

theorem toInt_bounds (x : Word) : -(2 ^ 63) ≤ x.toInt ∧ x.toInt < 2 ^ 63 :=
  ⟨BitVec.le_toInt x, BitVec.toInt_lt⟩

/-- A number of 64 signed bits is what the word made of it reads. -/
theorem toInt_ofInt_fits {n : Int} (h : -(2 ^ 63) ≤ n) (h' : n < 2 ^ 63) : (BitVec.ofInt 64 n).toInt = n :=
  BitVec.toInt_ofInt_eq_self (by decide) h h'

theorem mul_bounds {m : Int} (hm : 0 ≤ m) {a b : Int} (ha : -m ≤ a) (ha' : a ≤ m) (hb : -m ≤ b) (hb' : b ≤ m) :
    -(m * m) ≤ a * b ∧ a * b ≤ m * m :=
  abs_le.1 (abs_mul a b ▸ mul_le_mul (abs_le.2 ⟨ha, ha'⟩) (abs_le.2 ⟨hb, hb'⟩) (abs_nonneg b) hm)

/-- MULHS is the signed product divided by 2^64, rounded down. -/
theorem mulHighS_spec (x y : Word) :
    ∃ lo : Nat, lo < 2 ^ 64 ∧ x.toInt * y.toInt = (mulHighS x y).toInt * 2 ^ 64 + lo := by
  obtain ⟨hx, hx'⟩ := toInt_bounds x
  obtain ⟨hy, hy'⟩ := toInt_bounds y
  obtain ⟨hl, hu⟩ := mul_bounds (by decide : (0 : Int) ≤ 2 ^ 63) hx hx'.le hy hy'.le
  have hq : (mulHighS x y).toInt = x.toInt * y.toInt / 2 ^ 64 := toInt_ofInt_fits (by omega) (by omega)
  refine ⟨(x.toInt * y.toInt % 2 ^ 64).toNat, by omega, ?_⟩
  rw [hq]
  omega

/-- Quotient and remainder of the signed division, away from the one quotient that does not fit. -/
theorem divSigned_spec {x y : Word} (hy : y ≠ 0) (hne : ¬(x.toInt = -(2 ^ 63) ∧ y.toInt = -1)) :
    x.toInt = (divSigned x y).toInt * y.toInt + (remSigned x y).toInt ∧
      (remSigned x y).toInt.natAbs < y.toInt.natAbs ∧
      (remSigned x y = 0 ∨ ((remSigned x y).toInt < 0 ↔ x.toInt < 0)) := by
  obtain ⟨hx, hx'⟩ := toInt_bounds x
  obtain ⟨hyl, hyu⟩ := toInt_bounds y
  have hy0 : y.toInt ≠ 0 := fun h => hy (BitVec.eq_of_toInt_eq (by rw [h]; rfl))
  have hrabs : (x.toInt.tmod y.toInt).natAbs < y.toInt.natAbs := by
    rw [Int.natAbs_tmod]; exact Nat.mod_lt _ (by omega)
  have hrxabs : (x.toInt.tmod y.toInt).natAbs ≤ x.toInt.natAbs := by
    rw [Int.natAbs_tmod]; exact Nat.mod_le ..
  have hqabs : (x.toInt.tdiv y.toInt).natAbs = x.toInt.natAbs / y.toInt.natAbs := Int.natAbs_tdiv ..
  have hle : x.toInt.natAbs / y.toInt.natAbs ≤ x.toInt.natAbs := Nat.div_le_self ..
  have hsum := Int.tdiv_mul_add_tmod x.toInt y.toInt
  have hquot : x.toInt.tdiv y.toInt < 2 ^ 63 := by
    by_contra hbig
    have hfull : x.toInt = -(2 ^ 63) := by omega
    have hone : y.toInt.natAbs = 1 := by
      by_contra hn
      have := Nat.div_le_div_left (c := 2) (show 2 ≤ y.toInt.natAbs by omega) (by decide) (a := x.toInt.natAbs)
      omega
    rcases Int.natAbs_eq y.toInt with h | h
    · rw [hone] at h
      rw [show y.toInt = 1 by omega, Int.tdiv_one] at hbig
      omega
    · exact hne ⟨hfull, by omega⟩
  have hq : (divSigned x y).toInt = x.toInt.tdiv y.toInt := toInt_ofInt_fits (by omega) hquot
  have hr : (remSigned x y).toInt = x.toInt.tmod y.toInt := toInt_ofInt_fits (by omega) (by omega)
  refine ⟨by rw [hq, hr]; omega, by rw [hr]; exact hrabs, ?_⟩
  by_cases h0 : x.toInt.tmod y.toInt = 0
  · exact .inl (BitVec.eq_of_toInt_eq (by rw [hr, h0]; rfl))
  · refine .inr ?_
    rw [hr]
    rcases lt_or_ge x.toInt 0 with hneg | hpos
    · have := Int.tmod_nonneg y.toInt (show 0 ≤ -x.toInt by omega)
      rw [Int.neg_tmod] at this
      omega
    · have := Int.tmod_nonneg y.toInt hpos
      omega

/-- The most negative number divided by −1 gives itself, and the remainder 0 (R120). -/
theorem divSigned_corner {x y : Word} (hx : x.toInt = -(2 ^ 63)) (hy : y.toInt = -1) :
    divSigned x y = x ∧ remSigned x y = 0 := by
  have hx' : x = BitVec.ofInt 64 (-(2 ^ 63)) := BitVec.eq_of_toInt_eq (by rw [hx]; rfl)
  rw [divSigned, remSigned, hx, hy, hx']
  decide

theorem signExtend_eq_ofInt {w : Nat} (x : BitVec w) (n : Nat) : x.signExtend n = BitVec.ofInt n x.toInt := rfl

theorem zeroExtend_eq_ofNat (x : BitVec 32) : x.zeroExtend 64 = BitVec.ofNat 64 x.toNat := by
  apply BitVec.eq_of_toNat_eq
  simp

theorem shiftLeft_eq_ofNat (x : Word) (n : Nat) : x <<< n = BitVec.ofNat 64 (x.toNat * 2 ^ n) := by
  apply BitVec.eq_of_toNat_eq
  simp [Nat.shiftLeft_eq]

theorem ushiftRight_eq_ofNat (x : Word) (n : Nat) : x >>> n = BitVec.ofNat 64 (x.toNat / 2 ^ n) := by
  apply BitVec.eq_of_toNat_eq
  have := Nat.div_le_self x.toNat (2 ^ n)
  have := x.isLt
  rw [BitVec.toNat_ushiftRight, Nat.shiftRight_eq_div_pow, BitVec.toNat_ofNat, Nat.mod_eq_of_lt (by omega)]

theorem sshiftRight_eq_ofInt (x : Word) (n : Nat) : x.sshiftRight n = BitVec.ofInt 64 (x.toInt / 2 ^ n) := by
  rw [BitVec.sshiftRight, Int.shiftRight_eq_div_pow]
  norm_num

/-- The register above a literal word (LIW form 2). -/
theorem liw_concat (x : Word) (lit : BitVec 32) : (x <<< 32) ||| lit.zeroExtend 64 =
    BitVec.ofNat 64 (x.toNat * 2 ^ 32 % 2 ^ 64 + lit.toNat) := by
  have hlit := lit.isLt
  have hor : (x <<< 32) ||| lit.zeroExtend 64 = (x <<< 32) + lit.zeroExtend 64 :=
    (BitVec.add_eq_or_of_and_eq_zero _ _ (by
      ext i hi
      simp only [BitVec.getElem_and, BitVec.getElem_shiftLeft, BitVec.getElem_setWidth, BitVec.getElem_zero]
      by_cases h : i < 32
      · simp [h]
      · simp [BitVec.getLsbD_of_ge lit i (by omega)])).symm
  apply BitVec.eq_of_toNat_eq
  rw [hor]
  simp [Nat.shiftLeft_eq]

/-! ### Bit counts -/

theorem clzN_le (x : Word) (n : Nat) : clzN x n ≤ n := by
  induction n with
  | zero => exact Nat.le_refl 0
  | succ n ih => simp only [clzN]; split <;> omega

theorem clzN_lt {x : Word} {n : Nat} (h : x.toNat < 2 ^ n) : x.toNat < 2 ^ (n - clzN x n) := by
  induction n with
  | zero => exact h
  | succ n ih =>
    simp only [clzN]
    cases hb : x.getLsbD n with
    | true => simpa using h
    | false =>
      have hlow : x.toNat < 2 ^ n := by
        refine Nat.lt_pow_two_of_testBit _ fun i hi => ?_
        rcases Nat.eq_or_lt_of_le hi with rfl | hi
        · exact hb
        · exact Nat.testBit_lt_two_pow (lt_of_lt_of_le h (Nat.pow_le_pow_right (by decide) hi))
      have := ih hlow
      rwa [if_neg Bool.false_ne_true, show n + 1 - (1 + clzN x n) = n - clzN x n by omega]

theorem clzN_stop {x : Word} {n : Nat} (h : clzN x n < n) : x.getLsbD (n - 1 - clzN x n) = true := by
  induction n with
  | zero => exact absurd h (Nat.lt_irrefl 0)
  | succ n ih =>
    simp only [clzN] at h ⊢
    cases hb : x.getLsbD n with
    | true => simpa using hb
    | false =>
      rw [hb, if_neg Bool.false_ne_true] at h
      rw [if_neg Bool.false_ne_true, ← ih (by omega)]
      congr 1
      omega

theorem ctzN_le (x : Word) (i n : Nat) : ctzN x i n ≤ n := by
  induction n generalizing i with
  | zero => exact Nat.le_refl 0
  | succ n ih => simp only [ctzN]; have := ih (i + 1); split <;> omega

theorem ctzN_below {x : Word} {i n k : Nat} (h : k < ctzN x i n) : x.getLsbD (i + k) = false := by
  induction n generalizing i k with
  | zero => exact absurd h (Nat.not_lt_zero k)
  | succ n ih =>
    simp only [ctzN] at h
    cases hb : x.getLsbD i with
    | true => rw [hb, if_pos rfl] at h; exact absurd h (Nat.not_lt_zero k)
    | false =>
      rw [hb, if_neg Bool.false_ne_true] at h
      cases k with
      | zero => exact hb
      | succ k => rw [show i + (k + 1) = i + 1 + k by omega]; exact ih (by omega)

theorem ctzN_stop {x : Word} {i n : Nat} (h : ctzN x i n < n) : x.getLsbD (i + ctzN x i n) = true := by
  induction n generalizing i with
  | zero => exact absurd h (Nat.lt_irrefl 0)
  | succ n ih =>
    simp only [ctzN] at h ⊢
    cases hb : x.getLsbD i with
    | true => simpa using hb
    | false =>
      rw [hb, if_neg Bool.false_ne_true] at h
      rw [if_neg Bool.false_ne_true, ← ih (i := i + 1) (by omega)]
      congr 1
      omega

theorem popN_eq (x : Word) (n : Nat) : popN x n = ((List.range n).filter fun i => x.getLsbD i).length := by
  induction n with
  | zero => rfl
  | succ n ih =>
    rw [List.range_succ, List.filter_append, List.length_append, ← ih, popN]
    cases hb : x.getLsbD n <;> simp [hb, b2n, Nat.add_comm]

/-! ### Bytes and fields -/

theorem leN_div (l : Bytes) (i : Nat) : leN l / 256 ^ i = leN (l.drop i) := by
  induction i generalizing l with
  | zero => simp
  | succ i ih =>
    cases l with
    | nil => simp [leN]
    | cons b bs =>
      have hb := b.isLt
      rw [List.drop_succ_cons, ← ih bs, Nat.pow_succ', ← Nat.div_div_eq_div_mul, leN]
      congr 1
      omega

/-- Byte i of a little-endian number. -/
theorem byte_leN {l : Bytes} {i : Nat} (h : i < l.length) : BitVec.ofNat 8 (leN l / 256 ^ i) = l[i] := by
  rw [leN_div, List.drop_eq_getElem_cons h, leN]
  apply BitVec.eq_of_toNat_eq
  rw [BitVec.toNat_ofNat, Nat.add_mul_mod_self_left, Nat.mod_eq_of_lt l[i].isLt]

@[simp] theorem le_length (n k : Nat) : (le n k).length = k := by
  induction k generalizing n with
  | zero => rfl
  | succ k ih => simp [le, ih]

theorem le_getElem {n k i : Nat} (h : i < (le n k).length) : (le n k)[i] = BitVec.ofNat 8 (n / 256 ^ i) := by
  induction k generalizing n i with
  | zero => simp [le] at h
  | succ k ih =>
    cases i with
    | zero => simp [le]
    | succ i => simp only [le, List.getElem_cons_succ, ih, Nat.div_div_eq_div_mul, Nat.pow_succ']

theorem leN_lt (l : Bytes) : leN l < 256 ^ l.length := by
  induction l with
  | nil => simp [leN]
  | cons b bs ih => have := b.isLt; rw [leN, List.length_cons, Nat.pow_succ']; omega

/-- BSWAP puts byte 7 − i of its operand at byte i. -/
theorem byteSwap_byte (x : Word) {i : Nat} (hi : i < 8) :
    (byteSwap x).extractLsb' (8 * i) 8 = x.extractLsb' (56 - 8 * i) 8 := by
  have hlen : i < (le x.toNat 8).reverse.length := by simpa using hi
  have hlt : beN (le x.toNat 8) < 2 ^ 64 := by simpa [beN] using leN_lt (le x.toNat 8).reverse
  have hbyte := byte_leN hlen
  rw [List.getElem_reverse, le_getElem] at hbyte
  have hpow (k : Nat) : (256 : Nat) ^ k = 2 ^ (8 * k) := by rw [Nat.pow_mul]
  simp only [le_length, hpow] at hbyte
  rw [BitVec.extractLsb', BitVec.extractLsb', Nat.shiftRight_eq_div_pow, Nat.shiftRight_eq_div_pow, byteSwap,
    BitVec.toNat_ofNat, Nat.mod_eq_of_lt hlt, beN, hbyte]
  congr 3
  omega

theorem signed_eq_toInt {v w : Nat} (hw : 0 < w) (hv : v < 2 ^ w) : signed v w = (BitVec.ofNat w v).toInt := by
  have hpow : 2 ^ w = 2 * 2 ^ (w - 1) := (mul_pow_sub_one hw.ne' 2).symm
  rw [signed, BitVec.toInt_eq_toNat_cond, BitVec.toNat_ofNat, Nat.mod_eq_of_lt hv]
  by_cases h : v < 2 ^ (w - 1)
  · rw [if_pos h, if_pos (by omega)]
  · rw [if_neg h, if_neg (by omega)]

/-- The bits of a field (BFX): those of the operand, then zeros or the field's top bit. -/
theorem bitField_bit (x : Word) (lo w : Nat) (sx : Bool) {i : Nat} (hi : i < 64) :
    (bitField x lo (w + 1) sx).getLsbD i = if i ≤ w then x.getLsbD (lo + i) else sx && x.getLsbD (lo + w) := by
  have hv : x.toNat / 2 ^ lo % 2 ^ (w + 1) < 2 ^ (w + 1) := Nat.mod_lt _ (Nat.two_pow_pos _)
  have hbit (k : Nat) : (x.toNat / 2 ^ lo % 2 ^ (w + 1)).testBit k = (decide (k ≤ w) && x.getLsbD (lo + k)) := by
    rw [Nat.testBit_mod_two_pow, Nat.testBit_div_two_pow, BitVec.getLsbD, Nat.add_comm k lo]
    simp only [Nat.lt_succ_iff]
  cases sx with
  | false =>
    rw [bitField, if_neg Bool.false_ne_true, BitVec.getLsbD_ofNat, hbit]
    by_cases h : i ≤ w <;> simp [hi, h]
  | true =>
    rw [bitField, if_pos rfl, signed_eq_toInt (Nat.succ_pos w) hv, ← signExtend_eq_ofInt, BitVec.getLsbD_signExtend]
    simp only [BitVec.getLsbD_ofNat, BitVec.msb_eq_getLsbD_last, hbit]
    by_cases h : i ≤ w <;> simp [hi, h]

/-- The bits after BFI: the operand's in the field, the register's outside it. -/
theorem bitInsert_bit (d x : Word) (lo w : Nat) {i : Nat} (hi : i < 64) :
    (bitInsert d x lo (w + 1)).getLsbD i = if lo ≤ i ∧ i ≤ lo + w then x.getLsbD (i - lo) else d.getLsbD i := by
  have hmask : (BitVec.ofNat 64 ((2 ^ (w + 1) - 1) * 2 ^ lo)).getLsbD i = decide (lo ≤ i ∧ i ≤ lo + w) := by
    rw [BitVec.getLsbD_ofNat, Nat.testBit_mul_two_pow, Nat.testBit_two_pow_sub_one]
    simp only [hi, decide_true, Bool.true_and, Bool.decide_and]
    by_cases h : lo ≤ i
    · simp only [h, decide_true, Bool.true_and]; congr 1; apply propext; omega
    · simp [h]
  simp only [bitInsert, BitVec.getLsbD_or, BitVec.getLsbD_and, BitVec.getLsbD_not, BitVec.getLsbD_shiftLeft, hmask, hi]
  by_cases h : lo ≤ i ∧ i ≤ lo + w
  · simp [h, Nat.not_lt.2 h.1]
  · simp [h]

/-! ### The statements -/

/-- Settles O2: every command by `exec_aluBin`; the products by `mul_eq_ofNat` and `mulHighS_spec`. -/
theorem integerResults : Obligations.IntegerResults := by
  unfold Obligations.IntegerResults
  refine fun s c f fr d a b h => ⟨exec_aluBin h rfl rfl, exec_aluBin h rfl rfl, exec_aluBin h rfl (flag_iff decide_eq_true_iff),
    exec_aluBin h rfl (flag_iff decide_eq_true_iff), exec_aluBin h rfl (mul_eq_ofNat _ _), exec_aluBin h rfl rfl,
    ⟨_, exec_aluBin h rfl rfl, mulHighS_spec _ _⟩, exec_aluBin h rfl rfl, exec_aluBin h rfl rfl, exec_aluBin h rfl rfl,
    exec_aluBin h rfl rfl, exec_aluBin h rfl rfl, exec_aluBin h rfl rfl⟩

/-- Settles O3: results by `exec_aluTrap_good`, traps by `exec_aluTrap_bad`; the signed division by `divSigned_spec` and
`divSigned_corner`. -/
theorem trappingArithmetic : Obligations.TrappingArithmetic := by
  unfold Obligations.TrappingArithmetic
  intro s c f fr d a b h x y ret fits
  refine ⟨fun hf => exec_aluTrap_good h rfl (overflows_fits hf) rfl, fun hf => exec_aluTrap_good h rfl (overflows_fits hf) rfl,
    fun hf => exec_aluTrap_bad h rfl ((overflows_iff _).2 hf), fun hf => exec_aluTrap_bad h rfl ((overflows_iff _).2 hf),
    fun hy => ?_, fun hy => ?_⟩
  · have hgood : (y == 0) = false := beq_eq_false_iff_ne.2 hy
    refine ⟨exec_aluTrap_good h rfl hgood (BitVec.udiv_def ..), exec_aluTrap_good h rfl hgood (BitVec.umod_def ..),
      _, _, exec_aluTrap_good h rfl hgood rfl, exec_aluTrap_good h rfl hgood rfl, ?_⟩
    split
    next hc => exact divSigned_corner hc.1 hc.2
    next hc => exact divSigned_spec hy hc
  · have hbad : (y == 0) = true := beq_iff_eq.2 hy
    simp only [List.forall_mem_cons]
    exact ⟨exec_aluTrap_bad h rfl hbad, exec_aluTrap_bad h rfl hbad, exec_aluTrap_bad h rfl hbad,
      exec_aluTrap_bad h rfl hbad, List.forall_mem_nil _⟩

/-- Settles O4: every command by its body's rule, shifts and compares as `BitVec` gives them in numbers. -/
theorem shiftsAndCompares : Obligations.ShiftsAndCompares := by
  unfold Obligations.ShiftsAndCompares
  intro s c f fr d a b h x y n ret cmp
  have hn : n < 64 := Nat.mod_lt _ (by decide)
  have hrol : x.rotateLeft n = x <<< n ||| x >>> (64 - n) := BitVec.rotateLeft_def.trans (by rw [Nat.mod_eq_of_lt hn])
  have hror : x.rotateRight n = x >>> n ||| x <<< (64 - n) := BitVec.rotateRight_def.trans (by rw [Nat.mod_eq_of_lt hn])
  refine ⟨exec_aluBin h rfl (shiftLeft_eq_ofNat ..), exec_aluBin h rfl (ushiftRight_eq_ofNat ..),
    exec_aluBin h rfl (sshiftRight_eq_ofInt ..), exec_aluBin h rfl hrol, exec_aluBin h rfl hror,
    exec_aluBin h rfl (flag_iff beq_iff_eq), exec_aluBin h rfl (flag_iff bne_iff_ne),
    exec_aluBin h rfl (flag_iff BitVec.slt_iff_toInt_lt), exec_aluBin h rfl (flag_iff BitVec.ult_iff_toNat_lt), ?_, ?_⟩
  · rw [exec_aluMov h rfl]
    by_cases hx : fr.reg a = 0 <;> simp [x, y, hx]
  · rw [exec_aluMov h rfl]
    by_cases hx : fr.reg a = 0 <;> simp [x, y, hx]

/-- Settles O5: the counts by the lemmas of `clzN`, `ctzN` and `popN`, the fields by `bitField_bit` and
`bitInsert_bit`. -/
theorem bitInstructions : Obligations.BitInstructions := by
  unfold Obligations.BitInstructions
  intro s c f fr d a h x ret
  refine ⟨⟨clzN x 64, clzN_le x 64, exec_aluUn h rfl rfl, clzN_lt x.isLt, clzN_stop⟩,
    ⟨ctzN x 0 64, ctzN_le x 0 64, exec_aluUn h rfl rfl, fun i hi => ?_, fun hn => ?_⟩,
    exec_aluUn h rfl (congrArg _ (popN_eq ..)), ⟨_, exec_aluUn h rfl rfl, fun i hi => byteSwap_byte x hi⟩,
    fun lo w sx hw => ?_, fun lo w hw => ?_, fun lo w sx hw => ?_⟩
  · simpa using ctzN_below hi
  · simpa using ctzN_stop hn
  · refine ⟨_, congrArg Host.Outcome.next (runInstr_ret h (if_neg ?_) (Fr.setReg_pc ..)), fun i hi => bitField_bit x _ _ _ hi⟩
    omega
  · refine ⟨_, congrArg Host.Outcome.next (runInstr_ret h (if_neg ?_) (Fr.setReg_pc ..)), fun i hi => bitInsert_bit _ x _ _ hi⟩
    omega
  · have hbad : lo.toNat + (w.toNat + 1) > 64 := by omega
    exact ⟨congrArg Host.Outcome.next (runInstr_trap h (if_pos hbad)),
      congrArg Host.Outcome.next (runInstr_trap h (if_pos hbad))⟩

/-- Settles O6: the immediate forms by `exec_aluImm` and `exec_aluShift`, LIW by the value `liwValue` gives. -/
theorem immediateForms : Obligations.ImmediateForms := by
  unfold Obligations.ImmediateForms
  intro s c f fr d a x ret
  refine ⟨fun h imm sh => ?_, fun h lit => ?_⟩
  · intro y
    have hslt : x.slt (imm.signExtend 64) = true ↔ x.toInt < imm.toInt := by
      rw [BitVec.slt_iff_toInt_lt, BitVec.toInt_signExtend_of_le (by decide)]
    exact ⟨exec_aluImm h rfl rfl, exec_aluImm h rfl rfl, exec_aluImm h rfl rfl, exec_aluImm h rfl rfl,
      exec_aluShift h rfl (shiftLeft_eq_ofNat ..), exec_aluShift h rfl (ushiftRight_eq_ofNat ..),
      exec_aluShift h rfl (sshiftRight_eq_ofInt ..), exec_aluImm h rfl (flag_iff hslt),
      exec_aluImm h rfl (flag_iff BitVec.ult_iff_toNat_lt)⟩
  · have hok {mode : BitVec 2} {v : Word} (hv : liwValue a x mode lit = some v) :
        exec (.liw c d a mode lit) s = ret 2 v :=
      congrArg Host.Outcome.next (runInstr_ret h (by rw [hv]; rfl) (Fr.setReg_pc ..))
    have hbad {mode : BitVec 2} (hv : liwValue a x mode lit = none) :
        exec (.liw c d a mode lit) s = .next (trapped c f .illegal 0 s) :=
      congrArg Host.Outcome.next (runInstr_trap h (by rw [hv]))
    exact ⟨fun ha => ⟨hok (if_pos ha), hok ((if_pos ha).trans (congrArg some (zeroExtend_eq_ofNat lit)))⟩, hok (congrArg some (liw_concat x lit)),
      fun ha => ⟨hbad (if_neg ha), hbad (if_neg ha)⟩, hbad rfl⟩

end Sys2Proof.Machine
end

section
/-! What a retired instruction leaves (06 R106, R109), loads and stores (R112, R126, R139), and the address space
(R110 to R112). -/

namespace Sys2Proof.Machine

/-! ### A retired instruction -/

section
variable {s : State} {c f : Nat}

theorem endStep_core_ne {c' : Nat} (h : c' ≠ c) : (endStep c s).core c' = s.core c' := by
  unfold endStep
  split
  · exact core_setCore_other c c' _ s h.symm
  · rfl

theorem endStep_core (hc : c < 9) : (endStep c s).core c = { s.core c with stepping := false } := by
  unfold endStep
  split
  next => exact core_setCore_same c _ s hc
  next h =>
    have hstep : (s.core c).stepping = false := by simpa using h
    rw [← hstep]

/-- The end of a STEP changes the cores only. -/
theorem endStep_rest : { endStep c s with cores := s.cores } = s := by
  unfold endStep
  split <;> rfl

theorem setFrame_core_ne {c' : Nat} {x : Option Fr} (h : c' ≠ c) : (setFrame c f x s).core c' = s.core c' :=
  core_setCore_other c c' _ s h.symm

theorem setFrame_core {x : Option Fr} (hc : c < 9) :
    (setFrame c f x s).core c = { s.core c with frames := vset (s.core c).frames f x } :=
  core_setCore_same c _ s hc

end

/-- Settles O7: the frame set and the STEP ended, each by its rule; registers by the rules of `Fr.setReg`. -/
theorem retireFrame : Obligations.RetireFrame := by
  unfold Obligations.RetireFrame
  refine ⟨fun s c f fr w => ?_, fun fr d v => ⟨?_, Fr.setReg_zero fr v, Fr.reg_zero fr, Fr.reg_setReg_same fr d v,
    fun r => Fr.reg_setReg_other fr d r v⟩, fun fr w => ⟨rfl, rfl, rfl⟩⟩
  · intro t
    have hcore : t.core c = { s.core c with
        frames := vset (s.core c).frames f (some (stepped fr w)), stepping := false } := by
      rw [show t = endStep c (setFrame c f (some (stepped fr w)) s) from rfl, endStep_core c.isLt, setFrame_core c.isLt]
    have hframe (f' : Fin 4) : t.frame c f' = vget (vset (s.core c).frames f (some (stepped fr w))) f' none := by
      rw [State.frame, hcore]
    refine ⟨?_, ?_, fun f' hf => ?_, fun c' hc => ?_, ?_, ?_, ?_, ?_, ?_⟩
    · exact congrArg (fun x : State => { x with cores := s.cores })
        (endStep_rest (c := c) (s := setFrame c f (some (stepped fr w)) s))
    · rw [hframe, vget_vset_same _ _ _ _ f.isLt]
    · rw [hframe, vget_vset_other _ _ _ _ _ (fun h => hf (Fin.ext h.symm))]
      rfl
    · have hne : (c' : Nat) ≠ c := fun h => hc (Fin.ext h)
      exact (endStep_core_ne hne).trans (setFrame_core_ne hne)
    all_goals rw [hcore]
  · rw [Fr.setReg_rest]

/-! ### Loads and stores -/

section
variable {s : State} {c : Fin 9} {f : Nat} {fr : Fr} {d a : BitVec 5} {imm : BitVec 14} {n : Nat} {r : Range}

theorem withAccess_misaligned {ea : Nat} {wr : Bool} {k : Range → IRes} (h : ea % n ≠ 0) :
    withAccess s fr ea n wr k = .trap .misaligned ea := by
  rw [withAccess, if_pos (bne_iff_ne.2 h)]

theorem withAccess_nowhere {ea : Nat} {wr : Bool} {k : Range → IRes} (h : ea % n = 0) (hp : s.place fr ea n wr = none) :
    withAccess s fr ea n wr k = .trap .access ea := by
  simp only [withAccess, h, bne_self_eq_false, Bool.false_eq_true, if_false, hp]

theorem withAccess_clear {ea : Nat} {wr : Bool} {k : Range → IRes} (h : ea % n = 0)
    (hp : s.place fr ea n wr = some r) (hz : s.hazard fr.uid [r] = false) : withAccess s fr ea n wr k = k r := by
  simp only [withAccess, h, bne_self_eq_false, Bool.false_eq_true, if_false, hp, hz]

section
variable {e : Ecc} {sx : Bool}

theorem loadN_misaligned (h : Runs s c f fr 1) (ha : (effAddr fr a imm).toNat % n ≠ 0) :
    loadN c e d a imm n sx s = trapped c f .misaligned (effAddr fr a imm).toNat s :=
  runInstr_trap h (withAccess_misaligned ha)

theorem loadN_nowhere (h : Runs s c f fr 1) (ha : (effAddr fr a imm).toNat % n = 0)
    (hp : s.place fr (effAddr fr a imm).toNat n false = none) :
    loadN c e d a imm n sx s = trapped c f .access (effAddr fr a imm).toNat s :=
  runInstr_trap h (withAccess_nowhere ha hp)

theorem storeN_misaligned (h : Runs s c f fr 1) (ha : (effAddr fr a imm).toNat % n ≠ 0) :
    storeN c d a imm n s e = trapped c f .misaligned (effAddr fr a imm).toNat s :=
  runInstr_trap h (withAccess_misaligned ha)

theorem storeN_nowhere (h : Runs s c f fr 1) (ha : (effAddr fr a imm).toNat % n = 0)
    (hp : s.place fr (effAddr fr a imm).toNat n true = none) :
    storeN c d a imm n s e = trapped c f .access (effAddr fr a imm).toNat s :=
  runInstr_trap h (withAccess_nowhere ha hp)

/-- The ECC outcome an access to range r meets: only applet SRAM, outside S mode, shows one (log 174). -/
def eccMet (e : Ecc) (fr : Fr) (r : Range) : Ecc := if r.space = spData ∧ fr.mode ≠ .s then e else .good

theorem eccMet_good (h : e = .good ∨ r.space ≠ spData ∨ fr.mode = .s) : eccMet e fr r = .good := by
  unfold eccMet
  split
  next hr => exact h.resolve_right (not_or.2 ⟨not_not.2 hr.1, hr.2⟩)
  next => rfl

theorem eccMet_sram (hr : r.space = spData) (hm : fr.mode ≠ .s) : eccMet e fr r = e := if_pos ⟨hr, hm⟩

/-- The state in which a load from range r takes its bytes. -/
def loadState (r : Range) (s : State) : State := if r.space = spShared then touchShared s else s

/-- The frame with the n bytes of range r in g d. -/
def loaded (c : Nat) (d : BitVec 5) (n : Nat) (sx : Bool) (fr : Fr) (r : Range) (s : State) : Fr :=
  let v := leN ((loadState r s).readRange c fr r)
  fr.setReg d (if sx then BitVec.ofInt 64 (signed v (8 * n)) else BitVec.ofNat 64 v)

section
variable (h : Runs s c f fr 1) (ha : (effAddr fr a imm).toNat % n = 0) (hz : s.hazard fr.uid [r] = false)
include h ha hz

section
variable (hp : s.place fr (effAddr fr a imm).toNat n false = some r)
include hp

theorem loadN_good (he : eccMet e fr r = .good) :
    loadN c e d a imm n sx s = retired c f 1 (loaded c d n sx fr r s) (loadState r s) :=
  runInstr_ret h ((withAccess_clear ha hp hz).trans (by
    rw [eccMet] at he
    simp only [he]
    rfl)) (Fr.setReg_pc ..)

theorem loadN_corrected (he : eccMet e fr r = .corrected) : loadN c e d a imm n sx s =
    retiredThen c f 1 { loaded c d n sx fr r s with retried := true } (chanFault (40 + c) fr.op) (loadState r s) :=
  runInstr_ok h ((withAccess_clear ha hp hz).trans (by
    rw [eccMet] at he
    simp only [he]
    rfl)) (Fr.setReg_pc ..)

theorem loadN_uncorrectable (he : eccMet e fr r = .uncorrectable) : loadN c e d a imm n sx s =
    endStep c (memoryTrap c f fr (effAddr fr a imm).toNat (loadState r s)) :=
  runInstr_keep h ((withAccess_clear ha hp hz).trans (by
    rw [eccMet] at he
    simp only [he]
    rfl))

end

section
variable (hp : s.place fr (effAddr fr a imm).toNat n true = some r)
include hp

theorem storeN_good (he : eccMet e fr r = .good) : storeN c d a imm n s e =
    retiredThen c f 1 fr (writeOut (.token c f fr.uid 0) (dstOf c f fr r) (le (fr.reg d).toNat n)) s :=
  runInstr_ok h ((withAccess_clear ha hp hz).trans (by rw [eccMet] at he; simp only [he])) rfl

theorem storeN_corrected (he : eccMet e fr r = .corrected) : storeN c d a imm n s e =
    retiredThen c f 1 { fr with retried := true } (fun t =>
      writeOut (.token c f fr.uid 0) (dstOf c f fr r) (le (fr.reg d).toNat n) (chanFault (40 + c) fr.op t)) s :=
  runInstr_ok h ((withAccess_clear ha hp hz).trans (by rw [eccMet] at he; simp only [he])) rfl

theorem storeN_uncorrectable (he : eccMet e fr r = .uncorrectable) : storeN c d a imm n s e =
    endStep c (memoryTrap c f fr (effAddr fr a imm).toNat s) :=
  runInstr_keep h ((withAccess_clear ha hp hz).trans (by rw [eccMet] at he; simp only [he]))

end

end

end

end

/-! ### A load from the shared page -/

/-- A sample of the time base moves it forward and uses up a free value; nothing else changes. -/
theorem sampleTime_rest (s : State) : { sampleTime s with time := s.time, freeCtr := s.freeCtr } = s := rfl

theorem sampleTime_t_le (s : State) : s.time.t ≤ (sampleTime s).time.t := le_max_left _ _

/-- Two states agree beside the time base and the counter of free values. -/
def SameButTime (s t : State) : Prop := { t with time := s.time, freeCtr := s.freeCtr } = s

theorem SameButTime.rewriteShared {s t : State} (h : SameButTime s t) : SameButTime s (rewriteShared t) := h

theorem SameButTime.beginShared {s t : State} {k : Nat} (h : SameButTime s t) : SameButTime s (beginShared k t) := h

theorem touchShared_rest (s : State) : SameButTime s (touchShared s) := by
  have h0 : SameButTime s (sampleTime s.freeNat.2) := rfl
  unfold touchShared
  dsimp only
  split <;> split
  · exact h0.rewriteShared.beginShared
  · exact h0.beginShared
  · exact h0.rewriteShared
  · exact h0

/-- The rewrite of the shared page leaves the time where its sample put it. -/
theorem touchShared_t_le (s : State) : s.time.t ≤ (touchShared s).time.t := by
  have ht : (touchShared s).time.t = (sampleTime s.freeNat.2).time.t := by
    unfold touchShared
    dsimp only
    split <;> split <;> rfl
  exact ht ▸ sampleTime_t_le s.freeNat.2

/-- Settles O8: the outcomes by the rules of `loadN`; what a load changes besides by `touchShared_rest` and
`touchShared_t_le`. -/
theorem loadResults : Obligations.LoadResults := by
  unfold Obligations.LoadResults
  refine ⟨fun s c f fr d a imm e n r => ?_, fun s => ⟨touchShared_rest s, touchShared_t_le s⟩⟩
  intro ea h ha hp hz s1 v zero sign loads i fr' hl
  have hload : ∃ sx, exec i s = .next (loadN c e d a imm n sx s) ∧ fr' = loaded c d n sx fr r s := by
    obtain ⟨rfl, rfl, rfl⟩ | ⟨rfl, ⟨rfl, rfl⟩ | ⟨rfl, rfl⟩⟩ | ⟨rfl, ⟨rfl, rfl⟩ | ⟨rfl, rfl⟩⟩ |
      ⟨rfl, ⟨rfl, rfl⟩ | ⟨rfl, rfl⟩⟩ := hl
    exacts [⟨false, rfl, rfl⟩, ⟨true, rfl, rfl⟩, ⟨false, rfl, rfl⟩, ⟨true, rfl, rfl⟩, ⟨false, rfl, rfl⟩, ⟨true, rfl, rfl⟩,
      ⟨false, rfl, rfl⟩]
  obtain ⟨sx, hi, rfl⟩ := hload
  refine ⟨fun he => hi.trans (congrArg _ (loadN_good h ha hz hp (eccMet_good he))), fun hr hm => ⟨fun he => ?_, fun he => ?_⟩⟩
  · exact hi.trans (congrArg _ (loadN_corrected h ha hz hp ((eccMet_sram hr hm).trans he)))
  · exact hi.trans (congrArg _ (loadN_uncorrectable h ha hz hp ((eccMet_sram hr hm).trans he)))

/-- Settles O9: the outcomes by the rules of `storeN`. -/
theorem storeResults : Obligations.StoreResults := by
  unfold Obligations.StoreResults
  intro s c f fr d a imm n r ea h ha hp hz put stores e i hs
  have hi : exec i s = .next (storeN c d a imm n s e) := by
    obtain ⟨rfl, rfl⟩ | ⟨rfl, rfl⟩ | ⟨rfl, rfl⟩ | ⟨rfl, rfl⟩ := hs
    all_goals rfl
  refine ⟨fun he => hi.trans (congrArg _ (storeN_good h ha hz hp (eccMet_good he))), fun hr hm => ⟨fun he => ?_, fun he => ?_⟩⟩
  · exact hi.trans (congrArg _ (storeN_corrected h ha hz hp ((eccMet_sram hr hm).trans he)))
  · exact hi.trans (congrArg _ (storeN_uncorrectable h ha hz hp ((eccMet_sram hr hm).trans he)))

/-! ### The address space of A and J mode -/

section
variable {s : State} {fr : Fr} {a n : Nat} {wr : Bool} (hm : fr.mode ≠ .s) (hd : fr.dataLen ≤ 0x400000)
include hm

theorem place_data {off : Nat} (ha : a = 0x40000000 + off) (hoff : off < 0x40000000) :
    s.place fr a n wr = if off + n ≤ fr.dataLen then some ⟨spData, off, n, wr⟩ else none := by
  subst ha
  unfold State.place Fr.dataBase Fr.dataSize
  rw [if_neg (mt beq_iff_eq.1 hm), if_neg (mt beq_iff_eq.1 hm)]
  by_cases hin : off + n ≤ fr.dataLen
  · rw [if_pos (by omega), if_pos hin, Nat.add_sub_cancel_left]
  · rw [if_neg (by omega), if_neg (by omega), if_neg (by omega), if_neg (by omega), if_neg hin]

theorem place_belowData (ha : a < 0x40000000) : s.place fr a n wr = none := by
  unfold State.place Fr.dataBase
  rw [if_neg (mt beq_iff_eq.1 hm), if_neg (by omega), if_neg (by omega), if_neg (by omega), if_neg (by omega)]

include hd

/-- An address past the data region's place is not in it. -/
theorem place_beyondData (hn : 0 < n) (ha : 0x80000000 ≤ a) : ¬(fr.dataBase ≤ a ∧ a + n ≤ fr.dataBase + fr.dataSize) := by
  unfold Fr.dataBase Fr.dataSize
  rw [if_neg (mt beq_iff_eq.1 hm), if_neg (mt beq_iff_eq.1 hm)]
  omega

theorem place_window {k x : Nat} {w : Window} (hn : 0 < n) (ha : a = 0x80000000 + k * 0x07000000 + x) (hk : k < 16)
    (hx : x + n ≤ 0x07000000) (hw : vget fr.windows k none = some w) :
    s.place fr a n wr = if vget fr.slides k 0 * 0x01000000 + x + n ≤ w.len ∧ (if wr then w.wr else w.rd) = true then
      some ⟨spWindow k, vget fr.slides k 0 * 0x01000000 + x, n, wr⟩ else none := by
  have hno : (a - 0x80000000) / 0x07000000 = k := by omega
  have hoff : (a - 0x80000000) % 0x07000000 = x := by omega
  rw [State.place, if_neg (place_beyondData hm hd hn (by omega)), if_pos (by omega)]
  simp only [hno, hoff, hw, hx, true_and]

theorem place_shared {off : Nat} (hn : 0 < n) (ha : a = 0xF0000000 + off) (hoff : off + n ≤ 0x1000) :
    s.place fr a n wr = if wr then none else some ⟨spShared, off, n, false⟩ := by
  subst ha
  rw [State.place, if_neg (place_beyondData hm hd hn (by omega)), if_neg (by omega), if_pos (by omega),
    Nat.add_sub_cancel_left]

theorem place_page {off : Nat} (hn : 0 < n) (ha : a = 0xF0001000 + off) (hoff : off + n ≤ 0x800) :
    s.place fr a n wr = if (s.generalSession fr).isSome ∧ (wr = false ∨ 0x100 ≤ off) then some ⟨spPage, off, n, wr⟩
      else none := by
  subst ha
  rw [State.place, if_neg (place_beyondData hm hd hn (by omega)), if_neg (by omega), if_neg (by omega),
    if_pos (by omega), Nat.add_sub_cancel_left]
  have hlow : 0xF0001000 + off < 0xF0001100 ↔ ¬ 0x100 ≤ off := by omega
  simp only [hlow]
  cases s.generalSession fr <;> cases wr <;> by_cases h : 0x100 ≤ off <;> simp [h]

theorem place_beyondPage (hn : 0 < n) (ha : 0xF0001800 ≤ a) : s.place fr a n wr = none := by
  rw [State.place, if_neg (place_beyondData hm hd hn (by omega)), if_neg (by omega), if_neg (by omega), if_neg (by omega)]

end

/-- Settles O10: the traps by the rules of `loadN` and `storeN`, the address space by the rules of `State.place`. -/
theorem memoryTraps : Obligations.MemoryTraps := by
  unfold Obligations.MemoryTraps
  refine ⟨fun s c f fr d a imm e h => ?_, fun s fr a n wr hm hn hn8 hd => ⟨place_belowData hm, fun ha =>
    place_beyondPage hm hd hn (by omega), fun off ha hoff => place_data hm ha hoff, fun k x w ha hk hx hw =>
    place_window hm hd hn ha hk hx hw, fun off => place_shared hm hd hn, fun off => place_page hm hd hn, fun _ =>
    place_beyondPage hm hd hn⟩⟩
  intro ea loads stores
  have hload (n : Nat) : ∀ i ∈ loads n, ∃ sx, exec i s = .next (loadN c e d a imm n sx s) := by
    intro i hi
    simp only [loads] at hi
    split at hi <;> simp only [List.mem_cons, List.not_mem_nil, or_false] at hi
    · exact ⟨false, hi ▸ rfl⟩
    · exact hi.elim (fun h => ⟨true, h ▸ rfl⟩) (fun h => ⟨false, h ▸ rfl⟩)
    · exact hi.elim (fun h => ⟨true, h ▸ rfl⟩) (fun h => ⟨false, h ▸ rfl⟩)
    · exact hi.elim (fun h => ⟨true, h ▸ rfl⟩) (fun h => ⟨false, h ▸ rfl⟩)
  have hstore (n : Nat) : ∀ i ∈ stores n, exec i s = .next (storeN c d a imm n s e) := by
    intro i hi
    simp only [stores] at hi
    split at hi <;> simp only [List.mem_cons, List.not_mem_nil, or_false] at hi
    all_goals exact hi ▸ rfl
  refine ⟨fun n ha i hi => ?_, fun n ha hp i hi => ?_, fun n ha hp i hi => ?_⟩
  · rcases List.mem_append.1 hi with hi | hi
    · obtain ⟨sx, hsx⟩ := hload n i hi
      exact hsx.trans (congrArg _ (loadN_misaligned h ha))
    · exact (hstore n i hi).trans (congrArg _ (storeN_misaligned h ha))
  · obtain ⟨sx, hsx⟩ := hload n i hi
    exact hsx.trans (congrArg _ (loadN_nowhere h ha hp))
  · exact (hstore n i hi).trans (congrArg _ (storeN_nowhere h ha hp))

end Sys2Proof.Machine
end

section
/-! Control of a frame: EXIT, BREAK, JALR beyond 32 bits (06 R113, R119, R122, R123), system words (R109), handles
(R107, R124), TRET, WAITI and the run limit (R111), and tokens (07 R136, R137). -/

namespace Sys2Proof.Machine

/-! ### The frame that runs -/

section
variable {s : State} {c f : Nat} {fr : Fr}

/-- What it means that frame f of core c executes. -/
theorem runningFrame_iff : s.runningFrame c = some (f, fr) ↔
    s.awake = true ∧ ((s.core c).halted && !(s.core c).stepping) = false ∧ (s.core c).waiti = false ∧
      (∃ g : Fin 4, (s.core c).running = some g ∧ g.val = f) ∧ s.frame c f = some fr ∧ fr.pressing = false ∧
      fr.runnable = true := by
  unfold State.runningFrame
  dsimp only
  split
  next hrun =>
    simp only [Bool.or_eq_true, Bool.not_eq_true'] at hrun
    refine iff_of_false nofun fun ⟨ha, hh, hw, _⟩ => ?_
    simp [ha, hh, hw] at hrun
  next hrun =>
    simp only [Bool.or_eq_true, Bool.not_eq_true', not_or, Bool.not_eq_false, Bool.not_eq_true] at hrun
    obtain ⟨⟨ha, hh⟩, hw⟩ := hrun
    simp only [ha, hh, hw, true_and]
    cases (s.core c).running with
    | none => simp
    | some g =>
      dsimp only
      cases hx : s.frame c g with
      | none =>
        refine iff_of_false nofun ?_
        rintro ⟨⟨_, hg, hgf⟩, hfr, -⟩
        cases hg
        rw [← hgf, hx] at hfr
        cases hfr
      | some x =>
        dsimp only
        constructor
        · intro h
          split at h
          · cases h
          next hwait =>
            cases h
            simp only [Bool.or_eq_true, Bool.not_eq_true', not_or, Bool.not_eq_true, Bool.not_eq_false] at hwait
            exact ⟨⟨g, rfl, rfl⟩, hx, hwait⟩
        · rintro ⟨⟨_, hg, hgf⟩, hfr, hp, hr⟩
          cases hg
          subst hgf
          rw [hx] at hfr
          cases hfr
          simp [hp, hr]

theorem vset_vget {α : Type} {n i : Nat} (v : Vector α n) (d : α) : vset v i (vget v i d) = v := by
  unfold vset vget
  split
  next h => simp [List.getD, h]
  next => rfl

theorem vset_vset {α : Type} {n i : Nat} (v : Vector α n) (x y : α) : vset (vset v i x) i y = vset v i y := by
  unfold vset
  split
  next h => simp
  next => rfl

/-- Setting a frame as it stands changes nothing. -/
theorem setFrame_self (h : s.frame c f = some fr) : setFrame c f (some fr) s = s := by
  rw [State.frame] at h
  unfold setFrame setCore
  rw [← h, vset_vget, State.core, vset_vget]

/-- Of two settings of a frame the later one stands. -/
theorem setFrame_setFrame (x y : Option Fr) (hc : c < 9) : setFrame c f y (setFrame c f x s) = setFrame c f y s := by
  unfold setFrame
  rw [core_setCore_same c _ s hc, vset_vset]
  unfold setCore
  rw [vset_vset]

theorem frame_setFrame (x : Option Fr) (hc : c < 9) (hf : f < 4) : (setFrame c f x s).frame c f = x := by
  rw [State.frame, setFrame, core_setCore_same c _ s hc, vget_vset_same _ _ _ _ hf]

/-- The frame that executes, changed, executes as long as it waits for nothing. -/
theorem runningFrame_setFrame {x : Fr} (hc : c < 9) (h : s.runningFrame c = some (f, fr)) (hp : x.pressing = false)
    (hr : x.runnable = true) : (setFrame c f (some x) s).runningFrame c = some (f, x) := by
  obtain ⟨ha, hh, hw, ⟨g, hg, hgf⟩, -, -, -⟩ := runningFrame_iff.1 h
  have hcore : (setFrame c f (some x) s).core c = { s.core c with frames := vset (s.core c).frames f (some x) } :=
    core_setCore_same c _ s hc
  refine runningFrame_iff.2 ⟨ha, ?_, ?_, ?_, frame_setFrame _ hc (hgf ▸ g.isLt), hp, hr⟩
  · rw [hcore]; exact hh
  · rw [hcore]; exact hw
  · rw [hcore]; exact ⟨g, hg, hgf⟩

end

theorem runs_frame {s : State} {c f w : Nat} {fr : Fr} (h : Runs s c f fr w) : s.frame c f = some fr :=
  by
  obtain ⟨-, -, -, -, hfr, -⟩ := runningFrame_iff.1 h.1
  exact hfr

/-! ### EXIT, BREAK and JALR -/

/-- EXIT may carry every status of R123. -/
theorem exitStatus_code {st : Status}
    (h : st = .ok ∨ st.cls = 1 ∨ (st.cls = 4 ∧ st ≠ .parkInvalid ∧ st ≠ .mediaTagFail)) :
    exitStatus st.code = some st := by
  revert h
  cases st <;> decide

section
variable {s : State} {c : Fin 9} {f : Nat} {fr : Fr}

theorem takeExit_running (h : s.runningFrame c = some (f, fr)) :
    takeExit c s = setFrame c f (some { fr with exitDue := false }) s := by
  simp only [takeExit, h]

theorem takeExit_runs (h : Runs s c f fr 1) : takeExit c s = s := by
  have hfr := runs_frame h
  obtain ⟨hrun, -, hdue⟩ := h
  rw [takeExit_running hrun, ← hdue]
  exact setFrame_self hfr

/-- An EXIT granted against the run limit is taken up as one before it (R111). -/
theorem takeExit_due (h : Runs s c f fr 1) : takeExit c (setFrame c f (some { fr with exitDue := true }) s) = s := by
  obtain ⟨hrun, -, hdue⟩ := h
  obtain ⟨-, -, -, -, hfr, hp, hr⟩ := runningFrame_iff.1 hrun
  rw [takeExit_running (runningFrame_setFrame (x := { fr with exitDue := true }) c.isLt hrun hp hr),
    setFrame_setFrame _ _ c.isLt, ← hdue]
  exact setFrame_self hfr

/-- EXIT of an A or J frame with an allowed status, in a state that gives `s` once the EXIT is taken up. -/
theorem exec_exit_order {d : BitVec 5} {n : BitVec 19} {st : Status} {t : State} (h : Runs s c f fr 1) (hm : fr.mode ≠ .s)
    (ht : takeExit c t = s) (hst : exitStatus n.toNat = some st) :
    exec (.exit c d n) t = .next (retiredThen c f 1
      { fr with exiting := some ((fr.reg d).extractLsb' 0 32, st), presses := Vector.replicate 4 none }
      (fun t => let t := tryExit c f t; if (t.frame c f).isSome then yieldCore c t else t)
      { s with press := { s.press with bufUsed := s.press.bufUsed - fr.openReserve } }) := by
  have hmode : (fr.mode == .s) = false := beq_eq_false_iff_ne.2 hm
  subst ht
  exact congrArg Host.Outcome.next (runInstr_ok h (by simp only [hst, hmode, Bool.false_eq_true, if_false]; rfl) rfl)

theorem exec_exit_supervisor {d : BitVec 5} {n : BitVec 19} {st : Status} (h : Runs s c f fr 1) (hm : fr.mode = .s)
    (hst : exitStatus n.toNat = some st) :
    exec (.exit c d n) s = .next (retired c f 1
      { fr with presses := Vector.replicate 4 none, h := Vector.replicate 16 .empty }
      { s with press := { s.press with bufUsed := s.press.bufUsed - fr.openReserve } }) := by
  have ht := takeExit_runs h
  exact congrArg Host.Outcome.next (by
    dsimp only
    rw [ht]
    exact runInstr_ret h (by simp only [hst, hm, beq_self_eq_true, if_true]) rfl)

end

/-- Settles O12: EXIT by its two rules, taken up after a lost limit by `takeExit_due`; BREAK and JALR by their bodies. -/
theorem orderControl : Obligations.OrderControl := by
  unfold Obligations.OrderControl
  intro s c f fr h
  refine ⟨congrArg Host.Outcome.next (runInstr_ret h rfl rfl), fun d a off => ?_, fun hm d n st hn hst => ?_,
    fun hm d n st hn hst => ?_, fun hb => ?_, fun hd hl => ?_⟩
  · intro j h4 h32
    have h4' : ((fr.reg a + off.signExtend 64).toNat % 4 != 0) = false := bne_eq_false_iff_eq.2 h4
    have h32' : decide (2 ^ 32 ≤ (fr.reg a + off.signExtend 64).toNat) = true := decide_eq_true h32
    by_cases hm : fr.mode = .s
    · rw [if_pos hm, ← linkWord_eq]
      exact congrArg Host.Outcome.next (runInstr_jump h (by
        simp only [h4', hm, bne_self_eq_false, Bool.false_and, Bool.false_eq_true, if_false]
        rfl))
    · rw [if_neg hm]
      exact congrArg Host.Outcome.next (runInstr_trap h (by
        simp only [h4', h32', bne_iff_ne.2 hm, Bool.and_self, Bool.false_eq_true, if_false, if_true]
        rfl))
  · exact exec_exit_supervisor h hm (hn ▸ exitStatus_code hst)
  · have hst' := hn ▸ exitStatus_code hst
    exact ⟨exec_exit_order h hm (takeExit_runs h) hst', exec_exit_order h hm (takeExit_due h) hst'⟩
  · exact congrArg Host.Outcome.next (runInstr_ok h (if_pos (by simpa [State.debugOn] using hb)) rfl)
  · exact congrArg Host.Outcome.next (runInstr_trap h (if_neg (by simp [State.debugOn, hd, hl])))

end Sys2Proof.Machine
end

section
/-! System words (06 R109), handles (R107, R124), TRET, WAITI and the run limit (R111), and tokens (07 R136, R137). -/

namespace Sys2Proof.Machine

/-! ### System words -/

/-- WN_SLIDE words are read and written in every mode. -/
theorem wordReach_slide (k : Fin 16) (m : Mode) : wordReach (0x130 + k) m = some .rw := by
  have := k.isLt
  rw [wordReach, if_neg (by omega), if_pos (by omega)]

section
variable {s : State} {c : Fin 9} {f : Nat} {fr : Fr} {d : BitVec 5} {n : BitVec 19}

theorem exec_swr_undefined (h : Runs s c f fr 1) (hr : wordReach n.toNat fr.mode = none) :
    exec (.swr c d n) s = .next (trapped c f .illegal 0 s) :=
  congrArg Host.Outcome.next (runInstr_trap h (by simp only [hr]))

theorem exec_sww_undefined (h : Runs s c f fr 1) (hr : wordReach n.toNat fr.mode = none) :
    exec (.sww c d n) s = .next (trapped c f .illegal 0 s) :=
  congrArg Host.Outcome.next (runInstr_trap h (by simp only [swwRes, hr]))

theorem exec_swr_denied (h : Runs s c f fr 1) (hr : wordReach n.toNat fr.mode = some .denied) :
    exec (.swr c d n) s = .next (trapped c f .privileged 0 s) :=
  congrArg Host.Outcome.next (runInstr_trap h (by simp only [hr]))

theorem exec_sww_denied (h : Runs s c f fr 1) (hr : wordReach n.toNat fr.mode = some .denied) :
    exec (.sww c d n) s = .next (trapped c f .privileged 0 s) :=
  congrArg Host.Outcome.next (runInstr_trap h (by simp only [swwRes, hr]))

theorem exec_sww_readOnly (h : Runs s c f fr 1) (hr : wordReach n.toNat fr.mode = some .ro) :
    exec (.sww c d n) s = .next (trapped c f .access 0 s) :=
  congrArg Host.Outcome.next (runInstr_trap h (by simp only [swwRes, hr]))

theorem exec_swr_value (h : Runs s c f fr 1)
    (hr : wordReach n.toNat fr.mode = some .ro ∨ wordReach n.toNat fr.mode = some .rw) (hn : n ≠ 0x500) :
    exec (.swr c d n) s =
      .next (retired c f 1 (fr.setReg d (BitVec.ofNat 64 (wordValue s c fr n.toNat))) s) := by
  refine congrArg Host.Outcome.next (runInstr_ret h ?_ (Fr.setReg_pc ..))
  rcases hr with hr | hr <;> simp only [hr, if_neg hn] <;> rfl

/-- A write of a word the mode may write does what the word does. -/
theorem swwRes_writable {v : Word} {k : Nat} (hr : wordReach k fr.mode = some .rw) :
    swwRes c f fr k v s = wordWrite c f fr k v s := by
  simp only [swwRes, hr]

end

/-- Settles O13: accesses by the rules of SWR and SWW; the table by evaluation in each mode. -/
theorem systemWords : Obligations.SystemWords := by
  unfold Obligations.SystemWords
  refine ⟨fun s c f fr d n h => ⟨fun hr => ⟨exec_swr_undefined h hr, exec_sww_undefined h hr⟩, fun hr =>
    ⟨exec_swr_denied h hr, exec_sww_denied h hr⟩, exec_sww_readOnly h, exec_swr_value h, fun hn => ?_, fun k hn => ?_,
    fun hm hn => ?_⟩, ?_⟩
  · have hr : wordReach 0x105 fr.mode = some .rw := by cases fr.mode <;> decide
    have hw : swwRes c f fr n.toNat (fr.reg d) s = .ok { fr with odBytes := (fr.reg d).extractLsb' 0 32 } s id := by
      rw [show n.toNat = 0x105 by rw [hn]; decide, swwRes_writable hr, wordWrite, if_pos rfl]
    exact congrArg Host.Outcome.next (runInstr_ret h hw rfl)
  · have hk := k.isLt
    have hw : swwRes c f fr n.toNat (fr.reg d) s = if 9 < (fr.reg d).toNat then .trap .access 0 else
        .ok { fr with slides := vset fr.slides (n.toNat - 0x130) (fr.reg d).toNat } s id := by
      rw [swwRes_writable (hn ▸ wordReach_slide k fr.mode), wordWrite, if_neg (by omega), if_pos (by omega)]
    split
    next h9 =>
      refine congrArg Host.Outcome.next ((runInstr_ret (s' := s)
        (fr' := { fr with slides := vset fr.slides (n.toNat - 0x130) (fr.reg d).toNat }) h (by rw [hw, if_neg (by omega)]) rfl).trans ?_)
      rw [vset, dif_pos (by omega)]
      simp only [hn, Nat.add_sub_cancel_left]
    next h9 => exact congrArg Host.Outcome.next (runInstr_trap h (by rw [hw, if_pos (by omega)]))
  · have hr : wordReach 0x201 fr.mode = some .rw := by rw [hm]; decide
    have hw : swwRes c f fr n.toNat (fr.reg d) s = .ok fr { s with tp := { s.tp with pc := fr.reg d } } id := by
      rw [show n.toNat = 0x201 by rw [hn]; decide, swwRes_writable hr, wordWrite, if_neg (by decide), if_neg (by decide), if_neg (by decide), if_pos rfl]
    exact congrArg Host.Outcome.next (runInstr_ret h hw rfl)
  · refine ⟨fun m => ?_, fun m => ?_, by decide, by decide, by decide, fun m => ?_⟩
    all_goals cases m <;> decide

/-! ### Handles -/

theorem handleNo_eq {r : BitVec 5} {h : BitVec 4} (hr : r.toNat = h.toNat) : handleNo r = some h := by
  have hlt := h.isLt
  rw [handleNo, if_pos (by omega)]
  refine congrArg some (BitVec.eq_of_toNat_eq ?_)
  rw [BitVec.extractLsb'_toNat, Nat.shiftRight_zero, hr, Nat.mod_eq_of_lt hlt]

section
variable {s : State} {c : Fin 9} {f : Nat} {fr : Fr} {d a b : BitVec 5} {h : BitVec 4} {ty : BitVec 4}

theorem exec_hclr (hr : Runs s c f fr 1) (hd : d.toNat = h.toNat) :
    exec (.hclr c d) s = .next (retired c f 1 (fr.setHnd h .empty) s) :=
  congrArg Host.Outcome.next (runInstr_ret hr (by simp only [handleNo_eq hd]) rfl)

theorem exec_hmov {k : BitVec 4} (hr : Runs s c f fr 1) (hd : d.toNat = h.toNat) (ha : a.toNat = k.toNat) :
    exec (.hmov c d a) s = .next (retired c f 1 (fr.setHnd h (fr.hnd k)) s) :=
  congrArg Host.Outcome.next (runInstr_ret hr (by simp only [handleNo_eq hd, handleNo_eq ha]) rfl)

theorem exec_htype {k : BitVec 4} (hr : Runs s c f fr 1) (ha : a.toNat = k.toNat) :
    exec (.htype c d a) s = .next (retired c f 1 (fr.setReg d (BitVec.ofNat 64 (fr.hnd k).word)) s) :=
  congrArg Host.Outcome.next (runInstr_ret hr (by simp only [handleNo_eq ha]; rfl) (Fr.setReg_pc ..))

theorem exec_hbind_bound {o : Handle} (hr : Runs s c f fr 1) (hd : d.toNat = h.toNat) (ht : ty.toNat ≤ 8)
    (ho : bindObject s c fr ty.toNat (fr.reg a).toNat = .ok o) :
    exec (.hbind c d a b ty) s = .next (retired c f 1 ((fr.setHnd h o).setReg b 0) s) :=
  congrArg Host.Outcome.next (runInstr_ret hr
    (by simp only [handleNo_eq hd, if_neg (Nat.not_lt.2 ht), ho]; rfl) (Fr.setReg_pc ..))

theorem exec_hbind_status {st : Status} (hr : Runs s c f fr 1) (hd : d.toNat = h.toNat) (ht : ty.toNat ≤ 8)
    (ho : bindObject s c fr ty.toNat (fr.reg a).toNat = .error st) :
    exec (.hbind c d a b ty) s = .next (retired c f 1 (fr.setReg b (BitVec.ofNat 64 st.code)) s) :=
  congrArg Host.Outcome.next (runInstr_ret hr
    (by simp only [handleNo_eq hd, if_neg (Nat.not_lt.2 ht), ho]; rfl) (Fr.setReg_pc ..))

theorem exec_hbind_undefined (hr : Runs s c f fr 1) (hd : d.toNat = h.toNat) (ht : 8 < ty.toNat) :
    exec (.hbind c d a b ty) s = .next (trapped c f .illegal 0 s) :=
  congrArg Host.Outcome.next (runInstr_trap hr (by simp only [handleNo_eq hd, if_pos ht]))

end

/-! #### What HBIND checks of a key slot (R124, R172) -/

section
variable {s : State} {c : Nat} {fr : Fr} {n : Nat}

theorem bindObject_debug (hd : s.debugOn = true) : bindObject s c fr 1 n = .error .lifecycle := by
  simp [bindObject, hd]

theorem bindObject_beyondReach (hd : s.debugOn = false) (hr : (Rq.ofMode fr.mode).reaches s.active n = false) :
    bindObject s c fr 1 n = .error .keyAttr := by
  simp [bindObject, hd, hr]

/-- A slot that is reached binds where its number exists and it is live. -/
theorem bindObject_reached (hd : s.debugOn = false) (hr : (Rq.ofMode fr.mode).reaches s.active n = true) :
    bindObject s c fr 1 n = if 16383 < n then .error .operandRange
      else if (s.liveSlot n).isNone then .error .keyEmpty else .ok (.keySlot n) := by
  simp [bindObject, hd, hr]

theorem expired_iff {k : Slot} (hk : s.slot n = some k) :
    s.expired n = true ↔ k.expire = true ∧ (s.keys.bootNonce = none ∨ k.nonce ≠ s.keys.bootNonce) := by
  simp only [State.expired, hk]
  cases s.keys.bootNonce <;> simp

end

/-- Settles O14: the commands by their rules, the key slot by `bindObject_reached` and `expired_iff`. -/
theorem handles : Obligations.Handles := by
  unfold Obligations.Handles
  refine ⟨fun s c f fr d a b ty hr => ⟨fun h hd => ⟨exec_hclr hr hd, fun k => exec_hmov hr hd, fun ht o =>
    exec_hbind_bound hr hd ht, fun ht st => exec_hbind_status hr hd ht, exec_hbind_undefined hr hd⟩, fun k =>
    exec_htype hr, fun hd =>
    exec_illegal_of_handle_dest hr hd a b ty, fun ha => exec_illegal_of_handle_source hr ha d _ List.mem_cons_self⟩, fun s c fr n =>
    ⟨bindObject_debug, bindObject_beyondReach, fun hd hr => ⟨fun hn => ?_, fun hn hs => ?_, fun k hn hk => ⟨fun hl => ?_,
    fun hl => ?_⟩⟩, fun hj ty hty => ?_⟩⟩
  · rw [bindObject_reached hd hr, if_pos hn]
  · have hlive : s.liveSlot n = none := by simp [State.liveSlot, hs]
    rw [bindObject_reached hd hr, if_neg (by omega), hlive]
    rfl
  · have hlive : s.liveSlot n = none := if_pos ((expired_iff hk).2 hl)
    rw [bindObject_reached hd hr, if_neg (by omega), hlive]
    rfl
  · have hlive : s.liveSlot n = some k := (if_neg (mt (expired_iff hk).1 hl)).trans hk
    rw [bindObject_reached hd hr, if_neg (by omega), hlive]
    rfl
  · have hg (kind n : Nat) (r : Option Nat) : s.granted c fr kind n r = false := by simp [State.granted, hj]
    simp only [List.mem_cons, List.not_mem_nil, or_false] at hty
    rcases hty with rfl | rfl | rfl | rfl <;> simp [bindObject, hg]

/-! ### TRET, WAITI and the run limit -/

/-- TP_PC with bits 1:0 cleared. -/
theorem word_align (x : Word) :
    x.extractLsb' 0 32 &&& (0xFFFFFFFC : BitVec 32) = BitVec.ofNat 32 (x.toNat % 2 ^ 32 / 4 * 4) := by
  have hmask : ∀ i : Fin 32, (0xFFFFFFFC : BitVec 32).getLsbD i = decide (2 ≤ i.val) := by decide
  refine BitVec.eq_of_getLsbD_eq fun i hi => ?_
  rw [BitVec.getLsbD_and, hmask ⟨i, hi⟩, BitVec.getLsbD_ofNat, show 4 = 2 ^ 2 from rfl, Nat.testBit_mul_two_pow,
    Nat.testBit_div_two_pow, Nat.testBit_mod_two_pow]
  by_cases h2 : 2 ≤ i
  · have hlow : (x.extractLsb' 0 32).getLsbD i = x.toNat.testBit i := by
      rw [BitVec.getLsbD_extractLsb', Nat.zero_add, decide_eq_true hi, Bool.true_and, BitVec.getLsbD]
    simp only [hlow, h2, hi, Nat.sub_add_cancel, decide_true, Bool.true_and, Bool.and_true]
  · simp [h2]

section
variable {s : State} {c : Fin 9} {f : Nat} {fr : Fr}

theorem exec_tret_supervisor (h : Runs s c f fr 1) (hm : fr.mode = .s) :
    exec (.tret c) s = .next (jumped c f fr (BitVec.ofNat 32 (s.tp.pc.toNat % 2 ^ 32 / 4 * 4)) s) := by
  rw [← word_align]
  exact congrArg Host.Outcome.next (runInstr_jump h (if_pos (beq_iff_eq.2 hm)))

theorem exec_tret_privileged (h : Runs s c f fr 1) (hm : fr.mode ≠ .s) :
    exec (.tret c) s = .next (trapped c f .privileged 0 s) :=
  congrArg Host.Outcome.next (runInstr_trap h (if_neg (mt beq_iff_eq.1 hm)))

theorem exec_waiti_supervisor (h : Runs s c f fr 1) (hm : fr.mode = .s) : exec (.waiti c) s =
    .next (retiredThen c f 1 fr (fun t => wakeT0 (setCore c { t.core c with waiti := true } t)) s) :=
  congrArg Host.Outcome.next (runInstr_ok h (if_pos (beq_iff_eq.2 hm)) rfl)

theorem exec_waiti_privileged (h : Runs s c f fr 1) (hm : fr.mode ≠ .s) :
    exec (.waiti c) s = .next (trapped c f .privileged 0 s) :=
  congrArg Host.Outcome.next (runInstr_trap h (if_neg (mt beq_iff_eq.1 hm)))

end

section
variable {s : State} {c : Fin 9} {x : Fin 4} {y : Fr}

/-- The run limit of a frame that has one, its order going on: an EXIT under way has met it (R27), and one within the
guard is granted. -/
theorem exec_runLimit {wins : Bool} (ha : s.awake = true) (hf : s.frame c x = some y) (hr : y.runMs ≠ 0)
    (he : y.ending = none) : exec (.runLimit c x wins) s = .next
      (if y.exiting.isSome then if wins then s else setFrame c x (some { y with closeCall := true, runMs := 0 }) s
      else if !wins && y.runnable && !y.pressing && (s.core c).running == some x then
        setFrame c x (some { y with exitDue := true, closeCall := true, runMs := 0 }) s
      else trap c x .runLimit 0 s) := by
  simp only [exec, execRunLimit, hf, ha, hr, he, Bool.not_true, Option.isSome_none, decide_false, Bool.or_self,
    Bool.false_eq_true, if_false]

end

/-- Settles O15: TRET and WAITI by their rules, the expiry by `exec_runLimit`, and the EXIT that is owed by
`runInstr_due`, which asks nothing of the body. -/
theorem privilegedAndLimit : Obligations.PrivilegedAndLimit := by
  unfold Obligations.PrivilegedAndLimit
  refine fun s c f fr => ⟨fun h => ⟨fun hm => ⟨exec_tret_supervisor h hm, exec_waiti_supervisor h hm⟩, fun hm =>
    ⟨exec_tret_privileged h hm, exec_waiti_privileged h hm⟩⟩, fun x y ha hf hr he => ⟨fun hx => ⟨?_, ?_⟩, fun hx =>
    ⟨?_, ?_⟩⟩, fun hrun hd d a b t off e i hi => ⟨?_, ?_⟩⟩
  · rw [exec_runLimit ha hf hr he, hx]
    rfl
  · rw [exec_runLimit ha hf hr he, hx]
    simp only [Option.isSome_none, Bool.false_eq_true, if_false, Bool.not_false, Bool.true_and, Bool.and_eq_true,
      Bool.not_eq_true', beq_iff_eq, and_assoc]
  · rw [exec_runLimit ha hf hr he, if_pos (Option.isSome_iff_ne_none.2 hx), if_pos rfl]
  · rw [exec_runLimit ha hf hr he, if_pos (Option.isSome_iff_ne_none.2 hx), if_neg Bool.false_ne_true]
  · have hbody : ∃ body, exec i s = .next (runInstr c 1 s body) := by
      revert i
      simp only [List.forall_mem_cons]
      exact ⟨⟨_, rfl⟩, ⟨_, rfl⟩, ⟨_, rfl⟩, ⟨_, rfl⟩, ⟨_, rfl⟩, ⟨_, rfl⟩, ⟨_, rfl⟩, List.forall_mem_nil _⟩
    obtain ⟨body, hbody⟩ := hbody
    rw [hbody, runInstr_due hrun hd]
  · exact congrArg Host.Outcome.next (runInstr_due ((touchOperands_runningFrame c c s).trans hrun) hd)

/-! ### Tokens -/

@[simp] theorem Fr.setTok_tok_same (fr : Fr) (t : BitVec 3) (v : Tok) : (fr.setTok t v).tok t = v := by
  simp [Fr.setTok, Fr.tok]

@[simp] theorem Fr.arise_t (fr : Fr) (st : Status) : (fr.arise st).t = fr.t := rfl

/-- TWAIT collects a done token: the token is empty after it, and the two registers hold status, count and value. -/
theorem Fr.collect_tok (fr : Fr) (t : BitVec 3) (d b : BitVec 5) (st : Status) (n : BitVec 32) (v : Word) :
    (fr.collect t d b st n v).tok t = .empty :=
  Fr.setTok_tok_same _ t .empty

@[simp] theorem Fr.setReg_t (fr : Fr) (d : BitVec 5) (v : Word) : (fr.setReg d v).t = fr.t := by
  unfold Fr.setReg; split <;> rfl

theorem Fr.collect_g (fr : Fr) (t : BitVec 3) (d b : BitVec 5) (st : Status) (n : BitVec 32) (v : Word) :
    (fr.collect t d b st n v).g = ((fr.setReg d (tokWord st n)).setReg b v).g := rfl

theorem Fr.collect_pc (fr : Fr) (t : BitVec 3) (d b : BitVec 5) (st : Status) (n : BitVec 32) (v : Word) :
    (fr.collect t d b st n v).pc = fr.pc :=
  (Fr.setReg_pc _ b v).trans (Fr.setReg_pc fr d _)

theorem retiredThen_id {c f w : Nat} {fr : Fr} {s : State} : retiredThen c f w fr id s = retired c f w fr s := rfl

section
variable {s : State} {c : Fin 9}

section
variable {f : Nat} {fr : Fr} {d b : BitVec 5} {t : BitVec 3} {lim : BitVec 9} (h : Runs s c f fr 1)
include h

theorem exec_twait_empty (ht : fr.tok t = .empty) :
    exec (.twait c d b t lim) s = .next (trapped c f .illegal 0 s) :=
  congrArg Host.Outcome.next (runInstr_trap h (by simp only [ht]))

theorem exec_twait_busy (ht : fr.tok t = .busy) : exec (.twait c d b t lim) s = .next (retiredThen c f 1
    { fr with wait := some (t, d, b), waitLimit := lim, waitClose := false } (yieldCore c) s) :=
  congrArg Host.Outcome.next (runInstr_ok h (by simp only [ht]) rfl)

theorem exec_twait_done {st : Status} {n : BitVec 32} {v : Word} (ht : fr.tok t = .done st n v) :
    exec (.twait c d b t lim) s = .next (retired c f 1 (fr.collect t d b st n v) s) :=
  congrArg Host.Outcome.next (runInstr_ret h (by simp only [ht]) (Fr.collect_pc ..))

theorem exec_tpoll : exec (.tpoll c d t) s = .next (retired c f 1 (fr.setReg d (match fr.tok t with
    | .empty => 0 | .busy => 1 | .done _ _ _ => 2)) s) :=
  congrArg Host.Outcome.next (runInstr_ret h (by cases fr.tok t <;> rfl) (Fr.setReg_pc ..))

theorem exec_tdrop : exec (.tdrop c t) s = .next
    (retiredThen c f 1 fr (if (fr.tok t).isBusy then stopToken (.token c f fr.uid t.toNat) else id) s) :=
  congrArg Host.Outcome.next (runInstr_ok h rfl rfl)

end

variable {x : Fin 4} {y : Fr} {d b : BitVec 5} {t : BitVec 3} (ha : s.awake = true) (hf : s.frame c x = some y)
  (hw : y.wait = some (t, d, b)) (hl : y.waitLimit ≠ 0)
include ha hf hw hl

/-- The limit of a wait that has one: granted, the wait ends with TIMEOUT in g d; withdrawn, it is marked (R136). -/
theorem exec_waitLimit (wins : Bool) : exec (.waitLimit c x wins) s = .next
    (if wins then schedule c (setFrame c x
        (some { (y.setReg d (tokWord .timeout 0)).setReg b 0 with wait := none, waitClose := false }) s)
      else setFrame c x (some { y with waitClose := true, waitLimit := 0 }) s) := by
  simp only [exec, execWaitLimit, hf, hw, ha, beq_eq_false_iff_ne.2 hl, Bool.not_true, Bool.or_self, Bool.false_eq_true,
    if_false]

end

/-- TIMEOUT with count 0, as TWAIT delivers it. -/
theorem tokWord_timeout : tokWord .timeout 0 = BitVec.ofNat 64 0x0801 := by decide

/-- Settles O16: TWAIT, TPOLL and TDROP by their rules, the limit by `exec_waitLimit`. -/
theorem tokens : Obligations.Tokens := by
  unfold Obligations.Tokens
  refine fun s c f fr d b t lim => ⟨fun h => ⟨exec_twait_empty h, exec_twait_busy h, fun st n v ht =>
    ⟨_, exec_twait_done h ht, Fr.collect_tok .., Fr.collect_g ..⟩, exec_tpoll h, ?_⟩, fun x y tw ha hf hw hl =>
    ⟨⟨_, exec_waitLimit ha hf hw hl true, rfl, ?_, congrArg (fun w => ((y.setReg d w).setReg b 0).g) tokWord_timeout⟩,
    exec_waitLimit ha hf hw hl false⟩⟩
  · rw [exec_tdrop h]
    cases fr.tok t with
    | empty => exact congrArg Host.Outcome.next retiredThen_id
    | busy => exact congrArg Host.Outcome.next (by rw [Tok.isBusy, if_pos rfl])
    | done => exact congrArg Host.Outcome.next retiredThen_id
  · simp only [Fr.setReg_t]

end Sys2Proof.Machine
end

section
/-! Open presses, partitions and counters from code (07 R147 to R152, 12 R256), time and books (07 R153 to R155). -/

namespace Sys2Proof.Machine

/-! ### Open presses -/

section
variable {s : State} {c : Fin 9} {f : Nat} {fr : Fr} {d a b : BitVec 5} {p : BitVec 2}

@[simp] theorem Fr.setPress_reg (x : Option OpenPress) (r : BitVec 5) : (fr.setPress p x).reg r = fr.reg r := rfl

theorem exec_propen_open {o : OpenPress} (h : Runs s c f fr 1) (ho : fr.openPress p = some o) :
    exec (.propen c d a p) s = .next (trapped c f .illegal 0 s) :=
  congrArg Host.Outcome.next (runInstr_trap h (by simp only [ho, Option.isSome_some, if_true]))

theorem exec_propen_opens (h : Runs s c f fr 1) (ho : fr.openPress p = none) (h1 : 1 ≤ (fr.reg a).toNat)
    (h2 : (fr.reg a).toNat ≤ 65536) (hroom : s.press.bufUsed + (fr.reg a).toNat ≤ 1048576) :
    exec (.propen c d a p) s = .next (retired c f 1 ((fr.setPress p (some ⟨(fr.reg a).toNat, 0, [], []⟩)).setReg d 0)
      { s with press := { s.press with bufUsed := s.press.bufUsed + (fr.reg a).toNat } }) := by
  have hzero : ¬(fr.reg a).toNat = 0 := by omega
  exact congrArg Host.Outcome.next (runInstr_ret h
    (by simp only [ho, Option.isSome_none, Bool.false_eq_true, if_false, if_neg hzero, if_neg (Nat.not_lt.2 h2),
      if_neg (Nat.not_lt.2 hroom)]; rfl) (Fr.setReg_pc ..))

theorem exec_propen_zero (h : Runs s c f fr 1) (ho : fr.openPress p = none) (h0 : (fr.reg a).toNat = 0) :
    exec (.propen c d a p) s = .next (retired c f 1 (fr.setReg d 0x0105) s) :=
  congrArg Host.Outcome.next (runInstr_ret h (by simp only [ho, Option.isSome_none, Bool.false_eq_true, if_false, if_pos h0]; rfl) (Fr.setReg_pc ..))

theorem exec_propen_tooLarge (h : Runs s c f fr 1) (ho : fr.openPress p = none) (h1 : 65536 < (fr.reg a).toNat) :
    exec (.propen c d a p) s = .next (retired c f 1 (fr.setReg d 0x0203) s) := by
  have hzero : ¬(fr.reg a).toNat = 0 := by omega
  exact congrArg Host.Outcome.next (runInstr_ret h
    (by simp only [ho, Option.isSome_none, Bool.false_eq_true, if_false, if_neg hzero, if_pos h1]; rfl) (Fr.setReg_pc ..))

/-- Instructions on a press that is not open. -/
theorem exec_illegal_of_closed (h : Runs s c f fr 1) (ho : fr.openPress p = none) (t : BitVec 3) :
    ∀ i ∈ [Instr.prwrite c d a b p, .prcond c d a b p, .prcommit c t p, .prabandon c p],
      exec i s = .next (trapped c f .illegal 0 s) := by
  simp only [List.forall_mem_cons]
  exact ⟨next_runInstr_illegal h (by simp only [ho]), next_runInstr_illegal h (by simp only [ho]),
    next_runInstr_illegal h (by simp only [ho]), next_runInstr_illegal h (by simp only [ho]), List.forall_mem_nil _⟩

section
variable {o : OpenPress} (h : Runs s c f fr 1) (ho : fr.openPress p = some o)
include h ho

theorem exec_prabandon : exec (.prabandon c p) s = .next (retired c f 1 (fr.setPress p none)
    { s with press := { s.press with bufUsed := s.press.bufUsed - o.reserve } }) :=
  congrArg Host.Outcome.next (runInstr_ret h (by simp only [ho]) rfl)

/-- The press that PRCOMMIT hands over. -/
def committed (c f : Nat) (fr : Fr) (t : BitVec 3) (o : OpenPress) : Press :=
  { Press.of o.items (tokRef c f fr t) with conds := o.conds, core := c, reserve := o.reserve }

theorem exec_prcommit {t : BitVec 3} (ht : fr.tok t = .empty) : exec (.prcommit c t p) s =
    .next (issued c f (fr.setPress p none) t (pressFrom (committed c f fr t o)) s) :=
  congrArg Host.Outcome.next (runInstr_ok h
    (by simp only [ho, ht, bne_self_eq_false, Bool.false_eq_true, if_false]; rfl) rfl)

omit h ho in
theorem addItem_fits {need : Nat} {items : List PItem} {conds : List (Nat × Word)} (hr : o.used + need ≤ o.reserve) :
    addItem fr p o need items conds = (fr.setPress p (some { o with used := o.used + need, items := o.items ++ items
                                                                    conds := o.conds ++ conds }), .ok) :=
  if_neg (Nat.not_lt.2 hr)

omit h ho in
theorem addItem_full {need : Nat} {items : List PItem} {conds : List (Nat × Word)} (hr : o.reserve < o.used + need) :
    addItem fr p o need items conds = (fr, .pressTooLarge) :=
  if_pos hr

section
variable {n : Nat} (hn : counterOf s c fr a 0 = .ok n)
include hn

theorem exec_prcond_fits (hr : o.used + 32 ≤ o.reserve) : exec (.prcond c d a b p) s = .next (retired c f 1
    ((fr.setPress p (some { o with used := o.used + 32, conds := o.conds ++ [(n, fr.reg b)] })).setReg d 0) s) :=
  congrArg Host.Outcome.next (runInstr_ret h
    (by simp only [ho, hn, addItem_fits hr, List.append_nil]; rfl) (Fr.setReg_pc ..))

theorem exec_prcond_full (hr : o.reserve < o.used + 32) :
    exec (.prcond c d a b p) s = .next (retired c f 1 (fr.setReg d 0x0203) s) :=
  congrArg Host.Outcome.next (runInstr_ret h (by simp only [ho, hn, addItem_full hr]; rfl) (Fr.setReg_pc ..))

end

section
variable {r : Range} {q off : Nat} (h1 : 1 ≤ (fr.reg d).toNat) (h2 : (fr.reg d).toNat ≤ 65536)
  (hr : onChip s fr (fr.reg b) (fr.reg d).toNat false = some r) (hz : s.hazard fr.uid [r] = false)
  (hp : partRange s c fr (fr.reg a) (fr.reg d).toNat 1 = .ok (q, off))
include h1 h2 hr hz hp

theorem exec_prwrite_protected (hu : underProtect (s.part q).protect (pagesOf off (fr.reg d).toNat) = true) :
    exec (.prwrite c d a b p) s = .next (retired c f 1 (fr.setReg d 0x0604) s) := by
  have hlen : ¬((fr.reg d).toNat = 0 ∨ 65536 < (fr.reg d).toNat) := by omega
  exact congrArg Host.Outcome.next (runInstr_ret h
    (by simp only [ho, if_neg hlen, hr, hz, hp, hu, Bool.false_eq_true, if_false, if_true]; rfl) (Fr.setReg_pc ..))

theorem exec_prwrite_fits (hu : underProtect (s.part q).protect (pagesOf off (fr.reg d).toNat) = false)
    (hfit : o.used + roundUp ((fr.reg d).toNat + 16) 16 ≤ o.reserve) :
    exec (.prwrite c d a b p) s = .next (retired c f 1 ((fr.setPress p
      (some { o with used := o.used + roundUp ((fr.reg d).toNat + 16) 16
                     items := o.items ++ [.write q off (s.readRange c fr r)] })).setReg d 0) s) := by
  have hlen : ¬((fr.reg d).toNat = 0 ∨ 65536 < (fr.reg d).toNat) := by omega
  exact congrArg Host.Outcome.next (runInstr_ret h
    (by simp only [ho, if_neg hlen, hr, hz, hp, hu, Bool.false_eq_true, if_false, addItem_fits hfit, List.append_nil]; rfl)
    (Fr.setReg_pc ..))

theorem exec_prwrite_full (hu : underProtect (s.part q).protect (pagesOf off (fr.reg d).toNat) = false)
    (hfull : o.reserve < o.used + roundUp ((fr.reg d).toNat + 16) 16) :
    exec (.prwrite c d a b p) s = .next (retired c f 1 (fr.setReg d 0x0203) s) := by
  have hlen : ¬((fr.reg d).toNat = 0 ∨ 65536 < (fr.reg d).toNat) := by omega
  exact congrArg Host.Outcome.next (runInstr_ret h
    (by simp only [ho, if_neg hlen, hr, hz, hp, hu, Bool.false_eq_true, if_false, addItem_full hfull]; rfl)
    (Fr.setReg_pc ..))

end

end

end

/-- Settles O17: each instruction by its rule for a closed and for an open press. -/
theorem openPresses : Obligations.OpenPresses := by
  unfold Obligations.OpenPresses
  exact fun s c f fr d a b p h => ⟨fun ho => ⟨exec_propen_opens h ho, exec_propen_zero h ho, exec_propen_tooLarge h ho,
    exec_illegal_of_closed h ho⟩, fun o ho => ⟨exec_propen_open h ho, exec_prabandon h ho, fun t ht =>
    ⟨committed c f fr t o, rfl, rfl, rfl, rfl, rfl, exec_prcommit h ho ht⟩, fun n hn => ⟨exec_prcond_fits h ho hn,
    exec_prcond_full h ho hn⟩, fun r q off h1 h2 hr hz hp => ⟨exec_prwrite_protected h ho h1 h2 hr hz hp, fun hu =>
    ⟨exec_prwrite_fits h ho h1 h2 hr hz hp hu, exec_prwrite_full h ho h1 h2 hr hz hp hu⟩⟩⟩⟩

/-! ### Partitions and counters -/

theorem Fr.setReg_setReg_pc (fr : Fr) (d b : BitVec 5) (v w : Word) : ((fr.setReg d v).setReg b w).pc = fr.pc :=
  (Fr.setReg_pc _ b w).trans (Fr.setReg_pc fr d v)

section
variable {s : State} {c : Fin 9} {f : Nat} {fr : Fr} {d a b : BitVec 5} {p : BitVec 2} (h : Runs s c f fr 1)
include h

section
variable {r : Range} {q off : Nat} (h1 : 1 ≤ (fr.reg d).toNat) (h2 : (fr.reg d).toNat ≤ 65536)
  (hr : onChip s fr (fr.reg b) (fr.reg d).toNat true = some r) (hz : s.hazard fr.uid [r] = false)
  (hp : partRange s c fr (fr.reg a) (fr.reg d).toNat 0 = .ok (q, off))
  (hw : s.awaits (partBase q + off) (fr.reg d).toNat = false) {e : Ecc}
include h1 h2 hr hz hp hw

theorem exec_prread_good
    (hb : (groupRead e (partBase q + off) s).badRange (partBase q + off) (fr.reg d).toNat = false) :
    exec (.prread c d a b e) s = .next (retiredThen c f 1 (fr.setReg d 0)
      (writeDst (dstOf c f fr r) ((s.part q).mem.read off (fr.reg d).toNat)) (groupRead e (partBase q + off) s)) := by
  have hlen : ¬((fr.reg d).toNat = 0 ∨ 65536 < (fr.reg d).toNat) := by omega
  exact congrArg Host.Outcome.next (runInstr_ok h
    (by simp only [if_neg hlen, hr, hz, hp, hw, hb, Bool.false_eq_true, if_false]; rfl) (Fr.setReg_pc ..))

theorem exec_prread_bad
    (hb : (groupRead e (partBase q + off) s).badRange (partBase q + off) (fr.reg d).toNat = true) :
    exec (.prread c d a b e) s = .next (retired c f 1 (fr.setReg d 0x0701)
      (badRead (partBase q + off) (fr.reg d).toNat (groupRead e (partBase q + off) s))) := by
  have hlen : ¬((fr.reg d).toNat = 0 ∨ 65536 < (fr.reg d).toNat) := by omega
  exact congrArg Host.Outcome.next (runInstr_ret h
    (by simp only [if_neg hlen, hr, hz, hp, hw, hb, Bool.false_eq_true, if_false, if_true]; rfl) (Fr.setReg_pc ..))

end

section
variable {n : Nat} (hn : counterOf s c fr a 0 = .ok n) (hw : s.awaits (counterAddr n) 32 = false)
include hn hw

theorem exec_ctrrd_value {v : Nat} (hv : s.counter n = some v) :
    exec (.ctrrd c d a b) s = .next (retired c f 1 ((fr.setReg d (BitVec.ofNat 64 v)).setReg b 0) s) :=
  congrArg Host.Outcome.next (runInstr_ret h
    (by simp only [hn, hw, hv, Bool.false_eq_true, if_false]; rfl) (Fr.setReg_setReg_pc ..))

theorem exec_ctrrd_lost (hv : s.counter n = none) : exec (.ctrrd c d a b) s = .next (retired c f 1
    ((fr.setReg d (BitVec.ofNat 64 s.freeNat.1)).setReg b 0x0701) s.freeNat.2) :=
  congrArg Host.Outcome.next (runInstr_ret h
    (by simp only [hn, hw, hv, Bool.false_eq_true, if_false]; rfl) (Fr.setReg_setReg_pc ..))

end

section
variable {n : Nat} (hn : counterOf s c fr a 1 = .ok n)
include hn

theorem exec_ctradd_range {i : Bool} (hd : (fr.reg d).toNat = 0 ∨ 2 ^ 32 < (fr.reg d).toNat)
    (hi : i = true → (fr.openPress p).isSome) :
    exec (.ctradd c d a b i p) s = .next (retired c f 1 ((fr.setReg d 0x0105).setReg b 0) s) := by
  have hopen : (i && (fr.openPress p).isNone) = false := by
    cases i with
    | false => rfl
    | true => simpa using hi rfl
  exact congrArg Host.Outcome.next (runInstr_ret h
    (by simp only [hopen, hn, if_pos hd, Bool.false_eq_true, if_false]; rfl) (Fr.setReg_setReg_pc ..))

section
variable (h1 : 1 ≤ (fr.reg d).toNat) (h2 : (fr.reg d).toNat ≤ 2 ^ 32)
include h1 h2

/-- The press of one item that a CTRADD outside a press waits for. -/
theorem exec_ctradd_alone : exec (.ctradd c d a b false p) s = .next (endStep c (pressFrom
    { Press.of [.ctrAdd n (fr.reg d).toNat] (.instr c f fr.uid d (some b)) with core := c }
    (setFrame c f (some { fr with pressing := true }) s))) := by
  have hlen : ¬((fr.reg d).toNat = 0 ∨ 2 ^ 32 < (fr.reg d).toNat) := by omega
  exact congrArg Host.Outcome.next (runInstr_keep h
    (by simp only [Bool.false_and, hn, if_neg hlen, Bool.false_eq_true, if_false]))

theorem exec_ctradd_inPress {o : OpenPress} (ho : fr.openPress p = some o) (hfit : o.used + 32 ≤ o.reserve) :
    exec (.ctradd c d a b true p) s = .next (retired c f 1 (((fr.setPress p (some { o with
      used := o.used + 32, items := o.items ++ [.ctrAdd n (fr.reg d).toNat] })).setReg d 0).setReg b 0) s) := by
  have hlen : ¬((fr.reg d).toNat = 0 ∨ 2 ^ 32 < (fr.reg d).toNat) := by omega
  exact congrArg Host.Outcome.next (runInstr_ret h
    (by simp only [ho, Option.isNone_some, Bool.and_false, hn, if_neg hlen, Bool.false_eq_true, if_false, if_true,
      addItem_fits hfit, List.append_nil]; rfl) (Fr.setReg_setReg_pc ..))

end

end

end

/-! ### The protection words (12 R256) -/

/-- The level a write of PR_PARTp asks for, and whether it clears. -/
theorem partWord_clear (v : Word) : ((v ||| 0x10000).extractLsb' 0 2).toNat = (v.extractLsb' 0 2).toNat ∧
    (v ||| 0x10000).getLsbD 16 = true := by
  constructor
  · congr 1
    ext i hi
    have hlow : ∀ i : Fin 2, (0x10000 : Word).getLsbD i = false := by decide
    simp only [BitVec.getElem_extractLsb', BitVec.getLsbD_or, Nat.zero_add, hlow ⟨i, hi⟩, Bool.or_false]
  · simp

theorem partWord_level (v : Word) : ((v &&& ~~~(0x10000 : Word)).extractLsb' 0 2).toNat = (v.extractLsb' 0 2).toNat ∧
    (v &&& ~~~(0x10000 : Word)).getLsbD 16 = false := by
  constructor
  · congr 1
    ext i hi
    have hlow : ∀ i : Fin 2, (~~~0x10000 : Word).getLsbD i = true := by decide
    simp only [BitVec.getElem_extractLsb', BitVec.getLsbD_and, Nat.zero_add, hlow ⟨i, hi⟩, Bool.and_true]
  · simp

section
variable {s : State} {c f : Nat} {fr : Fr} {p : Nat} {v : Word}

/-- Nothing bars a write of PR_PARTp: no debug, a serving life cycle, a bank that takes writes, and for an applet the
grant of every page. -/
def PartOpen (s : State) (c : Nat) (fr : Fr) (p : Nat) : Prop :=
  s.debugOn = false ∧ s.serving = true ∧ s.bankRetired (p / 2) = false ∧
    (fr.mode = .a → (List.range 1024).all (fun pg => s.granted c fr (0x10 + p) pg (some 1)) = true)

/-- The press of one item that a write of a protection word waits for. -/
def partPress (c f : Nat) (fr : Fr) (it : PItem) : Press := { Press.of [it] (.instr c f fr.uid 0 none) with core := c }

/-- What a write of PR_PARTp does where nothing bars it, by the level asked for, the level that stands and CLEAR. -/
theorem partWrite_open (h : PartOpen s c fr p) {lvl cur : Nat} {clr : Bool} (hl : (v.extractLsb' 0 2).toNat = lvl)
    (hc : (s.part p).protect = cur) (hclr : v.getLsbD 16 = clr) : partWrite c f fr p v s =
    if clr && (lvl != cur || cur != 0) then .trap .access 0
    else if decide (lvl < cur) && (s.vault.lc != .recovery || fr.mode == .j) then .trap .access 0
    else if !clr && lvl == cur then .ok fr s id
    else .keep (pressFrom (partPress c f fr (if clr then .clearPart p else if cur < lvl then .protect p lvl
        else .unprotect p lvl)) (setFrame c f (some { fr with pressing := true }) s)) := by
  obtain ⟨hd, hs, hb, hg⟩ := h
  have hgrant : (fr.mode == .a && !(List.range 1024).all fun pg => s.granted c fr (0x10 + p) pg (some 1)) = false := by
    by_cases hm : fr.mode = .a
    · rw [hg hm]; simp
    · simp [hm]
  subst hl hc hclr
  simp only [partWrite, hd, hs, hb, hgrant, Bool.not_true, Bool.or_self, Bool.false_eq_true, if_false]
  rfl

section
variable (h : PartOpen s c fr p) {lvl : Nat} (hl : (v.extractLsb' 0 2).toNat = lvl)
include h hl

theorem partWrite_clears (hclr : v.getLsbD 16 = true) (h0 : (s.part p).protect = 0) (hl0 : lvl = 0) :
    partWrite c f fr p v s = .keep (pressFrom (partPress c f fr (.clearPart p))
      (setFrame c f (some { fr with pressing := true }) s)) := by
  rw [partWrite_open h hl h0 hclr, hl0]
  rfl

theorem partWrite_clearBarred (hclr : v.getLsbD 16 = true) (h0 : (s.part p).protect ≠ 0) :
    partWrite c f fr p v s = .trap .access 0 := by
  rw [partWrite_open h hl rfl hclr]
  simp [h0]

theorem partWrite_raises (hclr : v.getLsbD 16 = false) (hlt : (s.part p).protect < lvl) :
    partWrite c f fr p v s = .keep (pressFrom (partPress c f fr (.protect p lvl))
      (setFrame c f (some { fr with pressing := true }) s)) := by
  rw [partWrite_open h hl rfl hclr, decide_eq_false (Nat.not_lt.2 hlt.le), beq_eq_false_iff_ne.2 hlt.ne', if_pos hlt]
  rfl

theorem partWrite_lowers (hclr : v.getLsbD 16 = false) (hlt : lvl < (s.part p).protect) (hlc : s.vault.lc = .recovery)
    (hm : fr.mode ≠ .j) : partWrite c f fr p v s = .keep (pressFrom (partPress c f fr (.unprotect p lvl))
      (setFrame c f (some { fr with pressing := true }) s)) := by
  rw [partWrite_open h hl rfl hclr, hlc, beq_eq_false_iff_ne.2 hm, beq_eq_false_iff_ne.2 hlt.ne,
    if_neg (Nat.not_lt.2 hlt.le), decide_eq_true hlt]
  rfl

theorem partWrite_lowerBarred (hclr : v.getLsbD 16 = false) (hlt : lvl < (s.part p).protect)
    (hlc : s.vault.lc ≠ .recovery) : partWrite c f fr p v s = .trap .access 0 := by
  rw [partWrite_open h hl rfl hclr, decide_eq_true hlt, bne_iff_ne.2 hlc]
  rfl

end

end

/-- Settles O18: PRREAD, CTRRD and CTRADD by their rules, the protection words by the rules of `partWrite`. -/
theorem cellarAccess : Obligations.CellarAccess := by
  unfold Obligations.CellarAccess
  refine fun s c f fr d a b p h => ⟨fun r q off h1 h2 hr hz hp hw e => ⟨exec_prread_good h h1 h2 hr hz hp hw,
    exec_prread_bad h h1 h2 hr hz hp hw⟩, fun n hn hw => ⟨fun v => exec_ctrrd_value h hn hw, fun hv =>
    ⟨_, s.freeNat.2, rfl, exec_ctrrd_lost h hn hw hv⟩⟩, fun n hn => ⟨fun i => exec_ctradd_range h hn, fun h1 h2 =>
    ⟨⟨_, rfl, rfl, rfl, rfl, exec_ctradd_alone h hn h1 h2⟩, fun o => exec_ctradd_inPress h hn h1 h2⟩⟩,
    fun q hd hs hb hg => ?_⟩
  intro press lvl
  have hopen : PartOpen s c fr q := ⟨hd, hs, hb, hg⟩
  obtain ⟨hcl, hc⟩ := partWord_clear (fr.reg d)
  obtain ⟨hll, hl⟩ := partWord_level (fr.reg d)
  refine ⟨fun h0 hl0 => ⟨partPress c f fr (.clearPart q), rfl, rfl, rfl, ?_⟩, fun hlt =>
    ⟨partPress c f fr (.protect q lvl), rfl, rfl, rfl, ?_⟩, fun hlt hlc hm =>
    ⟨partPress c f fr (.unprotect q lvl), rfl, rfl, rfl, ?_⟩, fun hlt hlc => ?_, fun h0 => ?_⟩
  · rintro _ rfl
    exact congrArg Host.Outcome.next (runInstr_keep h (partWrite_clears hopen hcl hc h0 hl0))
  · rintro _ rfl
    exact congrArg Host.Outcome.next (runInstr_keep h (partWrite_raises hopen hll hl hlt))
  · rintro _ rfl
    exact congrArg Host.Outcome.next (runInstr_keep h (partWrite_lowers hopen hll hl hlt hlc hm))
  · exact congrArg Host.Outcome.next (runInstr_trap h (partWrite_lowerBarred hopen hll hl hlt hlc))
  · exact congrArg Host.Outcome.next (runInstr_trap h (partWrite_clearBarred hopen hcl hc h0))

/-! ### Time and books -/

section
variable {s : State} {c : Fin 9} {f : Nat} {fr : Fr} {t : BitVec 3} {h : BitVec 4}

theorem exec_tmstamp {a : BitVec 5} {imm : BitVec 14} {r : Range} (hr : Runs s c f fr 1)
    (h8 : (fr.reg a + imm.signExtend 64).toNat % 8 = 0) (hp : onChip s fr (fr.reg a + imm.signExtend 64) 16 true = some r)
    (hz : s.hazard fr.uid [r] = false) : exec (.tmstamp c a imm) s = .next (retiredThen c f 1 fr (fun s =>
      let s := sampleTime s
      writeDst (dstOf c f fr r) (timeBytes s.time.t ++ le s.time.unc 4) s) s) :=
  congrArg Host.Outcome.next (runInstr_ok hr
    (by simp only [h8, bne_self_eq_false, Bool.false_eq_true, if_false, hp, hz]) rfl)

theorem exec_tmAlarmWrite {d : BitVec 5} (hr : Runs s c f fr 1) (hm : fr.mode ≠ .j) :
    exec (.tmAlarmWrite c d) s = .next (retiredThen c f 1 fr (alarmWrite (fr.reg d).toNat) s) := by
  have hreach : wordReach 0x400 fr.mode = some .rw := by
    revert hm
    cases fr.mode <;> decide
  have hw : swwRes c f fr 0x400 (fr.reg d) s = .ok fr s (alarmWrite (fr.reg d).toNat) := by
    rw [swwRes_writable hreach]
    rfl
  exact congrArg Host.Outcome.next (runInstr_ok hr hw rfl)

/-- A length within a function's maximum is not too long (R134). -/
theorem tooLong_le {w : Word} {max : Nat} (h : w.toNat ≤ max) (hmax : max < 2 ^ 32) : tooLong w max = false := by
  simp only [tooLong, Bool.or_eq_false_iff, decide_eq_false_iff_not]
  omega

section
variable (hr : Runs s c f fr 1) (ht : fr.tok t = .empty) {src dst : Range} (hcap : (fr.reg 19).toNat < 2 ^ 32)
  (hdst : (touchOperands c s).buffer fr (fr.reg 18) (fr.reg 19).toNat true = some dst)
include hr ht hcap hdst

theorem exec_tmtoken (hn : (fr.reg 17).toNat ≤ 64) (hlen : 4851 ≤ (fr.reg 19).toNat)
    (hsrc : (touchOperands c s).buffer fr (fr.reg 16) (fr.reg 17).toNat false = some src)
    (hz : (touchOperands c s).hazard fr.uid [src, dst] = false)
    (hs : (touchOperands c s).time.cfg.slot.elim false (touchOperands c s).slotOpen = false) :
    exec (.tmtoken c t) s = .next (issued c f fr t (timeToken (.token c f fr.uid t.toNat) fr.cls [src, dst]
      ((touchOperands c s).readRange c fr src) (dstOf c f fr dst) 0) (touchOperands c s)) :=
  congrArg Host.Outcome.next (engIssue_body hr ht (by
    simp only [tooLong_le hn (by decide), decide_eq_false (Nat.not_le.2 hcap), Bool.or_self, Bool.false_eq_true, if_false,
      hsrc, hdst, if_neg (Nat.not_lt.2 hlen), hz, hs]
    rfl))

theorem exec_bkissSeal {b faults : Nat} (hb : fr.hnd h = .book b) (h1 : 1 ≤ (fr.reg 17).toNat)
    (hn : (fr.reg 17).toNat ≤ 65536) (hlen : 128 ≤ (fr.reg 19).toNat)
    (hg : (touchOperands c s).granted c fr 7 b (some 2) = true)
    (hsrc : (touchOperands c s).buffer fr (fr.reg 16) (fr.reg 17).toNat false = some src)
    (hz : (touchOperands c s).hazard fr.uid [src, dst] = false)
    (hs : (touchOperands c s).slotOpen ((touchOperands c s).book b).slot = false) :
    exec (.bkissSeal c t h faults) s = .next (issued c f fr t (sealFrom [src, dst] (.token c f fr.uid t.toNat) b
      ((touchOperands c s).readRange c fr src) (dstOf c f fr dst) faults) (touchOperands c s)) := by
  have hzero : ¬(fr.reg 17).toNat = 0 := by omega
  exact congrArg Host.Outcome.next (engIssue_body hr ht (by
    simp only [bookOf, hb, tooLong_le hn (by decide), decide_eq_false (Nat.not_le.2 hcap), hg, Bool.not_true, Bool.or_self,
      Bool.false_eq_true, if_false, hsrc, hdst, if_neg (Nat.not_lt.2 hlen), if_neg hzero, hz, hs]
    rfl))

end

theorem exec_bkissHead {b : Nat} {dst : Range} (hr : Runs s c f fr 1) (ht : fr.tok t = .empty) (hb : fr.hnd h = .book b)
    (hlen : 192 ≤ (fr.reg 19).toNat) (hcap : (fr.reg 19).toNat < 2 ^ 32) (hg : s.granted c fr 7 b (some 0) = true)
    (hdst : s.buffer fr (fr.reg 18) (fr.reg 19).toNat true = some dst) (hz : s.hazard fr.uid [dst] = false) :
    exec (.bkissHead c t h) s = .next (issued c f fr t (fun s' =>
      finish (.token c f fr.uid t.toNat) .ok 192 (s.book b).head.c (writeOut (.token c f fr.uid t.toNat) (dstOf c f fr dst)
        ((s.book b).head.bytes ++ (s.book b).config) s')) s) :=
  congrArg Host.Outcome.next (runInstr_ok hr (by
    simp only [ht, bne_self_eq_false, bookOf, hb, decide_eq_false (Nat.not_le.2 hcap), hg, Bool.not_true,
      Bool.false_eq_true, if_false, hdst, if_neg (Nat.not_lt.2 hlen), hz]
    rfl) rfl)

end

/-- Settles O19: each instruction by its rule. -/
theorem timeAndBookInstructions : Obligations.TimeAndBookInstructions := by
  unfold Obligations.TimeAndBookInstructions
  refine fun s c f fr a d imm t h hr => ⟨fun r h8 hp hz => exec_tmstamp hr h8 hp hz, exec_tmAlarmWrite hr, fun ht =>
    ⟨fun src dst hn hlen hcap hsrc hdst hz hs => exec_tmtoken hr ht hcap hdst hn hlen hsrc hz ?_, fun b hb =>
    ⟨fun src dst h1 hn hlen hcap hg hsrc hdst hz hs faults => exec_bkissSeal hr ht hcap hdst hb h1 hn hlen hg hsrc hz hs,
    fun dst hlen hcap hg hdst hz => exec_bkissHead hr ht hb hlen hcap hg hdst hz⟩⟩⟩
  cases hslot : (touchOperands c s).time.cfg.slot with
  | none => rfl
  | some n => exact hs n hslot

end Sys2Proof.Machine
end

section
/-! Cipher functions of EISS (07 Cipher functions, 09). -/

namespace Sys2Proof.Machine

/-! ### Buffers, tags and the checks of a use -/

/-- A range that is placed has the length asked for. -/
theorem place_len {s : State} {fr : Fr} {a len : Nat} {wr : Bool} {r : Range} (h : s.place fr a len wr = some r) :
    r.len = len := by
  unfold State.place at h
  dsimp only at h
  repeat' split at h
  all_goals cases h
  all_goals rfl

theorem tooLong_false {w : Word} {max : Nat} (h : w.toNat ≤ max) (h32 : w.toNat < 2 ^ 32) : tooLong w max = false := by
  simp only [tooLong, Bool.or_eq_false_iff, decide_eq_false_iff_not]
  omega

theorem buffer_len {s : State} {fr : Fr} {a : Word} {len : Nat} {wr : Bool} {r : Range}
    (h : s.buffer fr a len wr = some r) : r.len = len := by
  unfold State.buffer at h
  split at h
  next h0 => cases h; exact h0.symm
  next => exact place_len h

section
variable {s : State} {c : Fin 9} {f : Nat} {fr : Fr} {t : BitVec 3} {max : Nat} {src dst aux : Range}
  {k : Range → Range → Range → IRes} (hmax : (fr.reg 17).toNat ≤ max) (h17 : (fr.reg 17).toNat < 2 ^ 32)
  (hsrc : s.buffer fr (fr.reg 16) (fr.reg 17).toNat false = some src)
include hmax h17 hsrc

theorem cipherBuffers_src (none_ : Range) (hnone : none_ = ⟨spData, 0, 0, false⟩) :
    cipherBuffers c f fr t s max false false k = k src none_ none_ := by
  subst hnone
  simp only [cipherBuffers, tooLong_false hmax h17, hsrc, Bool.false_and, Bool.or_self, Bool.false_eq_true, if_false]

section
variable (h19 : (fr.reg 19).toNat < 2 ^ 32) (hdst : s.buffer fr (fr.reg 18) (fr.reg 19).toNat true = some dst)
include h19 hdst

theorem cipherBuffers_dst :
    cipherBuffers c f fr t s max true false k = k src dst ⟨spData, 0, 0, false⟩ := by
  simp only [cipherBuffers, tooLong_false hmax h17, tooLong_false (max := 2 ^ 37) (by omega) h19, hsrc, hdst,
    Bool.false_and, Bool.true_and, Bool.or_self, Bool.false_eq_true, if_false, if_true]

theorem cipherBuffers_all (h21 : (fr.reg 21).toNat < 2 ^ 32)
    (haux : s.buffer fr (fr.reg 20) (fr.reg 21).toNat false = some aux) :
    cipherBuffers c f fr t s max true true k = k src dst aux := by
  simp only [cipherBuffers, tooLong_false hmax h17, tooLong_false (max := 2 ^ 37) (by omega) h19,
    tooLong_false (max := 2 ^ 32) (by omega) h21, hsrc, hdst, haux, Bool.true_and, Bool.or_self, Bool.false_eq_true,
    if_false, if_true]

end

theorem cipherBuffers_aux (h21 : (fr.reg 21).toNat < 2 ^ 32)
    (haux : s.buffer fr (fr.reg 20) (fr.reg 21).toNat false = some aux) :
    cipherBuffers c f fr t s max false true k = k src ⟨spData, 0, 0, false⟩ aux := by
  simp only [cipherBuffers, tooLong_false hmax h17, tooLong_false (max := 2 ^ 32) (by omega) h21, hsrc, haux,
    Bool.false_and, Bool.true_and, Bool.or_self, Bool.false_eq_true, if_false, if_true]

end

/-- Length 0 in g22 asks for a whole tag. -/
theorem tagLen_zero {w : Word} (h : w = 0) (lo : Nat) : tagLen w lo = some 16 := by
  subst h
  rfl

/-- Work at a countermeasure level finds a healthy cipher core, and noise where it draws. -/
theorem vatCheck_none {s : State} {level : Nat} {random : Bool} (hc : s.anyOk 0 16 = true)
    (hd : level ≠ 0 ∨ random = true → s.drbgOk = true) : vatCheck s level random = none := by
  have hdraw : ((level != 0 || random) && !s.drbgOk) = false := by
    by_cases h : level ≠ 0 ∨ random = true
    · simp [hd h]
    · simp only [not_or, not_not, Bool.not_eq_true] at h
      simp [h.1, h.2]
  simp only [vatCheck, hc, hdraw, Bool.not_true, Bool.or_self, Bool.false_eq_true, if_false]

/-- The function's checks of a slot, all of which pass. -/
theorem orElse_firstOf_none {o : Option Status} {l : List (Bool × Status)} (ho : o = none) (hl : ∀ e ∈ l, e.1 = false) :
    (o.orElse fun _ => firstOf l) = none := by
  subst ho
  have hfind : (l.find? fun e => e.1) = none := List.find?_eq_none.2 fun e he => by simp [hl e he]
  exact congrArg (Option.map Prod.snd) hfind

/-- A use of a slot that passes its checks goes on with what it draws; the function's own checks are left to show. -/
theorem withKey_drawn {s : State} {fr : Fr} {t : BitVec 3} {n : Nat} {need : Need} {inv : Bool}
    {late : Status → State → State} {fc : Slot → Option Status} {go : Slot → Nat → State → IRes} {k : Slot} {v : Nat}
    {s' : State} (h0 : s.slotOpen n = false) (h1 : s.slotCheck (Rq.ofMode fr.mode) n need fr.session = .ok k)
    (h2 : s.spent k = none) (h4 : drawUse k inv s = .got k v s') (h3 : fc k = none) :
    withKey fr t s n need inv late fc go = go k v s' :=
  withKey_use ⟨h0, h1, h2, h3, h4⟩

/-- The slot that passes the checks of slot n is numbered n. -/
theorem slotCheck_n {s : State} {rq : Rq} {n : Nat} {need : Need} {session : BitVec 32} {k : Slot}
    (h : s.slotCheck rq n need session = .ok k) : k.n = n := by
  have hready : s.slotReady n = .ok k := by
    unfold State.slotCheck at h
    split at h
    · cases h
    next k' hk' =>
      repeat' split at h
      all_goals cases h
      exact hk'
  have hslot : s.slot n = some k := by
    unfold State.slotReady at hready
    split at hready
    · cases hready
    next k' hk' =>
      repeat' split at hready
      all_goals cases hready
      exact hk'
  exact beq_iff_eq.1 (List.find?_some (p := fun k : Slot => k.n == n) hslot)

/-- The frame that executes is the same before the shared page is brought up to date. -/
theorem runs_of_touchOperands {c d f w : Nat} {s : State} {fr : Fr} (h : Runs (touchOperands c s) d f fr w) :
    Runs s d f fr w := by
  obtain ⟨h1, h2, h3⟩ := h
  exact ⟨touchOperands_runningFrame c d s ▸ h1, h2, h3⟩

/-- An engine instruction whose body issues a job of which P holds. -/
theorem exec_issues {s0 : State} {c : Fin 9} {f : Nat} {fr : Fr} {t : BitVec 3} {i : Instr}
    {body : State → Nat → Fr → IRes} {go : Job → State → State} {s' : State} {P : Job → Prop} (h : Runs s0 c f fr 1)
    (ht : fr.tok t = .empty) (hi : exec i s0 = .next (engIssue c t s0 body))
    (hb : ∃ j, body (touchOperands c s0) f fr = .issue fr t s' (go j) ∧ P j) :
    ∃ j, exec i s0 = .next (issued c f fr t (go j) s') ∧ P j := by
  obtain ⟨j, hj, hp⟩ := hb
  exact ⟨j, hi.trans (congrArg Host.Outcome.next (engIssue_body h ht hj)), hp⟩

theorem Fr.keyOf_slot {fr : Fr} {h : BitVec 4} {n : Nat} (hh : fr.hnd h = .keySlot n) : fr.keyOf h = some n := by
  rw [Fr.keyOf, hh]

/-- Settles O20. -/
theorem cipherEncrypt : Obligations.CipherEncrypt := by
  unfold Obligations.CipherEncrypt
  intro s0 s c f fr t h n k v s' src dst aad hs hr ht hh len cap p vat on healthy use hcap hsrc hdst
  subst hs
  replace hr := runs_of_touchOperands hr
  have hslen : src.len = len := buffer_len hsrc
  have hkey := Fr.keyOf_slot hh
  have honkey {need : Need} (h1 : (touchOperands c s0).slotCheck (Rq.ofMode fr.mode) n need fr.session = .ok k) :
      some (0, k.n) = some (0, n) := by rw [slotCheck_n h1]
  refine ⟨fun hmax h32 haad h21 hz h22 hroom ⟨h0, h1, h2, ⟨hc, hd⟩, h4⟩ => ?_, fun h32 hz hroom ⟨h0, h1, h2, ⟨hc, hd⟩, h4⟩ => ?_,
    fun h32 hz hroom hmod ⟨h0, h1, h2, ⟨hc, hd⟩, h4⟩ hdr => ?_, fun h32 hz h22 hroom ⟨h0, h1, h2, ⟨hc, hd⟩, h4⟩ => ?_⟩
  · intro iv ct tag d
    refine exec_issues hr ht rfl ?_
    simp only [hkey, cipherBuffers_all hmax h32 hsrc hcap hdst h21 haad, tagLen_zero h22]
    rw [if_neg (by simp only [Option.getD_some]; omega), hz, if_neg Bool.false_ne_true,
      withKey_drawn h0 h1 h2 h4 (vatCheck_none hc (by simpa using hd))]
    refine ⟨_, rfl, rfl, rfl, ?_, rfl, honkey h1⟩
    dsimp only
    omega
  · intro icb
    refine exec_issues hr ht rfl ?_
    simp only [hkey, cipherBuffers_dst (max := 2 ^ 36) (by omega) h32 hsrc hcap hdst]
    rw [if_neg (by omega), hz, if_neg Bool.false_ne_true, withKey_drawn h0 h1 h2 h4 (vatCheck_none hc (by simpa using hd))]
    exact ⟨_, rfl, rfl, rfl, rfl, rfl, honkey h1⟩
  · refine exec_issues hr ht rfl ?_
    simp only [hkey, cipherBuffers_dst (max := 2 ^ 36) (by omega) h32 hsrc hcap hdst]
    rw [if_neg (by omega), hz, if_neg Bool.false_ne_true, withKey_drawn h0 h1 h2 h4
      (orElse_firstOf_none (vatCheck_none hc fun _ => hdr) (by simp [hmod]))]
    exact ⟨_, rfl, rfl, rfl, rfl, rfl, honkey h1⟩
  · refine exec_issues hr ht rfl ?_
    simp only [hkey, cipherBuffers_dst (max := 2 ^ 36) (by omega) h32 hsrc hcap hdst, tagLen_zero h22]
    rw [if_neg (by simp only [Option.getD_some]; omega), hz, if_neg Bool.false_ne_true,
      withKey_drawn h0 h1 h2 h4 (vatCheck_none hc (by simpa using hd))]
    exact ⟨_, rfl, rfl, rfl, rfl, rfl⟩

/-- Settles O21. -/
theorem cipherDecrypt : Obligations.CipherDecrypt := by
  unfold Obligations.CipherDecrypt
  intro s0 s c f fr t h n k v s' src dst aux hs hr ht hh b x ref vat use h32 hsrc
  subst hs
  replace hr := runs_of_touchOperands hr
  have hslen : src.len = (fr.reg 17).toNat := buffer_len hsrc
  have hkey := Fr.keyOf_slot hh
  refine ⟨fun h21 hcap hdst haux h22 h28 hroom hz ⟨h0, h1, h2, hc, hd, h4⟩ => ?_, fun hcap hdst hz => ⟨?_, ?_, ?_, ?_⟩,
    fun h21 haux h22 hlen hz ⟨h0, h1, h2, hc, hd, h4⟩ => ?_, fun hz h8 ⟨h0, h1, h2, hc, hd, h4⟩ => ?_⟩
  · intro pay ct
    refine exec_issues hr ht rfl ?_
    simp only [hkey, cipherBuffers_all (max := 2 ^ 36) (by omega) h32 hsrc hcap hdst h21 haux, tagLen_zero h22, Option.getD_some]
    rw [if_neg (by omega), if_neg (by omega), hz, if_neg Bool.false_ne_true, withKey_drawn h0 h1 h2 h4
      (orElse_firstOf_none (vatCheck_none hc (by simpa using hd)) (by simp; omega))]
    refine ⟨_, rfl, ?_, rfl, rfl, rfl, ?_, rfl⟩
    · simp only [beq_iff_eq]; rfl
    · rw [← decide_not]; simp only [Nat.not_le]; rfl
  · rintro h16 hroom hctr ⟨h0, h1, h2, hc, hd, h4⟩
    simp only [b] at hctr
    refine exec_issues hr ht rfl ?_
    simp only [hkey, cipherBuffers_dst (max := 2 ^ 36 + 16) (by omega) h32 hsrc hcap hdst]
    rw [if_neg (by omega), hz, if_neg Bool.false_ne_true, withKey_drawn h0 h1 h2 h4
      (orElse_firstOf_none (vatCheck_none hc (by simpa using hd)) (by simp; omega))]
    exact ⟨_, rfl, rfl, rfl, rfl, rfl⟩
  · rintro h16 hroom hmod ⟨h0, h1, h2, hc, hd, h4⟩
    refine exec_issues hr ht rfl ?_
    simp only [hkey, cipherBuffers_dst (max := 2 ^ 36 + 16) (by omega) h32 hsrc hcap hdst]
    rw [if_neg (by omega), hz, if_neg Bool.false_ne_true, withKey_drawn h0 h1 h2 h4
      (orElse_firstOf_none (vatCheck_none hc (by simpa using hd)) (by simp; omega))]
    exact ⟨_, rfl, rfl, rfl, rfl, rfl⟩
  · rintro h8 hroom hmod ⟨h0, h1, h2, hc, hd, h4⟩
    refine exec_issues hr ht rfl ?_
    simp only [hkey, cipherBuffers_dst (max := 2 ^ 36 + 8) (by omega) h32 hsrc hcap hdst]
    rw [if_neg (by omega), hz, if_neg Bool.false_ne_true, withKey_drawn h0 h1 h2 h4
      (orElse_firstOf_none (vatCheck_none hc (by simpa using hd)) (by simp; omega))]
    exact ⟨_, rfl, rfl, rfl, rfl, rfl⟩
  · have hlate {i : Instr} (hi : exec i s0 = .next (tdeaRefused c t h s0)) : ∃ j, exec i s0 =
        .next (issued c f fr t (vatAdmit j) (touchOperands c s0)) ∧ j.segs = 0 ∧ j.status = .keyAttr ∧ j.count = 0 ∧
          j.outs = [] ∧ j.ref = ref := by
      refine exec_issues hr ht hi ?_
      simp only [hkey, cipherBuffers_dst (max := 2 ^ 36) (by omega) h32 hsrc hcap hdst]
      exact ⟨_, rfl, rfl, rfl, rfl, rfl, rfl⟩
    simp only [List.forall_mem_cons]
    exact ⟨hlate rfl, hlate rfl, List.forall_mem_nil _⟩
  · refine exec_issues hr ht rfl ?_
    simp only [hkey, cipherBuffers_aux (max := 2 ^ 36) (by omega) h32 hsrc h21 haux, tagLen_zero h22]
    rw [hz, if_neg Bool.false_ne_true, withKey_drawn h0 h1 h2 h4
      (orElse_firstOf_none (vatCheck_none hc (by simpa using hd)) (by simp [hlen]))]
    refine ⟨_, rfl, rfl, rfl, ?_⟩
    simp only [beq_iff_eq]; rfl
  · refine exec_issues hr ht rfl ?_
    simp only [hkey, cipherBuffers_src (max := 2 ^ 36 + 8) (by omega) h32 hsrc _ rfl]
    rw [hz, if_neg Bool.false_ne_true, withKey_drawn h0 h1 h2 h4
      (orElse_firstOf_none (vatCheck_none hc (by simpa using hd)) (by simp; omega))]
    refine ⟨_, rfl, rfl, rfl, ?_⟩
    simp only [beq_iff_eq]; rfl

/-- Settles O22. -/
theorem xtsSectors : Obligations.XtsSectors := by
  unfold Obligations.XtsSectors
  intro s0 s c f fr t h vol k v s' src dst enc hs hr ht hh hmax hcap hsrc hdst hg hroom hcard hmod hne hrange hover hz h0 h1
    h2 hc hd hhalf h4
  subst hs
  replace hr := runs_of_touchOperands hr
  have hi : exec (if enc then .xtsEnc c t h else .xtsDec c t h) s0 = .next (xtsIssue c t h enc s0) := by
    cases enc <;> rfl
  refine exec_issues hr ht hi ?_
  have hoverlap : (src.overlaps { dst with len := src.len } && decide (src.lo ≠ dst.lo)) = false := by
    rcases hover with h | h
    · rw [h, Bool.false_and]
    · simp [h]
  have hhalves : xtsHalves k = false := beq_eq_false_iff_ne.2 hhalf
  simp only [hh, cipherBuffers_dst (max := 65536 * 4096) hmax (by omega) hsrc hcap hdst, hg, hcard, hz, Bool.not_true,
    Bool.false_eq_true, Option.isSome_none, if_false, if_neg (Nat.not_lt.2 hroom)]
  rw [withKey_drawn h0 h1 h2 h4 (orElse_firstOf_none (vatCheck_none hc (by simpa using hd))
    (by simpa [hhalves, hmod, hne] using And.intro hrange hoverlap))]
  exact ⟨_, rfl, rfl, rfl, rfl, rfl, rfl⟩

end Sys2Proof.Machine
end

section
/-! Digest functions of EISS, hash streams and their state blocks (07 Digest functions, 10). -/

namespace Sys2Proof.Machine

/-! ### Algorithms and buffers -/

/-- Of the digests other than KMAC, SHAKE alone has no fixed output length (R214). -/
theorem digestAlg_out {n : Nat} {a : DigestAlg} (h : digestAlg n = some a) :
    a.out = 0 ↔ isShake n = true ∨ isKmac n = true := by
  unfold digestAlg at h
  split at h <;> cases h <;> simp [isShake, isKmac]

theorem isKmac_iff {n : Nat} : isKmac n = true ↔ n = 0x1C ∨ n = 0x1D := by
  simp [isKmac]

theorem digestOut_plain {n : Nat} (h : isKmac n = false) (key msg custom : Bytes) (len : Nat) :
    digestOut n false key msg len custom = fit (Config.hash n msg len) len := by
  have hn : ¬(n = 0x1C ∨ n = 0x1D) := mt isKmac_iff.2 (by simp [h])
  rw [not_or] at hn
  rw [digestOut, if_neg hn.1, if_neg hn.2, if_neg Bool.false_ne_true]

theorem digestOut_hmac {n : Nat} (h : isKmac n = false) (key msg custom : Bytes) (len : Nat) :
    digestOut n true key msg len custom = fit (Config.hmac n key msg) len := by
  have hn : ¬(n = 0x1C ∨ n = 0x1D) := mt isKmac_iff.2 (by simp [h])
  rw [not_or] at hn
  rw [digestOut, if_neg hn.1, if_neg hn.2, if_pos rfl]

theorem digestOut_kmac {n : Nat} (h : isKmac n = true) (key msg custom : Bytes) (len : Nat) :
    digestOut n true key msg len custom =
      fit ((if n = 0x1C then Config.kmac128 else Config.kmac) key msg (8 * len) custom) len := by
  rcases isKmac_iff.1 h with rfl | rfl
  · rfl
  · rw [digestOut, if_neg (by decide), if_pos rfl, if_neg (by decide)]

section
variable {s : State} {c : Fin 9} {f : Nat} {fr : Fr} {t : BitVec 3} {max : Nat} {src dst aux : Range}
  {k : Range → Range → Range → IRes} (h17 : (fr.reg 17).toNat < 2 ^ 32)
  (hsrc : s.buffer fr (fr.reg 16) (fr.reg 17).toNat false = some src)
include h17 hsrc

theorem digestBuffers_dst (h19 : (fr.reg 19).toNat < 2 ^ 32)
    (hdst : s.buffer fr (fr.reg 18) (fr.reg 19).toNat true = some dst) :
    digestBuffers c f fr t s true true none k = k src dst ⟨spData, 0, 0, false⟩ := by
  simp only [digestBuffers, tooLong_false (max := 2 ^ 64 - 2) (by omega) h17, decide_eq_false (Nat.not_le.2 h19), hsrc, hdst,
    Option.elim_none, Option.isSome_none, Bool.and_false, Bool.or_self, Bool.false_eq_true, if_false, if_true]

section
variable (hmax : (fr.reg 21).toNat ≤ max) (h21 : (fr.reg 21).toNat < 2 ^ 32)
  (haux : s.buffer fr (fr.reg 20) (fr.reg 21).toNat false = some aux)
include hmax h21 haux

theorem digestBuffers_all (h19 : (fr.reg 19).toNat < 2 ^ 32)
    (hdst : s.buffer fr (fr.reg 18) (fr.reg 19).toNat true = some dst) :
    digestBuffers c f fr t s true true (some max) k = k src dst aux := by
  simp only [digestBuffers, tooLong_false (max := 2 ^ 64 - 2) (by omega) h17, decide_eq_false (Nat.not_le.2 h19),
    tooLong_false hmax h21, hsrc, hdst, haux, Option.elim_some, Option.isSome_some, Bool.and_false, Bool.or_self,
    Bool.false_eq_true, if_false, if_true]

theorem digestBuffers_aux :
    digestBuffers c f fr t s true false (some max) k = k src ⟨spData, 0, 0, false⟩ aux := by
  simp only [digestBuffers, tooLong_false (max := 2 ^ 64 - 2) (by omega) h17, tooLong_false hmax h21, hsrc, haux,
    Option.elim_some, Option.isSome_some, Bool.and_false, Bool.false_and, Bool.or_self, Bool.false_eq_true, if_false, if_true]

end

end

/-- The enable bit of a digest, asked of a governed requester only (R67). -/
theorem disabled_false {s : State} {fr : Fr} {bit : Nat}
    (h : (Rq.ofMode fr.mode).governed = true → s.active.enables.getLsbD bit = true) : disabled s fr bit = false := by
  unfold disabled
  cases hg : (Rq.ofMode fr.mode).governed with
  | false => rfl
  | true => rw [h hg]; rfl

/-- Settles O23. -/
theorem digestInstructions : Obligations.DigestInstructions := by
  unfold Obligations.DigestInstructions
  intro s0 s c f fr t h alg a src dst hs hr ht halg len ref msg job h17 h19 hsrc
  subst hs
  replace hr := runs_of_touchOperands hr
  refine ⟨fun hdst => ⟨fun hz hk hen => ?_, fun n k v s' hh hu => ⟨fun hout hroom hz => ?_,
    fun aux hk h1 h512 hroom h256 haux hz => ?_⟩⟩, fun aux h21 haux h8 h64 hsl hal hz => ?_⟩
  · intro n h1 hmax hroom
    have hn : (if isShake alg.toNat then (fr.reg 22).toNat else a.out) = n := by
      have hiff : isShake alg.toNat = true ↔ a.out = 0 := by simp [digestAlg_out halg, hk]
      simp only [hiff]
      rfl
    refine exec_issues hr ht rfl ?_
    simp only [halg, hk, Bool.false_eq_true, if_false, digestBuffers_dst h17 hsrc h19 hdst, hn, hz, disabled_false hen]
    rw [if_neg (by omega), if_neg (by omega), digestOut_plain hk]
    exact ⟨_, rfl, rfl, rfl, (fit_length ..).symm, rfl, rfl⟩
  · have hk : isKmac alg.toNat = false := by
      by_contra hk
      exact hout ((digestAlg_out halg).2 (.inr (by simpa using hk)))
    refine exec_issues hr ht rfl ?_
    simp only [halg, if_neg hout, Fr.keyOf_slot hh, digestBuffers_dst h17 hsrc h19 hdst, hz, Bool.false_eq_true, if_false,
      if_neg (Nat.not_lt.2 hroom)]
    rw [withKey_use hu, digestOut_hmac hk]
    exact ⟨_, rfl, rfl, rfl, (fit_length ..).symm, rfl, rfl⟩
  · refine exec_issues hr ht rfl ?_
    simp only [hk, Bool.not_true, Fr.keyOf_slot hh, digestBuffers_all h17 hsrc h256 (by omega) haux h19 hdst, hz,
      Bool.false_eq_true, if_false]
    rw [if_neg (by omega), if_neg (by omega), withKey_use hu, digestOut_kmac hk]
    exact ⟨_, rfl, rfl, rfl, (fit_length ..).symm, rfl, rfl⟩
  · refine exec_issues hr ht rfl ?_
    simp only [digestBuffers_aux h17 hsrc (max := 2 ^ 32) (by omega) h21 haux, hz, Bool.false_eq_true, if_false]
    rw [if_neg (by omega), if_neg (by omega)]
    refine ⟨_, rfl, rfl, rfl, rfl, rfl, ?_⟩
    simp only [beq_iff_eq]
    rfl

/-! ### Hash streams, as issued -/

theorem hashCheck_none {s : State} (h : s.anyOk 16 8 = true) : hashCheck s 0 = none := by
  simp [hashCheck, h]

section
variable {s0 : State} {c : Fin 9} {f : Nat} {fr : Fr} {t : BitVec 3} {h : BitVec 4} {alg : BitVec 8} {a : DigestAlg}
  {aux : Range} (hr : Runs s0 c f fr 1) (ht : fr.tok t = .empty) (halg : digestAlg alg.toNat = some a)
  (h21 : (fr.reg 21).toNat < 2 ^ 32) (h512 : 512 ≤ aux.len) (haux : blockBuffer (touchOperands c s0) fr = some aux)
include hr ht halg h21 h512 haux

/-- The job of a request on a hash stream: it writes to `dst`, and what it does is left to its turn. -/
def StreamJob (c f : Nat) (fr : Fr) (t : BitVec 3) (op alg : Nat) (dst : Range) (j : Job) : Prop :=
  j.ref = Ref.token c f fr.uid t.toNat ∧ j.outs = [(dstOf c f fr dst, [])] ∧ j.stream = .frame c f ∧
    ∃ d, j.defer = some d ∧ d.op = op ∧ d.alg = alg

theorem exec_start_plain (hk : isKmac alg.toNat = false) (hmax : (fr.reg 22).toNat ≤ a.max)
    (hz : (touchOperands c s0).hazard fr.uid [aux] = false)
    (hen : (Rq.ofMode fr.mode).governed = true → (touchOperands c s0).active.enables.getLsbD a.bit = true) :
    ∃ j, exec (.start c t 0 false alg) s0 = .next (issued c f fr t (digestAdmit j) (touchOperands c s0)) ∧
      StreamJob c f fr t 1 alg.toNat aux j ∧
      j.defer.map (·.opens) =
        some ⟨0, c, f, fr.uid, alg.toNat, false, [], 0, (fr.reg 22).toNat, [], false, 0⟩ := by
  refine exec_issues hr ht rfl ?_
  simp only [halg, hk, haux, hz, disabled_false hen, decide_eq_false (Nat.not_le.2 h21), decide_eq_false (Nat.not_lt.2 hmax),
    if_neg (Nat.not_lt.2 h512), bne_self_eq_false, Bool.not_false, Bool.or_self, Bool.and_false, Bool.false_and,
    Bool.false_eq_true, if_false]
  exact ⟨_, rfl, ⟨rfl, rfl, rfl, _, rfl, rfl, rfl⟩, rfl⟩

theorem exec_start_keyed {n : Nat} {k : Slot} {v : Nat} {s' : State} (hk : isShake alg.toNat = false)
    (hmax : (fr.reg 22).toNat ≤ a.max) (hz : (touchOperands c s0).hazard fr.uid [aux] = false)
    (hh : fr.hnd h = .keySlot n)
    (hu : KeyUse (touchOperands c s0) fr n (needMac alg.toNat) false
      (fun k => hashCheck (touchOperands c s0) k.cmLevel) k v s')
    (hopen : ((touchOperands c s0).eng.streams.filter fun r => r.uid == fr.uid).length < 8) :
    ∃ j, exec (.start c t h true alg) s0 = .next (issued c f fr t (digestAdmit j) s') ∧
      StreamJob c f fr t 1 alg.toNat aux j ∧ j.defer.map (·.opens) =
        some ⟨0, c, f, fr.uid, alg.toNat, true, keyBytes k.material, k.cmLevel, (fr.reg 22).toNat, [], false, 0⟩ := by
  refine exec_issues hr ht rfl ?_
  obtain ⟨h0, h1, h2, h3, h4⟩ := hu
  simp only [halg, hk, haux, hz, Fr.keyOf_slot hh, decide_eq_false (Nat.not_le.2 h21), decide_eq_false (Nat.not_lt.2 hmax),
    if_neg (Nat.not_lt.2 h512), Option.isNone_some, Option.getD_some, Bool.not_true, Bool.or_self, Bool.and_false,
    Bool.false_and, Bool.false_eq_true, if_false, if_true]
  rw [withKey_drawn h0 h1 h2 h4 (orElse_firstOf_none h3 (by simpa using fun _ _ => hopen))]
  exact ⟨_, rfl, ⟨rfl, rfl, rfl, _, rfl, rfl, rfl⟩, rfl⟩

theorem exec_update_issues {src : Range} (h17 : (fr.reg 17).toNat < 2 ^ 32)
    (hsrc : (touchOperands c s0).buffer fr (fr.reg 16) (fr.reg 17).toNat false = some src)
    (hz : (touchOperands c s0).hazard fr.uid [src, aux] = false) :
    ∃ j, exec (.update c t alg) s0 = .next (issued c f fr t (digestAdmit j) (touchOperands c s0)) ∧
      StreamJob c f fr t 2 alg.toNat { aux with len := 512 } j ∧
      j.defer.map (fun d => (d.block, d.input, d.opens.uid)) =
        some ((touchOperands c s0).readRange c fr { aux with len := 512 }, (touchOperands c s0).readRange c fr src, fr.uid) := by
  refine exec_issues hr ht rfl ?_
  simp only [halg, hsrc, haux, hz, tooLong_false (max := 2 ^ 32) (by omega) h17, decide_eq_false (Nat.not_le.2 h21),
    if_neg (Nat.not_lt.2 h512), Bool.or_self, Bool.false_eq_true, if_false]
  exact ⟨_, rfl, ⟨rfl, rfl, rfl, _, rfl, rfl, rfl⟩, rfl⟩

theorem exec_finish_issues {dst : Range} (h19 : (fr.reg 19).toNat < 2 ^ 32)
    (hdst : (touchOperands c s0).buffer fr (fr.reg 18) (fr.reg 19).toNat true = some dst)
    (hz : (touchOperands c s0).hazard fr.uid [dst, aux] = false) (hout : a.out ≠ 0) (hroom : a.out ≤ dst.len) :
    ∃ j, exec (.finish c t alg) s0 = .next (issued c f fr t (digestAdmit j) (touchOperands c s0)) ∧
      StreamJob c f fr t 3 alg.toNat dst j ∧
      j.defer.map (fun d => (d.block, d.len, d.opens.uid)) =
        some ((touchOperands c s0).readRange c fr { aux with len := 512 }, a.out, fr.uid) := by
  refine exec_issues hr ht rfl ?_
  simp only [halg, hdst, haux, hz, decide_eq_false (Nat.not_le.2 h19), decide_eq_false (Nat.not_le.2 h21),
    if_neg (Nat.not_lt.2 h512), if_neg (Nat.not_lt.2 hroom), hout, false_and, Bool.or_self, Bool.false_eq_true, if_false]
  exact ⟨_, rfl, ⟨rfl, rfl, rfl, _, rfl, rfl, rfl⟩, rfl⟩

end

/-! ### Hash streams, in their turn -/

section
variable {j : Job} {d : Deferred} {s : State}

/-- The record that the block of a deferred request names, of the request's algorithm. -/
def foundStream (d : Deferred) (s : State) : Option HashStream :=
  (acceptBlock s d.opens.uid d.block).filter fun r => r.alg == d.alg

theorem beginStart_full (h : 8 ≤ (s.eng.streams.filter fun r => r.uid == d.opens.uid).length) :
    beginStart j d s = (j.refused .operandRange, s) := if_pos h

theorem beginStart_opens {ix : Nat} {keys : Bytes × Bytes}
    (h : (s.eng.streams.filter fun r => r.uid == d.opens.uid).length < 8) (hix : freeStream s = some ix)
    (hk : s.keys.stateKeys = some keys) : beginStart j d s =
      ({ j with defer := none, fin := .hashSet { d.opens with idx := ix }, count := 512 },
        setStream { d.opens with idx := ix } s) := by
  simp only [beginStart, if_neg (Nat.not_le.2 h), hix, hk]

/-- The record that is opened was free. -/
theorem freeStream_free {ix : Nat} (h : freeStream s = some ix) : ∀ r ∈ s.eng.streams, r.idx ≠ ix := by
  have hfree := List.find?_some h
  simpa using hfree

theorem acceptBlock_mem {uid : Nat} {b : Bytes} {r : HashStream} (h : acceptBlock s uid b = some r) :
    r.uid = uid ∧ r ∈ s.eng.streams := by
  unfold acceptBlock at h
  split at h
  · cases h
  · split at h
    · have hp := List.find?_some h
      simp only [Bool.and_eq_true, beq_iff_eq] at hp
      exact ⟨hp.1.2, List.mem_of_find?_eq_some h⟩
    · cases h

theorem foundStream_spec {r : HashStream} (h : foundStream d s = some r) :
    r.alg = d.alg ∧ r.uid = d.opens.uid ∧ r ∈ s.eng.streams := by
  obtain ⟨hacc, halg⟩ := Option.filter_eq_some_iff.1 h
  exact ⟨beq_iff_eq.1 halg, acceptBlock_mem hacc⟩

theorem beginUpdate_none (h : foundStream d s = none) : beginUpdate j d s = (j.refused .tagFail, s) := by
  rw [foundStream] at h
  simp only [beginUpdate, h]

theorem beginFinish_none (h : foundStream d s = none) : beginFinish j d s = (j.refused .tagFail, s) := by
  rw [foundStream] at h
  simp only [beginFinish, h]

section
variable {r : HashStream} (h : foundStream d s = some r)
include h

theorem beginUpdate_halted (hr : r.runs s = false) : beginUpdate j d s = (j.refused .noHealthyChannel, s) := by
  rw [foundStream] at h
  simp only [beginUpdate, h, hr, Bool.not_false, if_true]

theorem beginFinish_halted (hr : r.runs s = false) :
    beginFinish j d s = (j.refused .noHealthyChannel, freeStreamRec r.idx s) := by
  rw [foundStream] at h
  simp only [beginFinish, h, hr, Bool.not_false, if_true]

theorem beginUpdate_runs (hr : r.runs s = true) : let room := r.declared - r.absorbed.length
    beginUpdate j d s = ({ j with
      defer := none
      segs := digestSegs (((digestAlg d.alg).map (·.block)).getD 64) (d.input.take room).length
      status := if room < d.input.length then .okTruncated else .ok, count := (d.input.take room).length
      level := if r.keyed then r.level else 0
      fin := .hashSet { r with absorbed := r.absorbed ++ d.input.take room
                               truncated := r.truncated || decide (room < d.input.length) } }, s) := by
  rw [foundStream] at h
  simp only [beginUpdate, h, hr, Bool.not_true, Bool.false_eq_true, if_false, decide_eq_true_eq]

theorem beginFinish_runs (hr : r.runs s = true) : beginFinish j d s = ({ j with
    defer := none, outs := j.outs.map fun o => (o.1, digestOut d.alg r.keyed r.key r.absorbed d.len [])
    status := if r.absorbed.length = r.declared then .ok else .shortInput
    count := if r.absorbed.length = r.declared then d.len else 0
    level := if r.keyed then r.level else 0, fin := .hashFree r.idx }, s) := by
  rw [foundStream] at h
  simp only [beginFinish, h, hr, Bool.not_true, Bool.false_eq_true, if_false, decide_eq_true_eq]

end

end

/-! ### State blocks (10 R219 to R221) -/

theorem leN_le (n k : Nat) : leN (le n k) = n % 256 ^ k := by
  induction k generalizing n with
  | zero => simp [le, leN, Nat.mod_one]
  | succ k ih => rw [le, leN, ih, BitVec.toNat_ofNat, show 2 ^ 8 = 256 from rfl, Nat.pow_succ', Nat.mod_mul]

/-- The first `len` bytes of a string that begins with x. -/
theorem sl_zero_append {x b : Bytes} {len : Nat} (h : x.length = len) : sl (x ++ b) 0 len = x := by
  rw [sl, List.drop_zero, List.take_left' h]

/-- A read past a leading part reads the rest. -/
theorem sl_append_right {x b : Bytes} {off len : Nat} (h : x.length ≤ off) :
    sl (x ++ b) off len = sl b (off - x.length) len := by
  rw [sl, sl, List.drop_append, List.drop_eq_nil_of_le h, List.nil_append]

/-- A state block without its tag. -/
def blockHead (keys : Bytes × Bytes) (r : HashStream) : Bytes :=
  let ctr := be r.serial 8 ++ zeros 8
  ascii "JXDS" ++ le 1 2 ++ le r.alg 1 ++ le (b2n r.keyed + 2 * b2n r.truncated + 4 * r.level) 1
    ++ le r.serial 8 ++ le r.idx 2 ++ zeros 6 ++ le r.declared 8 ++ le r.absorbed.length 8
    ++ fit (Config.aesCtr keys.1 ctr (fit (Config.hashState r.alg r.key r.absorbed) 432)) 432 ++ zeros 8

/-- The tag over the head of a block. -/
def blockTag (keys : Bytes × Bytes) (head : Bytes) : Bytes :=
  fit (Config.kmac keys.2 head 256 (ascii "JEXVOR DIGEST STATE")) 32

theorem stateBlock_eq (keys : Bytes × Bytes) (r : HashStream) :
    stateBlock keys r = blockHead keys r ++ blockTag keys (blockHead keys r) := rfl

theorem ascii_JXDS_length : (ascii "JXDS").length = 4 := by decide

@[simp] theorem zeros_length (n : Nat) : (zeros n).length = n := List.length_replicate

theorem blockHead_length (keys : Bytes × Bytes) (r : HashStream) : (blockHead keys r).length = 480 := by
  simp only [blockHead, List.length_append, ascii_JXDS_length, le_length, zeros_length, fit_length]

theorem stateBlock_length (keys : Bytes × Bytes) (r : HashStream) : (stateBlock keys r).length = 512 := by
  rw [stateBlock_eq, List.length_append, blockHead_length, blockTag, fit_length]

theorem sl_blockHead (keys : Bytes × Bytes) (r : HashStream) : sl (blockHead keys r) 0 480 = blockHead keys r := by
  rw [sl, List.drop_zero, List.take_of_length_le (blockHead_length keys r).le]

theorem stateBlock_tag (keys : Bytes × Bytes) (r : HashStream) :
    sl (stateBlock keys r) 480 32 = blockTag keys (blockHead keys r) := by
  rw [stateBlock_eq, sl_append_right (blockHead_length keys r).le, blockHead_length, Nat.sub_self, sl, List.drop_zero,
    List.take_of_length_le (by rw [blockTag, fit_length])]

/-- A read within a leading part. -/
theorem sl_append_left {x b : Bytes} {off len : Nat} (h : off + len ≤ x.length) : sl (x ++ b) off len = sl x off len := by
  rw [sl, sl, List.drop_append_of_le_length (by omega), List.take_append_of_le_length (by rw [List.length_drop]; omega)]

/-- A read in the head of a block. -/
theorem sl_stateBlock {keys : Bytes × Bytes} {r : HashStream} {off len : Nat} (h : off + len ≤ 480) :
    sl (stateBlock keys r) off len = sl (blockHead keys r) off len := by
  rw [stateBlock_eq, sl_append_left (by rw [blockHead_length]; exact h)]

/-- The fields of a block's head, at their places. -/
theorem blockHead_fields (keys : Bytes × Bytes) (r : HashStream) :
    sl (blockHead keys r) 0 4 = ascii "JXDS" ∧ sl (blockHead keys r) 4 2 = le 1 2 ∧
      sl (blockHead keys r) 7 1 = le (b2n r.keyed + 2 * b2n r.truncated + 4 * r.level) 1 ∧
      sl (blockHead keys r) 8 8 = le r.serial 8 ∧ sl (blockHead keys r) 16 2 = le r.idx 2 ∧
      sl (blockHead keys r) 18 6 = zeros 6 ∧ sl (blockHead keys r) 472 8 = zeros 8 := by
  have hlast : (le r.declared 8 ++ (le r.absorbed.length 8 ++ fit (Config.aesCtr keys.1 (be r.serial 8 ++ zeros 8)
      (fit (Config.hashState r.alg r.key r.absorbed) 432)) 432)).length = 448 := by
    simp only [List.length_append, le_length, fit_length]
  have hfirst : (ascii "JXDS" ++ le 1 2 ++ le r.alg 1 ++ le (b2n r.keyed + 2 * b2n r.truncated + 4 * r.level) 1
    ++ le r.serial 8 ++ le r.idx 2 ++ zeros 6 ++ le r.declared 8 ++ le r.absorbed.length 8
    ++ fit (Config.aesCtr keys.1 (be r.serial 8 ++ zeros 8) (fit (Config.hashState r.alg r.key r.absorbed) 432)) 432).length
      = 472 := by
    simp only [List.length_append, ascii_JXDS_length, le_length, zeros_length, fit_length]
  have hend : sl (blockHead keys r) 472 8 = zeros 8 := by
    rw [blockHead, sl_append_right hfirst.le, hfirst, Nat.sub_self, sl, List.drop_zero,
      List.take_of_length_le (by rw [zeros_length])]
  refine ⟨?_, ?_, ?_, ?_, ?_, ?_, hend⟩
  all_goals
    simp only [blockHead, List.append_assoc, sl_append_right, sl_zero_append, ascii_JXDS_length, le_length, zeros_length,
      Nat.reduceLeDiff, Nat.reduceSub, Nat.le_refl, Nat.sub_self]

/-- A block written under the boot's keys is accepted for the open record of the order with its index and serial. -/
theorem acceptBlock_stateBlock {s : State} {uid : Nat} {keys : Bytes × Bytes} {r : HashStream}
    (hk : s.keys.stateKeys = some keys) (hi : r.idx < 1024) (hl : r.level < 4) (hs : r.serial < 2 ^ 64) :
    acceptBlock s uid (stateBlock keys r) =
      s.eng.streams.find? fun x => x.idx == r.idx && x.uid == uid && x.serial == r.serial := by
  obtain ⟨h0, h4, h7, h8, h16, h18, h472⟩ := blockHead_fields keys r
  have hidx : leN (le r.idx 2) = r.idx := by rw [leN_le, Nat.mod_eq_of_lt (by omega)]
  have hserial : leN (le r.serial 8) = r.serial := by rw [leN_le, Nat.mod_eq_of_lt (by omega)]
  have hflags : leN (le (b2n r.keyed + 2 * b2n r.truncated + 4 * r.level) 1) / 16 = 0 := by
    have hb (b : Bool) : b2n b ≤ 1 := by cases b <;> decide
    have hk1 := hb r.keyed
    have ht1 := hb r.truncated
    rw [leN_le]
    omega
  have htag : fit (Config.kmac keys.2 (blockHead keys r) 256 (ascii "JEXVOR DIGEST STATE")) 32 =
    blockTag keys (blockHead keys r) := rfl
  have hzeros : ∀ n ∈ [6, 8], allZero (zeros n) = true := by decide
  have hone : leN (le 1 2) = 1 := by decide
  simp only [acceptBlock, hk, fld, zeroAt, sl_stateBlock, Nat.reduceAdd, Nat.reduceLeDiff, h0, h4, h7, h8, h16, h18, h472,
    sl_blockHead, stateBlock_tag, hidx, hserial, hflags, htag, hzeros, hone, List.mem_cons, true_or, or_true,
    beq_self_eq_true, Bool.and_self, if_true]

/-- The block of an open record is accepted for it. -/
theorem acceptBlock_own {s : State} {keys : Bytes × Bytes} {r : HashStream} (hk : s.keys.stateKeys = some keys)
    (hi : r.idx < 1024) (hl : r.level < 4) (hs : r.serial < 2 ^ 64) :
    acceptBlock (setStream r s) r.uid (stateBlock keys r) = some r := by
  rw [acceptBlock_stateBlock (s := setStream r s) hk hi hl hs]
  exact List.find?_cons_of_pos (by simp)

/-- A block of another write serial is not (R221). -/
theorem acceptBlock_stale {s : State} {keys : Bytes × Bytes} {r old : HashStream} (hk : s.keys.stateKeys = some keys)
    (hi : r.idx < 1024) (ho : old.idx = r.idx) (hl : old.level < 4) (hs : old.serial < 2 ^ 64)
    (hne : old.serial ≠ r.serial) : acceptBlock (setStream r s) r.uid (stateBlock keys old) = none := by
  rw [acceptBlock_stateBlock (s := setStream r s) hk (ho ▸ hi) hl hs]
  refine List.find?_eq_none.2 fun x hx => ?_
  rcases List.mem_cons.1 hx with rfl | hx
  · simp [hne.symm]
  · have hidx : x.idx ≠ r.idx := by simpa using (List.mem_filter.1 hx).2
    simp [ho, hidx]

/-! ### SLH-DSA -/

section
variable {s0 : State} {c : Fin 9} {f : Nat} {fr : Fr} {t : BitVec 3} {h : BitVec 4} {set : BitVec 8} {len n : Nat}
  {k : Slot} {v : Nat} {s' : State} {src : Range} (hr : Runs s0 c f fr 1) (ht : fr.tok t = .empty)
  (hlen : slhLen set.toNat = some len) (hh : fr.hnd h = .keySlot n) (h17 : (fr.reg 17).toNat < 2 ^ 32)
  (hsrc : (touchOperands c s0).buffer fr (fr.reg 16) (fr.reg 17).toNat false = some src)
  (hcores : (touchOperands c s0).anyOk 16 8 = true)
include hr ht hlen hh h17 hsrc hcores

theorem exec_slhSign_issues {dst : Range} (h19 : (fr.reg 19).toNat < 2 ^ 32)
    (hdst : (touchOperands c s0).buffer fr (fr.reg 18) (fr.reg 19).toNat true = some dst) (hroom : len ≤ dst.len)
    (hz : (touchOperands c s0).hazard fr.uid [src, dst] = false) (hd : (touchOperands c s0).drbgOk = true)
    (hu : KeyUse (touchOperands c s0) fr n (needSlh (0x0800 + set.toNat) 2) false (fun _ => none) k v s') :
    ∃ j, exec (.slhSign c t h set) s0 = .next (issued c f fr t (digestAdmit j) (s'.drbgBytes 32).2) ∧
      j.status = .ok ∧ j.count = len ∧ j.ref = .token c f fr.uid t.toNat ∧ j.outs = [(dstOf c f fr dst,
        fit (Config.pk (0x0800 + set.toNat) k.material 0 [(touchOperands c s0).readRange c fr src] (s'.drbgBytes 32).1)
          len)] := by
  obtain ⟨h0, h1, h2, -, h4⟩ := hu
  refine exec_issues hr ht rfl ?_
  simp only [hlen, Fr.keyOf_slot hh, digestBuffers_dst h17 hsrc h19 hdst, hz, if_neg (Nat.not_lt.2 hroom),
    Bool.false_eq_true, if_false]
  rw [withKey_drawn h0 h1 h2 h4 (by rw [hd, hcores]; rfl)]
  exact ⟨_, rfl, rfl, rfl, rfl, rfl⟩

theorem exec_slhVerify_issues {aux : Range} (h21 : (fr.reg 21).toNat < 2 ^ 32)
    (haux : (touchOperands c s0).buffer fr (fr.reg 20) (fr.reg 21).toNat false = some aux) (hl : aux.len = len)
    (hz : (touchOperands c s0).hazard fr.uid [src, aux] = false)
    (hu : KeyUse (touchOperands c s0) fr n (needSlh (0x0810 + set.toNat) 3) false (fun _ => none) k v s') :
    ∃ j, exec (.slhVerify c t h set) s0 = .next (issued c f fr t (digestAdmit j) s') ∧ j.outs = [] ∧
      j.ref = .token c f fr.uid t.toNat ∧ j.status = if Config.pkVerify (0x0810 + set.toNat) k.material 0
        [(touchOperands c s0).readRange c fr src, (touchOperands c s0).readRange c fr aux] then .ok else .tagFail := by
  obtain ⟨h0, h1, h2, -, h4⟩ := hu
  refine exec_issues hr ht rfl ?_
  simp only [hlen, Fr.keyOf_slot hh, digestBuffers_aux h17 hsrc (max := 2 ^ 32) (by omega) h21 haux, hl, hz, ne_eq,
    not_true_eq_false, Bool.false_eq_true, if_false]
  rw [withKey_drawn h0 h1 h2 h4 (hashCheck_none hcores)]
  exact ⟨_, rfl, rfl, rfl, rfl⟩

end

/-- Settles O24: the requests as issued and as taken up by their rules, the state block by `acceptBlock_stateBlock`. -/
theorem hashStreams : Obligations.HashStreams := by
  unfold Obligations.HashStreams
  refine ⟨fun s0 s c f fr t h alg a aux hs hr ht halg h21 h512 haux => ?_, fun j d s => ?_, fun s r keys hk hi hl hs =>
    ⟨stateBlock_length keys r, acceptBlock_own hk hi hl hs, fun old ho hlo hso hne => acceptBlock_stale hk hi ho hlo hso hne⟩,
    fun s0 s c f fr t h set len n k v s' src hs hr ht hlen hh h17 hsrc => ?_⟩
  · subst hs
    replace hr := runs_of_touchOperands hr
    exact ⟨exec_start_plain hr ht halg h21 h512 haux, fun n k v s' hk hmax hz hh hu hopen =>
      exec_start_keyed hr ht halg h21 h512 haux hk hmax hz hh hu hopen, fun src h17 hsrc hz =>
      exec_update_issues hr ht halg h21 h512 haux h17 hsrc hz, fun dst h19 hdst hz hout hroom =>
      exec_finish_issues hr ht halg h21 h512 haux h19 hdst hz hout hroom⟩
  · intro found
    refine ⟨fun ix keys hn hix hk => ⟨freeStream_free hix, beginStart_opens hn hix hk⟩, beginStart_full, fun h =>
      ⟨beginUpdate_none h, beginFinish_none h⟩, fun r h => foundStream_spec h, fun r h hr =>
      ⟨beginUpdate_halted h hr, beginFinish_halted h hr⟩, fun r h hr => ?_⟩
    intro room u e
    have hu : u = _ := beginUpdate_runs h hr
    have he : e = _ := beginFinish_runs h hr
    rw [hu, he]
    exact ⟨⟨rfl, rfl, rfl, rfl⟩, rfl, rfl, fun hw => ⟨if_pos hw, if_pos hw, rfl⟩, fun hw => ⟨if_neg hw, if_neg hw⟩⟩
  · subst hs
    replace hr := runs_of_touchOperands hr
    exact ⟨fun dst h19 hdst hroom hz hd hcores hu => exec_slhSign_issues hr ht hlen hh h17 hsrc hcores h19 hdst hroom hz hd hu,
      fun aux h21 haux hl hz hcores hu => exec_slhVerify_issues hr ht hlen hh h17 hsrc hcores h21 haux hl hz hu⟩

end Sys2Proof.Machine
end

section
/-! Big-number functions (07 Big-number functions, 11): issue with and without a key slot, key generation, and the
outcome of a run. -/

namespace Sys2Proof.Machine

/-! ### Operands -/

/-- Every function of `LaneForm` issues by `laneIssue`. -/
theorem exec_laneForm {c : Fin 9} {t : BitVec 3} {h : BitVec 4} {ps : Fin 3} {i : Instr} {fn : LaneFn}
    (hf : LaneForm c t h ps i fn) (s : State) : exec i s = .next (laneIssue c t (some h) fn s) := by
  simp only [LaneForm, List.mem_cons, Prod.mk.injEq, List.not_mem_nil, or_false] at hf
  rcases hf with ⟨rfl, rfl⟩ | ⟨rfl, rfl⟩ | ⟨rfl, rfl⟩ | ⟨rfl, rfl⟩ | ⟨rfl, rfl⟩ | ⟨rfl, rfl⟩ | ⟨rfl, rfl⟩ | ⟨rfl, rfl⟩ |
    ⟨rfl, rfl⟩ | ⟨rfl, rfl⟩ | ⟨rfl, rfl⟩ | ⟨rfl, rfl⟩ | ⟨rfl, rfl⟩ | ⟨rfl, rfl⟩ | ⟨rfl, rfl⟩ | ⟨rfl, rfl⟩ | ⟨rfl, rfl⟩ |
    ⟨rfl, rfl⟩
  all_goals rfl

section
variable {s : State} {c : Fin 9} {f : Nat} {fr : Fr} {t : BitVec 3} {fn : LaneFn} {src dst aux : Range}
  {k : Range → Range → Range → IRes}

/-- A source that is used is not too long. -/
theorem laneBuffers_src_fits (hb : LaneBuffers s fr fn src dst aux) : fn.src.elim false (tooLong (fr.reg 17)) = false := by
  obtain ⟨hsrc, -⟩ := hb
  cases hfn : fn.src with
  | none => rfl
  | some m =>
    rw [hfn] at hsrc
    exact tooLong_false hsrc.1 hsrc.2.1

/-- The buffers of a lane function, found as its registers name them. -/
theorem digestBuffers_lane (hb : LaneBuffers s fr fn src dst aux) :
    digestBuffers c f fr t s fn.src.isSome fn.dst fn.aux k = k src dst aux := by
  obtain ⟨hsrc, hdst, haux, -⟩ := hb
  have h1 : (fn.src.isSome && tooLong (fr.reg 17) (2 ^ 64 - 2)) = false ∧
      (if fn.src.isSome then s.buffer fr (fr.reg 16) (fr.reg 17).toNat false else some ⟨spData, 0, 0, false⟩) = some src := by
    cases hfn : fn.src with
    | none => rw [hfn] at hsrc; subst hsrc; exact ⟨rfl, rfl⟩
    | some m =>
      rw [hfn] at hsrc
      exact ⟨tooLong_false (by omega) hsrc.2.1, hsrc.2.2⟩
  have h2 : (fn.dst && decide (2 ^ 32 ≤ (fr.reg 19).toNat)) = false ∧
      (if fn.dst then s.buffer fr (fr.reg 18) (fr.reg 19).toNat true else some ⟨spData, 0, 0, false⟩) = some dst := by
    cases hfn : fn.dst with
    | false => rw [hfn] at hdst; subst hdst; exact ⟨rfl, rfl⟩
    | true =>
      rw [hfn] at hdst
      exact ⟨decide_eq_false (Nat.not_le.2 hdst.1), hdst.2⟩
  have h3 : fn.aux.elim false (tooLong (fr.reg 21)) = false ∧
      (if fn.aux.isSome then s.buffer fr (fr.reg 20) (fr.reg 21).toNat false else some ⟨spData, 0, 0, false⟩) = some aux := by
    cases hfn : fn.aux with
    | none => rw [hfn] at haux; subst haux; exact ⟨rfl, rfl⟩
    | some m =>
      rw [hfn] at haux
      exact ⟨tooLong_false haux.1 haux.2.1, haux.2.2⟩
  simp only [digestBuffers, h1, h2, h3, Bool.or_self, Bool.false_eq_true, if_false]

theorem laneBuffers_clear (hb : LaneBuffers s fr fn src dst aux) : s.hazard fr.uid [src, dst, aux] = false := by
  obtain ⟨-, -, -, hz⟩ := hb
  exact hz

end

/-- Lengths, capacity and parameters that pass (R134). -/
theorem LanePlan.refused_none {p : LanePlan} {cap : Nat} {e : Nat × Bool} (h1 : p.long = false) (h2 : p.out ≤ cap)
    (h3 : p.bad = false) (he : e.1 ≤ cap) (hr : e.2 = false) : p.refused cap e = none := by
  have hcap : (decide (cap < e.1) || decide (cap < p.out)) = false := by
    simp [Nat.not_lt.2 he, Nat.not_lt.2 h2]
  simp only [LanePlan.refused, h1, hcap, hr, h3, Bool.or_self]
  rfl

/-- A lane can run, and what needs a random value finds the DRBG. -/
theorem laneCheck_none {s : State} {fn : LaneFn} (hl : s.lanesOk = true)
    (hd : (fn.isPrivate || fn.seeded) = true → s.drbgOk = true) : laneCheck s fn = none := by
  have hdraw : ((fn.isPrivate || fn.seeded) && !s.drbgOk) = false := by
    cases h : fn.isPrivate || fn.seeded with
    | false => rfl
    | true => simp [hd h]
  simp only [laneCheck, hl, hdraw, Bool.not_true, Bool.or_self, Bool.false_eq_true, if_false]

/-- Settles O25: the issue of `laneIssue`, by the lemmas of its buffers and its checks. -/
theorem laneKeyed : Obligations.LaneKeyed := by
  unfold Obligations.LaneKeyed
  intro s0 s c f fr t h ps n need k v s' src dst aux i fn hf hs hr ht hh hneed hb hearly hrange p hlong hout hbad hl hd hu
  subst hs
  obtain ⟨h0, h1, h2, -, h4⟩ := hu
  refine exec_issues (runs_of_touchOperands hr) ht (exec_laneForm hf s0) ?_
  simp only [laneKey, hh, laneBuffers_src_fits hb, digestBuffers_lane hb, laneBuffers_clear hb, hneed, hrange, Bool.true_and,
    decide_eq_false (Nat.not_lt.2 hearly), Bool.false_eq_true, if_false]
  have hchecks : ((p.refused dst.len).orElse fun _ => laneCheck (touchOperands c s0) fn) = none := by
    rw [LanePlan.refused_none hlong hout hbad (Nat.zero_le _) rfl]
    exact laneCheck_none hl hd
  rw [withKey_drawn h0 h1 h2 h4 hchecks]
  exact ⟨_, rfl, ⟨rfl, rfl, rfl, rfl, rfl, rfl⟩, rfl⟩

/-- Settles O26. -/
theorem laneBare : Obligations.LaneBare := by
  unfold Obligations.LaneBare
  intro s0 s c f fr t ps src dst aux i fn hf en hs hr ht hh hbare hb hearly hrange p hlong hout hbad hl hd hen
  subst hs
  obtain ⟨h, hi, hkey⟩ : ∃ h, exec i s0 = .next (laneIssue c t h fn s0) ∧ laneKey fr h fn = some .bare := by
    rcases hf with hf | ⟨rfl, rfl⟩
    · exact ⟨some 0, exec_laneForm hf s0, by
        simp only [laneKey]; rw [show fr.hnd 0 = .empty from hh, hbare]; rfl⟩
    · exact ⟨none, rfl, rfl⟩
  have hallowed : ((fn.bare.elim [] fun b => b (if fn.fn = 0x0100 then (touchOperands c s0).readRange c fr src
      else (touchOperands c s0).readRange c fr aux)).any (disabled (touchOperands c s0) fr)) = false := by
    rw [hbare]
    exact List.any_eq_false.2 fun b hb => by simpa using disabled_false fun hg => hen hg b hb
  have hpasses : (fn.plan none (fr.reg 22) ((touchOperands c s0).readRange c fr src)
      ((touchOperands c s0).readRange c fr aux)).refused dst.len (fn.early false (fr.reg 22) src.len aux.len) = none :=
    LanePlan.refused_none hlong hout hbad hearly hrange
  refine exec_issues (runs_of_touchOperands hr) ht hi ?_
  simp only [hkey, laneBuffers_src_fits hb, digestBuffers_lane hb, laneBuffers_clear hb, hallowed, laneCheck_none hl hd,
    hpasses, Bool.false_and, Bool.false_eq_true, if_false]
  exact ⟨_, rfl, ⟨rfl, rfl, rfl, rfl, rfl, rfl⟩, rfl⟩

/-! ### Outcomes and sizes (R238 to R241) -/

/-- Rules of which none fails pass. -/
theorem LanePlan.invalid_none {p : LanePlan} (h : ∀ q ∈ p.rules, q.1 = true) : p.invalid = none := by
  have : (p.rules.find? fun r => !r.1) = none := List.find?_eq_none.2 fun q hq => by simp [h q hq]
  rw [LanePlan.invalid, this]
  rfl

/-- The first rule that fails gives the status. -/
theorem LanePlan.invalid_first {p : LanePlan} {pre post : List (Bool × Status)} {q : Bool × Status}
    (hp : p.rules = pre ++ q :: post) (hpre : ∀ x ∈ pre, x.1 = true) (hq : q.1 = false) : p.invalid = some q.2 := by
  have hnone : (pre.find? fun r => !r.1) = none := List.find?_eq_none.2 fun x hx => by simp [hpre x hx]
  rw [LanePlan.invalid, hp, List.find?_append, hnone, Option.none_or, List.find?_cons_of_pos (by simp [hq])]
  rfl

/-- Bits 31:16 of a word. -/
theorem bits_31_16 (w : Word) : bits w.toNat 31 16 = w.toNat / 2 ^ 16 % 2 ^ 16 := rfl

/-- Settles O27: the rules by `LanePlan.invalid_first` and `LanePlan.invalid_none`, the sizes by the plans. -/
theorem laneOutcomes : Obligations.LaneOutcomes := by
  unfold Obligations.LaneOutcomes
  refine ⟨fun fn p j dst hfn hw ho hst => ⟨fun q _ hq pre ⟨post, hp, hpre⟩ => ?_, fun hall => ⟨fun hv => ?_, fun hv hd =>
    ⟨fun hok => ?_, fun hok => ?_⟩, fun hv hd => ?_⟩⟩, fun alg m w src aux => ?_⟩
  · have hi := LanePlan.invalid_first hp hpre hq
    simp [Job.laneOutcome, hw, laneWork, hi]
  · have hi := LanePlan.invalid_none hall
    cases hk : Config.pkVerify fn.fn p.key p.par p.inputs <;> simp [Job.laneOutcome, hw, laneWork, hi, hfn, hv, hk, hst]
  · have hi := LanePlan.invalid_none hall
    simp [Job.laneOutcome, hw, laneWork, hi, hfn, hv, hd, hok, hst, ho]
  · have hi := LanePlan.invalid_none hall
    simp [Job.laneOutcome, hw, laneWork, hi, hfn, hd, hok]
  · have hi := LanePlan.invalid_none hall
    simp [Job.laneOutcome, hw, laneWork, hi, hfn, hv, hd, hst, ho, fit_length]
  · refine ⟨⟨rfl, bne_iff_ne⟩, fun _ _ => rfl, fun _ _ hm => ?_, rfl, fun c f hc => ?_, rfl, fun h => ?_, fun ps hps => ?_,
      fun _ => rfl, fun _ => rfl, rfl, bne_iff_ne, ?_⟩
    · show (_ || decide (m.length < 16)) = true ↔ _
      rw [decide_eq_false (Nat.not_lt.2 hm), Bool.or_false]
      exact bne_iff_ne
    · rcases hc with ⟨rfl, rfl⟩ | ⟨rfl, rfl⟩ | ⟨rfl, rfl⟩
      all_goals exact ⟨rfl, bne_iff_ne, rfl, bne_iff_ne⟩
    · exact not_not.1 fun hne => by simp [fnEdVerify, hne] at h
    · obtain rfl | rfl | rfl : ps = 0 ∨ ps = 1 ∨ ps = 2 := by omega
      all_goals rfl
    · exact bits_31_16 w

/-! ### Key generation (R233, R234) -/

/-- g23 with only bit 4 and the register's number names that register. -/
theorem secondHandle_named {fr : Fr} {h : BitVec 4} (hw : (fr.reg 23).toNat = 16 + h.toNat) :
    secondHandle fr = some (some h) := by
  have hlt := h.isLt
  have hbit : (fr.reg 23).getLsbD 4 = true := by
    rw [← BitVec.testBit_toNat, hw, Nat.testBit_eq_decide_div_mod_eq]
    exact decide_eq_true (by omega)
  have hnum : (fr.reg 23).extractLsb' 0 4 = h := by
    refine BitVec.eq_of_toNat_eq ?_
    rw [BitVec.extractLsb'_toNat, hw, Nat.shiftRight_zero]
    omega
  have hhigh : (fr.reg 23).toNat / 32 = 0 := by omega
  simp only [secondHandle, hbit, hnum, hhigh, ne_eq, not_true_eq_false, if_false, if_true]

/-- A destination alone, found. -/
theorem digestBuffers_dstOnly {s : State} {c f : Nat} {fr : Fr} {t : BitVec 3} {dst : Range}
    {k : Range → Range → Range → IRes} (h19 : (fr.reg 19).toNat < 2 ^ 32)
    (hdst : s.buffer fr (fr.reg 18) (fr.reg 19).toNat true = some dst) :
    digestBuffers c f fr t s false true none k = k ⟨spData, 0, 0, false⟩ dst ⟨spData, 0, 0, false⟩ := by
  simp only [digestBuffers, decide_eq_false (Nat.not_le.2 h19), hdst, Option.elim_none, Option.isSome_none, Bool.and_false,
    Bool.false_and, Bool.or_self, Bool.false_eq_true, if_false, if_true]

/-- A key generation into operand slot `o`, its parameters good: the job and what its run gives. -/
theorem exec_keygen {s0 s' : State} {c : Fin 9} {f : Nat} {fr : Fr} {t : BitVec 3} {h : BitVec 4} {o l : Nat} {dst : Range}
    {i : Instr} {fnNo kind privLen pubLen p : Nat} {anyOf : List Nat} {cost : LaneCost}
    (hi : exec i s0 = .next (keygenIssue c t fnNo kind privLen pubLen (some p) anyOf cost s0))
    (hr : Runs (touchOperands c s0) c f fr 1) (ht : fr.tok t = .empty) (hw : (fr.reg 23).toNat = 16 + h.toNat)
    (hh : fr.hnd h = .operand o) (h19 : (fr.reg 19).toNat < 2 ^ 32)
    (hdst : (touchOperands c s0).buffer fr (fr.reg 18) (fr.reg 19).toNat true = some dst)
    (hz : (touchOperands c s0).hazard fr.uid [dst] = false) (hl : (touchOperands c s0).lanesOk = true)
    (hd : (touchOperands c s0).drbgOk = true) (hret : retainSlot fr.uid o (touchOperands c s0) = .ok (l, s'))
    (hany : anyOf.all (disabled (touchOperands c s0) fr) = false) (hlen : pubLen ≤ dst.len) :
    ∃ j, exec i s0 = .next (issued c f fr t (laneAdmit j) s') ∧ j.lane = some l ∧
      j.ref = .token c f fr.uid t.toNat ∧ j.status = .ok ∧ j.level = 2 ∧ ∀ rnd : Bytes,
        let priv := fit (Config.pk fnNo [] p [] rnd) privLen
        let pub := fit (Config.pkPublic kind priv) pubLen
        let r := ({ j with rnd := rnd } : Job).laneOutcome
        r.outs = [(dstOf c f fr dst, pub)] ∧ r.fin = .retain fr.uid o kind (priv ++ pub) ∧ r.count = pubLen ∧
          r.status = .ok := by
  refine exec_issues (runs_of_touchOperands hr) ht hi ?_
  simp only [secondHandle_named hw, hh, digestBuffers_dstOnly h19 hdst, hz, Nat.not_lt.2 hlen, hany, hl, hd, hret,
    Bool.not_true, Bool.or_self, Bool.false_eq_true, if_false]
  exact ⟨_, rfl, rfl, rfl, rfl, rfl, fun rnd => ⟨rfl, rfl, rfl, rfl⟩⟩

/-- EC_KEYGEN of a curve the table names. -/
theorem exec_ecKeygen {s : State} {c : Fin 9} {f : Nat} {fr : Fr} {t : BitVec 3} {cv n : Nat} (hr : Runs s c f fr 1)
    (hcv : cv = 1 ∧ n = 32 ∨ cv = 2 ∧ n = 48 ∨ cv = 3 ∧ n = 66) (hw : (fr.reg 22).toNat = 256 * cv) :
    ∃ cost, exec (.ecKeygen c t) s = .next (keygenIssue c t 0x0203 (0x0400 + cv) n (1 + 2 * n) (some cv) [18, 20] cost s) := by
  obtain ⟨hrun, -⟩ := hr
  have hbyte : parByte1 (fr.reg 22) = cv := by
    show (fr.reg 22).toNat / 2 ^ 8 % 2 ^ 8 = cv
    omega
  have hgood : parBad (fr.reg 22) = false := decide_eq_false (by omega)
  refine ⟨pick3 cv (kib 2 550 950) (kib 3 1200 2070) (kib 4 2800 4830), ?_⟩
  simp only [exec, execEcKeygen, hrun, Option.map_some, Option.getD_some, hbyte, hgood, Bool.false_eq_true, if_false]
  rcases hcv with ⟨rfl, rfl⟩ | ⟨rfl, rfl⟩ | ⟨rfl, rfl⟩ <;> rfl

/-- Settles O28: each of the three by `exec_keygen`. -/
theorem keyGeneration : Obligations.KeyGeneration := by
  unfold Obligations.KeyGeneration
  intro s0 s c f fr t ps h o l dst s' hs hr ht hw hh h19 hdst hz hl hd hret gen on
  subst hs
  have off {b : Nat} (h : on b) : disabled (touchOperands c s0) fr b = false :=
    disabled_false fun hg => h.resolve_left (by simp [hg])
  refine ⟨fun hon cv n hcv hreg hlen => ?_, fun hon hlen => ?_, fun hon hlen => ?_⟩
  · obtain ⟨cost, hi⟩ := exec_ecKeygen (t := t) (runs_of_touchOperands hr) hcv hreg
    refine exec_keygen (anyOf := [18, 20]) hi hr ht hw hh h19 hdst hz hl hd hret ?_ hlen
    obtain hon | hon := hon <;> simp [off hon]
  · exact exec_keygen (anyOf := [21]) rfl hr ht hw hh h19 hdst hz hl hd hret (by simp [off hon]) hlen
  · exact exec_keygen (anyOf := [22]) rfl hr ht hw hh h19 hdst hz hl hd hret (by simp [off hon]) hlen

end Sys2Proof.Machine
end


section
/-! RANDOM, CVISS, CCSTAT and the window copies (07). -/

namespace Sys2Proof.Machine

/-- CCSTAT of a channel. -/
theorem exec_ccstat {s : State} {c : Fin 9} {f : Nat} {fr : Fr} {h : BitVec 4} {d a : BitVec 5} {n : Nat}
    (hr : Runs s c f fr 1) (hh : fr.hnd h = .channel n)
    (ha : a.toNat = h.toNat) : exec (.ccstat c d a) s = .next (if s.granted c fr 5 n (some 0) = true
      then retired c f 1 (fr.setReg d (BitVec.ofNat 64 (s.cardWord n))) s else trapped c f .access 0 s) := by
  refine (rfl : exec (.ccstat c d a) s = execCcstat c d a s).trans (congrArg Host.Outcome.next ?_)
  by_cases hg : s.granted c fr 5 n (some 0) = true
  · rw [if_pos hg]
    exact runInstr_ret hr (by simp only [handleNo_eq ha, hh, hg, if_true]; rfl) (Fr.setReg_pc ..)
  · rw [if_neg hg]
    exact runInstr_trap hr (by simp only [handleNo_eq ha, hh, hg, Bool.false_eq_true, if_false])

section
variable {s0 : State} {c : Fin 9} {f : Nat} {fr : Fr} {t : BitVec 3} {h : BitVec 4}
  (hr : Runs (touchOperands c s0) c f fr 1) (ht : fr.tok t = .empty)
include hr ht

/-- RANDOM of a length in range. -/
theorem exec_random {dst : Range} (h1 : 1 ≤ (fr.reg 19).toNat) (hn : (fr.reg 19).toNat ≤ 65536)
    (hdst : (touchOperands c s0).buffer fr (fr.reg 18) (fr.reg 19).toNat true = some dst)
    (hz : (touchOperands c s0).hazard fr.uid [dst] = false) :
    exec (.random c t) s0 = .next (issued c f fr t (if (touchOperands c s0).drbgOk = true then fun s =>
      finish (tokRef c f fr t) .ok (fr.reg 19).toNat 0 (writeOut (tokRef c f fr t) (dstOf c f fr dst)
        (s.drbgBytes (fr.reg 19).toNat).1 (s.drbgBytes (fr.reg 19).toNat).2)
      else finish (tokRef c f fr t) .noHealthyChannel 0 0) (touchOperands c s0)) := by
  refine congrArg Host.Outcome.next (engIssue_body (runs_of_touchOperands hr) ht ?_)
  simp only [if_neg (Nat.not_lt.2 hn), if_neg (Nat.one_le_iff_ne_zero.1 h1), hdst, hz]
  cases (touchOperands c s0).drbgOk <;> rfl

/-- CVISS for a card volume the code may use. -/
theorem cvissIssue_go {write : Bool} {v ch : Nat} {rg : Range} (hh : fr.hnd h = .volume v)
    (hch : (touchOperands c s0).cardVolume v = some ch) (hn : (fr.reg 17).toNat ≤ 65536 * 4096)
    (hmod : (fr.reg 17).toNat % 4096 = 0) (h0 : (fr.reg 17).toNat ≠ 0)
    (hb : (touchOperands c s0).buffer fr (fr.reg 16) (fr.reg 17).toNat (!write) = some rg)
    (hg : (touchOperands c s0).granted c fr 4 v (some (if write then 1 else 0)) = true)
    (hz : (touchOperands c s0).hazard fr.uid [rg] = false) :
    cvissIssue c t h write s0 = issued c f fr t (cvissGo (tokRef c f fr t) ch write (fr.reg 22).toNat rg
      (if write then .none else dstOf c f fr rg) (if write then (touchOperands c s0).readRange c fr rg else []))
      (touchOperands c s0) := by
  refine engIssue_body (runs_of_touchOperands hr) ht ?_
  simp only [hh, tooLong_le hn (by decide), hb, hg, hch, hmod, h0, hz, ne_eq, not_true_eq_false, or_self, Bool.not_true,
    Bool.false_eq_true, if_false]

/-- A window copy the window allows. -/
theorem wcpyIssue_go {toWindow : Bool} {n : Nat} {w : Window} {mem : Range} (hh : fr.hnd h = .window n)
    (hw : vget fr.windows n none = some w) (hn : (fr.reg 17).toNat ≤ 4194304) (h0 : (fr.reg 17).toNat ≠ 0)
    (hm : onChip (touchOperands c s0) fr (fr.reg 16) (fr.reg 17).toNat (!toWindow) = some mem)
    (hright : (if toWindow then w.wr else w.rd) = true) (hfit : (fr.reg 18).toNat + (fr.reg 17).toNat ≤ w.len)
    (hz : (touchOperands c s0).hazard fr.uid
      [mem, ⟨spWindow n, (fr.reg 18).toNat, (fr.reg 17).toNat, toWindow⟩] = false) :
    let win : Range := ⟨spWindow n, (fr.reg 18).toNat, (fr.reg 17).toNat, toWindow⟩
    wcpyIssue c t h toWindow s0 = issued c f fr t (fun s => finish (tokRef c f fr t) .ok (fr.reg 17).toNat 0
      (writeOut (tokRef c f fr t) (dstOf c f fr (if toWindow then win else mem))
        (s.readRange c fr (if toWindow then mem else win)) s)) (touchOperands c s0) := by
  refine engIssue_body (runs_of_touchOperands hr) ht ?_
  simp only [hh, tooLong_le hn (by decide), h0, hm, hw, hright, hz, if_neg (Nat.not_lt.2 hfit), Bool.true_eq_false,
    Bool.false_eq_true, if_false]

end

section
variable {fr : Fr} {n lo len : Nat} {w : Window} {wr : Bool} (hw : vget fr.windows n none = some w) (h0 : len ≠ 0)
include hw h0

/-- A range of a window is host memory at the window's address. -/
theorem dstOf_window (c f : Nat) : dstOf c f fr ⟨spWindow n, lo, len, wr⟩ = .host (w.addr + lo) := by
  simp [dstOf, spWindow, spData, spPage, h0, hw, show 16 + n ≠ 1 by omega]

theorem readRange_window (s : State) (c : Nat) :
    s.readRange c fr ⟨spWindow n, lo, len, wr⟩ = s.hostMem.read (w.addr + lo) len := by
  simp [State.readRange, spWindow, spData, spPage, spShared, h0, hw, show 16 + n ≠ 1 by omega,
    show 16 + n ≠ 2 by omega]

end

/-- Settles O29. -/
theorem randomCardsAndCopies : Obligations.RandomCardsAndCopies := by
  unfold Obligations.RandomCardsAndCopies
  intro s0 s c f fr t h d a hs hr
  subst hs
  refine ⟨fun n hh ha hg => ?_, fun n hh ha hg => ?_, fun ht => ⟨fun dst h1 hn hdst hz => ⟨fun hd => ?_, fun hd => ?_⟩,
    fun v ch hh hch hn hmod h0 => ⟨fun r hb hg hz => ?_, fun r hb hg hz => ?_⟩,
    fun n w hh hw hn h0 hfit => ⟨fun m hm hright hz => ?_, fun m hm hright hz => ?_⟩⟩⟩
  · rw [exec_ccstat hr hh ha, if_pos hg]
  · rw [exec_ccstat hr hh ha, if_neg (by simp [hg])]
  · rw [exec_random hr ht h1 hn hdst hz, if_pos hd]
    rfl
  · rw [exec_random hr ht h1 hn hdst hz, if_neg (by simp [hd])]
    rfl
  · exact congrArg Host.Outcome.next (cvissIssue_go (write := false) hr ht hh hch hn hmod h0 hb hg hz)
  · exact congrArg Host.Outcome.next (cvissIssue_go (write := true) hr ht hh hch hn hmod h0 hb hg hz)
  · refine congrArg Host.Outcome.next ((wcpyIssue_go (toWindow := false) hr ht hh hw hn h0 hm hright hfit hz).trans ?_)
    simp only [Bool.false_eq_true, if_false, readRange_window hw h0]
    rfl
  · refine congrArg Host.Outcome.next ((wcpyIssue_go (toWindow := true) hr ht hh hw hn h0 hm hright hfit hz).trans ?_)
    simp only [if_true, dstOf_window hw h0]
    rfl

end Sys2Proof.Machine
end


section
/-! What the signalling of events touches (14): the controller, the vectors and their messages, the power-management event
of the link, and the sleep of the supervisor core. -/

namespace Sys2Proof.Machine

/-- State t is s but for what signalling an event touches. -/
def SameButEvents (s t : State) : Prop :=
  { t with ev := s.ev, msix := s.msix, tx := s.tx, link := s.link, cores := s.cores } = s

theorem SameButEvents.rfl' (s : State) : SameButEvents s s := rfl

theorem SameButEvents.trans {s t u : State} (h : SameButEvents s t) (h' : SameButEvents t u) : SameButEvents s u :=
  Eq.trans (congrArg (fun x : State => { x with ev := s.ev, msix := s.msix, tx := s.tx, link := s.link, cores := s.cores })
    h' :) h

/-- A field of the state that signalling leaves. -/
theorem SameButEvents.get {α : Type} {s t : State} (h : SameButEvents s t) (f : State → α)
    (hf : ∀ u : State, f { u with ev := s.ev, msix := s.msix, tx := s.tx, link := s.link, cores := s.cores } = f u) :
    f t = f s := (hf t).symm.trans (congrArg f h)

theorem SameButEvents.ite {s t u : State} {P : Prop} [Decidable P] (ht : SameButEvents s t) (hu : SameButEvents s u) :
    SameButEvents s (if P then t else u) := by
  split
  · exact ht
  · exact hu

section
variable (n : Nat) (s : State)

theorem raisePme_same : SameButEvents s (raisePme s) := .ite rfl rfl

theorem signalVec_same (v : Nat) : SameButEvents s (signalVec v s) := .ite rfl (.ite rfl (.ite rfl rfl))

theorem wakeT0_same : SameButEvents s (wakeT0 s) := .ite rfl rfl

theorem notify_same : SameButEvents s (notify n s) :=
  .ite rfl (.ite (.ite (.ite (raisePme_same s) rfl) (signalVec_same s _)) (.ite (wakeT0_same s) rfl))

theorem foldl_same {α : Type} {f : State → α → State} (h : ∀ s x, SameButEvents s (f s x)) (l : List α) :
    SameButEvents s (l.foldl f s) := by
  induction l generalizing s with
  | nil => exact rfl
  | cons x l ih => exact (h s x).trans (ih _)

theorem notifyAll_same (ns : List Nat) : SameButEvents s (notifyAll ns s) :=
  foldl_same s (fun s n => notify_same n s) ns

theorem setSrc_same (x : Source) : SameButEvents s (setSrc n x s) := rfl

theorem setGroup_same (x : Group) : SameButEvents s (setGroup n x s) := rfl

theorem deliver_same (g : Nat) : SameButEvents s (deliver g s) :=
  ((foldl_same s (fun s n => setSrc_same n s _) _).trans (setGroup_same g _ _)).trans (notifyAll_same _ _)

theorem countEvent_same (g : Nat) : SameButEvents s (countEvent g s) :=
  .ite ((setGroup_same g s _).trans (deliver_same _ g)) (setGroup_same g s _)

/-- Raising an edge-triggered source. -/
theorem raise_same : SameButEvents s (raise n s) := by
  unfold raise
  have haw : SameButEvents s (if (s.src n).priority == 0 then s
      else if (s.src n).grouped then countEvent (s.src n).groupNo (setSrc n { s.src n with pend := true } s)
      else if (s.src n).asserted then s
      else notify n (setSrc n { s.src n with pend := true, deliv := true } s)) :=
    .ite rfl (.ite ((setSrc_same n s _).trans (countEvent_same _ _)) (.ite rfl ((setSrc_same n s _).trans (notify_same n _))))
  split
  · exact .ite rfl rfl
  · exact haw
  · exact haw
  · exact rfl

/-- Sampling the condition of a level-triggered source. -/
theorem sample_same : SameButEvents s (sample n s) := by
  unfold sample
  dsimp only
  split
  · exact rfl
  · exact .ite rfl (.ite (setSrc_same n s _) (.ite (.ite (setSrc_same n s _) (.ite
      ((setSrc_same n s _).trans (setGroup_same _ _ _)) ((setSrc_same n s _).trans (notify_same n _))))
      (.ite (setSrc_same n s _) (setSrc_same n s _))))

theorem raiseSample_same : SameButEvents s (raiseSample n s) := (raise_same n s).trans (sample_same n _)

end

end Sys2Proof.Machine
end


section
/-! The front of the queue, the block right after reset, memory, and the two logs (01, 16; O1, O59, O60, O38). -/

namespace Sys2Proof.Machine

/-- Settles O1. -/
theorem stepRunsFront : Obligations.StepRunsFront := by
  unfold Obligations.StepRunsFront
  exact ⟨fun c rest s h => by simp only [step, h], fun s h => by simp only [step, h]⟩

/-! ### Memory (R-log 2) -/

/-- A canonical memory that reads 0 everywhere is empty. -/
theorem Mem.eq_nil_of_get {m : Mem} {lo : Nat} (hw : m.wfFrom lo = true) (h : ∀ x, m.get x = 0) : m = [] := by
  cases m with
  | nil => rfl
  | cons c m =>
    obtain ⟨x, v⟩ := c
    simp only [Mem.wfFrom, Bool.and_eq_true, decide_eq_true_eq, bne_iff_ne] at hw
    have hx := h x
    simp [Mem.get] at hx
    exact absurd hx hw.1.2

/-- Two canonical memories that read alike are equal. -/
theorem Mem.ext_get {m m' : Mem} {lo lo' : Nat} (hw : m.wfFrom lo = true) (hw' : m'.wfFrom lo' = true)
    (h : ∀ x, m'.get x = m.get x) : m' = m := by
  induction m generalizing m' lo lo' with
  | nil => exact Mem.eq_nil_of_get hw' h
  | cons c m ih =>
    obtain ⟨x, v⟩ := c
    cases m' with
    | nil => exact (Mem.eq_nil_of_get hw fun y => (h y).symm).symm
    | cons c' m' =>
      obtain ⟨x', v'⟩ := c'
      simp only [Mem.wfFrom, Bool.and_eq_true, decide_eq_true_eq, bne_iff_ne] at hw hw'
      obtain ⟨⟨-, hv⟩, hm⟩ := hw
      obtain ⟨⟨-, hv'⟩, hm'⟩ := hw'
      have hx : x' = x := by
        have h1 := h x
        have h2 := h x'
        simp only [Mem.get, if_true] at h1 h2
        by_contra hne
        rcases Nat.lt_or_gt_of_ne hne with hlt | hlt
        · rw [if_neg (Ne.symm hne), if_pos hlt] at h2
          exact hv' h2
        · rw [if_neg hne, if_pos hlt] at h1
          exact hv h1.symm
      subst hx
      have hvv : v' = v := by simpa [Mem.get] using h x'
      subst hvv
      refine congrArg _ (ih hm hm' fun y => ?_)
      by_cases hy : y < x' + 1
      · rw [Mem.get_below hm hy, Mem.get_below hm' hy]
      · have hy' := h y
        simpa only [Mem.get, if_neg (show ¬ x' = y by omega), if_neg (show ¬ y < x' by omega)] using hy'

/-- Settles O60. -/
theorem memoryLaws : Obligations.MemoryLaws := by
  unfold Obligations.MemoryLaws
  exact fun m a bs hw => ⟨Mem.write_keeps bs a hw, Mem.read_back bs hw, fun x => Mem.get_write_outside bs hw,
    fun m' hw' h => Mem.ext_get hw hw' h⟩

/-! ### Logs (R368) -/

section
variable {l : RLog} {cap : Nat} {r p : LogRec}

/-- A record like the last one, within a second of it, is merged. -/
theorem RLog.write_merged (hp : l.recs.getLast? = some p) (hlog : p.log = r.log) (hsub : p.subject = r.subject)
    (hev : p.event = r.event) (hfl : p.flags = r.flags) (hde : p.detail = r.detail) (ht : r.t < p.t + second) :
    l.write cap r = { l with recs := l.recs.dropLast ++ [{ p with repeats := min 65535 (p.repeats + 1) }] } := by
  simp [RLog.write, hp, hlog, hsub, hev, hfl, hde, ht]

/-- Another record is appended; past the capacity the oldest is dropped. -/
theorem RLog.write_appended (hp : l.recs.getLast? = some p) (hne : p.event ≠ r.event ∨ p.t + second ≤ r.t) :
    l.write cap r = { recs := (l.recs ++ [r]).drop (l.recs.length + 1 - cap), w := l.w + 1,
                      r := if cap ≤ (l.w - l.r).toNat then l.r + 1 else l.r
                      ovf := l.ovf || decide (cap ≤ (l.w - l.r).toNat) } := by
  have hno : ¬(p.log == r.log && p.subject == r.subject && p.event == r.event && p.flags == r.flags &&
      p.detail == r.detail && decide (r.t < p.t + second)) = true := by
    intro h
    simp only [Bool.and_eq_true, beq_iff_eq, decide_eq_true_eq] at h
    obtain ⟨⟨⟨⟨-, hev⟩, -⟩, -⟩, ht⟩ := h
    exact hne.elim (fun hn => hn hev) fun hle => absurd ht (Nat.not_lt.2 hle)
  simp [RLog.write, hp, hno]

theorem RLog.write_length (h0 : 0 < cap) (hl : l.recs.length ≤ cap) : (l.write cap r).recs.length ≤ cap := by
  unfold RLog.write
  split
  · dsimp only
    split
    next p hp _ =>
      have : l.recs ≠ [] := fun h => by simp [h] at hp
      have := List.length_pos_iff.2 this
      simp
      omega
    · simp
      omega
  · exact h0

end

/-- A write of the read index: ignored where the index lies outside the log's count. -/
theorem RLog.setR_eq (l : RLog) (cap : Nat) (r : BitVec 8) :
    l.setR cap r = { l with r := if (l.w - r).toNat ≤ cap then r else l.r } := by
  unfold RLog.setR
  split <;> rfl

/-- Settles O38. -/
theorem logs : Obligations.Logs := by
  unfold Obligations.Logs
  refine ⟨fun l cap r h0 hcap hl => ⟨RLog.write_length h0 hl, fun p hp h1 h2 h3 h4 h5 ht => ?_, fun p hp hne => ?_⟩,
    fun s v hr => ⟨?_, ?_⟩⟩
  · rw [RLog.write_merged hp h1 h2 h3 h4 h5 ht]
    exact ⟨rfl, rfl, rfl⟩
  · rw [RLog.write_appended hp hne]
    refine ⟨rfl, ?_, fun hn => ?_, fun hn => ?_⟩
    · have hdrop : l.recs.length + 1 - cap ≤ l.recs.length := by omega
      rw [List.drop_append_of_le_length hdrop, List.getLast?_append]
      rfl
    · exact ⟨if_neg (Nat.not_le.2 hn), by rw [decide_eq_false (Nat.not_le.2 hn), Bool.or_false]⟩
    · exact ⟨if_pos hn, by rw [decide_eq_true hn, Bool.or_true]⟩
  · let u : State := { s with rind := { s.rind with log := s.rind.log.setR 64 (v.extractLsb' 0 8) } }
    have hu := sample_same 271 u
    have hrind : (sample 271 u).rind = u.rind := hu.get State.rind fun _ => rfl
    have hhealth : (sample 271 u).health = s.health := hu.get State.health fun _ => rfl
    refine ⟨sample 271 u, congrArg Host.Outcome.next (if_pos hr), ?_⟩
    rw [hrind, hhealth]
    simp only [u, RLog.setR_eq, and_self]
  · let u : State := { s with health := { s.health with log := s.health.log.setR 128 (v.extractLsb' 0 8) } }
    have hu := sample_same 275 u
    have hrind : (sample 275 u).rind = s.rind := hu.get State.rind fun _ => rfl
    have hhealth : (sample 275 u).health = u.health := hu.get State.health fun _ => rfl
    refine ⟨sample 275 u, congrArg Host.Outcome.next (if_pos hr), ?_⟩
    rw [hrind, hhealth]
    simp only [u, RLog.setR_eq, and_self]

/-! ### The block right after reset -/

theorem getD_replicate_self {α : Type} (n i : Nat) (a : α) : (List.replicate n a).getD i a = a := by
  rw [List.getD_eq_getElem?_getD, List.getElem?_replicate]
  split <;> rfl

/-- A controller configured by a last has nothing pending and nothing in service. -/
theorem ofLast_quiet {l : Last} {x : Source} (hx : x ∈ (Events.ofLast l).sources) : x.pend = false ∧ x.act = false := by
  obtain ⟨w, -, rfl⟩ := List.mem_map.1 hx
  exact ⟨rfl, rfl⟩

/-- Settles O59. -/
theorem resetState : Obligations.ResetState := by
  unfold Obligations.ResetState
  refine ⟨rfl, rfl, rfl, rfl, rfl, rfl, rfl, rfl, fun c f hc => ?_, rfl, rfl, rfl, rfl, rfl, rfl, rfl, fun n => ?_,
    fun i hi => ?_, rfl, rfl⟩
  · have hcores : ∀ c < 8, State.reset.core c = Core.idle := by decide
    have hnone : ∀ g : Nat, (Vector.replicate 4 (none : Option Fr)).toList.getD g none = none := fun g => by
      rw [Vector.toList_replicate, getD_replicate_self]
    rw [State.frame, hcores c hc]
    exact hnone f
  · have hev : State.reset.ev = Events.ofLast baseLast := rfl
    rw [State.src, List.getD_eq_getElem?_getD, hev]
    cases h : (Events.ofLast baseLast).sources[n.val]? with
    | none => exact ⟨rfl, rfl⟩
    | some x => exact ofLast_quiet (List.mem_of_getElem? h)
  · have hfresh : (List.replicate 60 Chan.fresh).getD i Chan.fresh = Chan.fresh := getD_replicate_self ..
    show (!((List.replicate 60 Chan.fresh).getD i Chan.fresh).retired) = true
    rw [hfresh]
    rfl

end Sys2Proof.Machine
end


section
/-! Ends of segments, compares and lane jobs, and what a finished job does (09, 10, 11; O30). -/

namespace Sys2Proof.Machine

/-! ### Segments -/

section
variable {s : State} {j : Job} {i : Nat}

/-- The end of a segment of the Vat. -/
theorem exec_vatSegmentEnd {u : Fin 16} (hu : s.eng.vat.unitJob u = some (j, i)) (fault : Bool) :
    exec (.vatSegmentEnd u fault) s = .next (rateCount fault (engFill (if fault
      then putVat (segFault j i) (chanOp u fault { s with eng := { s.eng with vat := s.eng.vat.free u } })
      else segDone j i putVat (chanOp u fault { s with eng := { s.eng with vat := s.eng.vat.free u } })))) := by
  simp only [exec, execVatSegmentEnd, hu]

/-- The end of a segment of the digest engine. -/
theorem exec_digestSegmentEnd {u : Fin 8} (hu : s.eng.digest.unitJob u = some (j, i)) (fault : Bool) :
    exec (.digestSegmentEnd u fault) s = .next (rateCount fault (engFill (if fault
      then putDigest (segFault j i) (chanOp (16 + u) fault { s with eng := { s.eng with digest := s.eng.digest.free u } })
      else segDone j i putDigest
        (chanOp (16 + u) fault { s with eng := { s.eng with digest := s.eng.digest.free u } })))) := by
  simp only [exec, execDigestSegmentEnd, hu]

/-- Writing a segment changes the job's count of written bytes only. -/
theorem segWrite_job : ∃ n, (segWrite j i s).1 = { j with written := n } := by
  unfold segWrite
  split
  · split
    · exact ⟨_, rfl⟩
    · exact ⟨_, rfl⟩
  · exact ⟨_, rfl⟩

/-- The last segment ends the job. -/
theorem segDone_last (h : j.segs ≤ j.ended + 1) (put : Job → State → State) : segDone j i put s =
    endJob { (segWrite j i s).1 with ended := j.ended + 1 } j.status (segWrite j i s).2 := by
  obtain ⟨n, hn⟩ := segWrite_job (s := s) (j := j) (i := i)
  simp only [segDone, hn, h, if_true]

/-- A segment before the last leaves the job with one more ended. -/
theorem segDone_more (h : j.ended + 1 < j.segs) (put : Job → State → State) : segDone j i put s =
    put { (segWrite j i s).1 with ended := j.ended + 1 } (segWrite j i s).2 := by
  obtain ⟨n, hn⟩ := segWrite_job (s := s) (j := j) (i := i)
  simp only [segDone, hn, Nat.not_le.2 h, if_false]

theorem segWrite_whole {d : Dst} {b : Bytes} {rest : List (Dst × Bytes)} (ho : j.outs = (d, b) :: rest)
    (hs : j.streamed = false) : segWrite j i s = (j, s) := by
  simp [segWrite, ho, hs]

theorem segWrite_piece {d : Dst} {b : Bytes} {rest : List (Dst × Bytes)} (ho : j.outs = (d, b) :: rest)
    (hs : j.streamed = true) (hi : j.aad ≤ i) :
    segWrite j i s = ({ j with written := j.written + (sl b (4096 * (i - j.aad)) 4096).length },
      writeOut j.ref (d.shift (4096 * (i - j.aad))) (sl b (4096 * (i - j.aad)) 4096) s) := by
  simp [segWrite, ho, hs, Nat.not_lt.2 hi]

end

/-! ### Lanes -/

theorem Job.laneOutcome_stream (j : Job) : j.laneOutcome.stream = j.stream := by
  unfold Job.laneOutcome
  dsimp only
  repeat' split
  all_goals rfl

section
variable {s : State} {j : Job} {i : Nat} {l : Fin 16} (hl : s.eng.lanes.unitJob l = some (j, i))

theorem reportLane_device {n : Nat} (h : j.stream = .device n) (l : Nat) (s : State) :
    reportLane l j s = raise (276 + l) s := by
  simp only [reportLane, h]

theorem reportLane_other (h : ∀ n, j.stream ≠ .device n) (l : Nat) (s : State) : reportLane l j s = s := by
  unfold reportLane
  split
  next n hn => exact absurd hn (h n)
  · rfl

include hl

theorem exec_laneJobEnd_good : exec (.laneJobEnd l .good) s = .next (cardServeAll (engFill (laneRetired l
    (reportLane l j.laneOutcome (endJob j.laneOutcome j.laneOutcome.status (chanOp (24 + l) false
      (addSuspension l j.estT { s with eng := { s.eng with lanes := s.eng.lanes.free l } }))))))) := by
  simp only [exec, execLaneJobEnd, hl, show (LaneEnd.good == LaneEnd.faulted) = false from rfl, rateCount, Bool.false_eq_true, if_false]

theorem exec_laneJobEnd_corrected : exec (.laneJobEnd l .corrected) s = .next (cardServeAll (engFill (laneRetired l
    (reportLane l { j.laneOutcome with retried := true } (endJob { j.laneOutcome with retried := true }
      j.laneOutcome.status (laneCorrected l (chanOp (24 + l) false
        (addSuspension l j.estT { s with eng := { s.eng with lanes := s.eng.lanes.free l } })))))))) := by
  simp only [exec, execLaneJobEnd, hl, show (LaneEnd.corrected == LaneEnd.faulted) = false from rfl, rateCount, Bool.false_eq_true, if_false]

theorem exec_laneJobEnd_faulted : exec (.laneJobEnd l .faulted) s = .next (detection (cardServeAll (engFill (laneRetired l
    (laneFault l j (chanOp (24 + l) true
      (addSuspension l j.estT { s with eng := { s.eng with lanes := s.eng.lanes.free l } }))))))) := by
  simp only [exec, execLaneJobEnd, hl, show (LaneEnd.faulted == LaneEnd.faulted) = true from rfl, rateCount, if_true]

theorem exec_laneYieldPoint_stop (hs : j.stop = true) : exec (.laneYieldPoint l) s = .next (engFill (reportLane l j
    (endJob j .aborted (chanOp (24 + l) false
      (addSuspension l j.estT { s with eng := { s.eng with lanes := s.eng.lanes.free l } }))))) := by
  simp only [exec, execLaneYieldPoint, hl, hs, if_true]

/-- A job of 2 ms or more gives way to a short one. -/
theorem exec_laneYieldPoint_yields {x : Job} {w : Wrr} (hs : j.stop = false) (ht : 2000000 ≤ j.estT)
    (hsusp : look l.val s.eng.lanes.susp = none) (hw : wrrPick s.eng.lanes.wrr (s.shortFor l j) = some (x, w)) :
    exec (.laneYieldPoint l) s = .next (laneStart l x w { s with eng := { s.eng with lanes :=
      { s.eng.lanes.free l with susp := (l.val, j.id) :: s.eng.lanes.susp } } }) := by
  have hlong : j.short = false := decide_eq_false (Nat.not_lt.2 ht)
  simp only [exec, execLaneYieldPoint, hl, hs, hlong, hsusp, hw, Option.isSome_none, Bool.or_self, Bool.false_eq_true,
    if_false]

end

section
variable {j : Job} (l : Nat) (s : State)

/-- The first two faults of a lane job run it again. -/
theorem laneFault_again (hs : j.stop = false) (hf : j.faults < 2) : laneFault l j s =
    putLane { j with started := 0, retried := true, faults := j.faults + 1 } s := by
  simp only [laneFault, hs, Bool.false_eq_true, if_false, if_neg (Nat.not_le.2 hf)]

/-- A stopped job, and one at its third fault, ends. -/
theorem laneFault_ends (h : j.stop = true ∨ 2 ≤ j.faults) : laneFault l j s =
    reportLane l j (endJob j (if j.stop then .aborted else .faultPermanent) s) := by
  cases hs : j.stop with
  | true => simp only [laneFault, hs, if_true]
  | false =>
    have hf : 2 ≤ j.faults := h.resolve_left (by simp [hs])
    simp only [laneFault, hs, hf, Bool.false_eq_true, if_false, if_true]

end

/-! ### Ends of jobs -/

theorem tokWord_eq (st : Status) (n : Nat) :
    tokWord st (BitVec.ofNat 32 n) = BitVec.ofNat 64 (n % 2 ^ 32 * 2 ^ 32 + st.code) := by
  rw [tokWord, BitVec.toNat_ofNat]

section
variable {s : State} {c : Fin 9} {f : Fin 4} {fr : Fr} {t : BitVec 3} (hf : s.frame c f = some fr) (st : Status)
  (n v : Nat)
include hf

/-- A token's request done, no wait open: the token, then the end or the exit that waited for it. -/
theorem finish_token (hw : fr.wait = none) : finish (.token c f fr.uid t.toNat) st n v s = tryEnd c f (tryExit c f
    (setFrame c f (some (fr.setTok t (.done st (BitVec.ofNat 32 n) (BitVec.ofNat 64 v)))) s)) := by
  simp only [finish, tokDone, hf, bne_self_eq_false, Bool.false_eq_true, if_false, hw, BitVec.ofNat_toNat,
    BitVec.setWidth_eq]

/-- A token's request done that the frame waits for: the wait collects it. -/
theorem finish_token_wait {d b : BitVec 5} (hw : fr.wait = some (t, d, b)) (hc : fr.waitClose = false) :
    finish (.token c f fr.uid t.toNat) st n v s = schedule c (setFrame c f
      (some (fr.collect t d b st (BitVec.ofNat 32 n) (BitVec.ofNat 64 v))) s) := by
  simp only [finish, tokDone, hf, bne_self_eq_false, Bool.false_eq_true, if_false, hw, BitVec.ofNat_toNat,
    BitVec.setWidth_eq, if_true, hc, Bool.and_false]

/-- The reference of a frame that is gone. -/
theorem finish_token_gone {uid : Nat} (hu : uid ≠ fr.uid) : finish (.token c f uid t.toNat) st n v s = s := by
  simp only [finish, tokDone, hf, bne_iff_ne, ne_eq, Ne.symm hu, not_false_eq_true, if_true]

end

/-- A frame that neither exits nor ends waits for nothing of its tokens. -/
theorem tryEnd_tryExit_none {c : Fin 9} {f : Fin 4} {fr : Fr} {s : State} (hf : s.frame c f = some fr)
    (hx : fr.exiting = none) (he : fr.ending = none) : tryEnd c f (tryExit c f s) = s := by
  have hexit : tryExit c f s = s := by simp only [tryExit, hf, hx]
  rw [hexit]
  simp only [tryEnd, hf, he]

section
variable {j : Job} (s : State) (hfin : j.fin = .plain)
include hfin

theorem endJob_ok (hs : j.streamed = false) : endJob j .ok s =
    finish j.ref (if j.retried then .okRetried else .ok) j.count j.value (writeOuts j.ref j.outs (removeJob j s)) := by
  simp only [endJob, hfin, hs, jobEnd, Bool.false_eq_true, if_false]
  rfl

theorem endJob_failed {st : Status} (hd : j.defer = none) (hst : st.isOk = false) : endJob j st s =
    if j.scrub = 0 then finish j.ref st (if st = .aborted then j.written else 0) j.value (removeJob j s)
    else finish j.ref (if j.scrubFail.isSome then .aborted else st) j.scrubbed j.value (scrubJob j (removeJob j s)) := by
  simp only [endJob, hst, jobFailed, hfin, hd, Bool.false_eq_true, if_false, beq_iff_eq]

end

theorem scrubJob_eq {j : Job} {d : Dst} {b : Bytes} {rest : List (Dst × Bytes)} (ho : j.outs = (d, b) :: rest)
    (h0 : j.scrub ≠ 0) (s : State) : scrubJob j s = writeOut j.ref d (zeros j.scrubbed) s := by
  simp only [scrubJob, ho, h0, if_false]

/-- Settles O30: the segments by `segDone`, the lanes by `reportLane` and `laneFault`, the jobs of frames by
`finish_token`. -/
theorem engineEnds : Obligations.EngineEnds := by
  unfold Obligations.EngineEnds
  refine ⟨fun s => ⟨fun u j i hu => ?_, fun u j i hu => ?_, fun j i d b rest ho => ⟨segWrite_whole ho, fun hs hi =>
    segWrite_piece ho hs hi⟩, fun u j hu => ?_, fun l j i hl => ?_⟩, fun s j hfin hd hs => ⟨endJob_ok s hfin hs,
    fun st hst h0 => ?_, fun st d b rest hst h0 ho => ⟨fun hn => ?_, fun n hn => ?_⟩⟩, fun s c f fr t st n v hf => ?_⟩
  · refine ⟨fun h => ?_, fun h => ?_, ?_⟩
    · simp only [exec_vatSegmentEnd hu, segDone_last h, rateCount, Bool.false_eq_true, if_false]
    · simp only [exec_vatSegmentEnd hu, segDone_more h, rateCount, Bool.false_eq_true, if_false]
    · simp only [exec_vatSegmentEnd hu, segFault, rateCount, if_true]
  · refine ⟨fun h => ?_, fun h => ?_, ?_⟩
    · simp only [exec_digestSegmentEnd hu, segDone_last h, rateCount, Bool.false_eq_true, if_false]
    · simp only [exec_digestSegmentEnd hu, segDone_more h, rateCount, Bool.false_eq_true, if_false]
    · simp only [exec_digestSegmentEnd hu, segFault, rateCount, if_true]
  · simp only [exec, execCompareUnitDone, hu]
  · intro left s1 on r
    have hrs : r.stream = j.stream := j.laneOutcome_stream
    refine ⟨fun hj => ⟨?_, ?_⟩, fun n hn => ?_, fun hs hf => ?_, fun h => ⟨fun hj => ?_, fun n hn => ?_⟩,
      fun hs => ⟨fun hj => ?_, fun n hn => ?_⟩, fun x w hs ht hsusp hw => exec_laneYieldPoint_yields hl hs ht hsusp hw⟩
    · rw [exec_laneJobEnd_good hl, reportLane_other (j := j.laneOutcome) (fun n => hrs ▸ hj n)]
    · rw [exec_laneJobEnd_corrected hl, reportLane_other (j := { j.laneOutcome with retried := true })
        (fun n => hrs ▸ hj n)]
    · rw [exec_laneJobEnd_good hl, reportLane_device (j := j.laneOutcome) (hrs.trans hn)]
    · rw [exec_laneJobEnd_faulted hl, laneFault_again _ _ hs hf]
    · rw [exec_laneJobEnd_faulted hl, laneFault_ends _ _ h, reportLane_other hj]
    · rw [exec_laneJobEnd_faulted hl, laneFault_ends _ _ h, reportLane_device hn]
    · rw [exec_laneYieldPoint_stop hl hs, reportLane_other hj]
    · rw [exec_laneYieldPoint_stop hl hs, reportLane_device hn]
  · rw [endJob_failed s hfin hd hst, if_pos h0]
  · rw [endJob_failed s hfin hd hst, if_neg h0, scrubJob_eq ho h0]
    simp only [Job.scrubbed, hn, Option.isSome_none, Bool.false_eq_true, if_false]
  · rw [endJob_failed s hfin hd hst, if_neg h0, scrubJob_eq ho h0]
    simp only [Job.scrubbed, hn, Option.isSome_some, if_true]
  · intro done go
    refine ⟨finish_token hf st n v, fun hw hx he => ?_, fun d b hw hc => ⟨_, finish_token_wait hf st n v hw hc,
      Fr.collect_tok .., rfl, ?_⟩, fun uid hu => finish_token_gone hf st n v hu⟩
    · exact (finish_token hf st n v hw).trans
        (tryEnd_tryExit_none (frame_setFrame _ c.isLt f.isLt) hx he)
    · rw [Fr.collect_g, tokWord_eq]

end Sys2Proof.Machine
end


section
/-! The two-copy records, and the Press: what commits, what fails, what one item writes, and the application of a committed
record (12; O31). -/

namespace Sys2Proof

namespace Machine

/-! ### Two-copy records (R23) -/

section
variable {α : Type} {t : Copies α}

theorem Copies.read_one (h0 : t.ok0 = true) (h1 : t.ok1 = false) : t.read = some t.val0 := by
  simp [Copies.read, Copies.newer, h0, h1]

theorem Copies.read_other (h0 : t.ok0 = false) (h1 : t.ok1 = true) : t.read = some t.val1 := by
  simp [Copies.read, Copies.newer, h0, h1]

theorem Copies.read_none (h0 : t.ok0 = false) (h1 : t.ok1 = false) : t.read = none := by
  simp [Copies.read, Copies.newer, h0, h1]

/-- Both copies good, copy 1 the newer. -/
theorem Copies.read_newer1 (h0 : t.ok0 = true) (h1 : t.ok1 = true) (hs : t.seq1 = t.seq0 + 1) : t.read = some t.val1 := by
  have : t.seq1 - t.seq0 = 1 := by rw [hs]; bv_omega
  simp [Copies.read, Copies.newer, h0, h1, this]

/-- Both copies good, copy 0 the newer. -/
theorem Copies.read_newer0 (h0 : t.ok0 = true) (h1 : t.ok1 = true) (hs : t.seq0 = t.seq1 + 1) : t.read = some t.val0 := by
  have h : t.seq0 - t.seq1 = 1 := by rw [hs]; bv_omega
  have h' : t.seq1 - t.seq0 ≠ 1 := by rw [hs]; bv_omega
  simp only [Copies.read, Copies.newer, h0, h1, if_neg h', if_pos h]
  rfl

/-- Both copies good, neither the successor of the other. -/
theorem Copies.read_neither (h0 : t.ok0 = true) (h1 : t.ok1 = true) (hs : t.seq1 ≠ t.seq0 + 1) (hs' : t.seq0 ≠ t.seq1 + 1) :
    t.read = none := by
  have h : t.seq1 - t.seq0 ≠ 1 := by bv_omega
  have h' : t.seq0 - t.seq1 ≠ 1 := by bv_omega
  simp only [Copies.read, Copies.newer, h0, h1, if_neg h, if_neg h']
  rfl

/-- An update leaves its value the newer. -/
@[simp] theorem Copies.read_update (t : Copies α) (v : α) : (t.update v).read = some v := by
  unfold Copies.update
  split
  next hn =>
    cases h1 : t.ok1 with
    | false => cases h0 : t.ok0 <;> simp [Copies.newer, h0, h1] at hn
    | true => exact h1 ▸ Copies.read_newer0 (t := { t with seq0 := t.seq1 + 1, val0 := v, ok0 := true }) rfl h1 rfl
  next hn =>
    cases h0 : t.ok0 with
    | false => cases h1 : t.ok1 <;> simp [Copies.newer, h0, h1] at hn
    | true => exact h0 ▸ Copies.read_newer1 (t := { t with seq1 := t.seq0 + 1, val1 := v, ok1 := true }) h0 rfl rfl
  · exact Copies.read_both v

end

/-! ### Keyed lists -/

@[simp] theorem look_put_same {α : Type} (k : Nat) (v : α) (l : List (Nat × α)) : look k (put k v l) = some v := by
  simp [look, put]

theorem look_put_ne {α : Type} {k m : Nat} (h : m ≠ k) (v : α) (l : List (Nat × α)) : look m (put k v l) = look m l := by
  have hf : (l.filter fun e => e.1 != k).find? (fun e => e.1 == m) = l.find? fun e => e.1 == m := by
    rw [List.find?_filter]
    refine congrArg (fun p => l.find? p) (funext fun e => ?_)
    by_cases he : e.1 = m
    · simp [he, h]
    · simp [he]
  simp only [look, put, List.find?_cons, beq_eq_false_iff_ne.2 (Ne.symm h), hf]

/-! ### The commit -/

section
variable {s : State} {p : Press}

/-- The state a press that leaves the queue is committed or failed in. -/
def takenUp (p : Press) (s : State) : State :=
  { s with press := { s.press with queue := dropFirst (fun q => q == p) s.press.queue
                                   bufUsed := s.press.bufUsed - p.reserve } }

theorem exec_pressCommit (s : State) (how : PressEnd) :
    exec (.pressCommit how) s = .next (mbResume (resumeBooks s (pressCommit how s))) := rfl

/-- The next press taken up. -/
theorem pressCommit_next (ha : s.awake = true) (hp : s.nextPress = some p) (hl : s.press.log.length < 2) (how : PressEnd) :
    pressCommit how s = match pressFails (takenUp p s) p with
      | some st => failPress p st (takenUp p s)
      | none =>
        if p.items.isEmpty && p.conds.isEmpty then finish p.origin .ok 0 s.press.epoch (takenUp p s)
        else if how == .bufferFault then failPress p .faultPermanent (healthLog 0x0F 0xFF 0 (takenUp p s))
        else commitPress (how == .corrected) p (takenUp p s) := by
  simp only [pressCommit, hp, ha, Bool.not_true, Bool.false_or, decide_eq_false (Nat.not_le.2 hl), Bool.false_eq_true,
    if_false]
  rfl

/-- No press to take up. -/
theorem pressCommit_none (h : s.nextPress = none) (how : PressEnd) : pressCommit how s = s := by
  simp only [pressCommit, h]

theorem pressFails_debug (h : s.debugBars = true) : pressFails (takenUp p s) p = some .lifecycle := if_pos h

theorem pressFails_ring (hd : s.debugBars = false) (h : s.ringOk = false) :
    pressFails (takenUp p s) p = some .faultPermanent := by
  have hd' : (takenUp p s).debugBars = false := hd
  have hr : (takenUp p s).ringOk = false := h
  simp only [pressFails, hd', hr, Bool.not_false, Bool.false_eq_true, if_false, if_true]

/-- A SYNC follower takes up a promotion only. -/
theorem nextPress_follower (hf : s.syncFollower = true) (h : ∀ p ∈ s.press.queue, PItem.weltPromote ∉ p.items) :
    s.nextPress = none := by
  refine List.find?_eq_none.2 fun p hp => ?_
  have hno : p.promotes = false := by
    refine List.any_eq_false.2 fun i hi heq => h p hp ?_
    rw [beq_iff_eq] at heq
    exact heq ▸ hi
  simp [hf, hno]

theorem foldl_fixed {α β : Type} {f : β → α → β} {b : β} {l : List α} (h : ∀ x ∈ l, f b x = b) : l.foldl f b = b := by
  induction l with
  | nil => rfl
  | cons x l ih => rw [List.foldl_cons, h x List.mem_cons_self, ih fun y hy => h y (List.mem_cons_of_mem _ hy)]

/-- No book's slot came free. -/
theorem resumeBooks_self (s : State) : resumeBooks s s = s :=
  foldl_fixed fun b _ => if_neg (by simp)

end

/-! ### Items -/

section
variable (s : State) (e : Nat)

theorem part_of_parts {t : State} {x : Part} {p : Nat} (h : t.cellar.parts = vset s.cellar.parts p x) (hp : p < 8) :
    t.part p = x ∧ ∀ q, q ≠ p → t.part q = s.part q := by
  refine ⟨?_, fun q hq => ?_⟩
  · rw [State.part, h, vget_vset_same _ _ _ _ hp]
  · rw [State.part, h, vget_vset_other _ _ _ _ _ (Ne.symm hq), State.part]

theorem applyItem_write (p : Fin 8) (off : Nat) (data : Bytes) : (applyItem e s (.write p off data)).cellar.parts =
    vset s.cellar.parts p { s.part p with
      mem := (s.part p).mem.write off data, origin := some ((s.part p).origin.getD s.vault.lc)
      written := addSpan off (off + data.length) (s.part p).written } := rfl

theorem applyItem_clearPart (p : Fin 8) : (applyItem e s (.clearPart p)).cellar.parts =
    vset s.cellar.parts p { s.part p with mem := [], origin := none, written := [] } := rfl

theorem counter_ctrSet (n v : Nat) : (applyItem e s (.ctrSet n v)).counter n = some v ∧
    ∀ m, m ≠ n → (applyItem e s (.ctrSet n v)).counter m = s.counter m := by
  refine ⟨?_, fun m hm => ?_⟩
  · simp only [State.counter, applyItem, look_put_same, Option.getD_some, Copies.read_update]
  · simp only [State.counter, applyItem, look_put_ne hm]

/-- PRESS_APPLY takes the oldest committed record (R261). -/
theorem applyRecord_cons {r : LogRecord} {rest : List LogRecord} (h : s.press.log = r :: rest) :
    applyRecord s = pressState { s with press := { s.press with log := rest, applied := r.epoch, pos := r.stop } } := by
  simp only [applyRecord, h]

/-- What pressing the log state leaves: the Press but for the log state, and the bank woken. -/
theorem pressState_retired (h : s.bankRetired 0 = true) : pressState s = s := if_pos h

theorem pressState_serving (h : s.bankRetired 0 = false) : pressState s = wakeBank 0 { s with press := s.press.pressed } :=
  if_neg (by simp [h])

theorem wakeBank_press (b : Nat) : (wakeBank b s).press = s.press := by
  unfold wakeBank wakeDomainN wakeDomain
  repeat' split
  all_goals rfl

end

end Machine

open Machine

/-- Settles O31: the commit by `exec_pressCommit` and the branches of `pressFails`, the items by the part or the counter
they write, PRESS_APPLY by `applyRecord_cons`. -/
theorem pressCommit : Obligations.PressCommit := by
  unfold Obligations.PressCommit
  refine ⟨fun s p how ha hp hl => ⟨fun hok hne => ?_, fun hok hi hc => ?_, fun st hst => ?_, pressFails_debug,
    pressFails_ring⟩, fun s how hf hno => ?_, fun s e => ⟨fun p off data => ?_, fun p => ?_, fun n amount v hv => ⟨?_,
    counter_ctrSet s e n _⟩, fun v hv => ⟨?_, ?_⟩, fun ha => ?_, fun r rest hr => ?_⟩⟩
  · have hsome : (p.items.isEmpty && p.conds.isEmpty) = false := by
      obtain h | h := hne <;> simp [h]
    have hok' : pressFails (takenUp p s) p = none := hok
    refine ⟨?_, ?_, ?_⟩
    all_goals
      rw [exec_pressCommit, pressCommit_next ha hp hl, hok', hsome]
      rfl
  · rw [exec_pressCommit, pressCommit_next ha hp hl, show pressFails (takenUp p s) p = none from hok, hi, hc]
    rfl
  · rw [exec_pressCommit, pressCommit_next ha hp hl, show pressFails (takenUp p s) p = some st from hst]
    rfl
  · rw [exec_pressCommit, pressCommit_none (nextPress_follower hf hno), resumeBooks_self]
  · obtain ⟨hp, hq⟩ := part_of_parts s (applyItem_write s e p off data) p.isLt
    intro t
    rw [hp]
    exact ⟨rfl, rfl, rfl, fun q hne => hq q fun h => hne (Fin.ext h)⟩
  · obtain ⟨hp, hq⟩ := part_of_parts s (applyItem_clearPart s e p) p.isLt
    intro t
    rw [hp]
    exact ⟨rfl, rfl, fun q hne => hq q fun h => hne (Fin.ext h)⟩
  · have h0 : look n ([] : List (Nat × Nat)) = none := rfl
    simp only [absolute, h0, look_put_same, hv, Option.orElse_none, Option.orElse_some, Option.getD_some]
  · simp only [absolute, hv, Option.getD_some]
  · exact Copies.read_update _ _
  · exact congrArg Host.Outcome.next (if_pos ha)
  · let u : State := { s with press := { s.press with log := rest, applied := r.epoch, pos := r.stop } }
    have ht : applyRecord s = pressState u := applyRecord_cons s hr
    intro t
    cases hb : s.bankRetired 0 with
    | true =>
      have htu : t = u := ht.trans (pressState_retired u hb)
      rw [htu]
      exact ⟨rfl, rfl, rfl, fun _ => ⟨rfl, rfl⟩, nofun⟩
    | false =>
      have htw : t = wakeBank 0 { u with press := u.press.pressed } := ht.trans (pressState_serving u hb)
      have hp : t.press = u.press.pressed := htw ▸ wakeBank_press _ 0
      rw [hp]
      refine ⟨rfl, rfl, rfl, nofun, fun _ => ⟨Copies.read_update _ _, htw⟩⟩

end Sys2Proof
end


section
/-! Two-copy and slot records, the Brine checkpoint, the scrub and the DRBG (01, 08, 12, 16; O32). -/

namespace Sys2Proof.Machine

/-! ### Records -/

/-- An update that is cut leaves the value in effect. -/
theorem Copies.read_cut {α : Type} {t : Copies α} {w : α} (hr : t.read = some w) (h0 : t.ok0 = true) (h1 : t.ok1 = true) :
    t.cut.read = some w := by
  unfold Copies.cut
  split
  next hn =>
    rw [← hr, Copies.read_other (t := { t with ok0 := false }) rfl h1, Copies.read, hn]
    rfl
  next hn =>
    rw [← hr, Copies.read_one (t := { t with ok1 := false }) h0 rfl, Copies.read, hn]
    rfl
  · exact hr

theorem copyBytes_length (addr : Nat) (data : Bytes) (seq : BitVec 32) :
    (copyBytes addr data seq).length = data.length + 8 := by
  simp [copyBytes]

/-- A 4-byte word read back. -/
theorem fld_word {pre post : Bytes} (w : BitVec 32) {off : Nat} (h : pre.length = off) :
    BitVec.ofNat 32 (fld (pre ++ (le w.toNat 4 ++ post)) off 4) = w := by
  have hs : sl (pre ++ (le w.toNat 4 ++ post)) off 4 = le w.toNat 4 := by
    rw [sl_append_right (Nat.le_of_eq h), h, Nat.sub_self, sl_zero_append (le_length ..)]
  rw [fld, hs, leN_le, show 256 ^ 4 = 2 ^ 32 from rfl, Nat.mod_eq_of_lt w.isLt, BitVec.ofNat_toNat, BitVec.setWidth_eq]

theorem copyValid_copyBytes (addr : Nat) (data : Bytes) (seq : BitVec 32) :
    copyValid addr (copyBytes addr data seq) = true := by
  have hlen : (copyBytes addr data seq).length - 8 = data.length := by rw [copyBytes_length, Nat.add_sub_cancel]
  have hdata : (copyBytes addr data seq).take data.length = data := by
    rw [copyBytes, List.append_assoc, List.take_left]
  have hseq : BitVec.ofNat 32 (fld (copyBytes addr data seq) data.length 4) = seq := by
    rw [copyBytes, List.append_assoc]
    exact fld_word seq rfl
  have hcrc : BitVec.ofNat 32 (fld (copyBytes addr data seq) (data.length + 4) 4) = copyCheck addr data seq := by
    have h := fld_word (pre := data ++ le seq.toNat 4) (post := []) (copyCheck addr data seq) (off := data.length + 4)
      (by simp)
    rwa [List.append_nil] at h
  simp only [copyValid, hlen, hdata, hseq, hcrc, beq_self_eq_true]

section
variable (s : State) (k : Slot) (i : Nat)

theorem slotBody_length : (slotBody s k i).length = 240 := by
  simp [slotBody, slotWrapped, fit_length]

theorem slotRecord_length : (slotRecord s k i).length = 256 := by
  rw [slotRecord, List.length_append, slotBody_length, slotTag, fit_length]

theorem slotRecord_body : (slotRecord s k i).take 240 = slotBody s k i := by
  rw [slotRecord, List.take_left' (slotBody_length s k i)]

theorem slotRecord_tag : (slotRecord s k i).drop 240 = slotTag s k i (slotBody s k i) := by
  rw [slotRecord, List.drop_left' (slotBody_length s k i)]

/-- A field of the body lies where it does in the record. -/
theorem slotRecord_fld {off len : Nat} (h : off + len ≤ 240) :
    fld (slotRecord s k i) off len = fld (slotBody s k i) off len := by
  rw [fld, fld, slotRecord, sl_append_left (by rw [slotBody_length]; exact h)]

theorem slotBody_attr : fld (slotBody s k i) 0 8 = k.attr.toNat := by
  simp only [slotBody, fld, List.append_assoc]
  rw [sl_zero_append (le_length ..), leN_le, show 256 ^ 8 = 2 ^ 64 from rfl, Nat.mod_eq_of_lt k.attr.isLt]

theorem slotBody_gen (hg : k.gen < 2 ^ 32) : fld (slotBody s k i) 16 4 = k.gen := by
  simp only [slotBody, fld, List.append_assoc]
  iterate 5 rw [sl_append_right (by simp), le_length]
  rw [sl_zero_append (le_length ..), leN_le, show 256 ^ 4 = 2 ^ 32 from rfl, Nat.mod_eq_of_lt hg]

end

/-! ### The Brine -/

section
variable (s : State)

theorem wakeIf_brine (b : Bool) : (wakeIf b s).brine = s.brine ∧ (wakeIf b s).books = s.books := by
  unfold wakeIf wakeBank wakeDomainN wakeDomain
  repeat' split
  all_goals exact ⟨rfl, rfl⟩

/-- A book as a checkpoint leaves it. -/
def Book.settled (k : Book) : Book := if k.dist = 0 then k else k.makeDurable

/-- A counter entry as a checkpoint leaves it. -/
def Entry.settled (e : Entry) : Entry := if e.dist = 0 then e else e.makeDurable

theorem Book.settled_dist (k : Book) : k.settled.dist = 0 := by
  unfold Book.settled
  split
  · assumption
  · rfl

theorem Book.settled_head (k : Book) : k.settled.head = k.head ∧ k.settled.gapRec = k.gapRec := by
  unfold Book.settled
  split <;> exact ⟨rfl, rfl⟩

theorem Book.settled_durable {k : Book} (h : k.dist ≠ 0) : k.settled.durable.read = some k.head := by
  rw [Book.settled, if_neg h]
  exact Copies.read_update _ _

theorem Entry.settled_dist (e : Entry) : e.settled.dist = 0 := by
  unfold Entry.settled
  split
  · assumption
  · rfl

theorem Entry.settled_same (e : Entry) : e.settled.slot = e.slot ∧ e.settled.inv = e.inv ∧ e.settled.uses = e.uses := by
  unfold Entry.settled
  split <;> exact ⟨rfl, rfl, rfl⟩

theorem writeDurable_serving (h : s.bankRetired 0 = false) : writeDurable s = wakeIf s.dirty { s with
    brine := { s.brine with entries := s.brine.entries.map Entry.settled }, books := s.books.map Book.settled } :=
  if_neg (by simp [h])

theorem vget_map {α β : Type} {n : Nat} (f : α → β) (v : Vector α n) (i : Nat) (d : α) (e : β) (h : i < n) :
    vget (v.map f) i e = f (vget v i d) := by
  simp [vget, List.getD_eq_getElem?_getD, h]

/-- The counter entries and the books are those of another state. -/
def SameBrine (s t : State) : Prop := t.brine = s.brine ∧ t.books = s.books

theorem SameBrine.trans {s t u : State} (h : SameBrine s t) (h' : SameBrine t u) : SameBrine s u :=
  ⟨h'.1.trans h.1, h'.2.trans h.2⟩

theorem healthLog_brine (event subject detail : Nat) : SameBrine s (healthLog event subject detail s) :=
  ⟨(raiseSample_same 275 _).get State.brine fun _ => rfl, (raiseSample_same 275 _).get State.books fun _ => rfl⟩

theorem weltSend_brine (type : Nat) : SameBrine s (weltSend type s) := by
  unfold weltSend sendFrame
  split
  · exact ⟨rfl, rfl⟩
  split
  · dsimp only
    split <;> exact ⟨rfl, rfl⟩
  · exact ⟨rfl, rfl⟩

theorem mirrorBrine_brine : SameBrine s (mirrorBrine s) := by
  unfold mirrorBrine
  split
  · exact weltSend_brine s _
  · exact ⟨rfl, rfl⟩

theorem pressOwn_brine (items : List PItem) : SameBrine s (pressOwn items s) := by
  unfold pressOwn
  split <;> exact ⟨rfl, rfl⟩

/-- A checkpoint's write, if there is one, settles entries and books or leaves them. -/
theorem writeDurable_brine : SameBrine s (writeDurable s) ∨
    (writeDurable s).brine.entries = s.brine.entries.map Entry.settled ∧
      (writeDurable s).books = s.books.map Book.settled := by
  by_cases h : s.bankRetired 0 = true
  · rw [writeDurable, if_pos h]
    exact .inl ⟨rfl, rfl⟩
  · rw [writeDurable_serving s (Bool.eq_false_iff.2 h)]
    refine .inr ⟨?_, (wakeIf_brine _ _).2⟩
    rw [(wakeIf_brine _ _).1]

/-- The entry of a slot keeps its counts through a checkpoint's write. -/
theorem writeDurable_entry {n : Nat} {e : Entry} (h : s.entry n = some e) :
    ∃ e', (writeDurable s).entry n = some e' ∧ e'.inv = e.inv ∧ e'.uses = e.uses := by
  obtain ⟨hb, -⟩ | ⟨hb, -⟩ := writeDurable_brine s
  · exact ⟨e, by rw [State.entry, hb]; exact h, rfl, rfl⟩
  · obtain ⟨-, hinv, huses⟩ := e.settled_same
    refine ⟨e.settled, ?_, hinv, huses⟩
    have hf : ((fun x : Entry => x.slot == n) ∘ Entry.settled) = fun x => x.slot == n :=
      funext fun x => by rw [Function.comp_apply, x.settled_same.1]
    have hs : s.brine.entries.find? (fun x => x.slot == n) = some e := h
    rw [State.entry, hb, List.find?_map, hf, hs]
    rfl

/-- A book keeps its head and its gap record through a checkpoint's write. -/
theorem writeDurable_book (b : Fin 64) : ((writeDurable s).book b).head = (s.book b).head ∧
    ((writeDurable s).book b).gapRec = (s.book b).gapRec := by
  obtain ⟨-, hb⟩ | ⟨-, hb⟩ := writeDurable_brine s
  · simp only [State.book, hb, and_self]
  · simp only [State.book, hb, vget_map Book.settled s.books b Book.zero Book.zero b.isLt]
    exact Book.settled_head _

/-! ### The checkpoint -/

theorem exec_checkpoint (bad : List BrineObj) (ha : s.awake = true) :
    exec (.brineCheckpoint bad) s = .next
      (let t := if s.debugBars || s.rind.guard then s else bad.foldl (fun s o => reloadBrine o s) s
       if t.brine.mode == .holdup && !t.debugBars then writeDurable t else t) := by
  show execBrineCheckpoint bad s = _
  simp only [execBrineCheckpoint, ha, Bool.not_true, Bool.false_eq_true, if_false]

theorem exec_checkpoint_idle (h : s.awake = false ∨ s.brine.mode ≠ .holdup ∨ s.debugBars = true ∨ s.bankRetired 0 = true) :
    exec (.brineCheckpoint []) s = .next s := by
  have hf : ([] : List BrineObj).foldl (fun s o => reloadBrine o s) s = s := rfl
  by_cases ha : s.awake = true
  · rw [exec_checkpoint s [] ha]
    simp only [hf, ite_self]
    obtain h | h | h | h := h
    · rw [h] at ha; cases ha
    · rw [if_neg (by simp [h])]
    · rw [if_neg (by simp [h])]
    · rw [writeDurable, if_pos h, ite_self]
  · show execBrineCheckpoint [] s = _
    rw [execBrineCheckpoint, if_pos (by simp [ha])]

theorem exec_checkpoint_due (ha : s.awake = true) (hm : s.brine.mode = .holdup) (hd : s.debugBars = false) :
    exec (.brineCheckpoint []) s = .next (writeDurable s) := by
  have hf : ([] : List BrineObj).foldl (fun s o => reloadBrine o s) s = s := rfl
  rw [exec_checkpoint s [] ha]
  simp only [hf, ite_self]
  rw [if_pos (by rw [hm, hd]; rfl)]

/-- A reload, then the write if the Brine is in hold-up mode. -/
theorem exec_checkpoint_reload (o : BrineObj) (ha : s.awake = true) (hd : s.debugBars = false)
    (hg : s.rind.guard = false) :
    exec (.brineCheckpoint [o]) s = .next (reloadBrine o s) ∨
      exec (.brineCheckpoint [o]) s = .next (writeDurable (reloadBrine o s)) := by
  have hf : [o].foldl (fun s o => reloadBrine o s) s = reloadBrine o s := rfl
  simp only [exec_checkpoint s [o] ha, hd, hg, Bool.or_self, Bool.false_eq_true, if_false, hf]
  split
  · exact .inr rfl
  · exact .inl rfl

/-- The entry of a slot as its durable copy gives it, past the margin of a reload (R270). -/
def Entry.reloaded (e : Entry) (k : Slot) (d : Count) : Entry :=
  Entry.makeDurable { e with
    gen := k.gen, inv := min (2 ^ 64 - 1) (d.inv + 2 ^ 20), uses := if k.inBrine = true then d.uses - 2 ^ 20 else d.uses }

theorem loadEntry_margin {e : Entry} {k : Slot} {d : Count} (hk : s.slot e.slot = some k) (hd : e.dur.read = some d)
    (hg : d.gen = k.gen) : loadEntry s true e = some (e.reloaded k d) := by
  simp only [Entry.reloaded, loadEntry, hk, hd, hg, beq_self_eq_true, if_true]

/-- A step that fails on an entry or gives it back with its slot: the entry of a slot is what it makes of the old. -/
theorem find_filterMap {l : List Entry} {n : Nat} {f : Entry → Option Entry} {e e' : Entry}
    (hl : l.find? (fun x => x.slot == n) = some e) (hf : ∀ x y, f x = some y → y.slot = x.slot) (he : f e = some e') :
    (l.filterMap f).find? (fun x => x.slot == n) = some e' := by
  induction l with
  | nil => cases hl
  | cons x l ih =>
    by_cases hx : x.slot = n
    · rw [List.find?_cons_of_pos (by simp [hx])] at hl
      cases hl
      rw [List.filterMap_cons_some he, List.find?_cons_of_pos (by simp [hf _ _ he, hx])]
    · rw [List.find?_cons_of_neg (by simp [hx])] at hl
      cases hfx : f x with
      | none => rw [List.filterMap_cons_none hfx]; exact ih hl
      | some y =>
        rw [List.filterMap_cons_some hfx, List.find?_cons_of_neg (by simp [hf _ _ hfx, hx])]
        exact ih hl

theorem loadEntry_slot {margin : Bool} {e e' : Entry} (h : loadEntry s margin e = some e') : e'.slot = e.slot := by
  unfold loadEntry at h
  split at h
  · cases h; rfl
  · cases h

theorem reloadBrine_entry {n : Fin 16384} {e : Entry} {k : Slot} {d : Count} (he : s.entry n = some e)
    (hk : s.slot n = some k) (hd : e.dur.read = some d) (hg : d.gen = k.gen) :
    ∃ e', (reloadBrine (.entry n) s).entry n = some e' ∧ e'.inv = min (2 ^ 64 - 1) (d.inv + 2 ^ 20) ∧
      e'.uses = if k.inBrine = true then d.uses - 2 ^ 20 else d.uses := by
  have hslot : e.slot = n.val := beq_iff_eq.1 (List.find?_some (p := fun x : Entry => x.slot == n.val) he)
  refine ⟨e.reloaded k d, ?_, rfl, rfl⟩
  unfold reloadBrine
  simp only [he, Option.isNone_some, Bool.false_eq_true, if_false]
  rw [State.entry, (mirrorBrine_brine _).1, (healthLog_brine _ _ _ _).1]
  refine find_filterMap he (fun x y h => ?_)
    ((if_pos hslot).trans (loadEntry_margin s (hslot ▸ hk) hd hg))
  split at h
  · exact loadEntry_slot s h
  · cases h; rfl

/-- A book's gap record takes a million counts (R299). -/
theorem writeGap_book {b : Nat} (hb : b < 64) (cause : Nat) (hst : (s.book b).st ≠ .halted) :
    ((writeGap b cause s).book b).head.gap = true ∧
      ((writeGap b cause s).book b).head.c = min (2 ^ 64 - 1) ((s.book b).head.c + 2 ^ 20) ∧
      ((writeGap b cause s).book b).gapRec.isSome = true := by
  have hk : (sampleTime s).book b = s.book b := rfl
  have hn : ¬((s.book b).st == .halted) = true := by simpa using hst
  have hc : (s.book b).head.c + 1 + 2 ^ 20 - 1 = (s.book b).head.c + 2 ^ 20 := by omega
  unfold writeGap
  simp only [hk, if_neg hn]
  split
  · rw [book_setBook_same _ _ _ hb]
    exact ⟨rfl, by rw [hc], rfl⟩
  · have hw (t : State) : (wakeBank 0 t).book b = t.book b := rfl
    rw [hw, book_setBook_same _ _ _ hb]
    exact ⟨rfl, by simp only [Book.makeDurable, hc], rfl⟩

theorem reloadBrine_head {b : Fin 64} {h : Head} (hd : (s.book b).durable.read = some h) (hst : (s.book b).st ≠ .halted) :
    ((reloadBrine (.head b) s).book b).head.gap = true ∧
      ((reloadBrine (.head b) s).book b).head.c = min (2 ^ 64 - 1) (h.c + 2 ^ 20) ∧
      ((reloadBrine (.head b) s).book b).gapRec.isSome = true := by
  have hk : (healthLog 0x0C 0xFF b.val (setBook b.val (loadBook (s.book b.val)) s)).book b.val =
      { s.book b.val with head := h, dist := 0 } := by
    rw [State.book, (healthLog_brine _ _ _ _).2]
    show (setBook b.val (loadBook (s.book b.val)) s).book b.val = _
    rw [book_setBook_same _ _ _ b.isLt, loadBook, hd]
  unfold reloadBrine
  simp only [hk]
  rw [if_neg (by simpa using hst), State.book, (mirrorBrine_brine _).2, (pressOwn_brine _ _).2]
  have hgap := writeGap_book (healthLog 0x0C 0xFF b.val (setBook b.val (loadBook (s.book b.val)) s)) b.isLt 1
    (by rw [hk]; exact hst)
  rwa [hk] at hgap

/-- A checkpoint with a damaged entry. -/
theorem exec_checkpoint_entry (ha : s.awake = true) (hd : s.debugBars = false) (hg : s.rind.guard = false) (n : Fin 16384)
    {e : Entry} {k : Slot} {d : Count} (he : s.entry n = some e) (hk : s.slot n = some k) (hr : e.dur.read = some d)
    (hgen : d.gen = k.gen) :
    ∃ t e', exec (.brineCheckpoint [.entry n]) s = .next t ∧ t.entry n = some e' ∧
      e'.inv = min (2 ^ 64 - 1) (d.inv + 2 ^ 20) ∧ e'.uses = if k.inBrine = true then d.uses - 2 ^ 20 else d.uses := by
  obtain ⟨e', he', hinv, huses⟩ := reloadBrine_entry s he hk hr hgen
  obtain h | h := exec_checkpoint_reload s (.entry n) ha hd hg
  · exact ⟨_, e', h, he', hinv, huses⟩
  · obtain ⟨e'', he'', hinv', huses'⟩ := writeDurable_entry _ he'
    exact ⟨_, e'', h, he'', hinv'.trans hinv, huses'.trans huses⟩

/-- A checkpoint with a damaged book head. -/
theorem exec_checkpoint_head (ha : s.awake = true) (hd : s.debugBars = false) (hg : s.rind.guard = false) (b : Fin 64)
    {h : Head} (hr : (s.book b).durable.read = some h) (hst : (s.book b).st ≠ .halted) :
    ∃ t, exec (.brineCheckpoint [.head b]) s = .next t ∧ (t.book b).head.gap = true ∧
      (t.book b).head.c = min (2 ^ 64 - 1) (h.c + 2 ^ 20) ∧ (t.book b).gapRec.isSome = true := by
  have hload := reloadBrine_head s hr hst
  obtain h | h := exec_checkpoint_reload s (.head b) ha hd hg
  · exact ⟨_, h, hload⟩
  · obtain ⟨hh, hgap⟩ := writeDurable_book (reloadBrine (.head b) s) b
    exact ⟨_, h, by rw [hh, hgap]; exact hload⟩

/-- A checkpoint makes every entry and every head durable. -/
theorem exec_checkpoint_durable (ha : s.awake = true) (hm : s.brine.mode = .holdup) (hd : s.debugBars = false)
    (hb : s.bankRetired 0 = false) :
    ∃ t, exec (.brineCheckpoint []) s = .next t ∧ t = wakeIf s.dirty { s with brine := t.brine, books := t.books } ∧
      (∀ x ∈ t.brine.entries, x.dist = 0) ∧ t.brine.entries.map (·.slot) = s.brine.entries.map (·.slot) ∧
      ∀ b : Fin 64, (t.book b).dist = 0 ∧ ((s.book b).dist ≠ 0 → (t.book b).durable.read = some (s.book b).head) ∧
        (t.book b).head = (s.book b).head := by
  have hw := writeDurable_serving s hb
  have hbrine : (writeDurable s).brine = { s.brine with entries := s.brine.entries.map Entry.settled } := by
    rw [hw, (wakeIf_brine _ _).1]
  have hbooks : (writeDurable s).books = s.books.map Book.settled := by rw [hw, (wakeIf_brine _ _).2]
  refine ⟨writeDurable s, exec_checkpoint_due s ha hm hd, by rw [hbrine, hbooks, ← hw], ?_, ?_, fun b => ?_⟩
  · rw [hbrine]
    intro x hx
    obtain ⟨e, -, rfl⟩ := List.mem_map.1 hx
    exact e.settled_dist
  · rw [hbrine, List.map_map]
    exact List.map_congr_left fun e _ => e.settled_same.1
  · simp only [State.book, hbooks, vget_map Book.settled s.books b Book.zero Book.zero b.isLt]
    exact ⟨Book.settled_dist _, Book.settled_durable, (Book.settled_head _).1⟩

/-! ### The scrub, the DRBG and its noise -/

theorem scrubRow_here (h : s.bankRetired (s.cellar.scrubAt / 16384) = false) : s.scrubRow = s.cellar.scrubAt :=
  foldl_fixed fun _ _ => if_neg (by rw [h]; decide)

theorem exec_scrub_other {row : BitVec 16} (found : GroupRead) (h : row.toNat ≠ s.scrubRow) :
    exec (.cellarScrub row found) s = .next s := by
  show execCellarScrub row found s = _
  rw [execCellarScrub, if_pos (by simp [h])]

/-- The row the position names, once its bank is awake and its operations are counted. -/
def scrubbed (row : BitVec 16) (s : State) : State :=
  let s1 := (wakeBank (row.toNat / 16384) s).freeNat.2
  let s2 := setChan (56 + row.toNat / 16384) { s1.chan (56 + row.toNat / 16384) with
    ops := (s1.chan (56 + row.toNat / 16384)).ops + (wakeBank (row.toNat / 16384) s).freeNat.1 + 8 } s1
  { s2 with cellar := { s2.cellar with scrubAt := (row.toNat + 1) % 65536 } }

/-- What the scrub of a row does with what it finds. -/
theorem exec_scrub {row : BitVec 16} (found : GroupRead) (ha : s.awake = true) (h : row.toNat = s.scrubRow)
    (hb : s.bankRetired (row.toNat / 16384) = false) :
    exec (.cellarScrub row found) s = .next (match found with
      | .good => scrubbed row s
      | .corrected => rowFault row.toNat (scrubbed row s)
      | .uncorrectable g loses spoils =>
        let a := row.toNat * 1024 + 16 * g.val
        let x := healthLog 0x0A (56 + row.toNat / 16384) (a / 16) (spoilGroup a (scrubbed row s))
        rowFault row.toNat (spoils.elim (loses.elim x fun o => loseRecord o x) (spoilCopy x))) := by
  show execCellarScrub row found s = _
  rw [execCellarScrub, if_neg (by rw [← h, hb, ha]; simp)]
  cases found <;> rfl

theorem scrubbed_cellar (row : BitVec 16) :
    (scrubbed row s).cellar = { s.cellar with scrubAt := (row.toNat + 1) % 65536 } := by
  have hw : (wakeBank (row.toNat / 16384) s).cellar = s.cellar := by
    unfold wakeBank wakeDomainN wakeDomain
    repeat' split
    all_goals rfl
  simp only [scrubbed, setChan, State.freeNat, hw]

end

/-- Settles O32: a record's copies by how they read, the checkpoint by entry and book, the scrub by what it finds. -/
theorem recordsBrineScrubDrbg : Obligations.RecordsBrineScrubDrbg := by
  unfold Obligations.RecordsBrineScrubDrbg
  refine ⟨fun t v => ?_, fun addr data seq => ⟨copyValid_copyBytes .., copyBytes_length ..⟩, fun s k i => ?_,
    fun s => ⟨exec_checkpoint_idle s, exec_checkpoint_durable s, fun ha hd hg => ⟨?_, ?_⟩, scrubRow_here s,
      fun row found => exec_scrub_other s found, fun row ha h hb => ⟨?_, ?_⟩, fun hok => ?_, fun n hn => ?_⟩⟩
  · exact ⟨Copies.read_update t v, fun w => Copies.read_cut, Copies.read_none, Copies.read_one, Copies.read_other,
      Copies.read_newer1, Copies.read_newer0, Copies.read_neither⟩
  · refine ⟨slotRecord_length s k i, ?_, fun hg => ?_, ?_⟩
    · rw [slotRecord_fld s k i (by decide), slotBody_attr]
    · rw [slotRecord_fld s k i (by decide), slotBody_gen s k i hg]
    · rw [slotRecord_body, slotRecord_tag]
  · exact fun n e k d he hk hr hgen => exec_checkpoint_entry s ha hd hg n he hk hr hgen
  · exact fun b h _ hr hst => exec_checkpoint_head s ha hd hg b hr hst
  · exact ⟨_, exec_scrub s .good ha h hb, scrubbed_cellar s row⟩
  · exact ⟨(wakeBank (row.toNat / 16384) s).freeNat.1, (wakeBank (row.toNat / 16384) s).freeNat.2, rfl,
      exec_scrub s .corrected ha h hb, fun g loses spoils => exec_scrub s _ ha h hb⟩
  · refine ⟨fun hd => ?_, fun hd => ?_, fun hr => ?_, fun hr => ?_⟩
    · show execDrbgSeedReady s = _
      simp only [execDrbgSeedReady, hok, hd, Bool.not_true, Bool.false_eq_true, if_false]
    · show execDrbgSeedReady s = _
      simp only [execDrbgSeedReady, hok, hd, Bool.not_true, Bool.false_eq_true, if_false, if_true, reseed]
    · show execDrbgReseed s = _
      simp only [execDrbgReseed, hok, hr, Bool.not_true, Bool.false_eq_true, if_false, if_true, reseed]
    · show execDrbgReseed s = _
      simp only [execDrbgReseed, hok, hr, Bool.not_true, Bool.false_eq_true, if_false]
  · show execNoiseSourceFail n s = _
    rw [execNoiseSourceFail, if_pos hn]

end Sys2Proof.Machine
end


section
/-! Fetching of orders and the admission deadline (05; O41). -/

namespace Sys2Proof.Machine

section
variable {α : Type} {p : α → Bool} {l : List α} {a : α}

theorem find_updFirst {f : α → α} (h : l.find? p = some a) (hf : p (f a) = true) :
    (updFirst p f l).find? p = some (f a) := by
  induction l with
  | nil => cases h
  | cons x l ih =>
    by_cases hx : p x = true
    · rw [List.find?_cons_of_pos hx] at h
      cases h
      rw [updFirst, if_pos hx, List.find?_cons_of_pos hf]
    · rw [List.find?_cons_of_neg hx] at h
      rw [updFirst, if_neg hx, List.find?_cons_of_neg hx]
      exact ih h

end

section
variable {s : State} {n : BitVec 8} {q : Qp}

theorem qp?_n (h : s.qp? n = some q) : q.n = n := beq_iff_eq.1 (List.find?_some (p := fun x : Qp => x.n == n) h)

theorem qp?_setQp {q' : Qp} (h : s.qp? n = some q) (hn : q'.n = n) : (setQp q' s).qp? n = some q' := by
  subst hn
  exact find_updFirst h (beq_self_eq_true _)

theorem hostReach_awake (h : s.hostReach = true) : s.awake = true := by
  simp only [State.hostReach, Bool.and_eq_true] at h
  exact h.1.1

theorem exec_orderFetch (hr : s.hostReach = true) (hq : s.qp? n = some q) (hd : q.deleting = false)
    (hf : s.fetchable q = true) (x : Packet) :
    exec (.orderFetch n x) s = .next (packetOf s.nextUid x (fetchEntry q s)) := by
  show execOrderFetch n s x = _
  simp only [execOrderFetch, liveQp_of_qp? hq hd, hr, hf, Bool.and_self, if_true]

theorem exec_orderFetch_idle (hq : s.qp? n = some q) (hd : q.deleting = false) (hf : s.fetchable q = false)
    (x : Packet) : exec (.orderFetch n x) s = .next s := by
  show execOrderFetch n s x = _
  simp only [execOrderFetch, liveQp_of_qp? hq hd, hf, Bool.and_false, Bool.false_eq_true, if_false]

/-- The entry at the head of a submission ring. -/
def Qp.entry (q : Qp) (s : State) : Bytes := s.hostMem.read (q.sqBase + 64 * q.sqHead) 64

/-- The queue pair past the entry at its head. -/
def Qp.past (q : Qp) : Qp := { q with sqHead := (q.sqHead + 1) % q.sqD }

/-- The queue pair past the first entry of an order, whose completion slot is reserved. -/
def Qp.begun (q : Qp) : Qp := { q.past with reserved := q.reserved + 1 }

/-- Extension entries follow the entry (CALL and RUN only). -/
def extended (e : Bytes) : Prop := fld e 2 2 % 2 = 1 ∧ (fld e 0 2 = 1 ∨ fld e 0 2 = 2)

theorem extended_iff (e : Bytes) : (bit (fld e 2 2) 0 && (fld e 0 2 == 1 || fld e 0 2 == 2)) = true ↔ extended e := by
  simp [extended, bit]

theorem fetchEntry_first (hg : q.gathered = []) (h : extended (q.entry s)) :
    fetchEntry q s = setQp { q.begun with gathered := [q.entry s] } s := by
  unfold fetchEntry
  simp only [hg, List.isEmpty_nil, if_true]
  exact if_pos ((extended_iff _).2 h)

theorem fetchEntry_whole (hg : q.gathered = []) (h : ¬extended (q.entry s)) :
    fetchEntry q s = takeOrder q.n [q.entry s] (setQp q.begun s) := by
  unfold fetchEntry
  simp only [hg, List.isEmpty_nil, if_true]
  refine (if_neg (mt (extended_iff _).1 h)).trans ?_
  rw [Qp.begun, Qp.past, hg]
  rfl

theorem fetchEntry_more (hg : q.gathered ≠ []) (hk : fld (q.entry s) 0 2 = 0x000E) (hf : fld (q.entry s) 2 2 % 2 = 1)
    (hl : q.gathered.length < 6) :
    fetchEntry q s = setQp { q.past with gathered := q.gathered ++ [q.entry s] } s := by
  unfold fetchEntry
  rw [if_neg (by simpa using hg)]
  refine if_pos ?_
  simp only [Bool.and_eq_true, decide_eq_true_eq, beq_iff_eq, bit, Nat.pow_zero, Nat.div_one, List.length_append, List.length_singleton]
  exact ⟨⟨hk, hf⟩, Nat.succ_le_of_lt hl⟩

theorem takeOrder_held {es : List Bytes} (h : fetchCheck s es = none) : takeOrder n es (setQp q s) =
    { setQp q s with orders := s.orders ++ [orderOf s n es], nextUid := s.nextUid + 1 } := by
  have hc : fetchCheck (setQp q s) es = none := h
  rw [takeOrder, hc]
  rfl

theorem takeOrder_refused {es : List Bytes} {st : Status} (hq : s.qp? n = some q) (h : fetchCheck s es = some st) :
    takeOrder n es (setQp q.begun s) =
      closeQp n (payHalt n (writeCq q.past (entryTag es) st s.press.epoch 0 0 (setQp q.begun s))) := by
  have hc : fetchCheck (setQp q.begun s) es = some st := h
  have hqp : (setQp q.begun s).qp? n = some q.begun := qp?_setQp hq (qp?_n hq :)
  simp only [takeOrder, hc, completeRaw, hqp]
  rfl

/-- An order's entry, with nothing to follow it, that passes the checks. -/
theorem fetchEntry_held (hq : s.qp? n = some q) (hg : q.gathered = []) (h : ¬extended (q.entry s))
    (hc : fetchCheck s [q.entry s] = none) : fetchEntry q s =
      { setQp q.begun s with orders := s.orders ++ [orderOf s n [q.entry s]], nextUid := s.nextUid + 1 } := by
  rw [fetchEntry_whole hg h, takeOrder_held hc, qp?_n hq]

theorem packetOf_lost {uid : Nat} {o : Order} (h : s.order? uid = some o) :
    packetOf uid .lost s = detection (refuse uid .faultPermanent s) := by
  simp only [packetOf, h]

theorem packetOf_resent {uid : Nat} {o : Order} (h : s.order? uid = some o) :
    packetOf uid .resent s = detection (setOrder { o with retried := true } s) := by
  simp only [packetOf, h]

/-- A fault of the packet that hands a fetched order on (R13). -/
theorem exec_orderFetch_packet (hr : s.hostReach = true) (hq : s.qp? n = some q) (hd : q.deleting = false)
    (hf : s.fetchable q = true) (huid : ∀ o ∈ s.orders, o.uid ≠ s.nextUid) (hg : q.gathered = [])
    (h : ¬extended (q.entry s)) (hc : fetchCheck s [q.entry s] = none) {t : State}
    (ht : exec (.orderFetch n) s = .next t) :
    exec (.orderFetch n .lost) s = .next (detection (refuse s.nextUid .faultPermanent t)) ∧
      ∀ o, t.order? s.nextUid = some o →
        exec (.orderFetch n .resent) s = .next (detection (setOrder { o with retried := true } t)) := by
  have hfetch : fetchEntry q s = t := by
    rw [exec_orderFetch hr hq hd hf] at ht
    exact Host.Outcome.next.inj ht
  have horder : t.order? s.nextUid = some (orderOf s n [q.entry s]) := by
    rw [← hfetch, fetchEntry_held hq hg h hc, State.order?, List.find?_append,
      List.find?_eq_none.2 fun o ho => by simpa using huid o ho, Option.none_or,
      List.find?_cons_of_pos (by exact beq_self_eq_true s.nextUid)]
  refine ⟨?_, fun o ho => ?_⟩
  · rw [exec_orderFetch hr hq hd hf, hfetch, packetOf_lost horder]
  · rw [exec_orderFetch hr hq hd hf, hfetch, packetOf_resent ho]

theorem fetchable_false_halted (h : q.halted = true) : s.fetchable q = false := by simp [State.fetchable, h]

theorem fetchable_false_empty (h : q.sqHead = q.sqTail) : s.fetchable q = false := by simp [State.fetchable, h]

theorem fetchable_false_slot (hg : q.gathered = []) (h : q.hasSlot = false) : s.fetchable q = false := by
  simp [State.fetchable, hg, h]

theorem fetchable_true (hq : s.qp? n = some q) (hd : q.deleting = false) (hslot : q.hasSlot = true)
    (hh : q.halted = false) (ht : q.sqHead ≠ q.sqTail) (hl : s.heldOf n < 8) : s.fetchable q = true := by
  simp [State.fetchable, hh, hd, ht, hslot, qp?_n hq, hl]

/-- The extension entry owed did not come in time (R86). -/
theorem exec_extensionTimeout (ha : s.awake = true) (hq : s.qp? n = some q) (hd : q.deleting = false)
    (hg : q.gathered ≠ []) (ht : q.timedOut = false) (hh : q.halted = false) :
    exec (.extensionTimeout n) s = .next (payHalt n (setQp { q with
      halted := true, haltOwed := some 0xFFFFFFFC, gathered := [], reserved := q.reserved - 1 } s)) := by
  have hlive := liveQp_of_qp? hq hd
  have hempty : q.gathered.isEmpty = false := by simpa using hg
  have hhalt : q.halt 0xFFFFFFFC = { q with
      halted := true, haltOwed := some 0xFFFFFFFC, gathered := [], reserved := q.reserved - 1 } := by
    simp only [Qp.halt, hh, hempty, ht, Bool.not_false, Bool.and_self, Bool.false_eq_true, if_false, if_true]
  show execExtensionTimeout n s = _
  simp only [execExtensionTimeout, hlive, hempty, ha, Bool.not_true, Bool.or_self, Bool.false_eq_true, if_false,
    haltQp_running _ hlive hh, hhalt]

end

/-- Settles O41: an entry fetched by whether more follow and whether it passes, the packet's fault, the deadlines. -/
theorem orderFetch : Obligations.OrderFetch := by
  unfold Obligations.OrderFetch
  intro s n q hr hq hd e q1 q2 more
  have hn := qp?_n hq
  refine ⟨fun hf hg hm => ?_, fun hf hg hm hc => ?_, fun hf hg hm st hc => ?_, fun hf hg hk hb hl => ?_,
    fun hf => exec_orderFetch_idle hq hd hf _, fun hf huid hg hm hc t ht => exec_orderFetch_packet hr hq hd hf huid hg hm hc ht,
    fetchable_false_halted, fetchable_false_empty, fetchable_false_slot,
    fun _ hs hh ht hl => fetchable_true hq hd hs hh ht hl, fun es h => ?_, fun es h hx => ?_,
    exec_extensionTimeout (hostReach_awake hr) hq hd, fun o tag ho => ⟨?_, ?_⟩, fun tag w hg ho => ?_⟩
  · rw [exec_orderFetch hr hq hd hf, fetchEntry_first hg hm]
    rfl
  · refine ⟨orderOf s n [e], ?_, rfl, rfl, rfl, rfl, rfl, rfl, rfl, rfl⟩
    rw [exec_orderFetch hr hq hd hf, fetchEntry_held hq hg hm hc]
    rfl
  · rw [exec_orderFetch hr hq hd hf, fetchEntry_whole hg hm, hn, takeOrder_refused (es := [q.entry s]) hq hc]
    rfl
  · rw [exec_orderFetch hr hq hd hf, fetchEntry_more hg hk hb hl]
    rfl
  · simp only [fetchCheck, h, Bool.not_false, if_true]
  · simp only [fetchCheck, h, hx, Bool.not_true, Bool.false_eq_true, if_false, if_true]
  · show execAdmissionDeadline n tag true s = _
    simp only [execAdmissionDeadline, hostReach_awake hr, ho, Bool.not_true, Bool.false_eq_true, if_false, if_true]
  · show execAdmissionDeadline n tag false s = _
    simp only [execAdmissionDeadline, hostReach_awake hr, ho, Bool.not_true, Bool.false_eq_true, if_false]
  · show execAdmissionDeadline n tag w s = _
    simp only [execAdmissionDeadline, hostReach_awake hr, ho, liveQp_of_qp? hq hd, hg, List.isEmpty_nil, Bool.not_true,
      Bool.and_false, Bool.false_and, Bool.false_eq_true, if_false]

end Sys2Proof.Machine
end


section
/-! Admission and completion of orders (05; O42). -/

namespace Sys2Proof.Machine

/-! ### The order a queue pair offers (R98) -/

section
variable (s : State) (n : BitVec 8) {o : Order}

/-- A held order with nothing before it, ABORTs apart, is offered. -/
theorem pickHeld_first (rest : List Order) (h : o.st = .held) (ha : o.isAbort = false) :
    pickHeld [] (o :: rest) = some o := by
  have hst : (o.st != .held) = false := by rw [h]; rfl
  simp only [pickHeld, hst, ha, Bool.false_eq_true, if_false, List.isEmpty_nil, List.any_nil, Bool.and_false, if_true,
    ite_self]

theorem pickHeld_under_way {earlier : List Order} (rest : List Order) (h : o.st = .admitted) :
    pickHeld earlier (o :: rest) = pickHeld (earlier ++ [o]) rest := by
  have hst : (o.st != .held) = true := by rw [h]; rfl
  rw [pickHeld, if_pos hst]

section
variable {x y : Order} (rest : List Order) (h : y.st = .held) (ha : y.isAbort = false)
include h ha

/-- A FENCE waits for what is before it. -/
theorem pickHeld_fence (hf : y.fence = true) : pickHeld [x] (y :: rest) = none := by
  have hst : (y.st != .held) = false := by rw [h]; rfl
  simp only [pickHeld, hst, ha, hf, Bool.false_eq_true, if_false, if_true, List.isEmpty_cons]

theorem pickHeld_free (hf : y.fence = false) (hs : y.session = 0 ∨ x.session ≠ y.session) :
    pickHeld [x] (y :: rest) = some y := by
  have hst : (y.st != .held) = false := by rw [h]; rfl
  have hb : (y.session != 0 && [x].any fun z => z.session == y.session) = false := by
    obtain hs | hs := hs <;> simp [hs]
  simp only [pickHeld, hst, ha, hf, hb, Bool.false_eq_true, if_false]

/-- An order waits for an earlier one of its session. -/
theorem pickHeld_session (hf : y.fence = false) (h0 : y.session ≠ 0) (hs : x.session = y.session) :
    pickHeld [x] [y] = none := by
  have hst : (y.st != .held) = false := by rw [h]; rfl
  have hb : (y.session != 0 && [x].any fun z => z.session == y.session) = true := by
    simpa [hs] using h0
  simp only [pickHeld, hst, ha, hf, hb, Bool.false_eq_true, if_false, if_true]

end

/-! ### Turns (R99) -/

theorem chosen_some {s' : State} (h : s.chosen n = some (o, s')) :
    s.candidate n = some o ∧ ∃ t, s' = { s with turns := t } := by
  unfold State.chosen at h
  split at h
  · cases h
  next c hc =>
    split at h
    · cases h
    · split at h
      · cases h
        exact ⟨hc, _, rfl⟩
      · cases h

/-- Some class that is ready is picked, whatever credits are left. -/
theorem Wrr.pick_ready (w : Wrr) {ready : BitVec 2 → Bool} {c : BitVec 2} (h : ready c = true) :
    ∃ d w', w.pick ready = some (d, w') ∧ ready d = true := by
  have hfull : ∃ d, [(0 : BitVec 2), 1, 2, 3].find? (fun c => ready c && decide (0 < Wrr.full.get c)) = some d := by
    rw [← Option.isSome_iff_exists, List.find?_isSome]
    refine ⟨c, ?_, ?_⟩
    · exact (by decide : ∀ c : BitVec 2, c ∈ [(0 : BitVec 2), 1, 2, 3]) c
    · rw [h, Bool.true_and, decide_eq_true_eq]
      exact (by decide : ∀ c : BitVec 2, 0 < Wrr.full.get c) c
  unfold Wrr.pick
  dsimp only
  split
  next d hd =>
    have hd' := List.find?_some hd
    rw [Bool.and_eq_true] at hd'
    exact ⟨d, _, rfl, hd'.1⟩
  · obtain ⟨d, hd⟩ := hfull
    have hd' := List.find?_some hd
    rw [Bool.and_eq_true] at hd'
    exact ⟨d, _, by rw [hd, Option.map_some], hd'.1⟩

/-- Among orders given, one has its turn. -/
theorem Turns.next_mem (t : Turns) {l : List Order} (h : l ≠ []) : ∃ o ∈ l, t.next l = some o := by
  induction l with
  | nil => exact absurd rfl h
  | cons o os ih =>
    rw [Turns.next]
    split
    · exact ⟨o, List.mem_cons_self, rfl⟩
    next x hx =>
      split
      · exact ⟨o, List.mem_cons_self, rfl⟩
      · obtain ⟨y, hy, hn⟩ := ih (by rintro rfl; cases hx)
        rw [hx] at hn
        exact ⟨y, List.mem_cons_of_mem _ hy, hn⟩

/-- The only admissible order of a block has its turn. -/
theorem nextOrder_only {b : Nat} (hmem : o ∈ s.admissible b) (hall : ∀ x ∈ s.admissible b, x = o) :
    ∃ t, s.nextOrder b = some (o, t) := by
  have hready : ((s.admissible b).any fun x => s.classOf x == s.classOf o) = true :=
    List.any_eq_true.2 ⟨o, hmem, beq_self_eq_true _⟩
  obtain ⟨d, w, hpick, hd⟩ := (s.turnsOf b).wrr.pick_ready (ready := fun c => (s.admissible b).any fun x => s.classOf x == c)
    hready
  have hne : (s.admissible b).filter (fun x => s.classOf x == d) ≠ [] := by
    obtain ⟨x, hx, hxd⟩ := List.any_eq_true.1 hd
    exact List.ne_nil_of_mem (List.mem_filter.2 ⟨hx, hxd⟩)
  obtain ⟨x, hx, hnext⟩ := (s.turnsOf b).next_mem hne
  obtain rfl := hall x (List.mem_filter.1 hx).1
  exact ⟨_, by simp only [State.nextOrder, hpick, Option.bind_some, hnext, Option.map_some]; rfl⟩

theorem chosen_only {q : Qp} (hc : s.candidate n = some o) (hh : s.held o = false) (hq : q ∈ s.qps) (hn : q.n = n)
    (hall : ∀ x ∈ s.admissible o.block, x = o) : ∃ s', s.chosen n = some (o, s') := by
  have hmem : o ∈ s.admissible o.block :=
    List.mem_filter.2 ⟨List.mem_filterMap.2 ⟨q, hq, by rw [hn, hc]⟩, by simp [hh]⟩
  obtain ⟨t, ht⟩ := nextOrder_only s hmem hall
  exact ⟨{ s with turns := vset s.turns o.block t }, by simp only [State.chosen, hc, ht, if_true]⟩

/-! ### Admission commands -/

section
variable (want : Order → Bool) (k : Order → State → State)

theorem serve_asleep (h : s.awake = false) : serve n want s k = s := if_pos (by simp [h])

theorem serve_linkDown (h : s.linkUp = false) : serve n want s k = s := if_pos (by simp [h])

theorem serve_changing (h : s.changing = true) : serve n want s k = s := if_pos (by simp [h])

theorem serve_none (h : s.chosen n = none) : serve n want s k = s := by
  rw [serve, h, ite_self]

variable {s n want}

theorem serve_refused (ha : s.awake = true) (hl : s.linkUp = true) (hch : s.changing = false) {s' : State}
    (hc : s.chosen n = some (o, s')) (hw : want o = true) {st : Status} (hst : s'.admitCheck o = some st) :
    serve n want s k = refuse o.uid st s' := by
  simp only [serve, ha, hl, hch, Bool.not_true, Bool.or_self, Bool.false_eq_true, if_false, hc, hw, hst]

/-- An order that passes every common check is given to its block. -/
theorem serve_admissible {s' : State} (h : Admissible s n o s') (hw : want o = true) : serve n want s k = k o s' := by
  obtain ⟨ha, hl, hch, hc, hst⟩ := h
  simp only [serve, ha, hl, hch, Bool.not_true, Bool.or_self, Bool.false_eq_true, if_false, hc, hw, hst]

end

/-- The command of an order's row serves it. -/
theorem exec_orderRow {c : Fin 8} {i : Instr} (h : OrderRow n c s o i) :
    ∃ want k, exec i s = .next (serve n want s k) ∧ want o = true := by
  obtain ⟨h, rfl⟩ | ⟨h, rfl⟩ | ⟨h, rfl⟩ | ⟨h, faults, rfl⟩ | ⟨h, rfl⟩ | ⟨h, rfl⟩ | ⟨h, rfl⟩ | ⟨h, rfl⟩ | ⟨h, rfl⟩ |
    ⟨h, rfl⟩ | ⟨h, rfl⟩ | ⟨h, rfl⟩ | ⟨h, hs, rfl⟩ | ⟨h, hs, rfl⟩ | ⟨h, hs, rfl⟩ | ⟨h, hs, rfl⟩ := h
  iterate 8 exact ⟨_, _, rfl, beq_iff_eq.2 h⟩
  iterate 4 exact ⟨_, _, rfl, h⟩
  all_goals exact ⟨_, _, rfl, by simp [h, hs]⟩

/-! ### Completion (R84) -/

section
variable {s n} {q : Qp}

theorem payHalt_none (hq : s.qp? n = some q) (h : q.haltOwed = none) : payHalt n s = s := by
  simp only [payHalt, hq, h]

theorem payHalt_reserved (hq : s.qp? n = some q) (h : q.reserved ≠ 0) : payHalt n s = s := by
  simp only [payHalt, hq]
  split
  · rw [if_neg fun hr => h hr.1]
  · rfl

theorem closeQp_open (hq : s.qp? n = some q) (h : q.deleting = false) : closeQp n s = s := by
  simp only [closeQp, hq, h, Bool.false_and, Bool.false_eq_true, if_false]

/-- An order's status as its completion carries it. -/
def Order.codeOf (o : Order) (st : Status) : Status := if st = .ok then okClass false o.retried o.closeCall else st

/-- The state without the order. -/
def dropOrder (uid : Nat) (s : State) : State := { s with orders := s.orders.filter fun x => x.uid != uid }

/-- A completion releases the order's completion slot and writes the entry. -/
theorem complete_write {st : Status} {result bytes : Nat} (ho : s.order? o.uid = some o) (hq : s.qp? o.qp = some q) :
    complete o.uid st none result bytes s = closeQp o.qp (payHalt o.qp (writeCq { q with reserved := q.reserved - 1 }
      o.tag (o.codeOf st) (o.epoch.getD s.press.epoch) result bytes
      (dropOrder o.uid s))) := by
  have hst : (if (st == .ok) = true then okClass false o.retried o.closeCall else st) = o.codeOf st := by
    simp only [Order.codeOf, beq_iff_eq]
  have hq' : (dropOrder o.uid s).qp? o.qp = some q := hq
  rw [dropOrder] at hq'
  simp only [complete, ho, hst, hq']
  rfl

theorem writeCq_down {tag : BitVec 64} {st : Status} {epoch result bytes : Nat} (h : s.linkUp = false) :
    writeCq q tag st epoch result bytes s = s := by
  simp only [writeCq, h, Bool.not_false, if_true]

theorem writeCq_up {tag : BitVec 64} {st : Status} {epoch result bytes : Nat} (h : s.linkUp = true)
    (hf : q.cqFails = false) : writeCq q tag st epoch result bytes s = raiseSample (q.n.toNat + 1)
      { setQp q.advanceCq s with
        hostMem := s.hostMem.write (q.cqBase + 32 * q.cqTail) (cqEntry q tag st epoch result bytes) } := by
  simp only [writeCq, h, hf, Bool.not_true, Bool.false_eq_true, if_false]

theorem writeCq_fails {tag : BitVec 64} {st : Status} {epoch result bytes : Nat} (h : s.linkUp = true)
    (hf : q.cqFails = true) (hd : q.deleting = false) : writeCq q tag st epoch result bytes s =
      logAer (.cqWrite q.n) (setQp ({ q.advanceCq with cqFails := false }.halt 0xFFFFFFFA) s) := by
  simp only [writeCq, h, hf, hd, Bool.not_true, Bool.false_eq_true, if_false, if_true]

theorem Qp.advanceCq_rest (q : Qp) : q.advanceCq.n = q.n ∧ q.advanceCq.haltOwed = q.haltOwed ∧
    q.advanceCq.deleting = q.deleting ∧ q.advanceCq.reserved = q.reserved ∧ q.advanceCq.gathered = q.gathered := by
  unfold Qp.advanceCq
  split <;> exact ⟨rfl, rfl, rfl, rfl, rfl⟩

/-- A halt where no order is half gathered keeps the slots reserved. -/
theorem Qp.halt_rest {q : Qp} (cause : BitVec 32) (hg : q.gathered = []) :
    (q.halt cause).n = q.n ∧ (q.halt cause).deleting = q.deleting ∧ (q.halt cause).reserved = q.reserved := by
  unfold Qp.halt
  split
  · exact ⟨rfl, rfl, rfl⟩
  · simp [hg]

section
variable {st : Status} {result bytes : Nat} (ho : s.order? o.uid = some o) (hq : s.qp? o.qp = some q)
include ho hq

/-- While the link stays down a completion writes no entry (R76). -/
theorem complete_down (hh : q.haltOwed = none) (hd : q.deleting = false) (hl : s.linkUp = false) :
    complete o.uid st none result bytes s = dropOrder o.uid s := by
  have hq' : (dropOrder o.uid s).qp? o.qp = some q := hq
  rw [complete_write ho hq, writeCq_down (show (dropOrder o.uid s).linkUp = false from hl), payHalt_none hq' hh, closeQp_open hq' hd]

/-- An entry whose write fails raises no event; it is logged (R84). -/
theorem complete_fails (hd : q.deleting = false) (hl : s.linkUp = true) (hf : q.cqFails = true) (hr : 1 < q.reserved)
    (hg : q.gathered = []) : ∃ q', complete o.uid st none result bytes s =
      logAer (.cqWrite o.qp) (setQp q' (dropOrder o.uid s)) := by
  let q1 : Qp := { q with reserved := q.reserved - 1 }
  let q2 : Qp := { q1.advanceCq with cqFails := false }.halt 0xFFFFFFFA
  obtain ⟨hn1, -, hd1, hr1, hg1⟩ := q1.advanceCq_rest
  obtain ⟨hn2, hd2, hr2⟩ := Qp.halt_rest (q := { q1.advanceCq with cqFails := false }) 0xFFFFFFFA (hg1.trans hg)
  have hn : q2.n = o.qp := (hn2.trans hn1).trans (qp?_n hq :)
  have hq' : (logAer (.cqWrite q1.n) (setQp q2 (dropOrder o.uid s))).qp? o.qp = some q2 :=
    qp?_setQp (s := dropOrder o.uid s) hq hn
  have hres : q2.reserved ≠ 0 := by
    have h : q2.reserved = q.reserved - 1 := hr2.trans hr1
    omega
  refine ⟨q2, ?_⟩
  rw [complete_write ho hq, writeCq_fails (q := q1) (show (dropOrder o.uid s).linkUp = true from hl) hf hd, payHalt_reserved hq' hres,
    closeQp_open hq' ((hd2.trans hd1).trans hd), ← qp?_n hq]

/-- An entry that is written, with its event. -/
theorem complete_up (hh : q.haltOwed = none) (hd : q.deleting = false) (hl : s.linkUp = true) (hf : q.cqFails = false) :
    let q1 : Qp := { q with reserved := q.reserved - 1 }
    let t := complete o.uid st none result bytes s
    t.qp? o.qp = some q1.advanceCq ∧
      SameButEvents { setQp q1.advanceCq s with
        orders := s.orders.filter fun x => x.uid != o.uid
        hostMem := s.hostMem.write (q.cqBase + 32 * q.cqTail)
          (cqEntry q1 o.tag (o.codeOf st) (o.epoch.getD s.press.epoch) result bytes) } t := by
  intro q1
  obtain ⟨hn1, hh1, hd1, -, -⟩ := q1.advanceCq_rest
  let s' : State := { setQp q1.advanceCq s with
    orders := s.orders.filter fun x => x.uid != o.uid
    hostMem := s.hostMem.write (q.cqBase + 32 * q.cqTail)
      (cqEntry q1 o.tag (o.codeOf st) (o.epoch.getD s.press.epoch) result bytes) }
  have hq' : (raiseSample (q1.n.toNat + 1) s').qp? o.qp = some q1.advanceCq := by
    rw [State.qp?, (raiseSample_same _ s').get State.qps fun _ => rfl]
    exact qp?_setQp hq (hn1.trans (qp?_n hq :))
  have hw : complete o.uid st none result bytes s = raiseSample (q1.n.toNat + 1) s' := by
    rw [complete_write ho hq, writeCq_up (q := q1) (show (dropOrder o.uid s).linkUp = true from hl) hf]
    exact (congrArg _ (payHalt_none hq' (hh1.trans hh))).trans (closeQp_open hq' (hd1.trans hd))
  dsimp only
  rw [hw]
  exact ⟨hq', raiseSample_same _ s'⟩

end
end

/-! ### The admission checks -/

theorem admitCheck_guard (h : s.rind.guard = true) (ha : o.admin [0x20] = false)
    (hk : o.kind ≠ .call ∧ o.kind ≠ .run ∨ s.anyOk 40 8 = true) : s.admitCheck o = some .guardActive := by
  have hc : ((o.kind == .call || o.kind == .run) && !s.anyOk 40 8) = false := by
    obtain ⟨hc, hr⟩ | hk := hk
    · simp [hc, hr]
    · simp [hk]
  simp only [State.admitCheck, hc, h, ha, Bool.not_false, Bool.and_self, Bool.false_eq_true, if_false, if_true]

theorem admitCheck_cores (hk : o.kind = .call ∨ o.kind = .run) (h : s.anyOk 40 8 = false) :
    s.admitCheck o = some .noHealthyChannel := by
  have hc : (o.kind == .call || o.kind == .run) = true := by
    obtain hk | hk := hk <;> rw [hk] <;> rfl
  simp only [State.admitCheck, hc, h, Bool.not_false, Bool.and_self, if_true]

/-- Before SERVICE no order that needs a root is served. -/
theorem admitCheck_issued (hg : s.rind.guard = false) (hl : s.vault.lc = .issued)
    (hk : o.kind ∈ [OKind.seal, .park, .unpark, .sector]) : s.admitCheck o = some .lifecycle := by
  have hneeds : (o.kind == .seal || o.kind == .park || o.kind == .unpark || o.kind == .sector) = true := by
    simpa [or_assoc] using hk
  have hcall : (o.kind == .call || o.kind == .run) = false := by
    simp only [List.mem_cons, List.not_mem_nil, or_false] at hk
    obtain hk | hk | hk | hk := hk <;> rw [hk] <;> rfl
  have hbars : s.lifecycleBars o = true := by
    simp only [State.lifecycleBars, hl, hneeds, Bool.true_or]
  simp only [State.admitCheck, hcall, hg, hbars, Bool.false_and, Bool.false_eq_true, if_false, if_true]

end

/-- Settles O42: an admission command by the order chosen, a completion by what becomes of its entry. -/
theorem orderAdmission : Obligations.OrderAdmission := by
  unfold Obligations.OrderAdmission
  intro s n
  refine ⟨fun c o i hi => ?_, fun o s' h => chosen_some s n h, fun o q hc hh hq hn hall => chosen_only s n hc hh hq hn hall,
    fun o rest ho hst ha => ?_, fun x y rest ho hx hy ha => ⟨fun hf => ?_, fun hf hs => ?_, fun hf h0 hs hrest => ?_⟩,
    fun o q st result bytes ho hq hh hd => ⟨fun hl => ?_, fun hl hf hr hg => ?_, fun hl hf => ?_⟩,
    fun o h ha hk => admitCheck_guard s h ha hk, fun o hk h => admitCheck_cores s hk h,
    fun o hg hl hk => admitCheck_issued s hg hl hk⟩
  · obtain ⟨want, k, hexec, hw⟩ := exec_orderRow s n hi
    rw [hexec]
    exact ⟨fun ha hl hch s' hc st hst => by rw [serve_refused k ha hl hch hc hw hst],
      fun h => by rw [serve_asleep s n want k h], fun h => by rw [serve_linkDown s n want k h],
      fun h => by rw [serve_changing s n want k h], fun h => by rw [serve_none s n want k h]⟩
  · rw [State.candidate, ho, pickHeld_first rest hst ha]
  · rw [State.candidate, ho, pickHeld_under_way _ hx]
    exact pickHeld_fence rest hy ha hf
  · rw [State.candidate, ho, pickHeld_under_way _ hx]
    exact pickHeld_free rest hy ha hf hs
  · rw [State.candidate, ho, pickHeld_under_way _ hx, hrest]
    exact pickHeld_session hy ha hf h0 hs
  · rw [complete_down ho hq hh hd hl]
    exact ⟨rfl, rfl, rfl⟩
  · obtain ⟨q', h⟩ := complete_fails (st := st) (result := result) (bytes := bytes) ho hq hd hl hf hr hg
    rw [h]
    exact ⟨rfl, rfl, rfl⟩
  · obtain ⟨hqp, hsame⟩ := complete_up (st := st) (result := result) (bytes := bytes) ho hq hh hd hl hf
    have hmem := hsame.get State.hostMem fun _ => rfl
    refine ⟨hsame.get State.orders fun _ => rfl, hqp, ?_,
      hsame.get State.sessions fun _ => rfl, hsame.get State.vault fun _ => rfl, hsame.get State.press fun _ => rfl,
      hsame.get State.cellar fun _ => rfl, hsame.get State.eng fun _ => rfl⟩
    simp only [Order.codeOf] at hmem
    exact hmem.trans (congrArg (s.hostMem.write _) rfl)

end Sys2Proof.Machine
end


section
/-! OPEN, CLOSE, PARK and UNPARK (05; O43). -/

namespace Sys2Proof.Machine

/-! ### A new session -/

section
variable {s s0 : State} {n : BitVec 8} {o : Order}

theorem Mem.getD_read (m : Mem) {i : Nat} : ∀ {a n : Nat}, i < n → (m.read a n).getD i 0 = m.get (a + i) := by
  induction i with
  | zero =>
    intro a n h
    obtain ⟨n, rfl⟩ := Nat.exists_eq_succ_of_ne_zero (Nat.ne_of_gt h)
    rfl
  | succ i ih =>
    intro a n h
    obtain ⟨n, rfl⟩ := Nat.exists_eq_succ_of_ne_zero (Nat.ne_of_gt (Nat.lt_of_le_of_lt (Nat.zero_le _) h))
    rw [Mem.read, List.getD_cons_succ, ih (Nat.lt_of_succ_lt_succ h), Nat.add_right_comm, Nat.add_assoc]

/-- A byte written is read back. -/
theorem Mem.get_write_inside {m : Mem} {bs : Bytes} {a i : Nat} (hw : m.wf = true) (h : i < bs.length) :
    (m.write a bs).get (a + i) = bs.getD i 0 := by
  rw [← Mem.getD_read _ h, Mem.read_back bs hw]

/-- With fewer than 4,096 sessions a context is free. -/
theorem freeContext_free (h : s.sessions.length < 4096) :
    s.freeContext < 4096 ∧ ∀ y ∈ s.sessions, y.idx ≠ s.freeContext := by
  have hfree : ∃ i, (List.range 4096).find? (fun i => !s.sessions.any fun x => x.idx == i) = some i := by
    rw [← Option.isSome_iff_exists, Option.isSome_iff_ne_none]
    intro hnone
    have hsub : List.range 4096 ⊆ s.sessions.map (·.idx) := fun i hi => by
      have hi' := List.find?_eq_none.1 hnone i hi
      rw [Bool.not_eq_true, Bool.not_eq_false', List.any_eq_true] at hi'
      obtain ⟨x, hx, hxi⟩ := hi'
      exact List.mem_map.2 ⟨x, hx, beq_iff_eq.1 hxi⟩
    have hlen := (List.nodup_range.subperm hsub).length_le
    rw [List.length_range, List.length_map] at hlen
    exact absurd h (Nat.not_lt.2 hlen)
  obtain ⟨i, hi⟩ := hfree
  have hc : s.freeContext = i := by rw [State.freeContext, hi]; rfl
  have hp := List.find?_some hi
  rw [hc]
  refine ⟨List.mem_range.1 (List.mem_of_find?_eq_some hi), fun y hy hyi => ?_⟩
  rw [List.any_eq_true (p := fun x : Session => x.idx == i) |>.2 ⟨y, hy, beq_iff_eq.2 hyi⟩] at hp
  cases hp

theorem freshPage_wf : (freshPage s).1.wf = true := by
  have hw (bs : Bytes) : (Mem.write [] 0 bs).wf = true := Mem.write_keeps bs 0 rfl
  rw [freshPage, hw]

/-- Past its read-only bytes a fresh page is 0. -/
theorem freshPage_rest {a : Nat} (h : 256 ≤ a) : (freshPage s).1.get a = 0 := by
  rw [freshPage, Mem.get_write_outside _ rfl (.inr (by simpa using h))]
  rfl

/-- The session placed in the free context. -/
def placed (qp : BitVec 8) (owner : BitVec 64) (vol : Option Nat) (page : Mem) (s : State) : Session :=
  ⟨s.freeContext, s.genOf s.freeContext, qp, owner, vol, page⟩

/-- With fewer than 4,096 sessions a new one is placed in a context of its own. -/
theorem placed_spec (h : s.sessions.length < 4096) (qp : BitVec 8) (owner : BitVec 64) (vol : Option Nat) (page : Mem) :
    ∃ x, placed qp owner vol page s = x ∧ x.idx < 4096 ∧ (∀ y ∈ s.sessions, y.idx ≠ x.idx) ∧ x.gen = s.genOf x.idx ∧
      x.qp = qp ∧ x.owner = owner ∧ x.vol = vol ∧ x.page = page := by
  obtain ⟨hlt, hne⟩ := freeContext_free h
  refine ⟨_, rfl, ?_⟩
  rw [placed]
  generalize s.freeContext = i at hlt hne ⊢
  exact ⟨hlt, hne, rfl, rfl, rfl, rfl, rfl⟩

/-- The completion that reports a session placed over a fresh page. -/
theorem complete_placed (uid : Nat) (st : Status) (qp : BitVec 8) (owner : BitVec 64) (vol : Option Nat) (page : Mem)
    (s : State) : complete uid st none (placeSession qp owner vol page (freshPage s).2).1.handle.toNat 0
      (placeSession qp owner vol page (freshPage s).2).2 = complete uid st none (placed qp owner vol page s).handle.toNat 0
        { s with sessions := s.sessions ++ [placed qp owner vol page s], freeCtr := s.freeCtr + 256 } := rfl

/-! ### OPEN and CLOSE -/

theorem exec_openSession (h : Admissible s0 n o s) (hk : o.kind = .openS) :
    exec (.openSession n) s0 = .next (openOrder o s) :=
  congrArg Host.Outcome.next (serve_admissible openOrder h (beq_iff_eq.2 hk))

/-- The volume an OPEN names. -/
def Order.openVol (o : Order) : Option Nat := if o.num 32 1 = 1 then some (o.num 36 4) else none

theorem openOrder_volume (h : ∀ v, o.openVol = some v → v ≤ 1023 ∧ s.volumeExists v = true) :
    (o.num 32 1 == 1 && (decide (1023 < o.num 36 4) || !s.volumeExists (o.num 36 4))) = false := by
  by_cases hv : o.num 32 1 = 1
  · obtain ⟨hle, hex⟩ := h (o.num 36 4) (if_pos hv)
    simp [hex, hle]
  · simp [hv]

theorem openOrder_placed (hv : ∀ v, o.openVol = some v → v ≤ 1023 ∧ s.volumeExists v = true)
    (hr : s.sessions.length < 4096) (hk : s.storeKey = true) :
    let x := placed o.qp (BitVec.ofNat 64 (o.num 24 8)) o.openVol (freshPage s).1 s
    openOrder o s = complete o.uid .ok none x.handle.toNat 0
      { s with sessions := s.sessions ++ [x], freeCtr := s.freeCtr + 256 } := by
  have hvol : (if (o.num 32 1 == 1) = true then some (o.num 36 4) else none) = o.openVol := by
    simp only [Order.openVol, beq_iff_eq]
  intro x
  unfold openOrder
  simp only [openOrder_volume hv, Nat.not_le.2 hr, hk, Bool.not_true, Bool.false_eq_true, if_false, hvol]
  rfl

theorem openOrder_exhausted (hv : ∀ v, o.openVol = some v → v ≤ 1023 ∧ s.volumeExists v = true)
    (hr : ¬s.sessions.length < 4096) : openOrder o s = complete o.uid .sessionsExhausted none s.parkable 0 s := by
  unfold openOrder
  simp only [openOrder_volume hv, Nat.not_lt.1 hr, Bool.false_eq_true, if_false, if_true]

theorem openOrder_noVolume {v : Nat} (hv : o.openVol = some v) (h : 1023 < v ∨ s.volumeExists v = false) :
    openOrder o s = refuse o.uid .operandRange s := by
  obtain ⟨hn, rfl⟩ : o.num 32 1 = 1 ∧ o.num 36 4 = v := by
    unfold Order.openVol at hv
    split at hv
    · exact ⟨‹_›, Option.some.inj hv⟩
    · cases hv
  have hb : (o.num 32 1 == 1 && (decide (1023 < o.num 36 4) || !s.volumeExists (o.num 36 4))) = true := by
    simpa [hn] using h
  unfold openOrder
  simp only [hb, if_true]

theorem exec_closeSession (h : Admissible s0 n o s) (hk : o.kind = .closeS) {x : Session}
    (hx : s.session o.session = some x) :
    exec (.closeSession n) s0 = .next (complete o.uid .ok none 0 0 (endSession x s)) := by
  show execCloseSession n s0 = _
  rw [execCloseSession, serve_admissible (want := fun o => o.kind == .closeS) _ h (beq_iff_eq.2 hk)]
  simp only [hx]

/-! ### PARK and UNPARK -/

theorem exec_park (h : Admissible s0 n o s) (hk : o.kind = .park) (faults vfaults : Nat) :
    exec (.park n faults vfaults) s0 = .next (parkOrder faults vfaults o s) :=
  congrArg Host.Outcome.next (serve_admissible _ h (beq_iff_eq.2 hk))

theorem exec_unpark (h : Admissible s0 n o s) (hk : o.kind = .unpark) (faults vfaults : Nat) :
    exec (.unpark n faults vfaults) s0 = .next (unparkOrder faults vfaults o s) :=
  congrArg Host.Outcome.next (serve_admissible _ h (beq_iff_eq.2 hk))

/-- A park blob up to its tag: the context under the key, the serial, eight bytes of 0. -/
def parkBody (key : Bytes) (serial : Nat) (x : Session) : Bytes :=
  fit (Config.aesCtr (kdf key (ascii "PARK-ENC")) (parkBlock serial) x.context) 2048 ++ le serial 8 ++ zeros 8

section
variable (key : Bytes) (serial : Nat) (x : Session)

theorem parkBody_length : (parkBody key serial x).length = 2064 := by
  rw [parkBody, List.length_append, List.length_append, fit_length, le_length, zeros_length]

theorem parkBlob_length : (parkBody key serial x ++ parkTag key (parkBody key serial x)).length = 2112 := by
  rw [List.length_append, parkBody_length, parkTag, fit_length]

theorem parkBlob_serial :
    fld (parkBody key serial x ++ parkTag key (parkBody key serial x)) 2048 8 = serial % 2 ^ 64 := by
  rw [fld, sl_append_left (by rw [parkBody_length]; decide), parkBody, List.append_assoc,
    sl_append_right (Nat.le_of_eq (fit_length ..)), fit_length, sl_zero_append (le_length ..), leN_le]
  rfl

theorem parkBlob_tag : (parkBody key serial x ++ parkTag key (parkBody key serial x)).drop 2064 =
    parkTag key ((parkBody key serial x ++ parkTag key (parkBody key serial x)).take 2064) := by
  rw [List.drop_left' (parkBody_length ..), List.take_left' (parkBody_length ..)]

end

section
variable {key : Bytes} {faults vfaults : Nat}

theorem parkOrder_parked {s1 : State} {x : Session} (hs1 : contextRuns faults vfaults s = s1) (hk : s.storeKey = true) (hd : s.deviceCores = true)
    (hx : s.session o.session = some x) (hkey : s.parkKey = some key)
    (hg : s1.rind.guard = false) :
    let body := parkBody key s1.keys.parkSerial x
    (s1.deviceCores = true → parkOrder faults vfaults o s = complete o.uid (retriedOk (faults + vfaults)) none 0 2112
      (endSession x { s1 with keys := { s1.keys with parkSerial := s1.keys.parkSerial + 1 }
                              hostMem := s1.hostMem.write (o.desc 0).addr (body ++ parkTag key body) })) ∧
      (s1.deviceCores = false → parkOrder faults vfaults o s = refuse o.uid .noHealthyChannel s1) := by
  intro body
  refine ⟨fun hc => ?_, fun hc => ?_⟩
  all_goals
    unfold parkOrder
    simp only [hs1, hx, hkey, hk, hd, Bool.not_true, Bool.or_self, Bool.false_eq_true, if_false, hg]
  · rw [if_neg (by rw [hc]; decide)]
    rfl
  · exact if_pos (by rw [hc]; rfl)

/-- The context a park blob holds under the key. -/
def unparked (key b : Bytes) : Bytes :=
  fit (Config.aesCtr (kdf key (ascii "PARK-ENC")) (parkBlock (fld b 2048 8)) (b.take 2048)) 2048

theorem unparked_length (key b : Bytes) : (unparked key b).length = 2048 := fit_length ..

theorem unparked_eq (key b : Bytes) : fit (Config.aesCtr (kdf key (ascii "PARK-ENC")) (parkBlock (fld b 2048 8))
    (b.take 2048)) 2048 = unparked key b := rfl

/-- The session an unparked context gives. -/
def resumed (qp : BitVec 8) (ctx : Bytes) (s : State) : Session :=
  placed qp (BitVec.ofNat 64 (fld ctx 0 8)) (if fld ctx 8 1 = 1 then some (fld ctx 12 4) else none)
    (Mem.write (freshPage s).1 16 (ctx.drop 16)) s

theorem unparkOrder_noKey (hl : (o.desc 0).len ≤ 2112) (hr : s.sessions.length < 4096) (hkey : s.parkKey = none) :
    unparkOrder faults vfaults o s = refuse o.uid .parkInvalid s := by
  unfold unparkOrder
  simp only [Nat.not_lt.2 hl, Nat.not_le.2 hr, if_false, hkey]

section
variable {s1 : State} {b : Bytes} (hs1 : contextRuns faults vfaults s = s1)
  (hb : s.hostMem.read (o.desc 0).addr 2112 = b) (hl : (o.desc 0).len ≤ 2112) (hr : s.sessions.length < 4096)
  (hd : s.deviceCores = true) (hkey : s.parkKey = some key) (hg : s1.rind.guard = false) (hc : s1.deviceCores = true)
include hs1 hb hl hr hd hkey hg hc

theorem unparkOrder_invalid (h : parkTag key (b.take 2064) ≠ b.drop 2064 ∨ fld (unparked key b) 0 8 ≠ o.num 24 8) :
    unparkOrder faults vfaults o s = refuse o.uid .parkInvalid s1 := by
  unfold unparkOrder
  simp only [hs1, hb, Nat.not_lt.2 hl, Nat.not_le.2 hr, if_false, hkey, hd, if_true, hg, hc, Bool.not_true,
    Bool.false_eq_true, unparked_eq]
  refine if_pos ?_
  simpa only [Bool.or_eq_true, bne_iff_ne] using h

theorem unparkOrder_resumed (ht : parkTag key (b.take 2064) = b.drop 2064) (hf : fld (unparked key b) 0 8 = o.num 24 8)
    (hk : s1.storeKey = true) :
    unparkOrder faults vfaults o s =
      complete o.uid (retriedOk (faults + vfaults)) none (resumed o.qp (unparked key b) s1).handle.toNat 0
        { s1 with sessions := s1.sessions ++ [resumed o.qp (unparked key b) s1], freeCtr := s1.freeCtr + 256 } := by
  unfold unparkOrder
  simp only [hs1, hb, Nat.not_lt.2 hl, Nat.not_le.2 hr, if_false, hkey, hd, if_true, hg, hc, Bool.not_true,
    Bool.false_eq_true, unparked_eq, ht, hf, bne_self_eq_false, Bool.or_self, hk]
  rw [← hf]
  exact complete_placed ..

end

theorem resumed_page {ctx : Bytes} (h : ctx.length = 2048) {a : Nat} (ha : 16 ≤ a) (ha' : a < 2048) :
    (Mem.write (freshPage s).1 16 (ctx.drop 16)).get a = ctx.getD a 0 := by
  obtain ⟨i, rfl⟩ := Nat.exists_eq_add_of_le ha
  rw [Mem.get_write_inside freshPage_wf (by rw [List.length_drop, h]; omega)]
  simp [List.getD_eq_getElem?_getD]

end
end

/-- Settles O43: each order by its own rule on the state it is admitted in. -/
theorem sessionOrders : Obligations.SessionOrders := by
  unfold Obligations.SessionOrders
  intro s0 s n o h vol room
  refine ⟨fun hk hr hkey hv => ?_, fun hk hv hr => ?_, fun hk ⟨v, hv, hx⟩ => ?_,
    fun hk x hx => exec_closeSession h hk hx, fun hk hkey hd x key faults vfaults hx hp => ?_,
    fun hk hl hr hd key faults vfaults hp => ?_, fun hk hl hr hp => ?_⟩
  · obtain ⟨x, hx, hlt, hne, hgen, hqp, howner, hvol, hpage⟩ := placed_spec hr o.qp (BitVec.ofNat 64 (o.num 24 8)) o.openVol
      (freshPage s).1
    have hexec := openOrder_placed hv hr hkey
    rw [hx] at hexec
    rw [exec_openSession h hk]
    exact ⟨x, hlt, hne, hgen, hqp, howner, hvol, fun a ha => by rw [hpage, freshPage_rest ha], rfl, s.freeCtr + 256,
      congrArg Host.Outcome.next hexec⟩
  · rw [exec_openSession h hk, openOrder_exhausted hv hr]
  · rw [exec_openSession h hk, openOrder_noVolume hv hx]
  · intro s1 hg
    have hs1 : contextRuns faults vfaults s = s1 := rfl
    clear_value s1
    obtain ⟨hok, hlost⟩ := parkOrder_parked hs1 hkey hd hx hp hg
    rw [exec_park h hk]
    exact ⟨fun hc => ⟨_, parkBlob_length key s1.keys.parkSerial x, congrArg Host.Outcome.next (hok hc),
      parkBlob_serial .., parkBlob_tag ..⟩,
      fun hc => congrArg Host.Outcome.next (hlost hc)⟩
  · intro s1 hg hc b ctx
    have hs1 : contextRuns faults vfaults s = s1 := rfl
    have hb : s.hostMem.read (o.desc 0).addr 2112 = b := rfl
    have hctx : unparked key b = ctx := rfl
    clear_value ctx b s1
    subst hctx
    rw [exec_unpark h hk]
    refine ⟨fun hx => congrArg Host.Outcome.next (unparkOrder_invalid hs1 hb hl hr hd hp hg hc hx),
      fun ht hf hkey hr' => ?_⟩
    obtain ⟨x, hx, hlt, hne, -, hqp, howner, -, hpage⟩ := placed_spec hr' o.qp (BitVec.ofNat 64 (fld (unparked key b) 0 8))
      (if fld (unparked key b) 8 1 = 1 then some (fld (unparked key b) 12 4) else none)
      (Mem.write (freshPage s1).1 16 ((unparked key b).drop 16))
    have hexec := unparkOrder_resumed hs1 hb hl hr hd hp hg hc ht hf hkey
    rw [resumed, hx] at hexec
    exact ⟨x, hlt, hne, hqp, howner, fun a ha ha' => by rw [hpage, resumed_page (unparked_length key b) ha ha'], s1.freeCtr + 256,
      congrArg Host.Outcome.next hexec⟩
  · rw [exec_unpark h hk, unparkOrder_noKey hl hr hp]

end Sys2Proof.Machine
end


section
/-! ADMIN functions without an officer, and ABORT (03, 05, 12, 13; O45). -/

namespace Sys2Proof.Machine

section
variable {s s0 : State} {n : BitVec 8} {o : Order}

theorem bookSub_eq (h : Admissible s0 n o s) : s0.bookSub o = s.bookSub o := by
  obtain ⟨-, -, -, hc, -⟩ := h
  obtain ⟨-, t, rfl⟩ := chosen_some s0 n hc
  rfl

/-! ### What a read of the Cellar gives -/

theorem cellarRead_good {addr len : Nat} {ecc : Ecc} (k : State → State)
    (h : (groupRead ecc addr s).badRange addr len = false) : cellarRead ecc o addr len s k = k (groupRead ecc addr s) :=
  if_neg (by rw [h]; decide)

theorem cellarRead_bad {addr len : Nat} {ecc : Ecc} (k : State → State)
    (h : (groupRead ecc addr s).badRange addr len = true) :
    cellarRead ecc o addr len s k = refuse o.uid .faultPermanent (badRead addr len (groupRead ecc addr s)) := if_pos h

theorem wakeBank_books (b : Nat) : (wakeBank b s).books = s.books := by
  unfold wakeBank wakeDomainN wakeDomain
  repeat' split
  all_goals rfl

theorem groupRead_book (a b : Nat) : (groupRead .good a s).book b = s.book b :=
  congrArg (vget · b Book.zero) (wakeBank_books (s := s) (bankOf a))

/-! ### STATUS -/

theorem identity_length : s.identity.length = 16 := by
  unfold State.identity identityOf
  split <;> exact fit_length ..

theorem fld_skip {pre b : Bytes} {off len : Nat} (h : pre.length ≤ off) :
    fld (pre ++ b) off len = fld b (off - pre.length) len := by rw [fld, sl_append_right h, fld]

theorem fld_front {pre post : Bytes} {len : Nat} (h : pre.length = len) : fld (pre ++ post) 0 len = leN pre := by
  rw [fld, sl_zero_append h]

/-- The status page of STATUS, for an update counter u. -/
def statusPage (s : State) (u : Nat) : Bytes :=
  le s.lcStatus 4 ++ le s.lsStat 4 ++ le s.press.epoch 8 ++ le u 8 ++ le s.sessions.length 2
    ++ le s.parkable 2 ++ zeros 4 ++ s.identity ++ zeros 16

theorem statusBytes_eq {u : Nat} (h : s.updateCounter = some u) : statusBytes s = (statusPage s u, s) := by
  simp only [statusBytes, h, Option.isNone_some, Bool.false_eq_true, if_false, Option.getD_some, statusPage]

theorem statusPage_length (u : Nat) : (statusPage s u).length = 64 := by
  simp [statusPage, identity_length, zeros_length]

theorem statusPage_fields (u : Nat) : fld (statusPage s u) 0 4 = s.lcStatus % 2 ^ 32 ∧
    fld (statusPage s u) 4 4 = s.lsStat % 2 ^ 32 ∧ fld (statusPage s u) 8 8 = s.press.epoch % 2 ^ 64 ∧
    fld (statusPage s u) 16 8 = u % 2 ^ 64 ∧ fld (statusPage s u) 24 2 = s.sessions.length % 2 ^ 16 ∧
    fld (statusPage s u) 26 2 = s.parkable % 2 ^ 16 := by
  simp [statusPage, List.append_assoc, fld_skip, fld_front, leN_le]

/-! ### The functions (R292, R302, R409) -/

/-- A function that reads a range of the Cellar: done, or FAULT_PERMANENT where the range is uncorrectable. -/
theorem reads_of_cellarRead {i : Ecc → Instr} {addr len r : Nat} {out : Bytes}
    (h : ∀ e, exec (i e) s0 = .next (cellarRead e o addr len s fun s => adminDone o out r s)) (e : Ecc) :
    ((groupRead e addr s).badRange addr len = false →
      exec (i e) s0 = .next (adminDone o out r (groupRead e addr s))) ∧
    ((groupRead e addr s).badRange addr len = true → exec (i e) s0 =
      .next (refuse o.uid .faultPermanent (badRead addr len (groupRead e addr s)))) :=
  ⟨fun hb => by rw [h, cellarRead_good _ hb], fun hb => by rw [h, cellarRead_bad _ hb]⟩

section
variable (h : Admissible s0 n o s)
include h

theorem exec_status (ha : o.admin [1] = true) {u : Nat} (hu : s.updateCounter = some u) :
    exec (.status n) s0 = .next (adminDone o (statusPage s u) 64 s) := by
  show execStatus n s0 = _
  rw [execStatus, serve_admissible (want := fun o => o.admin [1]) _ h ha, statusBytes_eq hu]

theorem exec_getCert (ha : o.admin [2] = true) (e : Ecc) : exec (.getCert n e) s0 =
    .next (cellarRead e o certArea.1 s.certOrRequest.length s fun t =>
      adminDone o s.certOrRequest s.certOrRequest.length t) :=
  congrArg Host.Outcome.next (serve_admissible (want := fun o => o.admin [2]) _ h ha)

theorem exec_getRetirement (ha : o.admin [3] = true) (e : Ecc) {r : Option Bytes}
    (hr : (if (s.vault.lc == .retired) = true then s.lc.retirement else none) = r) :
    exec (.getRetirement n e) s0 = .next (r.elim (adminDone o [] 0 s) fun r =>
      cellarRead e o lifePage.1 lifePage.2 s fun s => adminDone o r r.length s) := by
  show execGetRetirement n s0 e = _
  rw [execGetRetirement, serve_admissible (want := fun o => o.admin [3]) _ h ha]
  rw [hr]
  cases r <;> rfl

theorem exec_timeToken (ha : o.admin [5] = true) : exec (.timeToken n) s0 = .next (timeToken (.order o.uid)
    (s.classOf o) [] (s.descBytes o.inp 64) (.host o.out.addr) 4851 (admitted o s)) :=
  congrArg Host.Outcome.next (serve_admissible (want := fun o => o.admin [5]) _ h ha)

section
variable (ha : o.admin [6] = true) {b : Bytes} (hb : s.hostMem.read o.inp.addr 144 = b)
include ha hb

theorem exec_bookReadHead (hz : zeroAt b 2 6 = true) (h63 : fld b 1 1 ≤ 63) (hs : s.bookSub o = fld b 0 1)
    (h0 : fld b 0 1 = 0) : exec (.bookReadHead n) s0 =
      .next (cellarRead .good o (headAddr (fld b 1 1) + 288) 64 s fun s =>
        adminDone o ((s.book (fld b 1 1)).head.bytes ++ (s.book (fld b 1 1)).config) 192 s) := by
  show execBookReadHead n s0 = _
  rw [execBookReadHead, serve_admissible (want := fun o => o.admin [6] && (s0.bookSub o == 0 || decide (3 < s0.bookSub o))) _ h
    (by simp [ha, bookSub_eq h, hs, h0])]
  simp only [bookRead, hb, hz, h0, Nat.not_lt.2 h63, Bool.not_true, Nat.not_lt_zero, decide_false, Bool.or_self,
    Bool.false_eq_true, if_false]

/-- BOOK_READ of a wheel: by what its input names. -/
theorem exec_bookReadWheel (e : Ecc) (hs : s.bookSub o = fld b 0 1) (h1 : fld b 0 1 = 1) :
    exec (.bookReadWheel n e) s0 = .next (
      if zeroAt b 2 6 = false then refuse o.uid .badFormat s
      else if 63 < fld b 1 1 then refuse o.uid .operandRange s
      else ((s.book (fld b 1 1)).pressedWheel (fld b 8 8)).elim (refuse o.uid .operandRange s) fun r =>
        cellarRead e o (placeAddr (fld b 1 1) (fld b 8 8 % 2)) 4800 s fun s => adminDone o r 4800 s) := by
  show execBookReadWheel n s0 e = _
  rw [execBookReadWheel, serve_admissible (want := fun o => o.admin [6] && s0.bookSub o == 1) _ h
    (by simp [ha, bookSub_eq h, hs, h1])]
  have h3 : ¬3 < fld b 0 1 := by omega
  simp only [bookRead, hb, h3, decide_false, Bool.or_false, Bool.not_eq_true']
  cases (s.book (fld b 1 1)).pressedWheel (fld b 8 8) <;> rfl

theorem exec_bookReadGap (e : Ecc) (hz : zeroAt b 2 6 = true) (h63 : fld b 1 1 ≤ 63) (hs : s.bookSub o = fld b 0 1)
    (h2 : fld b 0 1 = 2) : exec (.bookReadGap n e) s0 = .next ((s.book (fld b 1 1)).gapRec.elim (adminDone o [] 0 s) fun r =>
      cellarRead e o (headAddr (fld b 1 1) + 352) 128 s fun s => adminDone o r 128 s) := by
  show execBookReadGap n s0 e = _
  rw [execBookReadGap, serve_admissible (want := fun o => o.admin [6] && s0.bookSub o == 2) _ h
    (by simp [ha, bookSub_eq h, hs, h2])]
  have h3 : ¬3 < fld b 0 1 := by omega
  simp only [bookRead, hb, hz, h3, Nat.not_lt.2 h63, decide_false, Bool.not_true, Bool.or_self, Bool.false_eq_true, if_false]
  cases (s.book (fld b 1 1)).gapRec <;> rfl

/-- CHECK: a receipt of a generation to come is refused before any run. -/
theorem exec_bookReadCheck (faults : Nat) (hz : zeroAt b 2 6 = true) (h63 : fld b 1 1 ≤ 63)
    (hs : s.bookSub o = fld b 0 1) (h3 : fld b 0 1 = 3) : exec (.bookReadCheck n faults) s0 = .next (
      if (s.book (fld b 1 1)).gen < fld (sl b 16 128) 8 4 then refuse o.uid .operandRange s
      else
        let s1 := if s.keyedOk then ownSegs true 1 1 (ownFaults true true faults s) else s
        if s1.rind.guard then s1
        else if !s1.keyedOk then refuse o.uid .noHealthyChannel s1
        else if receiptOk s1 (fld b 1 1) (sl b 16 128) then adminDone o [] 0 s1 (retriedOk faults)
        else refuse o.uid .tagFail s1) := by
  show execBookReadCheck n s0 faults = _
  rw [execBookReadCheck, serve_admissible (want := fun o => o.admin [6] && s0.bookSub o == 3) _ h
    (by simp [ha, bookSub_eq h, hs, h3])]
  have hlt : ¬3 < fld b 0 1 := by omega
  simp only [bookRead, hb, hz, hlt, Nat.not_lt.2 h63, decide_false, Bool.not_true, Bool.or_self, Bool.false_eq_true, if_false]

end
end

/-! ### ABORT (R103) -/

section
variable (ha : s.awake = true) (ho : s.orders.find? (fun o => o.qp == n && o.st == .held && o.isAbort) = some o)
include ha ho

theorem exec_abort_refused {st : Status} (hst : s.admitCheck o = some st) :
    exec (.abort n) s = .next (refuse o.uid st s) := by
  show execAbort n s = _
  simp only [execAbort, ha, ho, hst, Bool.not_true, Bool.false_eq_true, if_false]

theorem exec_abort (hst : s.admitCheck o = none) {s1 : State} (hs1 : admitted o s = s1) :
    exec (.abort n) s = .next (complete o.uid .ok none (abortTarget o s1).1 0 (abortTarget o s1).2) := by
  show execAbort n s = _
  simp only [execAbort, ha, ho, hst, hs1, Bool.not_true, Bool.false_eq_true, if_false]

end

/-- The order an ABORT names. -/
def abortNames (o : Order) (s : State) : Option Order :=
  s.orders.find? fun x => x.qp == o.qp && x.tag == BitVec.ofNat 64 (o.num 32 8) && x.uid != o.uid

section
variable {x : Order} (hx : abortNames o s = some x)
include hx

theorem abortTarget_named : abortTarget o s = abortOrder x s := by
  rw [abortNames] at hx
  simp only [abortTarget, hx]

theorem abortTarget_held (h : x.st = .held) : abortTarget o s = (1, refuse x.uid .aborted s) := by
  simp only [abortTarget_named hx, abortOrder, h]

theorem abortTarget_sector (h : x.st = .admitted) (hk : x.kind = .sector) : abortTarget o s =
    (2, stopCards (.order x.uid) (stopJobs (fun j => j.ref == .order x.uid) s)) := by
  simp only [abortTarget_named hx, abortOrder, h, hk]

theorem abortTarget_frame (h : x.st = .admitted) (hk : x.kind = .call ∨ x.kind = .run) {c f : Nat}
    (hf : s.frameOf x.uid = some (c, f)) : abortTarget o s = (2, reapCards (endFrame c f .aborted s)) := by
  obtain hk | hk := hk <;> simp only [abortTarget_named hx, abortOrder, h, hk, hf]

/-- What cannot be stopped runs on. -/
theorem abortTarget_runs (h : x.st = .forwarded ∨ x.st = .admitted ∧ x.kind ∉ [OKind.sector, .call, .run]) :
    abortTarget o s = (3, s) := by
  rw [abortTarget_named hx]
  obtain h | ⟨h, hk⟩ := h
  · simp only [abortOrder, h]
  · simp only [abortOrder, h]
    cases hxk : x.kind <;> simp_all

end

theorem abortTarget_missing (hx : abortNames o s = none) (hg : ∀ q, s.qp? o.qp = some q → q.gathered = []) :
    abortTarget o s = (0, s) := by
  rw [abortNames] at hx
  simp only [abortTarget, hx]
  cases hq : s.qp? o.qp with
  | none => rfl
  | some q => exact if_neg (by simp [hg q hq])

end

/-- Settles O45: each ADMIN function by what it reads, ABORT by the state of the order it names. -/
theorem adminFunctions : Obligations.AdminFunctions := by
  unfold Obligations.AdminFunctions
  refine ⟨fun s0 s n o h => ?_, fun s n o ha ho => ?_⟩
  · intro doneAt done reads b book
    have hb : s.hostMem.read o.inp.addr 144 = b := rfl
    refine ⟨fun ha hu => ?_, fun ha => ?_, fun ha hl r hr => ?_, fun ha hl => ?_, fun ha => exec_timeToken h ha,
      fun ha hz h63 hs => ⟨fun h0 => ?_, fun h1 r hr => ?_, fun h1 hr => ?_, fun h2 r hr => ?_, fun h2 hr => ?_,
        fun h3 => ?_⟩, fun ha hs h1 => ⟨fun hz => ?_, fun hz h63 => ?_⟩⟩
    · obtain ⟨u, hu⟩ := Option.ne_none_iff_exists'.1 hu
      obtain ⟨f0, f4, f8, f16, f24, f26⟩ := statusPage_fields (s := s) u
      refine ⟨statusPage s u, exec_status h ha hu, statusPage_length u, f0, f4, f8, fun v hv => ?_, f24, f26⟩
      rw [hu] at hv
      cases hv
      exact f16
    · exact reads_of_cellarRead (exec_getCert h ha)
    · exact reads_of_cellarRead fun e => exec_getRetirement (r := some r) h ha e (by rw [hl, hr]; rfl)
    · exact exec_getRetirement (r := none) h ha .good (if_neg (by simpa using hl))
    · intro w
      rw [exec_bookReadHead h ha hb hz h63 hs h0]
      refine ⟨fun hbad => ?_, fun hbad => by rw [cellarRead_bad _ hbad]⟩
      rw [cellarRead_good _ hbad, groupRead_book]
      rfl
    · refine reads_of_cellarRead fun e => ?_
      rw [exec_bookReadWheel h ha hb e hs h1, if_neg (by simp [hz]), if_neg (Nat.not_lt.2 h63), hr]
      rfl
    · rw [exec_bookReadWheel h ha hb .good hs h1, if_neg (by simp [hz]), if_neg (Nat.not_lt.2 h63), hr]
      rfl
    · refine reads_of_cellarRead fun e => ?_
      rw [exec_bookReadGap h ha hb e hz h63 hs h2, hr]
      rfl
    · rw [exec_bookReadGap h ha hb .good hz h63 hs h2, hr]
      rfl
    · intro r
      refine ⟨fun hgen => by rw [exec_bookReadCheck h ha hb 0 hz h63 hs h3, if_pos hgen], fun hgen hk faults => ?_⟩
      intro s1 hg
      have hs1 : (if s.keyedOk then ownSegs true 1 1 (ownFaults true true faults s) else s) = s1 := if_pos hk
      rw [exec_bookReadCheck h ha hb faults hz h63 hs h3, if_neg (Nat.not_lt.2 hgen), hs1]
      clear_value s1
      simp only [hg, Bool.false_eq_true, if_false]
      exact ⟨fun hk => by rw [if_pos (by simp [hk])],
        fun hk hok => by rw [if_neg (by simp [hk]), if_pos hok]; rfl,
        fun hk hok => by rw [if_neg (by simp [hk]), if_neg (Bool.eq_false_iff.1 hok)]⟩
    · rw [exec_bookReadWheel h ha hb .good hs h1, if_pos hz]
    · rw [exec_bookReadWheel h ha hb .good hs h1, if_neg (by simp [hz]), if_pos h63]
  · intro s1 target
    have hs1 : admitted o s = s1 := rfl
    refine ⟨fun st hst => exec_abort_refused ha ho hst, fun hst x hx => ⟨fun h => ?_, fun h hk => ?_,
      fun h hk c f fr hf _ => ?_, fun h => ?_⟩, fun hst hx hg => ?_⟩
    all_goals rw [exec_abort ha ho hst hs1]
    · rw [abortTarget_held hx h]
    · rw [abortTarget_sector hx h hk]
    · rw [abortTarget_frame hx h hk hf]
    · rw [abortTarget_runs hx h]
    · rw [abortTarget_missing hx hg]

end Sys2Proof.Machine
end


section
/-! The commands that take up an officer order (03, 08; O46). -/

namespace Sys2Proof.Machine

section
variable {s s0 : State} {n : BitVec 8} {o : Order}

theorem bodyType_eq (h : Admissible s0 n o s) : s0.bodyType o = s.bodyType o := by
  obtain ⟨-, -, -, hc, -⟩ := h
  obtain ⟨-, t, rfl⟩ := chosen_some s0 n hc
  rfl

/-- An officer order's row, the BOOK_CLOSE one too. -/
theorem exec_officerRow {t : Nat} {b : Body} {i : Instr}
    (hi : OfficerRow n t b i ∨ t = 0x4A ∧ b = bookCloseBody ∧ i = .bookClose n) (s : State) :
    exec i s = .next (officerRow t b n s) := by
  obtain hi | ⟨rfl, rfl, rfl⟩ := hi
  · unfold OfficerRow at hi
    obtain ⟨rfl, rfl, rfl⟩ | ⟨rfl, rfl, rfl⟩ | ⟨rfl, rfl, rfl⟩ | ⟨rfl, rfl, rfl⟩ | ⟨rfl, rfl, rfl⟩ | ⟨rfl, rfl, rfl⟩ |
      ⟨rfl, rfl, rfl⟩ | ⟨rfl, rfl, rfl⟩ | ⟨rfl, rfl, rfl⟩ | ⟨rfl, rfl, rfl⟩ | ⟨rfl, rfl, rfl⟩ | ⟨rfl, rfl, rfl⟩ |
      ⟨rfl, rfl, rfl⟩ | ⟨rfl, rfl, rfl⟩ | ⟨rfl, rfl, rfl⟩ | ⟨rfl, rfl, rfl⟩ | ⟨rfl, rfl, rfl⟩ | ⟨rfl, rfl, rfl⟩ |
      ⟨rfl, rfl, rfl⟩ | ⟨rfl, rfl, rfl⟩ | ⟨rfl, rfl, rfl⟩ | ⟨rfl, rfl, rfl⟩ | ⟨rfl, rfl, rfl⟩ | ⟨rfl, rfl, rfl⟩ := hi
    all_goals rfl
  · rfl

/-- A status with no count completes an order as a refusal. -/
theorem finish_refused (uid : Nat) (st : Status) (s : State) : finish (.order uid) st 0 0 s = refuse uid st s := by
  have hf (k : OKind) : orderFields k st 0 0 = (0, 0) := by
    unfold orderFields
    repeat' split
    all_goals rfl
  unfold finish refuse complete
  cases ho : s.order? uid <;> simp only [ho, hf]

/-- An admissible officer order is decided by its envelope and its body (R175). -/
theorem officerRow_decides (h : Admissible s0 n o s) {t : Nat} {b : Body} (ha : o.admin [0x20] = true)
    (ht : rowType (s.bodyType o) = t) (hg : s.rind.guard = false) (hf : s.syncFollower = false)
    (hs : s.staleFollower = false) : officerRow t b n s0 = officer b (o.officer s) (admitted o) s := by
  have hw : (o.admin [0x20] && rowType (s0.bodyType o) == t) = true := by
    rw [ha, bodyType_eq h, ht, beq_self_eq_true, Bool.and_self]
  rw [officerRow, serve_admissible (want := fun o => o.admin [0x20] && rowType (s0.bodyType o) == t) _ h hw]
  simp only [hg, hf, hs, Bool.false_and, Bool.false_eq_true, if_false]

section
variable {b : Body} {r : OffReq} {ok : State → State} {sv : State} (hv : verifyRuns b r s = sv)
include hv

theorem officer_refused {st : Status} (h : envRefused sv b r = some st) : officer b r ok s =
    finish r.ref st 0 0 (if st = .faultPermanent ∧ sv.updateCounter ≠ none
      then badRead officerArea.1 officerArea.2 sv else sv) := by
  have hif : (st == .faultPermanent && sv.updateCounter.isSome) = true ↔
      st = .faultPermanent ∧ sv.updateCounter ≠ none := by
    rw [Bool.and_eq_true, beq_iff_eq, Option.isSome_iff_ne_none]
  simp only [officer, hv, h, hif]

/-- A body for the twin alone presses only the counter here. -/
theorem officer_twin (h : envRefused sv b r = none) (hn : namesOwn sv r.env = false)
    (hd : b.device (envBody r.env) = true) :
    officer b r ok s = enqueue (officerPress sv r ⟨[], [], none⟩) (ok sv) := by
  simp only [officer, hv, h, hn, hd, Bool.not_false, Bool.and_self, if_true]

theorem officer_decided (h : envRefused sv b r = none)
    (hn : namesOwn sv r.env = true ∨ b.device (envBody r.env) = false) :
    officer b r ok s = match b.make r (envBody r.env) sv with
      | .error e => finish r.ref e.st 0 0 (e.slot.elim (e.s.getD sv) fun n => slotRefused n e.st (e.s.getD sv))
      | .ok (m, s') => enqueue (officerPress s' r m) (ok s') := by
  have hb : (!namesOwn sv r.env && b.device (envBody r.env)) = false := by
    obtain h | h := hn <;> simp [h]
  simp only [officer, hv, h, hb, Bool.false_eq_true, if_false] <;> rfl

end

theorem officerPress_spec {r : OffReq} {a : Nat} (hr : r.out = .host a) (m : Made) :
    (officerPress s r m).origin = r.ref ∧
      (officerPress s r m).items = m.items ++ (if envCount r.env = 0 then [] else [.updInc]) ∧
      (officerPress s r m).outs = if m.out = [] then [] else [(a, m.out)] := by
  refine ⟨rfl, rfl, ?_⟩
  simp only [officerPress, hr, List.isEmpty_iff, Option.map_some, Option.toList_some]

/-! ### PERSONALISE and CERT_INSTALL -/

theorem exec_personalise (h : Admissible s0 n o s) (ha : o.admin [0x10] = true) (hc : s.lc.cert ≠ none)
    (hl : o.inp.len ≤ 32 + 7432 * 255) {b : Bytes} (hb : s.hostMem.read o.inp.addr o.inp.len = b)
    (hlay : officersLayout 1 b = true) (hbad : firstOf (officersBad s b) = none) :
    exec (.personalise n) s0 = .next (enqueue { Press.of [officersItem b, .updSet 0, .lifeCycle .service]
      (.order o.uid) with result := some 0 } (admitted o s)) := by
  have hcert : s.lc.cert.isNone = false := by
    obtain ⟨c, hc⟩ := Option.ne_none_iff_exists'.1 hc
    rw [hc]
    rfl
  have hfirst : firstOf ((!officersLayout 1 b, .badFormat) :: officersBad s b) = none := by
    rw [hlay, firstOf, List.find?_cons_of_neg (by decide)]
    exact hbad
  show execPersonalise n s0 = _
  rw [execPersonalise, serve_admissible (want := fun o => o.admin [0x10]) _ h ha]
  simp only [personaliseOrder, hl, if_true, hb, hcert, Bool.false_eq_true, if_false, hfirst]

theorem exec_certInstall (h : Admissible s0 n o s) (ha : o.admin [0x11] = true) {c : Bytes}
    (hc : s.hostMem.read o.inp.addr 9131 = c) : exec (.certInstall n) s0 = .next (
      match firstOf [(decide (3 < fld c 28 4), .operandRange), (!matchesRequest c s.lc.request, .badOrder),
        (!s.lanesOk, .noHealthyChannel), (!Config.vendorVerify (fld c 28 4) (c.take 4408) (c.drop 4408), .orderSignature)] with
      | some st => refuse o.uid st s
      | none => enqueue { Press.of [.cert c] (.order o.uid) with result := some 0 } (admitted o s)) := by
  show execCertInstall n s0 = _
  rw [execCertInstall, serve_admissible (want := fun o => o.admin [0x11]) _ h ha, certOrder, hc] <;> rfl

end

/-- Settles O46: an officer order by its envelope and what its body makes; PERSONALISE and CERT_INSTALL by their checks. -/
theorem officerOrders : Obligations.OfficerOrders := by
  unfold Obligations.OfficerOrders
  intro s0 s n o h _
  refine ⟨fun t b i hi ha ht hg hf hs => ?_, fun ha hc hl => ?_, fun ha => ?_⟩
  · have hexec : exec i s0 = .next (officer b (o.officer s) (admitted o) s) := by
      rw [exec_officerRow (hi.imp_right fun ⟨ht, hb, hi, _⟩ => ⟨ht, hb, hi⟩) s0, officerRow_decides h ha ht hg hf hs]
    intro r sv s1
    have hv : verifyRuns b r s = sv := rfl
    have href : r.ref = .order o.uid := rfl
    have hout : r.out = .host o.out.addr := rfl
    have hr : o.officer s = r := rfl
    have hs1 : admitted o sv = s1 := rfl
    rw [hexec, hr]
    clear_value s1 sv r
    refine ⟨fun st hst => ?_, fun hn hd => ⟨fun m s2 hm => ?_, fun st t hm => ?_⟩, fun hn hd hb => ?_⟩
    · rw [officer_refused hv hst, href, finish_refused]
    · obtain ⟨ho, hit, hou⟩ := officerPress_spec (s := s2) hout m
      refine ⟨officerPress s2 r m, ?_, ho.trans href, hit, hou⟩
      rw [officer_decided hv hn hd, hm]
      rfl
    · rw [officer_decided hv hn hd, hm]
      dsimp only
      rw [href, finish_refused]
      rfl
    · obtain ⟨ho, hit, -⟩ := officerPress_spec (s := sv) hout ⟨[], [], none⟩
      refine ⟨officerPress sv r ⟨[], [], none⟩, ?_, ho.trans href, hit⟩
      rw [officer_twin hv hn hd hb, hs1]
  · intro b hlay hbad
    exact ⟨_, exec_personalise h ha hc hl rfl hlay hbad, rfl, rfl⟩
  · intro c
    have hc : s.hostMem.read o.inp.addr 9131 = c := rfl
    rw [exec_certInstall h ha hc]
    clear_value c
    refine ⟨fun h3 => ?_, fun h3 hm => ?_, fun h3 hm hl hv => ?_, fun h3 hm hl hv => ?_⟩
    · simp [firstOf, h3]
    · simp [firstOf, Nat.not_lt.2 h3, hm]
    · simp [firstOf, Nat.not_lt.2 h3, hm, hl, hv]
    · refine ⟨{ Press.of [.cert c] (.order o.uid) with result := some 0 }, ?_, rfl, rfl⟩
      simp [firstOf, Nat.not_lt.2 h3, hm, hl, hv]
      rfl

end Sys2Proof.Machine
end


section
/-! The start at RESET_N release (03, 04; O50). -/

namespace Sys2Proof.Machine

section
variable (s : State)

/-! ### The last (R64) -/

theorem vget_of_getElem? {α : Type} {n : Nat} {v : Vector α n} {i : Nat} {x : α} (d : α) (h : v[i]? = some x) :
    vget v i d = x := by
  rw [vget, List.getD_eq_getElem?_getD, Vector.getElem?_toList, h, Option.getD_some]

section
variable {s} (balls : BitVec 2) (pend : Option (BitVec 2)) {r : Last}

theorem selectLast_good (hr : s.lasts[(pend.getD balls).toNat]? = some (some r)) (hd : r.digestOk = true) :
    selectLast balls pend s = { s with
      active := { r with number := pend.getD balls }, ls := ⟨pend.getD balls, false, pend.isSome⟩
      ev := Events.ofLast r, power := { s.power with holdWarm := r.holdWarm } } := by
  simp only [selectLast, vget_of_getElem? none hr, hd, if_true, Bool.false_eq_true, if_false]

/-- Without a good record the base last is active, and the health log tells. -/
theorem selectLast_base (hr : s.lasts[(pend.getD balls).toNat]? = some none ∨
      (s.lasts[(pend.getD balls).toNat]? = some (some r) ∧ r.digestOk = false)) :
    selectLast balls pend s = healthLog 6 0xFF (pend.getD balls).toNat { s with
      active := { baseLast with number := pend.getD balls }, ls := ⟨pend.getD balls, true, pend.isSome⟩
      ev := Events.ofLast { baseLast with number := pend.getD balls }
      power := { s.power with holdWarm := baseLast.holdWarm } } := by
  obtain hr | ⟨hr, hd⟩ := hr
  · simp only [selectLast, vget_of_getElem? none hr, if_true]
  · simp only [selectLast, vget_of_getElem? none hr, hd, Bool.false_eq_true, if_false, if_true]

end

theorem healthLog_rest (event subject detail : Nat) : (healthLog event subject detail s).active = s.active ∧
    (healthLog event subject detail s).ls = s.ls ∧ (healthLog event subject detail s).smb.alert = true :=
  ⟨(raiseSample_same 275 _).get State.active fun _ => rfl, (raiseSample_same 275 _).get State.ls fun _ => rfl,
    (raiseSample_same 275 _).get (fun s => s.smb.alert) fun _ => rfl⟩

/-! ### The life cycle (R42, R43, R45) -/

section
variable {s}

theorem startLifecycle_test (h : s.vault.lc = .manufacture ∨ s.vault.lc = .test) (cut : Bool) :
    startLifecycle true cut s = { s with vault := { s.vault.become .test with root0 := none, root1 := none } } := by
  obtain h | h := h <;> simp only [startLifecycle, h, if_true]

theorem startLifecycle_first (h : s.vault.lc = .manufacture ∨ s.vault.lc = .test) (cut : Bool) :
    startLifecycle false cut s = firstStart cut s := by
  obtain h | h := h <;> simp only [startLifecycle, h, Bool.false_eq_true, if_false]

/-- The state at a first start, its root erased. -/
def unrooted (s : State) : State :=
  { s with vault := { (if s.vault.lc == .manufacture then s.vault else s.vault.become .manufacture) with
    root0 := none, root1 := none } }

theorem unrooted_vault : (unrooted s).vault.lc = .manufacture ∧ (unrooted s).vault.root = none := by
  unfold unrooted
  split
  next h => exact ⟨beq_iff_eq.1 h, rfl⟩
  · exact ⟨rfl, rfl⟩

theorem firstStart_waits (cut : Bool) (h : s.drbg.noise0 = false ∨ s.drbg.noise1 = false) :
    firstStart cut s = { unrooted s with lc := { s.lc with firstStart := true } } := by
  have hn : ¬(s.drbg.noise0 && s.drbg.noise1) = true := by
    obtain h | h := h <;> simp [h]
  exact if_neg hn

section
variable (h0 : s.drbg.noise0 = true) (h1 : s.drbg.noise1 = true)
include h0 h1

/-- A first start cut short leaves its root in the vault (logs 81, 173). -/
theorem firstStart_cut : (firstStart true s).vault.lc = .manufacture ∧
    (firstStart true s).vault.root = some (s.drbgBytes 32).1 ∧ (firstStart true s).lc.lcRecord = s.lc.lcRecord := by
  have hn : (s.drbg.noise0 && s.drbg.noise1) = true := by rw [h0, h1]; rfl
  unfold firstStart
  simp only [hn, if_true]
  exact ⟨unrooted_vault.1, rfl, rfl⟩

theorem firstStart_whole :
    let t := firstStart false s
    t.vault.lc = .issued ∧ t.vault.root = some (s.drbgBytes 32).1 ∧ t.time.t = 0 ∧ t.press.epoch = 0 ∧ t.lc.officers = [] ∧
      t.updateCounter = some 0 ∧ t.cellar.slots = [] ∧ t.brine.entries = [] ∧ t.lc.cert = none ∧
      t.lc.lcRecord = some .issued ∧ t.welt.role = .unpaired := by
  have hn : (s.drbg.noise0 && s.drbg.noise1) = true := by rw [h0, h1]; rfl
  unfold firstStart
  simp only [hn, if_true, Bool.false_eq_true, if_false]
  exact ⟨rfl, rfl, trivial, trivial, trivial, Copies.read_both 0, trivial, trivial, trivial, trivial, rfl⟩

end

theorem startLifecycle_retired (test cut : Bool) (h : s.vault.lc = .retired) : startLifecycle test cut s = s := by
  simp only [startLifecycle, h]

theorem startLifecycle_service (test cut : Bool) (h : s.vault.lc = .service) (hr : s.lc.lcRecord = some .service) :
    startLifecycle test cut s =
      if s.updateCounter.isNone || !s.ringOk then { s with vault := (s.vault.become .service).become .recovery }
      else { s with vault := s.vault.become .service } := by
  simp only [startLifecycle, h, hr]
  rfl

/-- A twin record of RETIRED retires this device. -/
theorem startLifecycle_retires (test cut : Bool) (h : s.vault.lc = .service ∨ s.vault.lc = .recovery ∨ s.vault.lc = .issued)
    (hr : s.lc.lcRecord = some .retired) : startLifecycle test cut s = retireDevice 1 0 s := by
  have hlc : (retireDevice 1 0 s).vault.lc = .retired := rfl
  have hne : (Lifecycle.retired == .service) = false := rfl
  obtain h | h | h := h <;> simp only [startLifecycle, h, hr, hlc, hne, Bool.false_and, Bool.false_eq_true, if_false]

theorem readVault_some {l : Lifecycle} (h : s.vault.word.read = some l) :
    readVault s = { s with vault := { s.vault with lc := l } } := by
  simp only [readVault, h]

theorem readVault_none (h : s.vault.word.read = none) : (readVault s).vault.lc = .retired := by
  simp only [readVault, h]
  split
  next hl => exact beq_iff_eq.1 hl
  · rfl

end
end

/-- Settles O50: RESET_N, the last, the vault's word, and the life cycle by the state the vault is in. -/
theorem startSequence : Obligations.StartSequence := by
  unfold Obligations.StartSequence
  intro s
  refine ⟨fun f h => ?_, fun f h => ?_, fun balls pend r => ⟨fun hr hd => ?_, fun hr => ?_⟩,
    fun h => ⟨fun cut => startLifecycle_test h cut, fun h0 h1 => ?_, fun h0 h1 => ?_, fun hn cut => ?_⟩,
    fun l => readVault_some, readVault_none, fun test cut => startLifecycle_retired test cut,
    fun test cut h hr => ⟨fun ⟨hu, hring⟩ => ?_, fun hx => ?_⟩, fun test cut h hr => ?_⟩
  · exact congrArg Host.Outcome.next (if_pos (beq_iff_eq.2 h))
  · exact congrArg Host.Outcome.next (if_neg (by simpa using h))
  · rw [selectLast_good balls pend hr hd]
    exact ⟨rfl, rfl, rfl, rfl⟩
  · rw [selectLast_base balls pend hr]
    exact healthLog_rest _ _ _ _
  · rw [startLifecycle_first h]
    exact firstStart_cut h0 h1
  · rw [startLifecycle_first h]
    exact firstStart_whole h0 h1
  · rw [startLifecycle_first h, firstStart_waits cut hn]
    exact ⟨unrooted_vault.1, rfl, unrooted_vault.2⟩
  · rw [startLifecycle_service test cut h hr, if_neg]
    · rfl
    · simp [hring, Option.isNone_iff_eq_none, hu]
  · rw [startLifecycle_service test cut h hr, if_pos]
    · rfl
    · obtain hx | hx := hx <;> simp [hx]
  · rw [startLifecycle_retires test cut h hr]
    exact ⟨rfl, rfl⟩

end Sys2Proof.Machine
end


section
/-! Frames of the Welt (17; O53). -/

namespace Sys2Proof.Machine

section
variable {s : State} {fr : Frame} (act : State → State)

/-! ### In sequence over a trained lane, or not -/

theorem weltFrame_off (h : s.welt.link = false ∨ fr.lane ∉ s.welt.lanes) : weltFrame fr act s = s := by
  refine if_pos ?_
  obtain h | h := h <;> simp [h]

theorem chanOp_good_welt (i : Nat) (s : State) : (chanOp i false s).welt = s.welt := rfl

section
variable (hl : s.welt.link = true) (hm : fr.lane ∈ s.welt.lanes)
include hl hm

theorem weltFrame_on : weltFrame fr act s =
    let i := 52 + fr.lane.val
    if !fr.crcOk then
      let s := chanOp i true (weltCtl 0x04 s)
      if s.welt.lanes.isEmpty then endLink s else s
    else
      let s := chanOp i false s
      if !fr.tagOk || decide (fr.seq < s.welt.rxSeq) then breakSession s
      else if fr.seq ≠ s.welt.rxSeq then s
      else
        let s := { s with welt := { s.welt with rxSeq := s.welt.rxSeq + 1 } }
        if s.welt.term < fr.term then endLink (higherTerm fr.term s)
        else if fr.term < s.welt.term then s
        else act s :=
  if_neg (by simp [hl, hm])

/-- A tag that fails, or a sequence number used before, ends the session. -/
theorem weltFrame_broken (hc : fr.crcOk = true) (h : fr.tagOk = false ∨ fr.seq < s.welt.rxSeq) :
    weltFrame fr act s = breakSession (chanOp (52 + fr.lane.val) false s) := by
  have hb : (!fr.tagOk || decide (fr.seq < (chanOp (52 + fr.lane.val) false s).welt.rxSeq)) = true := by
    rw [chanOp_good_welt]
    obtain h | h := h <;> simp [h]
  simp only [weltFrame_on act hl hm, hc, Bool.not_true, Bool.false_eq_true, if_false, hb, if_true]

section
variable (hc : fr.crcOk = true) (ht : fr.tagOk = true) (hs : fr.seq = s.welt.rxSeq)
include hc ht hs

theorem weltFrame_seq : weltFrame fr act s =
    if s.welt.term < fr.term then endLink (higherTerm fr.term (inSequence s fr))
    else if fr.term < s.welt.term then inSequence s fr else act (inSequence s fr) := by
  have hb : (!fr.tagOk || decide (fr.seq < (chanOp (52 + fr.lane.val) false s).welt.rxSeq)) = false := by
    rw [chanOp_good_welt, ht, hs]
    simp
  have hs' : ¬fr.seq ≠ (chanOp (52 + fr.lane.val) false s).welt.rxSeq := not_not.2 hs
  simp only [weltFrame_on act hl hm, hc, Bool.not_true, Bool.false_eq_true, if_false, hb, hs']
  rfl

theorem weltFrame_higher (h : s.welt.term < fr.term) :
    weltFrame fr act s = endLink (higherTerm fr.term (inSequence s fr)) := by
  rw [weltFrame_seq act hl hm hc ht hs, if_pos h]

end
end

/-- A frame received in sequence acts. -/
theorem weltFrame_received (h : Received s fr) : weltFrame fr act s = act (inSequence s fr) := by
  obtain ⟨hl, hm, hc, ht, hs, hterm⟩ := h
  have hlt : ¬fr.term < fr.term := BitVec.lt_irrefl _
  rw [weltFrame_seq act hl hm hc ht hs, ← hterm, if_neg hlt, if_neg hlt]

end

section
variable {s : State} {fr : Frame}

/-- Every frame of the Welt is taken by the same rule. -/
theorem exec_welt {acked epoch seq last twinUnc first uc : Nat} {ref : BitVec 64} {p : PressPiece} {us : List BrineUpdate}
    {st : BitVec 16} {r by_ : BitVec 32} {out : Bytes} {d : CopyData} {offset : Int} {req : Forwarded} {m : Fin 16384}
    (hw : forwardWaits req s = false) {i : Instr}
    (hi : i ∈ [Instr.weltLease fr, .weltAck fr acked epoch, .weltNak fr seq, .weltPress fr p, .weltBrine fr us,
      .weltForward fr ref req, .weltReply fr ref st r by_ out, .weltGrant fr m first, .weltCopy fr d,
      .weltCopyEnd fr epoch uc, .weltTime fr offset twinUnc, .weltDepart fr last]) :
    ∃ act, exec i s = .next (weltFrame fr act s) := by
  have hforward : exec (.weltForward fr ref req) s = .next (weltFrame fr (fun s =>
      if s.syncLead then ackFrame (runForwarded (.twin ref) req s) else s) s) := by
    show execWeltForward fr ref req s = _
    rw [execWeltForward, hw]
    rfl
  revert i
  simp only [List.forall_mem_cons]
  exact ⟨⟨_, rfl⟩, ⟨_, rfl⟩, ⟨_, rfl⟩, ⟨_, rfl⟩, ⟨_, rfl⟩, ⟨_, hforward⟩, ⟨_, rfl⟩, ⟨_, rfl⟩, ⟨_, rfl⟩, ⟨_, rfl⟩,
    ⟨_, rfl⟩, ⟨_, rfl⟩, List.forall_mem_nil _⟩

theorem weltCtl_welt (type : Nat) (s : State) :
    (weltCtl type s).welt = { s.welt with txSeq := (weltCtl type s).welt.txSeq } := by
  unfold weltCtl
  split <;> rfl

section
variable (h : Received s fr)
include h

/-! ### What each type does -/

theorem exec_weltLease (hr : s.welt.role = .lead) : exec (.weltLease fr) s =
    .next { inSequence s fr with welt := { (inSequence s fr).welt with lease := true } } := by
  show execWeltLease fr s = _
  rw [execWeltLease, weltFrame_received _ h]
  exact congrArg Host.Outcome.next (if_pos (beq_iff_eq.2 hr))

theorem exec_weltAck (acked epoch : Nat) (hm : s.welt.mode ≠ .copying) :
    exec (.weltAck fr acked epoch) s = .next (ackUpTo acked (inSequence s fr)) := by
  have hb : ((inSequence s fr).welt.mode == .copying) = false := beq_eq_false_iff_ne.2 hm
  show execWeltAck fr acked epoch s = _
  rw [execWeltAck, weltFrame_received _ h]
  simp only [hb, Bool.false_and, Bool.false_eq_true, if_false]

theorem exec_weltNak {seq type : Nat} (hu : s.welt.unacked.find? (fun u => u.1 == seq) = some (seq, type)) :
    exec (.weltNak fr seq) s = .next { inSequence s fr with
      tx := (inSequence s fr).tx ++ [.welt (wireType type) seq] } := by
  have hu' : (inSequence s fr).welt.unacked.find? (fun u => u.1 == seq) = some (seq, type) := hu
  show execWeltNak fr seq s = _
  rw [execWeltNak, weltFrame_received _ h]
  simp only [hu']

theorem exec_weltBrine (us : List BrineUpdate) (hs : s.syncFollower = true) :
    exec (.weltBrine fr us) s = .next (weltCtl 0x03 (us.foldl brineUpdate (inSequence s fr))) := by
  show execWeltBrine fr us s = _
  rw [execWeltBrine, weltFrame_received _ h]
  exact congrArg Host.Outcome.next (if_pos hs)

theorem exec_weltForward (ref : BitVec 64) {req : Forwarded} (hs : s.syncLead = true) (hw : forwardWaits req s = false) :
    exec (.weltForward fr ref req) s = .next (weltCtl 0x03 (runForwarded (.twin ref) req (inSequence s fr))) := by
  show execWeltForward fr ref req s = _
  rw [execWeltForward, hw, if_neg (by decide), weltFrame_received _ h]
  exact congrArg Host.Outcome.next (if_pos hs)

/-- A reply of OK finishes what waits for it. -/
theorem exec_weltReply (ref : BitVec 64) (r by_ : BitVec 32) (out : Bytes) (e : Option Nat) {w : WeltWait}
    (hw : (inSequence s fr).welt.waits.find? (fun w => w.fwd && w.seq == ref.toNat) = some w) :
    exec (.weltReply fr ref 0 r by_ out e) s = .next (weltCtl 0x03 (finish w.ref .ok by_.toNat r.toNat (replyEpoch w e
      (writeOut w.ref w.dst out { inSequence s fr with
        welt := { (inSequence s fr).welt with waits := (inSequence s fr).welt.waits.filter fun y => y != w } })))) := by
  have hok : allStatus.find? (fun x => x.code == (0 : BitVec 16).toNat) = some .ok := rfl
  show execWeltReply fr ref 0 r by_ out s e = _
  rw [execWeltReply, weltFrame_received _ h]
  simp only [hw, hok]
  rfl

theorem exec_weltGrant (n : Fin 16384) (first : Nat) (hs : s.syncFollower = true) (hn : ∀ g ∈ s.welt.grants, g.1 ≠ n)
    (hl : s.welt.grants.length < 1024) : exec (.weltGrant fr n first) s = .next (weltCtl 0x03 { inSequence s fr with
      welt := { (inSequence s fr).welt with grants := (n.val, first, 65536) :: (inSequence s fr).welt.grants } }) := by
  have hs' : (inSequence s fr).syncFollower = true := hs
  have hany : ((inSequence s fr).welt.grants.any fun g => g.1 == n.val) = false :=
    List.any_eq_false.2 fun g hg => by simpa using hn g hg
  have hlen : ¬1024 ≤ (inSequence s fr).welt.grants.length := Nat.not_le.2 hl
  show execWeltGrant fr n first s = _
  rw [execWeltGrant, weltFrame_received _ h]
  simp only [hs', hany, hlen, decide_false, Bool.or_self, Bool.not_true, Bool.false_eq_true, if_false]
  rfl

theorem exec_weltCopy (d : CopyData) (hs : s.copies = true) (hm : s.welt.mode = .copying) :
    exec (.weltCopy fr d) s = .next (weltCtl 0x03 { inSequence s fr with
      welt := { (inSequence s fr).welt with copied := (inSequence s fr).welt.copied ++ d.items } }) := by
  have hs' : (inSequence s fr).copies = true := hs
  have hm' : ((inSequence s fr).welt.mode == .copying) = true := beq_iff_eq.2 hm
  show execWeltCopy fr d s = _
  rw [execWeltCopy, weltFrame_received _ h]
  simp only [hs', hm', Bool.not_true, Bool.false_eq_true, if_false, if_true]
  rfl

/-- The bulk copy ends: the follower is level. -/
theorem exec_weltCopyEnd (epoch uc : Nat) (hs : s.copies = true) (hm : s.welt.mode = .copying)
    (hr : (inSequence s fr).ringOk = true) : ∃ t, exec (.weltCopyEnd fr epoch uc) s = .next t ∧
      t.welt.role = .follower ∧ t.welt.mode = .sync ∧ t.welt.stale = false ∧ t.welt.copied = [] ∧ t.welt.grants = [] := by
  have hs' : (inSequence s fr).copies = true := hs
  have hm' : ((inSequence s fr).welt.mode != .copying) = false := bne_eq_false_iff_eq.2 hm
  show ∃ t, execWeltCopyEnd fr epoch uc s = .next t ∧ _
  rw [execWeltCopyEnd, weltFrame_received _ h]
  simp only [hs', hm', hr, Bool.not_true, Bool.or_self, Bool.false_eq_true, if_false]
  refine ⟨_, rfl, ?_⟩
  rw [ackFrame, weltCtl_welt, (sample_same 270 _).get State.welt fun _ => rfl, modeChanged,
    (raise_same 268 _).get State.welt fun _ => rfl]
  exact ⟨rfl, rfl, rfl, rfl, rfl⟩

theorem exec_weltDepart_lead (last : Nat) (hr : s.welt.role = .lead) : exec (.weltDepart fr last) s =
    .next (endLink (leadDetached { inSequence s fr with welt := { (inSequence s fr).welt with lease := false } })) := by
  show execWeltDepart fr last s = _
  rw [execWeltDepart, weltFrame_received _ h]
  exact congrArg Host.Outcome.next (if_pos (beq_iff_eq.2 hr))

theorem exec_weltDepart_follower (last : Nat) (hs : s.syncFollower = true) (hp : (inSequence s fr).power.pwrfailN = true)
    (hl : last ≤ s.welt.rxSeq + 1) : exec (.weltDepart fr last) s =
      .next (endLink (promote { inSequence s fr with welt := { (inSequence s fr).welt with granted := false } })) := by
  have hs' : (inSequence s fr).syncFollower = true := hs
  have hr : ((inSequence s fr).welt.role == .lead) = false := by
    rw [State.syncFollower, Bool.and_eq_true] at hs
    have hf : (inSequence s fr).welt.role = .follower := beq_iff_eq.1 hs.1
    rw [hf]
    rfl
  have hl' : ¬(inSequence s fr).welt.rxSeq < last := Nat.not_lt.2 hl
  show execWeltDepart fr last s = _
  rw [execWeltDepart, weltFrame_received _ h]
  simp only [hr, hs', hp, hl', decide_false, Bool.not_true, Bool.or_self, Bool.false_eq_true, if_false]

/-- A piece of a mirrored press gathers; the last one commits. -/
theorem exec_weltPress (p : PressPiece) (hs : s.syncFollower = true) (ho : p.off = s.welt.gathered) :
    (p.off + p.len < p.total → exec (.weltPress fr p) s = .next { inSequence s fr with
      welt := { (inSequence s fr).welt with gathered := p.off + p.len } }) ∧
    (p.total ≤ p.off + p.len → (inSequence s fr).ringOk = true → s.press.epoch < p.epoch → ∃ s2,
      s2 = { inSequence s fr with welt := { (inSequence s fr).welt with gathered := 0 } } ∧ exec (.weltPress fr p) s =
        .next (weltCtl 0x03 (p.items.foldl (pairItem p.epoch)
          (mirrorRecord p.epoch p.total (p.items.filterMap (PairItem.item s2)) s2)))) := by
  have hs' : (inSequence s fr).syncFollower = true := hs
  have ho' : ¬p.off ≠ (inSequence s fr).welt.gathered := not_not.2 ho
  have hexec : exec (.weltPress fr p) s = execWeltPress fr p s := rfl
  rw [hexec, execWeltPress, weltFrame_received _ h]
  simp only [hs', ho', decide_false, Bool.not_true, Bool.or_self, Bool.false_eq_true, if_false]
  refine ⟨fun hlt => by rw [if_pos hlt], fun hle hr he => ⟨_, rfl, ?_⟩⟩
  have he' : ¬p.epoch ≤ (inSequence s fr).press.epoch := Nat.not_le.2 he
  rw [if_neg (Nat.not_lt.2 hle), if_neg]
  · rfl
  · rw [Bool.or_eq_true, not_or]
    exact ⟨by rw [Bool.not_eq_true', Bool.not_eq_false]; exact hr, by rw [decide_eq_true_eq]; exact he'⟩

end
end

/-- Settles O53: every frame by whether it is in sequence, then each type by its own rule. -/
theorem weltFrames : Obligations.WeltFrames := by
  unfold Obligations.WeltFrames
  intro s fr s1 s0
  refine ⟨fun acked epoch seq last twinUnc first uc ref p us st r by_ out d offset req m hw i hi => ?_,
    fun h => ⟨exec_weltLease h, exec_weltAck h, fun seq type => exec_weltNak h, exec_weltPress h, exec_weltBrine h,
      fun ref req => exec_weltForward h ref, fun ref r by_ out e w => exec_weltReply h ref r by_ out e, exec_weltGrant h,
      exec_weltCopy h, exec_weltCopyEnd h, fun offset unc => ?_, exec_weltDepart_lead h, exec_weltDepart_follower h⟩⟩
  · obtain ⟨act, hact⟩ := exec_welt hw hi
    rw [hact]
    exact ⟨fun hoff => by rw [weltFrame_off act hoff],
      fun hl hm hc hb => by rw [weltFrame_broken act hl hm hc hb],
      fun hl hm hc ht hs hterm => by rw [weltFrame_higher act hl hm hc ht hs hterm]⟩
  · show execWeltTime fr offset unc s = _
    rw [execWeltTime, weltFrame_received _ h]
    rfl

end Sys2Proof.Machine
end


section
/-! Second boundaries, gates, the loss of REFOSC_IN, slews, the bin table (13; O33). -/

namespace Sys2Proof.Machine

/-! ### The second boundary (R278, R283, R284) -/

section
variable (s : State)

/-- The start of the next second. -/
def TimeBase.nextSecond (t : TimeBase) : Nat := (t.t / second + 1) * second

theorem advance_t (t : TimeBase) (dest : Nat) : (t.advance dest).t = max t.t dest := rfl

theorem second_pos : 0 < second := by decide

/-- At the boundary T has reached its next second. -/
theorem nextSecond_div (t : TimeBase) : max t.t t.nextSecond / second = t.t / second + 1 := by
  have hlt : t.t < t.nextSecond := by
    rw [TimeBase.nextSecond, Nat.mul_comm]
    exact Nat.lt_mul_div_succ t.t second_pos
  rw [Nat.max_eq_right (Nat.le_of_lt hlt), TimeBase.nextSecond, Nat.mul_div_cancel _ second_pos]

theorem markTime_keeps : (markTime s).power.st = s.power.st ∧ (markTime s).active = s.active ∧
    ∃ m, (markTime s).time = { s.time with mark := m } ∧ (s.bankRetired 0 = false → m.read = some s.time.t) := by
  unfold markTime
  split
  next h => exact ⟨rfl, rfl, s.time.mark, rfl, fun h' => by rw [h] at h'; cases h'⟩
  · exact ⟨rfl, rfl, _, rfl, fun _ => Copies.read_update _ _⟩

theorem checkAlarm_keeps : (checkAlarm s).power = s.power ∧ (checkAlarm s).active = s.active ∧
    ∃ a, (checkAlarm s).time = { s.time with alarm := a } ∧
      (s.time.alarm ≠ 0 → s.time.alarm ≤ s.time.t / second → a = 0) := by
  unfold checkAlarm
  split
  · exact ⟨(raise_same 266 _).get State.power fun _ => rfl, (raise_same 266 _).get State.active fun _ => rfl, 0,
      (raise_same 266 _).get State.time fun _ => rfl, fun _ _ => rfl⟩
  next h => exact ⟨rfl, rfl, s.time.alarm, rfl, fun h0 hle => absurd (by simp [h0, hle]) h⟩

theorem boundaryOutputs_keeps : ∃ p c, (boundaryOutputs s).time = { s.time with pps := p, tcode := c } ∧
    (s.timeOutputs = true → s.active.timeFlags.getLsbD 0 = true → p = true ∧ Tx.pps true ∈ (boundaryOutputs s).tx) := by
  unfold boundaryOutputs
  cases ho : s.timeOutputs
  · exact ⟨false, false, rfl, nofun⟩
  · simp only [Bool.not_true, Bool.false_eq_true, if_false]
    by_cases h0 : s.active.timeFlags.getLsbD 0 = true
    · simp only [h0, if_true]
      refine ⟨true, s.active.timeFlags.getLsbD 1, ?_, fun _ _ => ⟨rfl, ?_⟩⟩
      · split <;> rfl
      · split <;> simp
    · simp only [h0]
      exact ⟨s.time.pps, s.active.timeFlags.getLsbD 1, by split <;> rfl, fun _ => nofun⟩

theorem exec_secondBoundary_awake (ha : s.awake = true) : exec .timeSecondBoundary s = .next (tuneAll (boundaryOutputs
    (checkAlarm (markTime (if s.time.timeSet then raise 265 { s with time := s.time.advance s.time.nextSecond }
      else { s with time := s.time.advance s.time.nextSecond }))))) := by
  show execTimeSecondBoundary s = _
  rw [State.awake, Bool.or_eq_true, beq_iff_eq, beq_iff_eq] at ha
  obtain h | h := ha <;> simp only [execTimeSecondBoundary, h] <;> rfl

theorem exec_secondBoundary (ha : s.awake = true) : ∃ t, exec .timeSecondBoundary s = .next t ∧
    t.time.t = max s.time.t s.time.nextSecond ∧ (s.bankRetired 0 = false → t.time.mark.read = some t.time.t) ∧
    (s.time.alarm ≠ 0 → s.time.alarm ≤ s.time.t / second + 1 → t.time.alarm = 0) ∧
    (s.time.timeSet = true → s.time.ppsFrom ≤ s.time.t / second + 1 → s.active.timeFlags.getLsbD 0 = true →
      t.time.pps = true ∧ Tx.pps true ∈ t.tx) := by
  obtain ⟨s2, hs2, hsame⟩ : ∃ s2, (if s.time.timeSet then raise 265 { s with time := s.time.advance s.time.nextSecond }
      else { s with time := s.time.advance s.time.nextSecond }) = s2 ∧
      SameButEvents { s with time := s.time.advance s.time.nextSecond } s2 := ⟨_, rfl, .ite (raise_same _ _) rfl⟩
  have ht2 : s2.time = s.time.advance s.time.nextSecond := hsame.get State.time fun _ => rfl
  have hst2 : s2.power = s.power := hsame.get State.power fun _ => rfl
  have hact2 : s2.active = s.active := hsame.get State.active fun _ => rfl
  have hbank : s2.bankRetired 0 = s.bankRetired 0 := hsame.get (fun s => s.bankRetired 0) fun _ => rfl
  obtain ⟨hst3, hact3, m, ht3, hm⟩ := markTime_keeps s2
  obtain ⟨hst4, hact4, a, ht4, hal⟩ := checkAlarm_keeps (markTime s2)
  obtain ⟨p, c, ht5, hp⟩ := boundaryOutputs_keeps (checkAlarm (markTime s2))
  have hdiv := nextSecond_div s.time
  refine ⟨tuneAll (boundaryOutputs (checkAlarm (markTime s2))), by rw [exec_secondBoundary_awake s ha, hs2], ?_⟩
  have ht : (tuneAll (boundaryOutputs (checkAlarm (markTime s2)))).time =
      { s.time.advance s.time.nextSecond with mark := m, alarm := a, pps := p, tcode := c } := by
    show (boundaryOutputs (checkAlarm (markTime s2))).time = _
    rw [ht5, ht4, ht3, ht2]
  rw [ht]
  refine ⟨rfl, fun hb => ?_, fun h0 hle => ?_, fun hset hfrom hflag => ?_⟩
  · rw [hm (hbank.trans hb), ht2]
  · refine hal (by rw [ht3, ht2]; exact h0) ?_
    rw [ht3, ht2, advance_t, hdiv]
    exact hle
  · refine hp ?_ (by rw [hact4, hact3, hact2]; exact hflag)
    have hrun : ((s.power.st == .active || s.power.st == .idle) || s.power.st == .dormant) = true := by
      rw [← State.awake, ha, Bool.true_or]
    rw [State.timeOutputs, hst4, hst3, hst2, ht4, ht3, ht2, hrun, Bool.true_and, advance_t, hdiv, Bool.and_eq_true,
      decide_eq_true_eq]
    exact ⟨hset, hfrom⟩

/-! ### Gates and the reference (R279, R280) -/

theorem lose_keeps (t : TimeBase) : t.lose.qualified = false ∧ t.lose.gates = 0 ∧ t.lose.t = t.t ∧
    t.lose.prevGate = t.prevGate := by
  unfold TimeBase.lose TimeBase.onInternal
  cases hq : t.qualified
  all_goals
    simp only [Bool.false_eq_true, if_false, if_true]
    split <;> exact ⟨rfl, rfl, rfl, rfl⟩

/-- A qualification leaves T and the last gate. -/
theorem qualify_keeps (t : TimeBase) (o : Int) :
    (t.qualify o).qualified = true ∧ (t.qualify o).t = t.t ∧ (t.qualify o).prevGate = t.prevGate := by
  unfold TimeBase.qualify
  dsimp only
  split <;> exact ⟨rfl, rfl, rfl⟩

theorem gate_keeps (t : TimeBase) (ref xt : Int) : (t.gate ref xt).prevGate = some ref ∧ (t.gate ref xt).t = t.t := by
  unfold TimeBase.gate
  dsimp only
  repeat' split
  · exact ⟨rfl, rfl⟩
  · obtain ⟨-, -, ht, hp⟩ := lose_keeps { t with prevGate := some ref }
    exact ⟨hp, ht⟩
  · exact ⟨rfl, rfl⟩
  · obtain ⟨-, ht, hp⟩ := qualify_keeps { t with prevGate := some ref } xt
    exact ⟨hp, ht⟩
  · exact ⟨rfl, rfl⟩
  · exact ⟨rfl, rfl⟩

theorem gate_qualified {t : TimeBase} (ref xt : Int) {p : Int} (hq : t.qualified = true) (hp : t.prevGate = some p) :
    (t.gate ref xt).qualified = decide ((ref - p).natAbs ≤ 1000) := by
  simp only [TimeBase.gate, hq, hp, Option.elim_some, if_true]
  by_cases hn : (ref - p).natAbs ≤ 1000
  · rw [decide_eq_true hn, if_pos rfl]
  · rw [decide_eq_false hn, if_neg (by decide)]
    exact (lose_keeps _).1

theorem gate_unqualified {t : TimeBase} {ref p : Int} (xt : Int) (hq : t.qualified = false) (hr : t.refTripped = false)
    (hp : t.prevGate = some p) (hn : (ref - p).natAbs ≤ 1000) (hb : ref.natAbs ≤ 100000) :
    if 9 ≤ t.gates then (t.gate ref xt).qualified = true
    else (t.gate ref xt).qualified = false ∧ (t.gate ref xt).gates = t.gates + 1 := by
  have hgate : t.gate ref xt = if t.gates ≥ 9 then { t with prevGate := some ref }.qualify xt
      else { t with prevGate := some ref, gates := t.gates + 1 } := by
    simp only [TimeBase.gate, hq, hr, hp, hn, hb, Option.elim_some, decide_true, Bool.and_self, Bool.false_eq_true,
      if_false, if_true]
  rw [hgate]
  split
  · exact (qualify_keeps _ _).1
  · exact ⟨hq, rfl⟩

theorem exec_gateEnd_awake (ha : s.awake = true) (ref xt temp : Int) : exec (.gateEnd ref xt temp) s =
    .next (tuneAll (quietTime { s with
      time := { s.time with bin := binOf temp }.gate ref xt, cards := { s.cards with dieC := temp } })) := by
  show execGateEnd ref xt temp s = _
  rw [State.awake, Bool.or_eq_true, beq_iff_eq, beq_iff_eq] at ha
  obtain h | h := ha <;> simp only [execGateEnd, h]

theorem exec_refoscLoss (h : s.power.st ≠ .off) : exec .refoscLoss s = .next (quietTime { s with time := s.time.lose }) := by
  show execRefoscLoss s = _
  unfold execRefoscLoss
  split
  next ho => exact absurd ho h
  · rfl

/-! ### Slews (R277) -/

/-- Where a slew ends: what remains of it, at its rate. -/
def TimeBase.slewDest (t : TimeBase) : Nat :=
  let c := t.r.natAbs / 1000000000
  t.t + if t.r < 0 then c * 1000000 / t.rate - c else c * 1000000 / t.rate + c

theorem exec_slewEnd (hst : s.power.st ≠ .off) (hr : s.time.r ≠ 0) (hrate : s.time.rate ≠ 0)
    (hd : s.time.slewDest / second = s.time.t / second) : ∃ t, exec .slewEnd s = .next { s with time := t } ∧ t.r = 0 ∧
      t.t = max s.time.t s.time.slewDest := by
  have hdest : (if s.time.r < 0
      then s.time.t + (s.time.r.natAbs / 1000000000 * 1000000 / s.time.rate - s.time.r.natAbs / 1000000000)
      else s.time.t + (s.time.r.natAbs / 1000000000 * 1000000 / s.time.rate + s.time.r.natAbs / 1000000000)) =
      s.time.slewDest := (apply_ite (s.time.t + ·) _ _ _).symm
  have hb : (s.power.st == .off || s.time.r == 0 || s.time.rate == 0 ||
      decide (s.time.slewDest / second ≠ s.time.t / second)) = false := by simp [hst, hr, hrate, hd]
  refine ⟨{ s.time.advance s.time.slewDest with
    r := 0, slewTotal := (s.time.advance s.time.slewDest).slewTotal + (s.time.advance s.time.slewDest).r }, ?_, rfl,
    advance_t s.time _⟩
  show execSlewEnd s = _
  simp only [execSlewEnd, hdest, hb, Bool.false_eq_true, if_false]

end

/-- Settles O33: the boundary by its stages, a gate by the reference's state, the rest by the power state. -/
theorem timeBaseEvents : Obligations.TimeBaseEvents := by
  unfold Obligations.TimeBaseEvents
  intro s
  refine ⟨exec_secondBoundary s, fun h => ?_, fun h => ?_, fun h => congrArg Host.Outcome.next (if_neg (by simp [h])),
    fun ref xt temp => ⟨fun h => ?_, fun h => ?_⟩, fun h => congrArg Host.Outcome.next (if_pos h), fun h => ?_,
    fun ref xt temp ha => ?_, fun ha hr hd hg hf => ?_, exec_slewEnd s⟩
  · show execTimeSecondBoundary s = _
    obtain h | h := h <;> simp only [execTimeSecondBoundary, h]
  · show execTimeSecondBoundary s = _
    simp only [execTimeSecondBoundary, h]
  · show execGateEnd ref xt temp s = _
    simp only [execGateEnd, h]
  · show execGateEnd ref xt temp s = _
    simp only [execGateEnd, h]
  · obtain ⟨hq, hg, ht, -⟩ := lose_keeps s.time
    exact ⟨s.time.lose, exec_refoscLoss s h, hq, hg, ht⟩
  · obtain ⟨hp, ht⟩ := gate_keeps { s.time with bin := binOf temp } ref xt
    exact ⟨_, exec_gateEnd_awake s ha ref xt temp, hp, ht,
      fun hq p hpg => gate_qualified (t := { s.time with bin := binOf temp }) ref xt hq hpg,
      fun hq hr p hpg hn hb => gate_unqualified (t := { s.time with bin := binOf temp }) xt hq hr hpg hn hb⟩
  · refine ⟨Press.of [.bins] .none, rfl, rfl, ?_⟩
    show execBinTablePress s = _
    simp only [execBinTablePress, ha, pressOwn, hr, hd, hg, hf, Bool.not_false, Bool.and_self, if_true]

end Sys2Proof.Machine
end


section
/-! Trips of the Rind, the wipe and recovery (16; O34). -/

namespace Sys2Proof.Machine

section
variable (s : State)

theorem quietTime_keeps : (quietTime s).power = s.power ∧ (quietTime s).rind = s.rind := by
  unfold quietTime
  split <;> exact ⟨rfl, rfl⟩

/-- What the oscillators' class tells the time base leaves the power state and the Rind. -/
theorem oscillatorTrip_keeps (d : Nat) :
    (oscillatorTrip d s).power.st = s.power.st ∧ (oscillatorTrip d s).rind = s.rind := by
  unfold oscillatorTrip
  dsimp only
  split
  · rw [(quietTime_keeps _).1, (quietTime_keeps _).2]
    exact ⟨rfl, rfl⟩
  split
  · rw [(quietTime_keeps _).1, (quietTime_keeps _).2]
    exact ⟨rfl, rfl⟩
  · exact ⟨rfl, rfl⟩

/-- The state a sensed class is answered in: recorded as tripped, the oscillators' effect taken. -/
def trippedState (k : Fin 13) (detail : BitVec 32) (s : State) : State :=
  if k = 9 then oscillatorTrip detail.toNat { s with rind := { s.rind with tripped := k :: s.rind.tripped } }
  else { s with rind := { s.rind with tripped := k :: s.rind.tripped } }

theorem trippedState_keeps (k : Fin 13) (detail : BitVec 32) :
    (trippedState k detail s).power.st = s.power.st ∧ (trippedState k detail s).rind.guard = s.rind.guard := by
  unfold trippedState
  split
  · obtain ⟨hst, hr⟩ := oscillatorTrip_keeps { s with rind := { s.rind with tripped := k :: s.rind.tripped } } detail.toNat
    exact ⟨hst, by rw [hr]⟩
  · exact ⟨rfl, rfl⟩

theorem ite_val_eq {α : Type} (k m : Fin 13) (x y : α) : (if k.val = m.val then x else y) = if k = m then x else y := by
  simp only [Fin.ext_iff]

/-! ### A trip by its class (R352, R353) -/

section
variable {k : Fin 13} {detail : BitVec 32} {lw : Bool}

theorem exec_rindTrip_unsensed (h : s.senses k detail.toNat = false ∨ s.tierOf k = 0) :
    exec (.rindTrip k detail lw) s = .next s := by
  refine congrArg Host.Outcome.next (if_pos ?_)
  obtain h | h := h <;> simp [h]

section
variable (hs : s.senses k detail.toNat = true) (ht : s.tierOf k ≠ 0)
include hs ht

theorem exec_rindTrip_again (hk : k ∈ s.rind.tripped) : exec (.rindTrip k detail lw) s =
    .next (if k = 9 then oscillatorTrip detail.toNat s else s) := by
  show execRindTrip k detail s lw = _
  rw [execRindTrip]
  dsimp only
  rw [if_neg (by simp [hs, ht]), if_pos (List.contains_iff_mem.2 hk), ← ite_val_eq k 9]
  rfl

/-- Below the count that brings GUARD the detection rate is an alert at most. -/
theorem exec_rindTrip_alert (hk : k ∉ s.rind.tripped) (h10 : k = 10) (hd : detail.toNat < s.active.tamper.guardCount) :
    exec (.rindTrip k detail lw) s =
      .next (if detail.toNat < s.active.tamper.alertCount then s else respond 10 1 detail s) := by
  show execRindTrip k detail s lw = _
  rw [execRindTrip]
  dsimp only
  rw [if_neg (by simp [hs, ht]), if_neg (by simpa using hk), if_pos ⟨congrArg Fin.val h10, hd⟩, h10]
  rfl

theorem exec_rindTrip_first (hk : k ∉ s.rind.tripped) (h10 : k = 10 → s.active.tamper.guardCount ≤ detail.toNat) :
    exec (.rindTrip k detail lw) s = .next (respond k (s.tierOf k) detail (trippedState k detail s) lw) := by
  have hn : ¬(k.val = 10 ∧ detail.toNat < s.active.tamper.guardCount) :=
    fun ⟨hk10, hlt⟩ => absurd (h10 (Fin.ext hk10)) (Nat.not_le.2 hlt)
  show execRindTrip k detail s lw = _
  rw [execRindTrip]
  dsimp only
  rw [if_neg (by simp [hs, ht]), if_neg (by simpa using hk), if_neg hn, trippedState, ← ite_val_eq k 9]
  rfl

end
end

/-! ### The answer by its tier, with main power -/

section
variable {s} {c : Nat} {detail : BitVec 32} {lw : Bool} (ha : s.power.st = .active ∨ s.power.st = .idle)
include ha

theorem respond_powered (tier : Nat) : respond c tier detail s lw =
    if tier = 1 then raiseSample 271 (rindLog c tier 0 detail s)
    else if tier = 3 then eraseTrip c (sample 271 (rindLog c tier 0 detail s)) lw
    else if (sample 271 (rindLog c tier 0 detail s)).rind.guard then sample 271 (rindLog c tier 0 detail s)
    else guardTrip c (sample 271 (rindLog c tier 0 detail s)) false lw := by
  obtain h | h := ha <;> simp only [respond, h]

theorem respond_log : respond c 1 detail s lw = raiseSample 271 (rindLog c 1 0 detail s) := by
  rw [respond_powered ha, if_pos rfl]

theorem respond_guard (hg : s.rind.guard = false) :
    respond c 2 detail s lw = guardTrip c (sample 271 (rindLog c 2 0 detail s)) false lw := by
  have hg' : (sample 271 (rindLog c 2 0 detail s)).rind.guard = false :=
    ((sample_same 271 _).get (fun s => s.rind.guard) fun _ => rfl).trans hg
  rw [respond_powered ha, if_neg (by decide), if_neg (by decide), if_neg (Bool.eq_false_iff.1 hg')]

theorem respond_erase : respond c 3 detail s lw = eraseTrip c (sample 271 (rindLog c 3 0 detail s)) lw := by
  rw [respond_powered ha, if_neg (by decide), if_pos rfl]

end

/-! ### The wipe -/

/-- A core without its applets. -/
def Core.emptied (k : Core) : Core := { k with resident := [] }

/-- A book whose running head is wiped. -/
def Book.wiped (k : Book) : Book := { k with head := Head.zero, dist := 0 }

/-- The state after the wipe of all SRAM (R357). -/
def wiped (s : State) : State :=
  { s with rind := { s.rind with wiping := false }
           supSram := []
           cores := s.cores.map Core.emptied
           brine := { s.brine with entries := s.brine.entries.map Entry.wiped }
           books := s.books.map Book.wiped }

theorem wiped_core (c : Fin 9) : ((wiped s).core c).resident = [] := by
  have h : (wiped s).core c = (s.core c).emptied := vget_map Core.emptied s.cores c Core.idle Core.idle c.isLt
  rw [h]
  rfl

theorem wiped_book (b : Fin 64) :
    ((wiped s).book b).head = Head.zero ∧ ((wiped s).book b).durable = (s.book b).durable := by
  have h : (wiped s).book b = (s.book b).wiped := vget_map Book.wiped s.books b Book.zero Book.zero b.isLt
  rw [h]
  exact ⟨rfl, rfl⟩

theorem wiped_entries : (∀ x ∈ (wiped s).brine.entries, x.inv = 0 ∧ x.uses = 0) ∧
    (wiped s).brine.entries.map (·.dur) = s.brine.entries.map (·.dur) := by
  refine ⟨fun x hx => ?_, ?_⟩
  · obtain ⟨e, -, rfl⟩ := List.mem_map.1 hx
    exact ⟨rfl, rfl⟩
  · exact List.map_map

end

/-- Settles O34: a trip by whether its class is sensed, has tripped or falls short; its answer by tier; wipe, recovery. -/
theorem rindEvents : Obligations.RindEvents := by
  unfold Obligations.RindEvents
  intro s k detail lw
  refine ⟨exec_rindTrip_unsensed s, fun hs ht => ⟨exec_rindTrip_again s hs ht, exec_rindTrip_alert s hs ht,
    fun hk h10 => ?_⟩, fun hw => ⟨wiped s, congrArg Host.Outcome.next (if_pos hw), rfl, rfl, wiped_core s, rfl,
      (wiped_entries s).1, (wiped_entries s).2, wiped_book s⟩, fun hw => congrArg Host.Outcome.next (if_neg (by simp [hw])),
    fun hk => congrArg Host.Outcome.next (if_neg hk), rfl⟩
  intro s0 s1
  have hs1 : s1 = trippedState k detail s := rfl
  obtain ⟨hst, hguard⟩ := trippedState_keeps s k detail
  have hpow (ha : s.awake = true) : s1.power.st = .active ∨ s1.power.st = .idle := by
    rw [State.awake, Bool.or_eq_true, beq_iff_eq, beq_iff_eq] at ha
    rw [hs1, hst]
    exact ha
  refine ⟨exec_rindTrip_first s hs ht hk h10, fun ha h1 => ?_, fun ha h2 hg => ?_, fun ha h3 => ?_⟩
  · rw [h1, respond_log (hpow ha)]
  · rw [h2, respond_guard (hpow ha) (hs1 ▸ hguard.trans hg)]
  · rw [h3, respond_erase (hpow ha)]

end Sys2Proof.Machine
end


section
/-! Source and group words, and a group's delivery (05, 14; O37). -/

namespace Sys2Proof.Machine

/-! ### What a delivery leaves of the words -/

/-- Source n keeps its word, every other source its whole record. -/
def WordKept (n : Nat) (s t : State) : Prop :=
  t.ev.sources.length = s.ev.sources.length ∧ (t.src n).cfg = (s.src n).cfg ∧ ∀ m, m ≠ n → t.src m = s.src m

section
variable {n : Nat} {s t u : State}

theorem WordKept.trans (h : WordKept n s t) (h' : WordKept n t u) : WordKept n s u := by
  obtain ⟨hl, hc, hm⟩ := h
  obtain ⟨hl', hc', hm'⟩ := h'
  exact ⟨hl'.trans hl, hc'.trans hc, fun m hne => (hm' m hne).trans (hm m hne)⟩

theorem WordKept.of_sources (h : t.ev.sources = s.ev.sources) : WordKept n s t := by
  simp only [WordKept, State.src, h, implies_true, and_self]

theorem setSrc_wordKept {x : Source} (hn : n < s.ev.sources.length) (hx : x.cfg = (s.src n).cfg) :
    WordKept n s (setSrc n x s) := by
  refine ⟨List.length_set, ?_, fun m hm => src_setSrc_ne x hm⟩
  rw [src_setSrc_same x hn, hx]

theorem setGroup_wordKept {g : Nat} {x : Group} (h : WordKept n s t) : WordKept n s (setGroup g x t) := h

theorem raisePme_ev : (raisePme s).ev = s.ev := by
  unfold raisePme
  split <;> rfl

/-- A notification changes source n at most, and no group. -/
theorem notify_wordKept (hn : n < s.ev.sources.length) :
    WordKept n s (notify n s) ∧ (notify n s).ev.groups = s.ev.groups := by
  unfold notify
  dsimp only
  repeat' split
  · exact ⟨.of_sources rfl, rfl⟩
  · exact ⟨.of_sources (congrArg _ raisePme_ev), congrArg _ raisePme_ev⟩
  · exact ⟨.of_sources rfl, rfl⟩
  · exact ⟨.of_sources (congrArg _ (signalVec_ev _ _)), congrArg _ (signalVec_ev _ _)⟩
  · exact ⟨.of_sources (congrArg _ (wakeT0_ev _)), congrArg _ (wakeT0_ev _)⟩
  · exact ⟨setSrc_wordKept hn rfl, rfl⟩

/-- A record written and then notified. -/
theorem notify_setSrc_wordKept {x : Source} (hn : n < s.ev.sources.length) (hx : x.cfg = (s.src n).cfg) :
    WordKept n s (notify n (setSrc n x s)) :=
  (setSrc_wordKept hn hx).trans (notify_wordKept (by rw [(setSrc_wordKept hn hx).1]; exact hn)).1

theorem sample_wordKept (hn : n < s.ev.sources.length) : WordKept n s (sample n s) := by
  unfold sample
  dsimp only
  split
  · exact .of_sources rfl
  repeat' split
  · exact .of_sources rfl
  · exact setSrc_wordKept hn rfl
  · exact setSrc_wordKept hn rfl
  · exact setGroup_wordKept (setSrc_wordKept hn rfl)
  · exact notify_setSrc_wordKept hn rfl
  · exact setSrc_wordKept hn rfl
  · exact setSrc_wordKept hn rfl

/-! ### A write of a source's word (R306, R307) -/

/-- The word a write gives: the target is kept. -/
def mergedWord (c v : BitVec 32) : BitVec 32 := (c &&& 0xF0000000) ||| (v &&& 0x0FFFFFFF)

theorem mergedWord_target (c v : BitVec 32) : (mergedWord c v).extractLsb' 28 4 = c.extractLsb' 28 4 := by
  refine BitVec.eq_of_getLsbD_eq fun i hi => ?_
  interval_cases i <;> simp [mergedWord]

/-- A write that breaks no rule changes the word of its source, but for the target. -/
theorem srcApply_word (v : BitVec 32) (hn : n < s.ev.sources.length) :
    ((srcApply n v s).src n).cfg = mergedWord (s.src n).cfg v ∧ ∀ m, m ≠ n → (srcApply n v s).src m = s.src m := by
  have hset {x : Source} (hx : x.cfg = mergedWord (s.src n).cfg v) {t : State} (ht : WordKept n (setSrc n x s) t) :
      (t.src n).cfg = mergedWord (s.src n).cfg v ∧ ∀ m, m ≠ n → t.src m = s.src m := by
    obtain ⟨-, hc, hm⟩ := ht
    refine ⟨by rw [hc, src_setSrc_same x hn, hx], fun m hne => by rw [hm m hne, src_setSrc_ne x hne]⟩
  have hlen (x : Source) : n < (setSrc n x s).ev.sources.length := by
    rw [setSrc_ev]
    simpa using hn
  unfold srcApply
  extract_lets x y y1 left y2 s1 s2
  have hy : y2.cfg = mergedWord (s.src n).cfg v := by
    have hy1 : y1.cfg = mergedWord (s.src n).cfg v := by
      show (if _ then _ else _ : Source).cfg = _
      split <;> rfl
    show (if _ then _ else _ : Source).cfg = _
    split <;> exact hy1
  refine hset hy ?_
  have h2 : WordKept n s1 s2 := by
    show WordKept n s1 (if _ then _ else _)
    split
    · have h1 : WordKept n s1 (setSrc n { y2 with cond := false } s1) :=
        setSrc_wordKept (hlen y2) (by rw [src_setSrc_same y2 hn])
      exact h1.trans (sample_wordKept (by rw [h1.1]; exact hlen y2))
    · exact .of_sources rfl
  split
  · exact h2.trans (notify_wordKept (by rw [h2.1]; exact hlen y2)).1
  · exact h2

/-- A write of a source's word that breaks no rule. -/
theorem srcApply_spec (v : BitVec 32) (hn : n < s.ev.sources.length) :
    ((srcApply n v s).src n).cfg = ((s.src n).cfg &&& 0xF0000000) ||| (v &&& 0x0FFFFFFF) ∧
      ((srcApply n v s).src n).target = (s.src n).target ∧ ∀ m, m ≠ n → (srcApply n v s).src m = s.src m := by
  obtain ⟨hc, hm⟩ := srcApply_word v hn
  exact ⟨hc, by rw [Source.target, hc, mergedWord_target]; rfl, hm⟩

/-- What makes a write of the host break a rule of R306. -/
theorem srcWriteBad_of {v : BitVec 32} (h : (s.src n).target ≠ 9 ∨ v.extractLsb' 4 4 ≠ 0 ∨
    (271 ≤ n ∧ n ≤ 275 ∧ v.extractLsb' 0 4 = 0)) : srcWriteBad n v s = true := by
  obtain h | h | ⟨hle, hge, h⟩ := h
  · simp [srcWriteBad, h]
  · have hr : (v.extractLsb' 4 4 != 0) = true := bne_iff_ne.2 h
    simp only [srcWriteBad, hr, Bool.or_true]
  · have hp : ({ s.src n with cfg := v } : Source).priority = 0 := by rw [Source.priority, h]; rfl
    simp [srcWriteBad, hp, hle, hge]

theorem supWriteBad_of {v : BitVec 32} (h : n = 0 ∨ (s.src n).target = 9 ∨ v.extractLsb' 17 11 ≠ 0) :
    supWriteBad n v s = true := by
  obtain h | h | h := h
  · simp [supWriteBad, h]
  · simp [supWriteBad, h]
  · have hv : ({ s.src n with cfg := v } : Source).vector ≠ 0 := fun h0 => h (BitVec.eq_of_toNat_eq h0)
    simp [supWriteBad, hv]

/-! ### Groups (R310, R311) -/

section
variable {g : Nat} {v : BitVec 32}

theorem grpWrite_refused (h : v.extractLsb' 8 16 = 0 ∨ (s.groupTarget g ≠ 9 ∧ s.groupTarget g ≠ 15)) :
    grpWrite g v s = refusedWrite g true false s := by
  have hb : ((s.groupTarget g != 9 && s.groupTarget g != 15) || v.extractLsb' 8 16 == 0) = true := by
    obtain h | ⟨h9, h15⟩ := h
    · rw [h, beq_self_eq_true, Bool.or_true]
    · rw [bne_iff_ne.2 h9, bne_iff_ne.2 h15]
      rfl
  simp only [grpWrite, hb, if_true]

theorem grpWrite_taken (h0 : v.extractLsb' 8 16 ≠ 0) (h : s.groupTarget g = 9 ∨ s.groupTarget g = 15) :
    grpWrite g v s = setGroup g { s.group g with next := some (v &&& 0x00FFFFFF) } s := by
  have hb : ((s.groupTarget g != 9 && s.groupTarget g != 15) || v.extractLsb' 8 16 == 0) = false := by
    rw [beq_eq_false_iff_ne.2 h0, Bool.or_false]
    obtain h | h := h <;> rw [h] <;> rfl
  simp only [grpWrite, hb, Bool.false_eq_true, if_false]

end

theorem exec_evGrpWrite {g : Fin 64} {v : BitVec 32} (hr : s.hostReach = true) :
    exec (.evGrpWrite g v) s = .next (grpWrite g v s) := congrArg Host.Outcome.next (if_pos hr)

theorem notifyAll_groups (ns : List Nat) (hns : ∀ m ∈ ns, m < s.ev.sources.length) :
    (notifyAll ns s).ev.groups = s.ev.groups := by
  unfold notifyAll
  induction ns generalizing s with
  | nil => rfl
  | cons m ns ih =>
    obtain ⟨⟨hlen, -, -⟩, hg⟩ := notify_wordKept (hns m List.mem_cons_self)
    rw [List.foldl_cons, ih fun x hx => by rw [hlen]; exact hns x (List.mem_cons_of_mem _ hx), hg]

theorem foldl_setSrc_ev (f : State → Nat → Source) (ns : List Nat) :
    (ns.foldl (fun s n => setSrc n (f s n) s) s).ev.groups = s.ev.groups ∧
      (ns.foldl (fun s n => setSrc n (f s n) s) s).ev.sources.length = s.ev.sources.length := by
  induction ns generalizing s with
  | nil => exact ⟨rfl, rfl⟩
  | cons m ns ih =>
    obtain ⟨hg, hl⟩ := ih (s := setSrc m (f s m) s)
    exact ⟨hg, hl.trans List.length_set⟩

theorem members_lt {g m : Nat} (h : m ∈ s.members g) : m < 512 := List.mem_range.1 (List.mem_filter.1 h).1

/-- A delivery takes up the group's next word and starts its count afresh. -/
theorem deliver_group {g : Nat} (hs : s.ev.sources.length = 512) (hg : g < s.ev.groups.length) :
    (deliver g s).group g = { word := (s.group g).next.getD (s.group g).word, next := none, count := 0, timer := false } := by
  have hmem {m : Nat} (hm : m ∈ (s.members g).filter fun n => (s.src n).pend) : m < 512 :=
    members_lt (List.mem_of_mem_filter hm)
  unfold deliver
  generalize (s.members g).filter (fun n => (s.src n).pend) = ms at hmem
  extract_lets ms' new s1 x
  obtain ⟨hg1, hl1⟩ : s1.ev.groups = s.ev.groups ∧ s1.ev.sources.length = s.ev.sources.length := foldl_setSrc_ev _ ms
  have hx : x = s.group g := by
    show s1.group g = _
    rw [State.group, hg1, State.group]
  rw [State.group, notifyAll_groups]
  · show List.getD (s1.ev.groups.set g _) g _ = _
    rw [hg1, List.getD_eq_getElem _ _ (by simpa using hg), List.getElem_set_self, hx]
  · intro m hm
    show m < s1.ev.sources.length
    rw [hl1, hs]
    exact hmem (List.mem_of_mem_filter hm)

end

/-- Settles O37: a write by whether it breaks a rule, and what it then leaves; a delivery by the group's next word. -/
theorem eventConfiguration : Obligations.EventConfiguration := by
  unfold Obligations.EventConfiguration
  intro s hs hgr
  have hlt (n : Fin 512) : n.val < s.ev.sources.length := by rw [hs]; exact n.isLt
  refine ⟨fun n v hr => ⟨fun hb => ?_, fun hb => ?_⟩, fun n v => srcWriteBad_of, fun g v hr => ⟨fun h => ?_, fun h0 h => ?_⟩,
    fun n v => ⟨fun h => ?_, fun hr hb => ?_⟩, fun n g v hr => ⟨?_, ?_⟩, fun g h => ?_, fun g ha ht => ?_⟩
  · refine ⟨_, congrArg Host.Outcome.next ((if_pos rfl).trans ((if_pos hr).trans (if_pos hb))), rfl, rfl, rfl, rfl, rfl, rfl⟩
  · exact ⟨_, congrArg Host.Outcome.next ((if_pos rfl).trans ((if_pos hr).trans (if_neg (Bool.eq_false_iff.1 hb)))),
      srcApply_spec v (hlt n)⟩
  · exact ⟨_, (exec_evGrpWrite hr).trans (congrArg _ (grpWrite_refused h)), rfl, rfl, rfl, rfl⟩
  · rw [exec_evGrpWrite hr, grpWrite_taken h0 h]
  · refine congrArg Host.Outcome.next ((if_neg (by decide)).trans ?_)
    obtain h | h := h
    · exact if_neg (Bool.eq_false_iff.1 h)
    · rw [supSrcWrite, if_pos (supWriteBad_of h), ite_self]
  · exact ⟨_, congrArg Host.Outcome.next ((if_neg (by decide)).trans ((if_pos hr).trans (if_neg (Bool.eq_false_iff.1 hb)))),
      srcApply_spec v (hlt n)⟩
  · exact congrArg Host.Outcome.next ((if_pos rfl).trans (if_neg (Bool.eq_false_iff.1 hr)))
  · exact congrArg Host.Outcome.next (if_neg (Bool.eq_false_iff.1 hr))
  · refine congrArg Host.Outcome.next (if_neg ?_)
    obtain h | h := h <;> simp [h]
  · refine ⟨deliver g s, congrArg Host.Outcome.next (if_pos (by rw [ha, ht]; rfl)), ?_⟩
    rw [deliver_group hs (by rw [hgr]; exact g.isLt)]
    exact ⟨rfl, rfl, rfl, rfl⟩

end Sys2Proof.Machine
end


section
/-! HL_QCMD and the doorbells (05; O39). -/

namespace Sys2Proof.Machine

/-- A search for what neither the record replaced nor its replacement is finds what it found. -/
theorem find_updFirst_other {α : Type} {p r : α → Bool} {f : α → α} {l : List α}
    (h : ∀ x, p x = true → r x = false ∧ r (f x) = false) : (updFirst p f l).find? r = l.find? r := by
  induction l with
  | nil => rfl
  | cons x l ih =>
    rw [updFirst]
    split
    next hp =>
      obtain ⟨hx, hfx⟩ := h x hp
      rw [List.find?_cons_of_neg (Bool.eq_false_iff.1 hx), List.find?_cons_of_neg (Bool.eq_false_iff.1 hfx)]
    · rw [List.find?_cons, List.find?_cons, ih]

section
variable (s : State)

/-! ### The sessions that end -/

/-- The sessions that end go by their context index; nothing else but the generations changes. -/
theorem endSessions_spec (p : Session → Bool) : (endSessions p s) = { s with
      sessions := (endSessions p s).sessions, gens := (endSessions p s).gens } ∧
    (endSessions p s).sessions = s.sessions.filter fun y => (s.sessions.filter p).all fun x => y.idx != x.idx := by
  have hfold (l : List Session) (s : State) :
      l.foldl (fun s x => endSession x s) s = { s with
        sessions := (l.foldl (fun s x => endSession x s) s).sessions
        gens := (l.foldl (fun s x => endSession x s) s).gens } ∧
      (l.foldl (fun s x => endSession x s) s).sessions = s.sessions.filter fun y => l.all fun x => y.idx != x.idx := by
    induction l generalizing s with
    | nil => exact ⟨rfl, (List.filter_eq_self.2 fun _ _ => rfl).symm⟩
    | cons x l ih =>
      obtain ⟨hrest, hsess⟩ := ih (endSession x s)
      refine ⟨hrest, hsess.trans ?_⟩
      rw [endSession, List.filter_filter]
      exact List.filter_congr fun y _ => Bool.and_comm _ _
  exact hfold _ s

/-- No session of the kind that ends is left. -/
theorem endSessions_none {p : Session → Bool} {x : Session} (hx : x ∈ (endSessions p s).sessions) : p x = false := by
  rw [(endSessions_spec s p).2, List.mem_filter, List.all_eq_true] at hx
  obtain ⟨hmem, hall⟩ := hx
  by_contra hp
  have := hall x (List.mem_filter.2 ⟨hmem, by simpa using hp⟩)
  simp at this

/-! ### HL_QCMD (R80, R81) -/

section
variable {s} {n : BitVec 8} {cls : BitVec 2} (hr : s.hostReach = true)
include hr

theorem exec_queueCreate (hb : s.hl.busy = false) : exec (.queueCreate n cls) s = .next (createQp n cls s) := by
  show execQueueCreate n cls s = _
  simp only [execQueueCreate, hr, queueCmd, hb, Bool.false_eq_true, if_false, if_true]

theorem exec_queueDelete (hb : s.hl.busy = false) : exec (.queueDelete n) s = .next (deleteQp n s) := by
  show execQueueDelete n s = _
  simp only [execQueueDelete, hr, queueCmd, hb, Bool.false_eq_true, if_false, if_true]

theorem exec_qcmdNoAction (hb : s.hl.busy = false) (op3 : Bool) :
    exec (.qcmdNoAction op3 n) s = .next (result 7 s) := by
  show execQcmdNoAction op3 n s = _
  cases op3 <;> simp only [execQcmdNoAction, hr, queueCmd, hb, Bool.false_eq_true, if_false, if_true]

/-- While BUSY is 1 a write of HL_QCMD only sets LOST. -/
theorem exec_qcmd_busy (hb : s.hl.busy = true) (v : BitVec 32) : ∀ i ∈ [Instr.queueCreate n cls, .queueDelete n,
    .qcmdNoAction false n, .qcmdNoAction true n, .hlQcmdWhileBusy v], exec i s =
      .next { s with hl := { s.hl with lost := true } } := by
  have hlost (op : Nat) (c : BitVec 2) (m : BitVec 8) : queueCmd op c m s = { s with hl := { s.hl with lost := true } } :=
    if_pos hb
  have hrb : (s.hostReach && s.hl.busy) = true := by rw [hr, hb]; rfl
  simp only [List.forall_mem_cons]
  exact ⟨congrArg Host.Outcome.next ((if_pos hr).trans (hlost ..)), congrArg Host.Outcome.next ((if_pos hr).trans (hlost ..)),
    congrArg Host.Outcome.next ((if_pos hr).trans (hlost ..)), congrArg Host.Outcome.next ((if_pos hr).trans (hlost ..)),
    congrArg Host.Outcome.next ((if_pos hrb).trans (hlost ..)), List.forall_mem_nil _⟩

end

section
variable {s} {n : BitVec 8} {q : Qp}

theorem qp?_setQp_ne {q' : Qp} {m : BitVec 8} (hm : m ≠ q'.n) : (setQp q' s).qp? m = s.qp? m :=
  find_updFirst_other fun x hx => by
    rw [beq_iff_eq] at hx
    simp [hx, Ne.symm hm]

/-- A pair that is being deleted. -/
def Qp.leaving (q : Qp) : Qp := { q with deleting := true, gathered := [], timedOut := false, haltOwed := none }

/-- The state in which a pair's delete has begun. -/
def leavingQp (q : Qp) (s : State) : State := setQp q.leaving (result 0 { s with hl := { s.hl with busy := true } })

/-- The state of a pair being deleted, its sessions ended. -/
def deleting (n : BitVec 8) (q : Qp) (s : State) : State := endSessions (fun x => x.qp == n) (leavingQp q s)

theorem deleting_rest : deleting n q s = { leavingQp q s with
      sessions := (deleting n q s).sessions, gens := (deleting n q s).gens } := (endSessions_spec _ _).1

/-- A pair with no order left goes at once. -/
theorem deleteQp_idle (hq : s.qp? n = some q) (hd : q.deleting = false) (hg : q.gathered = [])
    (ho : ∀ o ∈ s.orders, o.qp ≠ n) : deleteQp n s = sample (n.toNat + 1) { deleting n q s with
      qps := (deleting n q s).qps.filter fun x => x.n != n, hl := { (deleting n q s).hl with busy := false } } := by
  have hfilter : (leavingQp q s).orders.filter (fun o => o.qp == n) = [] :=
    List.filter_eq_nil_iff.2 fun o h => by simpa using ho o h
  have hqp : (deleting n q s).qp? n = some q.leaving := by
    rw [State.qp?, deleting_rest]
    exact qp?_setQp (s := result 0 { s with hl := { s.hl with busy := true } }) hq (qp?_n hq :)
  have hany : ((deleting n q s).orders.any fun o => o.qp == n) = false := by
    rw [deleting_rest]
    exact List.any_eq_false.2 fun o h => by simpa using ho o h
  have hclose : closeQp n (deleting n q s) = sample (n.toNat + 1) { deleting n q s with
      qps := (deleting n q s).qps.filter fun x => x.n != n, hl := { (deleting n q s).hl with busy := false } } := by
    have hdel : q.leaving.deleting = true := rfl
    simp only [closeQp, hqp, hany, hdel, Bool.not_false, Bool.and_self, if_true]
  have hown : (!q.gathered.isEmpty && !q.timedOut) = false := by rw [hg]; rfl
  have hleave : setQp { q with deleting := true, gathered := [], timedOut := false, haltOwed := none }
      (result 0 { s with hl := { s.hl with busy := true } }) = leavingQp q s := rfl
  rw [← hclose]
  simp only [deleteQp, liveQp_of_qp? hq hd, hown, hleave, hfilter, Bool.false_eq_true, if_false]
  rfl

theorem deleteQp_spec (hq : s.qp? n = some q) (hd : q.deleting = false) (hg : q.gathered = [])
    (ho : ∀ o ∈ s.orders, o.qp ≠ n) : (deleteQp n s).qp? n = none ∧ (deleteQp n s).hl.result = 0 ∧
      (deleteQp n s).hl.busy = false ∧ (∀ x ∈ (deleteQp n s).sessions, x.qp ≠ n) ∧ (deleteQp n s).orders = s.orders ∧
      (deleteQp n s).hostMem = s.hostMem ∧ ∀ m, m ≠ n → (deleteQp n s).qp? m = s.qp? m := by
  rw [deleteQp_idle hq hd hg ho]
  have hs := sample_same (n.toNat + 1) { deleting n q s with
      qps := (deleting n q s).qps.filter fun x => x.n != n, hl := { (deleting n q s).hl with busy := false } }
  have hqps := hs.get State.qps fun _ => rfl
  have hhl := hs.get State.hl fun _ => rfl
  have hsess := hs.get State.sessions fun _ => rfl
  have hrest := deleting_rest (n := n) (q := q) (s := s)
  refine ⟨?_, ?_, ?_, fun x hx => ?_, ?_, ?_, fun m hm => ?_⟩
  · rw [State.qp?, hqps]
    exact List.find?_eq_none.2 fun x hx => by simpa using (List.mem_filter.1 hx).2
  · rw [hhl, hrest]
    rfl
  · rw [hhl]
  · rw [hsess] at hx
    simpa using endSessions_none _ hx
  · rw [hs.get State.orders fun _ => rfl, hrest]
    rfl
  · rw [hs.get State.hostMem fun _ => rfl, hrest]
    rfl
  · rw [State.qp?, hqps, List.find?_filter, hrest]
    have hf : (fun x : Qp => decide ((x.n != n) = true ∧ (x.n == m) = true)) = fun x => x.n == m := funext fun x => by
      by_cases hx : x.n = m
      · simp [hx, hm]
      · simp [hx]
    rw [hf]
    exact qp?_setQp_ne (s := result 0 { s with hl := { s.hl with busy := true } }) fun h =>
      hm (h.trans (qp?_n hq :))

/-! ### Doorbells (R82, R83) -/

theorem exec_sqTail (hr : s.hostReach = true) (ix : BitVec 16) :
    exec (.sqTailDoorbell n ix []) s = .next (sqTail n ix.toNat s) := congrArg Host.Outcome.next (if_pos hr)

theorem exec_cqHead (hr : s.hostReach = true) (ix : BitVec 16) :
    exec (.cqHeadDoorbell n ix) s = .next (cqHead n ix.toNat s) := congrArg Host.Outcome.next (if_pos hr)

/-- What the driver has written stands in host memory before the doorbell. -/
theorem foldl_hostMem (wr : List (Nat × Bytes)) (s : State) :
    wr.foldl (fun (s : State) w => { s with hostMem := s.hostMem.write w.1 w.2 }) s =
      { s with hostMem := wr.foldl (fun m w => m.write w.1 w.2) s.hostMem } := by
  induction wr generalizing s with
  | nil => rfl
  | cons w wr ih => rw [List.foldl_cons, ih, List.foldl_cons]

theorem exec_sqTail_writes (ix : BitVec 16) (wr : List (Nat × Bytes)) : exec (.sqTailDoorbell n ix wr) s =
    exec (.sqTailDoorbell n ix []) { s with hostMem := wr.foldl (fun m w => m.write w.1 w.2) s.hostMem } := by
  show execSqTailDoorbell n ix wr s = execSqTailDoorbell n ix [] _
  rw [execSqTailDoorbell, foldl_hostMem]
  rfl

section
variable (hq : s.liveQp n = some q) {ix : Nat}
include hq

theorem sqTail_live : sqTail n ix s = if q.sqD ≤ ix then haltQp n 0xFFFFFFFE s else setQp { q with sqTail := ix } s := by
  simp only [sqTail, hq]

theorem cqHead_live : cqHead n ix s = if q.cqD ≤ ix then haltQp n 0xFFFFFFFE s
    else if q.used < (ix + q.cqD - q.cqHead) % q.cqD then haltQp n 0xFFFFFFFB s
    else payHalt n (sample (n.toNat + 1) (setQp { q with cqHead := ix } s)) := by
  simp only [cqHead, hq]

end
end

/-! ### Creation (R80) -/

section
variable {s} {n : BitVec 8} {cls : BitVec 2}

theorem createQp_exists (h : s.qp? n ≠ none) : createQp n cls s = result 1 s :=
  if_pos (Option.isSome_iff_ne_none.2 h)

theorem createQp_free (h : s.qp? n = none) : createQp n cls s =
    let sqD := s.hl.qcfg.toNat % 65536
    let cqD := s.hl.qcfg.toNat / 65536
    let sb := s.hl.sqBase.toNat
    let cb := s.hl.cqBase.toNat
    if sqD = 1 ∨ cqD = 1 then result 2 s
    else if sb % 4096 ≠ 0 ∨ cb % 4096 ≠ 0 ∨ 2 ^ 64 < sb + 64 * depthOf sqD ∨ 2 ^ 64 < cb + 32 * depthOf cqD then result 3 s
    else result 0 { s with qps := s.qps ++ [Qp.new n sb cb (depthOf sqD) (depthOf cqD) cls] } :=
  if_neg (by rw [h]; decide)

end
end

/-- Settles O39: a write of HL_QCMD by BUSY and the first refusal, a doorbell by where its index lies. -/
theorem queueRegisters : Obligations.QueueRegisters := by
  unfold Obligations.QueueRegisters
  intro s n cls hr sqD cqD sb cb gives
  refine ⟨fun hb v => exec_qcmd_busy hr hb v, fun hb => ⟨fun h => ?_, fun h h1 => ?_, fun h h1 h2 h3 => ?_,
    fun h h1 h2 hs hc hse hce => ?_, fun h => ?_, fun q hq hd hg ho => ?_, exec_qcmdNoAction hr hb⟩,
    fun ix wr => exec_sqTail_writes ix wr, fun q ix hq => ⟨fun h => ?_, fun h => ?_, fun h hu => ?_, fun h hu => ?_,
      fun h => ?_⟩⟩
  · rw [exec_queueCreate hr hb, createQp_exists h]
    rfl
  · rw [exec_queueCreate hr hb, createQp_free h]
    exact congrArg Host.Outcome.next (if_pos h1)
  · rw [exec_queueCreate hr hb, createQp_free h]
    exact congrArg Host.Outcome.next ((if_neg (not_or.2 ⟨h1, h2⟩)).trans (if_pos h3))
  · refine ⟨Qp.new n sb cb (depthOf sqD) (depthOf cqD) cls, ?_, rfl, rfl, rfl, rfl, rfl, rfl, rfl, rfl, rfl, rfl, rfl, rfl,
      rfl, rfl, rfl⟩
    rw [exec_queueCreate hr hb, createQp_free h]
    refine congrArg Host.Outcome.next ((if_neg (not_or.2 ⟨h1, h2⟩)).trans (if_neg ?_))
    simp only [not_or, not_not, Nat.not_lt]
    exact ⟨hs, hc, hse, hce⟩
  · rw [exec_queueDelete hr hb, deleteQp, h]
    rfl
  · exact ⟨deleteQp n s, exec_queueDelete hr hb, deleteQp_spec hq hd hg ho⟩
  · rw [exec_sqTail hr, sqTail_live hq, if_neg (Nat.not_le.2 h)]
  · rw [exec_sqTail hr, sqTail_live hq, if_pos h]
  · rw [exec_cqHead hr, cqHead_live hq, if_neg (Nat.not_le.2 h), if_neg (Nat.not_lt.2 hu)]
  · rw [exec_cqHead hr, cqHead_live hq, if_neg (Nat.not_le.2 h), if_pos hu]
  · rw [exec_cqHead hr, cqHead_live hq, if_pos h]

end Sys2Proof.Machine
end


section
/-! The SMBus port and the debug port (18 R402 to R404): each command's reply, and what it leaves. -/

namespace Sys2Proof.Machine

/-! ### The port at 0x3A -/

/-- Four-byte words laid end to end are found again at their places. -/
theorem fld_words (f : Nat → Nat) {n i : Nat} (h : i < n) :
    fld ((List.range n).map fun i => le (f i) 4).flatten (4 * i) 4 = f i % 2 ^ 32 := by
  induction n with
  | zero => omega
  | succ n ih =>
    have hl : ((List.range n).map fun i => le (f i) 4).flatten.length = 4 * n := by
      simp [List.length_flatten, Function.comp_def, Nat.mul_comm]
    rw [List.range_succ, List.map_append, List.flatten_append]
    rcases Nat.lt_or_ge i n with hi | hi
    · have hcut : ∀ (a b : Bytes), 4 * i + 4 ≤ a.length → fld (a ++ b) (4 * i) 4 = fld a (4 * i) 4 := fun a b h => by
        simp only [fld, sl]
        rw [List.drop_append_of_le_length (by omega), List.take_append_of_le_length (by simp; omega)]
      rw [hcut _ _ (by omega), ih hi]
    · obtain rfl : i = n := by omega
      rw [fld_skip (by omega), hl, Nat.sub_self]
      simpa using (fld_front (pre := le (f i) 4) (post := []) (len := 4) (by simp)).trans (leN_le _ _)

section
variable {s : State} (hup : s.power.st ≠ .off)
include hup

theorem soleUp_of_ne_off : s.soleUp = true := bne_iff_ne.2 hup

theorem exec_setPointer_good {v : BitVec 16} (ha : v.toNat % 4 = 0) (hr : v.toNat ≤ 0x27FC) :
    exec (.setPointer v) s = .next { s with smb := { s.smb with pointer := v.toNat, reply := some [] } } := by
  show execSetPointer v s = _
  rw [execSetPointer, soleUp_of_ne_off hup, if_neg (by simp), if_neg (by omega)]

theorem exec_setPointer_bad {v : BitVec 16} (h : v.toNat % 4 ≠ 0 ∨ 0x27FC < v.toNat) :
    exec (.setPointer v) s = .next (reply none s) := by
  show execSetPointer v s = _
  rw [execSetPointer, soleUp_of_ne_off hup, if_neg (by simp), if_pos h]

/-- The 32 bytes of a read block: the words from the pointer on, wrapping at the end of the space. -/
def blockBytes (s : State) : Bytes :=
  ((List.range 8).map fun i => le (smbWord s ((s.smb.pointer + 4 * i) % 0x2800)) 4).flatten

theorem exec_readBlock : exec .readBlock s = .next { s with smb := { s.smb with
    pointer := if s.smb.pointer + 32 ≤ 0x27FF then s.smb.pointer + 32 else 0, reply := some (blockBytes s) } } := by
  show execReadBlock s = _
  rw [execReadBlock, soleUp_of_ne_off hup, if_neg (by simp)]
  rfl

/-- The four words of a summary. -/
def summaryBytes (s : State) : Bytes :=
  le (smbWord s 0) 4 ++ le (smbWord s 4) 4 ++ le (smbWord s 8) 4 ++
    le (if s.soleOnly then s.smb.lcKept else s.lcStatus) 4

theorem exec_readSummary : exec .readSummary s = .next (reply (some (summaryBytes s)) s) := by
  show execReadSummary s = _
  rw [execReadSummary, soleUp_of_ne_off hup, if_neg (by simp)]
  rfl

theorem exec_identity : exec .identity s = .next (reply (some
    (fit (if s.soleOnly then s.smb.idKept else s.identity) 16 ++ [0x6C, 0x1F, 0x00, 0x88])) s) := by
  have hid : le 0x1F6C 2 ++ le 0x8800 2 = [0x6C, 0x1F, 0x00, 0x88] := by decide
  show execIdentity s = _
  rw [execIdentity, soleUp_of_ne_off hup, if_neg (by simp), List.append_assoc, hid]

theorem exec_alert (h : s.smb.alert = true) : exec .alertResponseAddress s =
    .next { s with smb := { s.smb with alert := false, reply := some [0x3A] } } := by
  show execAlertResponseAddress s = _
  rw [execAlertResponseAddress, soleUp_of_ne_off hup, if_neg (by simp), if_pos h]

theorem exec_alert_none (h : s.smb.alert = false) :
    exec .alertResponseAddress s = .next (reply none s) := by
  show execAlertResponseAddress s = _
  rw [execAlertResponseAddress, soleUp_of_ne_off hup, if_neg (by simp), h, if_neg (by simp)]

theorem exec_smbusTimeout : exec .smbusTimeout s = .next (reply none s) := by
  show execSmbusTimeout s = _
  rw [execSmbusTimeout, soleUp_of_ne_off hup, if_pos rfl]

end

theorem blockBytes_length (s : State) : (blockBytes s).length = 32 := by
  simp [blockBytes, List.length_flatten, Function.comp_def]

theorem blockBytes_word (s : State) (i : Fin 8) :
    fld (blockBytes s) (4 * i) 4 = smbWord s ((s.smb.pointer + 4 * i) % 0x2800) % 2 ^ 32 :=
  fld_words (fun i => smbWord s ((s.smb.pointer + 4 * i) % 0x2800)) i.isLt

theorem summaryBytes_spec (s : State) : (summaryBytes s).length = 16 ∧
    fld (summaryBytes s) 0 4 = smbWord s 0 % 2 ^ 32 ∧ fld (summaryBytes s) 4 4 = smbWord s 4 % 2 ^ 32 ∧
    fld (summaryBytes s) 8 4 = smbWord s 8 % 2 ^ 32 ∧
    fld (summaryBytes s) 12 4 = (if s.soleOnly then s.smb.lcKept else s.lcStatus) % 2 ^ 32 := by
  generalize hk : (if s.soleOnly then s.smb.lcKept else s.lcStatus) = k
  have hb : summaryBytes s = le (smbWord s 0) 4 ++ (le (smbWord s 4) 4 ++ (le (smbWord s 8) 4 ++ (le k 4 ++ []))) := by
    simp [summaryBytes, hk]
  rw [hb]
  simp [fld_skip, fld_front, leN_le, -List.append_nil]

/-! ### Off, and debug off -/

theorem debugPort_off {s : State} (h : s.power.st = .off) (act : State → State) : debugPort s act = .next s := by
  rw [debugPort, show s.dbgUp = false by simp [State.dbgUp, State.awake, h],
    show s.soleUp = false by simp [State.soleUp, h]]
  rfl

theorem debugPort_down {s : State} (hd : s.dbgUp = false) (h : s.power.st ≠ .off) (act : State → State) :
    debugPort s act = .next (reply none s) := by
  rw [debugPort, hd, soleUp_of_ne_off h]
  rfl

theorem debugPort_up {s : State} (hd : s.dbgUp = true) (act : State → State) : debugPort s act = .next (act s) := by
  rw [debugPort, if_pos hd]

/-- The commands of the debug port, with an operand each. -/
def debugCommands (t : BitVec 8) (a r : BitVec 32) : List Instr :=
  [.select t, .halt, .resume, .step, .setAddr a, .readMem, .readReg r, .dbgStatus]

/-- Every one of them acts through the port's own gate. -/
theorem exec_debugCommand (s : State) (t : BitVec 8) (a r : BitVec 32) :
    ∀ i ∈ debugCommands t a r, ∃ act, exec i s = debugPort s act := by
  simp only [debugCommands, List.forall_mem_cons, List.not_mem_nil, false_imp_iff, implies_true, and_true]
  exact ⟨⟨_, show execSelect t s = _ by rw [execSelect]⟩, ⟨_, show execHalt s = _ by rw [execHalt]⟩,
    ⟨_, show execResume s = _ by rw [execResume]⟩, ⟨_, show execStep s = _ by rw [execStep]⟩,
    ⟨_, show execSetAddr a s = _ by rw [execSetAddr]⟩, ⟨_, show execReadMem s = _ by rw [execReadMem]⟩,
    ⟨_, show execReadReg r s = _ by rw [execReadReg]⟩, ⟨_, show execDbgStatus s = _ by rw [execDbgStatus]⟩⟩

/-- No command of either port has an effect while main power and battery are off. -/
theorem smbus_off {s : State} (h : s.power.st = .off) : ∀ i ∈ [Instr.setPointer 0, .readBlock, .readSummary,
    .identity, .alertResponseAddress, .smbusTimeout, .select 0, .halt, .resume, .step, .setAddr 0, .readMem,
    .readReg 0, .dbgStatus], exec i s = .next s := by
  have hdown : s.soleUp = false := by simp [State.soleUp, h]
  have hdbg : ∀ i ∈ debugCommands 0 0 0, exec i s = .next s := fun i hi =>
    (exec_debugCommand s 0 0 0 i hi).elim fun act h' => h'.trans (debugPort_off h act)
  simp only [debugCommands, List.forall_mem_cons] at hdbg ⊢
  refine ⟨?_, ?_, ?_, ?_, ?_, ?_, hdbg⟩
  · show execSetPointer 0 s = _
    rw [execSetPointer, hdown]; rfl
  · show execReadBlock s = _
    rw [execReadBlock, hdown]; rfl
  · show execReadSummary s = _
    rw [execReadSummary, hdown]; rfl
  · show execIdentity s = _
    rw [execIdentity, hdown]; rfl
  · show execAlertResponseAddress s = _
    rw [execAlertResponseAddress, hdown]; rfl
  · show execSmbusTimeout s = _
    rw [execSmbusTimeout, hdown]; rfl

theorem debug_down {s : State} (hd : s.dbgUp = false) (h : s.power.st ≠ .off) (t : BitVec 8) (a r : BitVec 32) :
    ∀ i ∈ [Instr.select t, .halt, .resume, .step, .setAddr a, .readMem, .readReg r, .dbgStatus],
      exec i s = .next (reply none s) :=
  fun i hi => (exec_debugCommand s t a r i hi).elim fun act h' => h'.trans (debugPort_down hd h act)

/-! ### The debug port -/

section
variable {s : State} (hd : s.dbgUp = true)
include hd

theorem exec_select_good {t : BitVec 8} (h : t.toNat ≤ 8 ∨ (0x10 ≤ t.toNat ∧ t.toNat < 0x20)) : exec (.select t) s =
    .next { s with dbg := { s.dbg with target := t.toNat }, smb := { s.smb with reply := some [] } } := by
  show execSelect t s = _
  rw [execSelect, debugPort_up hd, if_pos h]

theorem exec_select_bad {t : BitVec 8} (h : ¬(t.toNat ≤ 8 ∨ (0x10 ≤ t.toNat ∧ t.toNat < 0x20))) :
    exec (.select t) s = .next (reply none s) := by
  show execSelect t s = _
  rw [execSelect, debugPort_up hd, if_neg h]

theorem exec_setAddr_good {a : BitVec 32} (h : ¬(a.toNat % 4 ≠ 0 ∨ dbgSize s.dbg.target ≤ a.toNat)) :
    exec (.setAddr a) s =
      .next { s with dbg := { s.dbg with addr := a.toNat }, smb := { s.smb with reply := some [] } } := by
  show execSetAddr a s = _
  rw [execSetAddr, debugPort_up hd, if_neg h]

theorem exec_setAddr_bad {a : BitVec 32} (h : a.toNat % 4 ≠ 0 ∨ dbgSize s.dbg.target ≤ a.toNat) :
    exec (.setAddr a) s = .next (reply none s) := by
  show execSetAddr a s = _
  rw [execSetAddr, debugPort_up hd, if_pos h]

end

theorem dbgCore_of_target {s : State} {c : Fin 9} (h : s.dbg.target = c) : s.dbgCore = some c.val := by
  rw [State.dbgCore, if_pos (by omega), h]

theorem dbgCore_of_lane {s : State} (h : 0x10 ≤ s.dbg.target) : s.dbgCore = none := by
  rw [State.dbgCore, if_neg (by omega)]

theorem onCore_core {s : State} {c : Fin 9} (h : s.dbg.target = c) (f : Core → Core) :
    onCore s f = reply (some []) (setCore c (f (s.core c)) s) := by
  rw [onCore, dbgCore_of_target h]

theorem onCore_lane {s : State} (h : 0x10 ≤ s.dbg.target) (f : Core → Core) : onCore s f = reply none s := by
  rw [onCore, dbgCore_of_lane h]

theorem exec_readReg_lane {s : State} (hd : s.dbgUp = true) (h : 0x10 ≤ s.dbg.target) (r : BitVec 32) :
    exec (.readReg r) s = .next (reply (some (2 :: zeros 8)) s) := by
  show execReadReg r s = _
  rw [execReadReg, debugPort_up hd, dbgCore_of_lane h]

theorem exec_readReg_running {s : State} (hd : s.dbgUp = true) {c : Fin 9} (h : s.dbg.target = c)
    (hh : (s.core c).halted = false) (r : BitVec 32) :
    exec (.readReg r) s = .next (reply (some (1 :: zeros 8)) s) := by
  show execReadReg r s = _
  rw [execReadReg, debugPort_up hd, dbgCore_of_target h]
  simp [hh]

/-- A halted core with a frame answers its register, or that there is none of that number. -/
theorem exec_readReg_halted {s : State} (hd : s.dbgUp = true) {c : Fin 9} (h : s.dbg.target = c)
    (hh : (s.core c).halted = true) {fr : Fr} (hf : s.dbgFrame c = some fr) (r : BitVec 32) :
    exec (.readReg r) s = .next (reply (some (match dbgReg s c fr r.toNat with
      | some v => 0 :: le v 8
      | none => 2 :: zeros 8)) s) := by
  show execReadReg r s = _
  rw [execReadReg, debugPort_up hd, dbgCore_of_target h]
  simp only [hh, hf, Bool.not_true, Bool.false_eq_true, if_false]
  cases dbgReg s c fr r.toNat <;> rfl

theorem dbgReg_general (s : State) (c : Nat) (fr : Fr) {r : Nat} (h : r < 32) :
    dbgReg s c fr r = some (fr.reg (BitVec.ofNat 5 r)).toNat := if_pos h

theorem dbgReg_pc (s : State) (c : Nat) (fr : Fr) : dbgReg s c fr 32 = some fr.pc.toNat := rfl

theorem dbgReg_none (s : State) (c : Nat) (fr : Fr) {r : Nat} (h : 32 < r) (hr : r < 0x10000) :
    dbgReg s c fr r = none := by
  rw [dbgReg, if_neg (by omega), if_neg (by omega), if_neg (by omega)]

/-! ### Memory and status -/

theorem Mem.read_length (m : Mem) (a n : Nat) : (m.read a n).length = n := by
  induction n generalizing a with
  | zero => rfl
  | succ n ih => simp [Mem.read, ih]

theorem dbgBytes_spec (s : State) : (dbgBytes s).1.length = 32 ∧ { (dbgBytes s).2 with freeCtr := s.freeCtr } = s := by
  unfold dbgBytes
  by_cases h8 : s.dbg.target = 8
  · simp only [h8, if_true]
    exact ⟨Mem.read_length _ _ _, trivial⟩
  · simp only [h8, if_false]
    split_ifs <;> exact ⟨by simp, rfl⟩

theorem exec_readMem {s : State} (hd : s.dbgUp = true) : exec .readMem s = .next { (dbgBytes s).2 with
    dbg := { (dbgBytes s).2.dbg with
      addr := ((dbgBytes s).2.dbg.addr + 32) % dbgSize (dbgBytes s).2.dbg.target }
    smb := { (dbgBytes s).2.smb with reply := some (dbgBytes s).1 } } := by
  show execReadMem s = _
  rw [execReadMem, debugPort_up hd]

theorem exec_readMem_supervisor {s : State} (hd : s.dbgUp = true) (h : s.dbg.target = 8) :
    exec .readMem s = .next { s with
      dbg := { s.dbg with addr := (s.dbg.addr + 32) % 0x80000 }
      smb := { s.smb with reply := some (s.supSram.read s.dbg.addr 32) } } := by
  rw [exec_readMem hd, dbgBytes, if_pos h]
  simp only [h]
  rfl

/-- The number whose bit `c` says `p c`, for the first `n` bits. -/
theorem sum_bits (p : Nat → Bool) (n : Nat) : ((List.range n).map fun c => if p c then 2 ^ c else 0).sum < 2 ^ n ∧
    ∀ c < n, ((List.range n).map fun c => if p c then 2 ^ c else 0).sum.testBit c = p c := by
  induction n with
  | zero => simp
  | succ n ih =>
    obtain ⟨hlt, hbit⟩ := ih
    rw [List.range_succ, List.map_append, List.sum_append]
    simp only [List.map_cons, List.map_nil, List.sum_cons, List.sum_nil, Nat.add_zero]
    generalize ((List.range n).map fun c => if p c then 2 ^ c else 0).sum = m at hlt hbit
    have htop : m + (if p n then 2 ^ n else 0) = 2 ^ n * (p n).toNat + m := by cases p n <;> simp [Nat.add_comm]
    rw [htop]
    refine ⟨by rw [Nat.pow_succ]; cases p n <;> simp <;> omega, fun c hc => ?_⟩
    rw [Nat.testBit_two_pow_mul_add _ hlt]
    rcases Nat.lt_or_ge c n with h | h
    · rw [if_pos h, hbit c h]
    · obtain rfl : c = n := by omega
      rw [if_neg (Nat.lt_irrefl _), Nat.sub_self]
      cases p c <;> rfl

/-- The status word of the debug port: the target over the halted cores. -/
def dbgWord (s : State) : Nat :=
  s.dbg.target * 2 ^ 16 + ((List.range 9).map fun c => if (s.core c).halted then 2 ^ c else 0).sum

theorem exec_dbgStatus {s : State} (hd : s.dbgUp = true) :
    exec .dbgStatus s = .next (reply (some (le (dbgWord s) 4)) s) := by
  show execDbgStatus s = _
  rw [execDbgStatus, debugPort_up hd]
  rfl

theorem dbgWord_spec (s : State) : dbgWord s % 2 ^ 16 < 512 ∧ dbgWord s / 2 ^ 16 = s.dbg.target ∧
    ∀ c : Fin 9, (dbgWord s).testBit c = (s.core c).halted := by
  obtain ⟨hlt, hbit⟩ := sum_bits (fun c => (s.core c).halted) 9
  rw [dbgWord]
  generalize ((List.range 9).map fun c => if (s.core c).halted then 2 ^ c else 0).sum = m at hlt hbit
  refine ⟨by omega, by omega, fun c => ?_⟩
  rw [Nat.mul_comm, Nat.testBit_two_pow_mul_add _ (by omega), if_pos (by omega), hbit c c.isLt]

/-- Settles O55. -/
theorem smbusAndDebug : Obligations.SmbusAndDebug := by
  intro s
  refine ⟨fun hup => ⟨fun v => exec_setPointer_good hup, fun v => exec_setPointer_bad hup,
      ⟨blockBytes s, blockBytes_length s, exec_readBlock hup, blockBytes_word s⟩, ?_, exec_identity hup,
      exec_alert hup, exec_alert_none hup, exec_smbusTimeout hup⟩, smbus_off,
    fun hd hup t a r => debug_down hd hup t a r, fun hd => ⟨fun t => exec_select_good hd,
      fun t h h' => exec_select_bad hd (by omega), fun a h h' => exec_setAddr_good hd (by omega),
      fun a => exec_setAddr_bad hd, fun c hc => ?_, fun h => ⟨?_, exec_readReg_lane hd h⟩, exec_readMem_supervisor hd,
      ?_, dbgWord s, (dbgWord_spec s).1, (dbgWord_spec s).2.1, exec_dbgStatus hd, (dbgWord_spec s).2.2⟩⟩
  · obtain ⟨hl, h0, h1, h2, h3⟩ := summaryBytes_spec s
    exact ⟨summaryBytes s, hl, exec_readSummary hup, h0, h1, h2, h3⟩
  · refine ⟨?_, ?_, ?_, fun r hh => exec_readReg_running hd hc hh r, fun r fr hh hf => ⟨fun h => ?_, fun h => ?_,
      fun h h' => ?_⟩⟩
    · show execHalt s = _
      rw [execHalt, debugPort_up hd, onCore_core hc]
      rfl
    · show execResume s = _
      rw [execResume, debugPort_up hd, onCore_core hc]
      rfl
    · show execStep s = _
      rw [execStep, debugPort_up hd, onCore_core hc]
      rfl
    · rw [exec_readReg_halted hd hc hh hf, dbgReg_general _ _ _ h]
      rfl
    · rw [exec_readReg_halted hd hc hh hf, h, show (32 : BitVec 32).toNat = 32 from rfl, dbgReg_pc]
      rfl
    · rw [exec_readReg_halted hd hc hh hf, dbgReg_none _ _ _ h h']
      rfl
  · simp only [List.forall_mem_cons, List.not_mem_nil, false_imp_iff, implies_true, and_true]
    exact ⟨show execHalt s = _ by rw [execHalt, debugPort_up hd, onCore_lane h]; rfl,
      show execResume s = _ by rw [execResume, debugPort_up hd, onCore_lane h]; rfl,
      show execStep s = _ by rw [execStep, debugPort_up hd, onCore_lane h]; rfl⟩
  · obtain ⟨hl, hrest⟩ := dbgBytes_spec s
    exact ⟨_, _, exec_readMem hd, rfl, hl, (congrArg (fun t : State => { t with dbg := s.dbg, smb := s.smb }) hrest :)⟩

end Sys2Proof.Machine
end


section
/-! What each officer body presses, and the states that allow it (03, 04, 12, 13, 15, 17). -/

namespace Sys2Proof.Machine

section
variable {r : OffReq} {b : Bytes} {s : State}

/-- A body that makes a list of items presses those, with no output. -/
theorem Body.presses {k : Body} {l : List PItem} (h : k.make r b s = made l s) :
    ∃ m, k.make r b s = .ok (m, s) ∧ m.items = l ∧ m.out = [] := ⟨_, h, rfl, rfl⟩

theorem orBad_passed {α : Type} {l : List (Bool × Status)} {k : Except Refused α} (h : ∀ e ∈ l, e.1 = false) :
    orBad l k = k := by
  rw [orBad, List.find?_eq_none.2 fun e he => by rw [h e he]; decide]
  rfl

theorem orBad_first {α : Type} {c : Bool} {st : Status} {l : List (Bool × Status)} {k : Except Refused α}
    (h : c = true) : orBad ((c, st) :: l) k = bad st := by
  rw [orBad, List.find?_cons_of_pos h]
  rfl

/-! ### Life cycle, debug, lasts and officers -/

theorem lcChange_retire (h : fld b 2 1 = 7) : lcChangeBody.make r b s = made [.retire 1 (b.getD 3 0)] s := by
  simp only [lcChangeBody, Body.plain, h]

theorem lcChange_recovery (h : fld b 2 1 = 3) (hl : s.vault.lc = .service) :
    lcChangeBody.make r b s = made [.lifeCycle .recovery] s := by
  simp only [lcChangeBody, Body.plain, h, hl]

theorem lcChange_service (h : fld b 2 1 = 2) (hl : s.vault.lc = .recovery) :
    lcChangeBody.make r b s = made [.lifeCycle .service] s := by
  simp only [lcChangeBody, Body.plain, h, hl]

theorem lcChange_refused (h7 : fld b 2 1 ≠ 7) (h3 : fld b 2 1 ≠ 3 ∨ s.vault.lc ≠ .service)
    (h2 : fld b 2 1 ≠ 2 ∨ s.vault.lc ≠ .recovery) : lcChangeBody.make r b s = bad .lifecycle := by
  simp only [lcChangeBody, Body.plain]
  split
  · exact absurd ‹fld b 2 1 = 7› h7
  · simp_all
  · simp_all
  · rfl

theorem lastSelect_made (h : fld b 2 1 ≤ 3) :
    lastSelectBody.make r b s = made [.pendLast (some (BitVec.ofNat 2 (fld b 2 1)))] s := if_neg (Nat.not_lt.2 h)

theorem lastSelect_refused (h : 3 < fld b 2 1) : lastSelectBody.make r b s = bad .operandRange := if_pos h

theorem lastInstall_made (h : fld (b.drop 8) 8 1 = fld b 2 1) (hr : lastInRange (b.drop 8) = true) :
    lastInstallBody.make r b s =
      made [.last (BitVec.ofNat 2 (fld b 2 1)) (lastOf (b.drop 8) (s.lastGeneration (fld b 2 1)))] s := by
  simp only [lastInstallBody, Body.plain, h, hr, bne_self_eq_false, Bool.false_eq_true, Bool.not_true, if_false]

theorem officerSet_made (h : firstOf (officersBad s b) = none) : officerSetBody.make r b s =
    made [.officers (officersIn b) (fld b 3 1) (sl b 20 8)] s := by
  show orBad (officersBad s b) (made [officersItem b] s) = _
  rw [orBad, show (List.find? (fun e => e.1) (officersBad s b)).map Prod.snd = none from h]
  rfl

/-! ### Books and applets -/

theorem bookClose_made (hb : fld b 2 1 ≤ 63) (hk : (s.book (fld b 2 1)).st ≠ .closed) (hl : s.vault.lc = .service) :
    bookCloseBody.make r b s = made [.bookClose (fld b 2 1)] s :=
  orBad_passed (by simp [hb, hk, hl])

theorem bookClose_refused (h : 63 < fld b 2 1 ∨ (s.book (fld b 2 1)).st = .closed) :
    bookCloseBody.make r b s = bad .operandRange :=
  orBad_first (by simpa using h)

/-- The device holds the applet and version the body names. -/
def holdsApplet (s : State) (b : Bytes) : Bool :=
  s.cellar.applets.any fun a => a.id == fld b 4 4 && a.ver == fld b 8 2

theorem appletRemove_made (h : holdsApplet s b = true) :
    appletRemoveBody.make r b s = made [.appletRm (fld b 4 4) (fld b 8 2)] s := if_pos h

theorem appletRemove_refused (h : holdsApplet s b = false) : appletRemoveBody.make r b s = bad .operandRange :=
  if_neg (ne_true_of_eq_false h)

/-! ### The Welt and the cards -/

theorem weltUnpair_made (h : s.welt.role ≠ .follower) : weltUnpairBody.make r b s = made [.weltUnpair] s :=
  if_pos (bne_iff_ne.2 h)

theorem weltUnpair_refused (h : s.welt.role = .follower) : weltUnpairBody.make r b s = bad .lifecycle :=
  if_neg fun h' => bne_iff_ne.1 h' h

theorem weltMode_made (h : s.welt.role = .lead) :
    weltModeBody.make r b s = made [.weltMode (fld b 2 1 == 1)] s := if_pos (beq_iff_eq.2 h)

theorem weltMode_refused (h : s.welt.role ≠ .lead) : weltModeBody.make r b s = bad .lifecycle :=
  if_neg fun h' => h (beq_iff_eq.1 h')

theorem weltHandover_made (h : s.syncLead = true) : weltHandoverBody.make r b s = made [.weltHandover] s := if_pos h

/-- A takeover is for a follower whose link is down and whose grant has lapsed. -/
def mayTakeOver (s : State) : Bool := s.welt.role == .follower && !s.welt.link && !s.welt.granted

theorem weltTakeover_made (h : mayTakeOver s = true) : weltTakeoverBody.make r b s = made [.weltTakeover] s := if_pos h

theorem weltTakeover_refused (h : mayTakeOver s = false) : weltTakeoverBody.make r b s = bad .lifecycle :=
  if_neg (ne_true_of_eq_false h)

theorem cardErase_made {ch : Fin 3} (hch : fld b 2 1 = ch)
    (hr : s.active.roles.getD ch 0 = 1 ∨ s.active.roles.getD ch 0 = 2) (hok : s.chanOk (48 + ch) = true)
    (hst : (s.card ch).st = .identified) (hp : (s.card ch).present = true) (hw : (s.card ch).csdWp = false)
    (hf : bit (fld b 3 1) 0 = false) (hs : (s.card ch).vol.serial < 0xFFFFFF) :
    cardEraseBody.make r b s = made [.volErase ch false] s := by
  have hmade : cardEraseBody.make r b s = made [.volErase (fld b 2 1) (bit (fld b 3 1) 0)] s := by
    refine orBad_passed ?_
    simp only [hch, hf]
    simp only [List.forall_mem_cons, List.not_mem_nil, false_imp_iff, implies_true, and_true]
    have hlt : ¬2 < ch.val := by omega
    refine ⟨?_, by simp [hok], by simp [hst, hp], hw, rfl, by simpa using hs⟩
    obtain hr | hr := hr <;> simp only [hr, hlt] <;> rfl
  rw [hmade, hch, hf]

/-! ### The states and the device of each body -/

/-- The bodies whose orders SERVICE and RECOVERY take. -/
theorem bodies_states : ∀ b ∈ [lcChangeBody, debugPermitBody, lastSelectBody, lastInstallBody, keyBodyOf,
    timeConfigBody, timeSlewBody, timeStepBody, bookOpenBody, bookConfigBody, bookCloseBody, appletInstallBody,
    appletRemoveBody, weltPairBody, weltUnpairBody, weltModeBody, weltHandoverBody, weltTakeoverBody, cardEraseBody],
    b.states = [Lifecycle.service, .recovery] := by
  simp only [List.forall_mem_cons, List.not_mem_nil, false_imp_iff, implies_true, and_true]
  exact ⟨rfl, rfl, rfl, rfl, rfl, rfl, rfl, rfl, rfl, rfl, rfl, rfl, rfl, rfl, rfl, rfl, rfl, rfl, rfl⟩

theorem bodies_deviceOnly (x : Bytes) : ∀ b ∈ [debugPermitBody, lastSelectBody, timeConfigBody, timeSlewBody,
    timeStepBody, weltPairBody, weltUnpairBody, weltTakeoverBody, cardEraseBody], b.device x = true := by
  simp only [List.forall_mem_cons, List.not_mem_nil, false_imp_iff, implies_true, and_true]
  exact ⟨rfl, rfl, rfl, rfl, rfl, rfl, rfl, rfl, rfl⟩

theorem bodies_anyDevice (x : Bytes) : ∀ b ∈ [officerSetBody, lastInstallBody, keyBodyOf, bookOpenBody,
    bookConfigBody, bookCloseBody, appletInstallBody, appletRemoveBody, weltModeBody, weltHandoverBody],
    b.device x = false := by
  simp only [List.forall_mem_cons, List.not_mem_nil, false_imp_iff, implies_true, and_true]
  exact ⟨rfl, rfl, rfl, rfl, rfl, rfl, rfl, rfl, rfl, rfl⟩

end

/-- Settles O47. -/
theorem officerBodies : Obligations.OfficerBodies := by
  refine ⟨fun r b s => ⟨fun h => Body.presses (lcChange_retire h), fun h hl => Body.presses (lcChange_recovery h hl),
    fun h hl => Body.presses (lcChange_service h hl), lcChange_refused, Body.presses rfl,
    fun h => Body.presses (lastSelect_made h), lastSelect_refused,
    fun h hr => Body.presses (lastInstall_made h hr), fun h => Body.presses (officerSet_made h),
    fun hb hk hl => Body.presses (bookClose_made hb hk hl), bookClose_refused,
    fun h => Body.presses (appletRemove_made h), appletRemove_refused,
    fun h => Body.presses (weltUnpair_made h), weltUnpair_refused, fun h => Body.presses (weltMode_made h),
    weltMode_refused, fun h => Body.presses (weltHandover_made h),
    fun h hl hg => Body.presses (weltTakeover_made (by simp [mayTakeOver, h, hl, hg])),
    fun h => weltTakeover_refused ?_,
    fun ch hch hr hok hst hp hw hf hs => Body.presses (cardErase_made hch hr hok hst hp hw hf hs)⟩,
    rfl, bodies_states, fun x => ⟨bodies_deviceOnly x, bodies_anyDevice x⟩⟩
  obtain h | h | h := h <;> simp [mayTakeOver, h]

end Sys2Proof.Machine
end


section
/-! Register writes by the host, the latching reads, and the MSI-X mask and Message Control (05 R74 to R82, 14). -/

namespace Sys2Proof.Machine

theorem hostReach_parts {s : State} (h : s.hostReach = true) :
    s.awake = true ∧ decide (s.linkWidth ≠ 0) = true ∧ s.link.d3hot = false := by
  simp only [State.hostReach, Bool.and_eq_true, Bool.not_eq_true'] at h
  exact ⟨h.1.1, h.1.2, h.2⟩

/-! ### The latching reads -/

/-- A sample of the time lies in the second it is taken in. -/
theorem sampleTime_second (s : State) : (sampleTime s).time.t / second = s.time.t / second := by
  obtain ⟨p, hp, ht⟩ : ∃ p < second, (sampleTime s).time.t = max s.time.t (max s.time.t (s.time.t / second * second + p)) := by
    have hcut (p q : Nat) (hp : p < second) : (if s.power.st == .battery then p / q * q else p) < second := by
      split
      · exact Nat.lt_of_le_of_lt (Nat.div_mul_le_self p q) hp
      · exact hp
    exact ⟨_, hcut _ _ (Nat.mod_lt _ second_pos), advance_t _ _⟩
  have hlow : s.time.t / second * second ≤ s.time.t := Nat.div_mul_le_self _ _
  have hhigh : s.time.t < second * (s.time.t / second + 1) := Nat.lt_mul_div_succ _ second_pos
  rw [ht]
  refine Nat.div_eq_of_lt_le ?_ ?_
  · exact le_trans hlow (le_max_left _ _)
  · rw [Nat.mul_comm second] at hhigh
    refine max_lt hhigh (max_lt hhigh ?_)
    rw [Nat.succ_mul]
    omega

theorem exec_tmFracLoRead {s : State} (h : s.hostReach = true) : exec .tmFracLoRead s = .next
    { latchTime (sampleTime s) with hostRead := BitVec.ofNat 32 (latchTime (sampleTime s)).time.t } := by
  show execTmFracLoRead s = _
  rw [execTmFracLoRead, if_pos h]

theorem exec_hlEpochLoRead {s : State} (h : s.hostReach = true) : exec .hlEpochLoRead s = .next { s with
    hostRead := BitVec.ofNat 32 s.press.epoch
    hl := { s.hl with epochHi := BitVec.ofNat 32 (s.press.epoch / 2 ^ 32) } } := by
  show execHlEpochLoRead s = _
  rw [execHlEpochLoRead, if_pos h]

/-! ### Register writes -/

section
variable {s : State} (v : BitVec 32)

theorem exec_registerWrite_partial (off : BitVec 25) {be : BitVec 4} (h : be ≠ 0xF) :
    exec (.registerWrite off v be) s = .next s := by
  show execRegisterWrite off v be s = _
  rw [execRegisterWrite, if_pos (by rw [bne_iff_ne.2 h, Bool.or_true])]

variable (h : s.hostReach = true)
include h

/-- A whole write below the second BAR acts on the register of its offset. -/
theorem exec_registerWrite (off : BitVec 25) (ho : off.getLsbD 24 = false) :
    exec (.registerWrite off v 0xF) s = .next (bar0Write off.toNat v s) := by
  show execRegisterWrite off v 0xF s = _
  rw [execRegisterWrite, h, if_neg (by decide), ho, if_neg (by decide)]

/-- The same, the offset given as a number. -/
theorem exec_registerWrite_at {off : Nat} (ho : off < 2 ^ 24) :
    exec (.registerWrite (BitVec.ofNat 25 off) v 0xF) s = .next (bar0Write off v s) := by
  have hto : (BitVec.ofNat 25 off).toNat = off := by rw [BitVec.toNat_ofNat, Nat.mod_eq_of_lt (by omega)]
  rw [exec_registerWrite v h _ (by rw [BitVec.getLsbD, hto]; exact Nat.testBit_lt_two_pow ho), hto]

theorem exec_registerWrite_readOnly : ∀ off ∈ [(0 : BitVec 25), 4, 0x40, 0x80, 0x84, 0x100, 0xFFFC, 0x1101C, 0x11100,
    0x30000, 0x3001C, 0x40004, 0x40010, 0x50000], exec (.registerWrite off v 0xF) s = .next s := by
  intro off hoff
  simp only [List.mem_cons, List.not_mem_nil, or_false] at hoff
  rcases hoff with rfl | rfl | rfl | rfl | rfl | rfl | rfl | rfl | rfl | rfl | rfl | rfl | rfl | rfl <;>
    exact (exec_registerWrite v h _ rfl).trans (congrArg _ (by simp [bar0Write]))

theorem exec_registerWrite_sqTail (q : BitVec 8) :
    exec (.registerWrite (BitVec.ofNat 25 (0x10000 + 8 * q.toNat)) v 0xF) s =
      exec (.sqTailDoorbell q (v.extractLsb' 0 16) []) s := by
  have hq := q.isLt
  rw [exec_registerWrite_at v h (by omega)]
  show _ = execSqTailDoorbell q (v.extractLsb' 0 16) [] s
  rw [bar0Write, if_pos (by omega), if_pos (by omega), execSqTailDoorbell, List.foldl_nil, if_pos h,
    show (0x10000 + 8 * q.toNat - 0x10000) / 8 = q.toNat by omega, BitVec.ofNat_toNat, BitVec.setWidth_eq]
  simp

theorem exec_registerWrite_cqHead (q : BitVec 8) :
    exec (.registerWrite (BitVec.ofNat 25 (0x10004 + 8 * q.toNat)) v 0xF) s =
      exec (.cqHeadDoorbell q (v.extractLsb' 0 16)) s := by
  have hq := q.isLt
  rw [exec_registerWrite_at v h (by omega)]
  show _ = execCqHeadDoorbell q (v.extractLsb' 0 16) s
  rw [bar0Write, if_pos (by omega), if_neg (by omega), execCqHeadDoorbell, if_pos h,
    show (0x10004 + 8 * q.toNat - 0x10000) / 8 = q.toNat by omega, BitVec.ofNat_toNat, BitVec.setWidth_eq]
  simp

theorem exec_registerWrite_evSrc (n : Fin 512) :
    exec (.registerWrite (BitVec.ofNat 25 (0x20000 + 4 * n)) v 0xF) s = exec (.evSrcWrite n v) s := by
  rw [exec_registerWrite_at v h (by omega)]
  show _ = execEvSrcWrite n v s
  rw [bar0Write, if_neg (by omega), if_neg (by omega), if_neg (by omega), if_neg (by omega), if_neg (by omega),
    if_neg (by omega), if_neg (by omega), if_neg (by omega), if_pos (by omega), execEvSrcWrite, if_pos rfl, if_pos h,
    show (0x20000 + 4 * n.val - 0x20000) / 4 = n by omega]

theorem exec_registerWrite_evGrp (g : Fin 64) :
    exec (.registerWrite (BitVec.ofNat 25 (0x20800 + 4 * g)) v 0xF) s = exec (.evGrpWrite g v) s := by
  rw [exec_registerWrite_at v h (by omega)]
  show _ = execEvGrpWrite g v s
  rw [bar0Write, if_neg (by omega), if_neg (by omega), if_neg (by omega), if_neg (by omega), if_neg (by omega),
    if_neg (by omega), if_neg (by omega), if_neg (by omega), if_neg (by omega), if_pos (by omega), execEvGrpWrite,
    if_pos h, show (0x20800 + 4 * g.val - 0x20800) / 4 = g by omega]

theorem exec_registerWrite_lost : exec (.registerWrite 0x11018 v 0xF) s =
    .next { s with hl := { s.hl with lost := s.hl.lost && !v.getLsbD 8 } } := by
  rw [exec_registerWrite v h _ rfl]
  show Host.Outcome.next (if v.getLsbD 8 then { s with hl := { s.hl with lost := false } } else s) = _
  cases v.getLsbD 8 with
  | true => simp
  | false => simp

theorem exec_registerWrite_create (hv : v.toNat / 2 ^ 30 = 1) : exec (.registerWrite 0x11014 v 0xF) s =
    exec (.queueCreate (v.extractLsb' 0 8) (v.extractLsb' 16 2)) s := by
  rw [exec_registerWrite v h _ rfl]
  show Host.Outcome.next (queueCmd (v.toNat / 2 ^ 30) _ _ s) = execQueueCreate _ _ s
  rw [hv, execQueueCreate, if_pos h]

theorem exec_registerWrite_delete (hv : v.toNat / 2 ^ 30 = 2) : exec (.registerWrite 0x11014 v 0xF) s =
    exec (.queueDelete (v.extractLsb' 0 8)) s := by
  rw [exec_registerWrite v h _ rfl]
  show Host.Outcome.next (queueCmd (v.toNat / 2 ^ 30) (v.extractLsb' 16 2) _ s) = execQueueDelete _ s
  rw [hv, execQueueDelete, if_pos h]
  rfl

theorem exec_registerWrite_complete : exec (.registerWrite 0x20904 v 0xF) s = exec (.evComplete true v) s := by
  rw [exec_registerWrite v h _ rfl]
  show _ = execEvComplete true v s
  rw [execEvComplete, if_pos rfl, if_pos h]
  rfl

theorem exec_registerWrite_gdis : exec (.registerWrite 0x20908 v 0xF) s = exec (.evGdisWrite true v) s := by
  rw [exec_registerWrite v h _ rfl]
  show _ = execEvGdisWrite true v s
  rw [execEvGdisWrite, if_pos rfl, if_pos h]
  rfl

end

/-! ### The MSI-X mask and Message Control (R313) -/

/-- An entry written to the table is read back. -/
theorem msixEntry_setMsix (e : MsixEntry) (s : State) : (setMsix e s).msixEntry e.v = e := by
  have hnone : ((s.msix.table.filter fun x => x.v != e.v).find? fun x => x.v == e.v) = none := by
    simp [List.find?_eq_none]
  rw [State.msixEntry, setMsix, List.find?_append, hnone]
  simp

section
variable (v : Nat) (s : State)

theorem unmasked_keeps : (unmasked v s).msix.table = s.msix.table ∧ (unmasked v s).msix.enable = s.msix.enable ∧
    (unmasked v s).msix.funcMask = s.msix.funcMask ∧ (unmasked v s).ev = s.ev := by
  unfold unmasked
  split_ifs <;> exact ⟨rfl, rfl, rfl, rfl⟩

variable {v s}

theorem unmasked_notPending (h : v ∉ s.msix.pba) : unmasked v s = s := if_pos (by simp [h])

theorem unmasked_masked (h : s.vecMasked v = true) : unmasked v s = s := if_pos (by simp [h])

theorem unmasked_sends (hp : v ∈ s.msix.pba) (hm : s.vecMasked v = false) (ha : s.vecAsserted v = true)
    (hg : s.ev.gdisHost = false) (hd : s.link.d3hot = false) : unmasked v s = { s with
      msix := { s.msix with pba := s.msix.pba.filter (· != v) }
      tx := s.tx ++ [.msix v (s.msixEntry v).addr (s.msixEntry v).data] } := by
  rw [unmasked, if_neg (by simp [hp, hm]), if_pos (by simp [ha, hg, hd])]

theorem unmasked_rearms (hp : v ∈ s.msix.pba) (hm : s.vecMasked v = false)
    (ha : s.vecAsserted v = false ∨ s.ev.gdisHost = true) : unmasked v s = { s with
      msix := { s.msix with
        pba := s.msix.pba.filter (· != v), disarmed := s.msix.disarmed.filter (· != v) } } := by
  rw [unmasked, if_neg (by simp [hp, hm]), if_neg (by obtain h | h := ha <;> simp [h])]

end

theorem msixControl_keeps (en fm : Bool) (s : State) : (msixControl en fm s).msix.enable = en ∧
    (msixControl en fm s).msix.funcMask = fm ∧ (msixControl en fm s).msix.table = s.msix.table := by
  have hfold (l : List Nat) (s : State) : (l.foldl (fun s v => unmasked v s) s).msix.table = s.msix.table ∧
      (l.foldl (fun s v => unmasked v s) s).msix.enable = s.msix.enable ∧
      (l.foldl (fun s v => unmasked v s) s).msix.funcMask = s.msix.funcMask := by
    induction l generalizing s with
    | nil => exact ⟨rfl, rfl, rfl⟩
    | cons v l ih =>
      obtain ⟨ht, he, hf, -⟩ := unmasked_keeps v s
      rw [List.foldl_cons, ← ht, ← he, ← hf]
      exact ih _
  obtain ⟨ht, he, hf⟩ := hfold s.msix.pba { s with msix := { s.msix with enable := en, funcMask := fm } }
  exact ⟨he, hf, ht⟩

/-- Nothing is sent where nothing waits, or where the vectors stay masked. -/
theorem msixControl_quiet {en fm : Bool} {s : State} (h : s.msix.pba = [] ∨ en = false ∨ fm = true) :
    msixControl en fm s = { s with msix := { s.msix with enable := en, funcMask := fm } } := by
  rw [msixControl]
  obtain h | h := h
  · show List.foldl _ _ s.msix.pba = _
    rw [h, List.foldl_nil]
  · refine foldl_fixed fun v _ => unmasked_masked ?_
    obtain h | h := h <;> simp [State.vecMasked, h]

theorem exec_msixUnmask {s : State} (h : s.hostReach = true) (n : Fin 2048) : exec (.msixUnmask (some n)) s =
    .next (unmasked n (setMsix { s.msixEntry n with masked := false } s)) := by
  show execMsixUnmask (some n) s = _
  rw [execMsixUnmask]
  simp only [h, if_true]

theorem exec_msixControl {s : State} (h : s.hostReach = true) (x : Option (Fin 2048)) (en fm : Bool) :
    exec (.msixUnmask x (some (en, fm))) s = .next (msixControl en fm s) := by
  obtain ⟨ha, hw, -⟩ := hostReach_parts h
  show execMsixUnmask x s (some (en, fm)) = _
  rw [execMsixUnmask]
  simp only [ha, hw, Bool.and_self, if_true]

theorem exec_msixUnmask_all {s : State} (h : s.hostReach = true) :
    exec (.msixUnmask none) s = .next (msixControl true false s) := by
  obtain ⟨ha, hw, -⟩ := hostReach_parts h
  show execMsixUnmask none s = _
  rw [execMsixUnmask]
  simp only [ha, hw, Bool.and_self, if_true]

/-- Settles O40. -/
theorem registerAccess : Obligations.RegisterAccess := by
  intro s v h
  refine ⟨exec_hlEpochLoRead h, ⟨_, exec_tmFracLoRead h, rfl, rfl, rfl, rfl, rfl, sampleTime_t_le s, sampleTime_second s⟩,
    fun off be hbe => exec_registerWrite_partial v off hbe, exec_registerWrite_readOnly v h,
    exec_registerWrite v h _ rfl, exec_registerWrite v h _ rfl, exec_registerWrite v h _ rfl,
    exec_registerWrite_lost v h, exec_registerWrite_create v h, exec_registerWrite_delete v h,
    fun q => ⟨exec_registerWrite_sqTail v h q, exec_registerWrite_cqHead v h q⟩, exec_registerWrite_evSrc v h,
    exec_registerWrite_evGrp v h, exec_registerWrite_complete v h, exec_registerWrite_gdis v h, fun n => ?_,
    fun hp => (exec_msixUnmask_all h).trans (congrArg _ (msixControl_quiet (.inl hp))),
    fun x en fm => ⟨_, exec_msixControl h x en fm, (msixControl_keeps en fm s).1, (msixControl_keeps en fm s).2.1,
      (msixControl_keeps en fm s).2.2, msixControl_quiet⟩⟩
  obtain ⟨-, -, hd⟩ := hostReach_parts h
  intro e m
  have hent (he : e.v = n) : (setMsix e s).msixEntry n = e := he ▸ msixEntry_setMsix e s
  have hopen (he : e.v = n) (hen : s.msix.enable = true) (hf : s.msix.funcMask = false) :
      (setMsix e s).vecMasked n = false := by
    rw [State.vecMasked, hent he]
    simp [setMsix, hen, hf, e]
  obtain ⟨ht, -, -, hev⟩ := unmasked_keeps n (setMsix e s)
  refine ⟨_, exec_msixUnmask h n, ht, hev, unmasked_notPending (s := setMsix e s), fun hp hen hf hg he ha => ?_,
    fun hp hen hf he ha => ?_⟩
  · rw [show { s.msixEntry n with masked := false } = e from rfl,
      unmasked_sends (s := setMsix e s) hp (hopen he hen hf) ha hg hd, hent he]
    exact ⟨rfl, by simp⟩
  · rw [show { s.msixEntry n with masked := false } = e from rfl,
      unmasked_rearms (s := setMsix e s) hp (hopen he hen hf) ha]
    exact ⟨rfl, by simp, by simp⟩

end Sys2Proof.Machine
end


section
/-! The forerunner mailbox (05 R103): a request buffer that is not canonical does not read back what is written. -/

namespace Sys2Proof.Machine

/-- A device in service whose request buffer holds byte 31 twice: a list no write gives, since a write keeps memory
canonical, but one the statement's state may hold. -/
def twiceHeld : State :=
  { State.reset with
    power := { State.reset.power with st := .active }
    active := asinfelLast
    mb := { Mailbox.idle with request := [(31, 1), (31, 2)] } }

/-- A request of 32 zero bytes: no blob and no data. -/
def bareRequest : Bytes := zeros 32

/-- What the buffer of `twiceHeld` holds once the request is stored: the second cell is uncovered. -/
theorem twiceHeld_stored : (mbStore 0 bareRequest twiceHeld).mb.request = [(31, 2)] := by decide

theorem twiceHeld_reached : twiceHeld.mbReach = true := by decide

/-- The state a mailbox command starts from, before its event is sampled. -/
def taken : State := { mbStore 0 bareRequest twiceHeld with
  mb := { (mbStore 0 bareRequest twiceHeld).mb with busy := true, response := [] } }

theorem taken_request : (sample 292 taken).mb.request = [(31, 2)] :=
  (congrArg Mailbox.request ((sample_same 292 taken).get State.mb fun _ => rfl)).trans twiceHeld_stored

/-- The layout the stored header gives: 32 bytes, of which the last reads 2. -/
theorem taken_read : (sample 292 taken).mbRequest ≠ bareRequest := by
  rw [State.mbRequest, taken_request]
  decide

/-- Refutes O48: nothing says that the request buffer is canonical memory, and in `twiceHeld` it is not: byte 31 of the
request is stored as 0 and is read back as 2. -/
theorem not_mailboxCommands : ¬ Obligations.MailboxCommands := fun h =>
  taken_read ((h twiceHeld bareRequest twiceHeld_reached).1 rfl (by decide) (by decide) (by decide))

end Sys2Proof.Machine
end


section
/-! What the completion of work leaves as it is: engines, frames, cards and events run on in many functions, and none of
them touches the vault, the life cycle, the power state or the mode of the Welt. Four relations between a state and a
later one, each stronger than the one before, and a rule for each function. -/

namespace Sys2Proof.Machine

/-! ### The relations -/

/-- The power state but for the domains that are off. -/
def State.steady (s : State) : Power := { s.power with domainsOff := [] }

/-- The Welt but for the frames it has sent and keeps. -/
def State.calm (s : State) : Welt := { s.welt with txSeq := 0, tickets := 0, unacked := [], unsent := [] }

/-- What the host link and the event controller are set to. -/
def State.port (s : State) : Bool × Bool × LinkCfg × Bool × Bool :=
  (s.link.l12, s.link.d3hot, s.link.cfg, s.msix.enable, s.ev.gdisHost)

/-- What the Rind has latched: GUARD, and a trip seen in DORMANT. -/
def State.trips (s : State) : Bool × Option (Fin 13) := (s.rind.guard, s.rind.latchedTrip)

/-- The vault, the power state, GUARD and the port are as they were, and no session has been opened. -/
structure Rooted (s t : State) : Prop where
  vault : t.vault = s.vault
  steady : t.steady = s.steady
  trips : t.trips = s.trips
  port : t.port = s.port
  wake : s.power.st ≠ .dormant → t.ev.wakePend = s.ev.wakePend
  handles : ∀ x ∈ t.sessions, ∃ y ∈ s.sessions, y.handle = x.handle

/-- Besides, the epoch is as it was, and no order, queue pair or frame is new. -/
structure Mild (s t : State) : Prop extends Rooted s t where
  epoch : t.press.epoch = s.press.epoch
  orders : s.orders = [] → t.orders = []
  qps : s.qps = [] → t.qps = []
  frames : ∀ c f, s.frame c f = none → t.frame c f = none

/-- Besides, the Cellar, the Brine and the officers' state are as they were, and the second has not passed. -/
structure Stays (s t : State) : Prop extends Mild s t where
  cellar : t.cellar = s.cellar
  brine : t.brine = s.brine
  lc : t.lc = s.lc
  t_le : s.time.t ≤ t.time.t
  second : t.time.t / second = s.time.t / second

/-- Besides, the Rind and the Welt's mode are as they were; a Welt that is down and not in SYNC sends nothing. -/
structure Kept (s t : State) : Prop extends Stays s t where
  rind : t.rind = s.rind
  calm : t.calm = s.calm
  quiet : s.welt.link = false → s.welt.mode ≠ .sync →
    t.welt.unacked = s.welt.unacked ∧ t.welt.unsent = s.welt.unsent

/-- All that the relations speak of. -/
def State.spoken (s : State) :=
  (s.vault, s.steady, s.rind, s.port, s.ev.wakePend, s.sessions, s.press.epoch, s.orders, s.qps, s.cores, s.cellar,
    s.brine, s.lc, s.time.t, s.welt)

section
variable {s t u : State}

theorem steady_st (h : t.steady = s.steady) : t.power.st = s.power.st := (congrArg Power.st h :)

theorem Rooted.guard (h : Rooted s t) : t.rind.guard = s.rind.guard := (congrArg Prod.fst h.trips :)

theorem Rooted.latched (h : Rooted s t) : t.rind.latchedTrip = s.rind.latchedTrip := (congrArg Prod.snd h.trips :)

theorem Rooted.noSessions (h : Rooted s t) (hs : s.sessions = []) : t.sessions = [] :=
  List.eq_nil_iff_forall_not_mem.2 fun x hx => by
    obtain ⟨y, hy, -⟩ := h.handles x hx
    exact List.not_mem_nil (hs ▸ hy)

theorem Rooted.refl (s : State) : Rooted s s := ⟨rfl, rfl, rfl, rfl, fun _ => rfl, fun x h => ⟨x, h, rfl⟩⟩

theorem Rooted.trans (h : Rooted s t) (k : Rooted t u) : Rooted s u where
  vault := k.vault.trans h.vault
  steady := k.steady.trans h.steady
  trips := k.trips.trans h.trips
  port := k.port.trans h.port
  wake hd := (k.wake (steady_st h.steady ▸ hd)).trans (h.wake hd)
  handles x hx := by
    obtain ⟨y, hy, hyx⟩ := k.handles x hx
    obtain ⟨z, hz, hzy⟩ := h.handles y hy
    exact ⟨z, hz, hzy.trans hyx⟩

theorem Mild.trans (h : Mild s t) (k : Mild t u) : Mild s u where
  toRooted := h.toRooted.trans k.toRooted
  epoch := k.epoch.trans h.epoch
  orders ho := k.orders (h.orders ho)
  qps hq := k.qps (h.qps hq)
  frames c f hf := k.frames c f (h.frames c f hf)

theorem Stays.trans (h : Stays s t) (k : Stays t u) : Stays s u where
  toMild := h.toMild.trans k.toMild
  cellar := k.cellar.trans h.cellar
  brine := k.brine.trans h.brine
  lc := k.lc.trans h.lc
  t_le := h.t_le.trans k.t_le
  second := k.second.trans h.second

theorem Kept.trans (h : Kept s t) (k : Kept t u) : Kept s u where
  toStays := h.toStays.trans k.toStays
  rind := k.rind.trans h.rind
  calm := k.calm.trans h.calm
  quiet hl hm := by
    have hl' : t.welt.link = s.welt.link := (congrArg Welt.link h.calm :)
    have hm' : t.welt.mode = s.welt.mode := (congrArg Welt.mode h.calm :)
    obtain ⟨ha, hb⟩ := h.quiet hl hm
    obtain ⟨ka, kb⟩ := k.quiet (hl'.trans hl) (hm' ▸ hm)
    exact ⟨ka.trans ha, kb.trans hb⟩

/-- `Kept.trans`, the later step first. -/
theorem Kept.after (k : Kept t u) (h : Kept s t) : Kept s u := h.trans k

theorem Kept.refl (s : State) : Kept s s where
  toRooted := Rooted.refl s
  epoch := rfl
  orders := id
  qps := id
  frames _ _ := id
  cellar := rfl
  brine := rfl
  lc := rfl
  t_le := le_rfl
  second := rfl
  rind := rfl
  calm := rfl
  quiet _ _ := ⟨rfl, rfl⟩

/-- A state that differs in nothing they speak of may stand for another. -/
theorem Kept.put (h : Kept s t) (e : u.spoken = t.spoken) : Kept s u := by
  simp only [State.spoken, Prod.mk.injEq] at e
  obtain ⟨hv, hp, hr, hl, hw, hs, he, ho, hq, hc, hce, hb, hlc, ht, hwe⟩ := e
  refine h.trans ?_
  exact {
    vault := hv, steady := hp, trips := by rw [State.trips, State.trips, hr], port := hl, wake := fun _ => hw
    handles := fun x hx => ⟨x, hs ▸ hx, rfl⟩, epoch := he, orders := fun h => ho.trans h, qps := fun h => hq.trans h
    frames := fun c f h => by rw [State.frame, State.core, hc]; exact h
    cellar := hce, brine := hb, lc := hlc, t_le := ht.ge, second := by rw [ht], rind := hr
    calm := by rw [State.calm, State.calm, hwe], quiet := fun _ _ => by rw [hwe]; exact ⟨rfl, rfl⟩ }

theorem Kept.of_spoken (e : t.spoken = s.spoken) : Kept s t := (Kept.refl s).put e

theorem Kept.ite {p : Prop} [Decidable p] (ht : Kept s t) (hu : Kept s u) : Kept s (if p then t else u) := by
  split
  · exact ht
  · exact hu

theorem Kept.foldl {α : Type} {g : State → α → State} (h : ∀ s x, Kept s (g s x)) (l : List α) (s : State) :
    Kept s (l.foldl g s) := by
  induction l generalizing s with
  | nil => exact Kept.refl s
  | cons x l ih => exact (h s x).trans (ih _)

end

/-! ### Clock, domains and events -/

section
variable (s : State)

theorem freeNat_kept : Kept s s.freeNat.2 := .of_spoken rfl

theorem drbgBytes_kept (n : Nat) : Kept s (s.drbgBytes n).2 := .of_spoken rfl

theorem wakeDomainN_kept (d : Nat) : Kept s (wakeDomainN d s) := by
  unfold wakeDomainN
  split
  · exact .of_spoken rfl
  · exact .refl s

theorem wakeBank_kept (b : Nat) : Kept s (wakeBank b s) := .ite (wakeDomainN_kept s _) (.refl s)

theorem domainOffN_kept (d : Nat) : Kept s (domainOffN d s) := by
  unfold domainOffN
  split
  · exact .of_spoken rfl
  · exact .refl s

theorem sampleTime_kept : Kept s (sampleTime s) :=
  { Kept.refl s with t_le := sampleTime_t_le s, second := sampleTime_second s }

theorem setSrc_kept (n : Nat) (x : Source) : Kept s (setSrc n x s) := .of_spoken rfl

theorem setGroup_kept (g : Nat) (x : Group) : Kept s (setGroup g x s) := .of_spoken rfl

theorem raisePme_kept : Kept s (raisePme s) := .ite (.of_spoken rfl) (.refl s)

theorem signalVec_kept (v : Nat) : Kept s (signalVec v s) :=
  .ite (.refl s) (.ite (.refl s) (.ite (.of_spoken rfl) (.of_spoken rfl)))

/-- No frame is new where the core set has none of its own. -/
theorem setCore_kept {c : Nat} {k : Core} (h : ∀ f, s.frame c f = none → vget k.frames f none = none) :
    Kept s (setCore c k s) :=
  { Kept.refl s with
    frames := fun c' f hf => by
      by_cases hc : c = c'
      · subst hc
        by_cases hlt : c < 9
        · rw [State.frame, core_setCore_same c k s hlt]
          exact h f hf
        · have hself : setCore c k s = s := by rw [setCore, vset, dif_neg hlt]
          rw [hself]
          exact hf
      · rw [State.frame, State.core, setCore, vget_vset_other _ _ _ _ _ hc]
        exact hf }

theorem wakeT0_kept : Kept s (wakeT0 s) := by
  have hset : { s with cores := s.cores.set 8 { s.cores[8] with waiti := false } } =
      setCore 8 { s.core 8 with waiti := false } s := by
    have hcore : s.core 8 = s.cores[8] := by simp [State.core, vget]
    rw [setCore, vset, dif_pos (by decide), hcore]
  rw [wakeT0, hset]
  exact .ite (setCore_kept s fun f hf => hf) (.refl s)

theorem notify_kept (n : Nat) : Kept s (notify n s) :=
  .ite (.refl s) (.ite (.ite (.ite (raisePme_kept s) (.refl s)) (signalVec_kept s _))
    (.ite (wakeT0_kept s) (setSrc_kept s _ _)))

theorem notifyAll_kept (ns : List Nat) : Kept s (notifyAll ns s) := .foldl (fun s n => notify_kept s n) ns s

theorem deliver_kept (g : Nat) : Kept s (deliver g s) :=
  ((Kept.foldl (fun s n => setSrc_kept s n _) _ s).trans (setGroup_kept _ _ _)).trans (notifyAll_kept _ _)

theorem countEvent_kept (g : Nat) : Kept s (countEvent g s) :=
  .ite ((setGroup_kept s _ _).trans (deliver_kept _ g)) (setGroup_kept s _ _)

theorem raise_kept (n : Nat) : Kept s (raise n s) := by
  unfold raise
  have hon : Kept s (if (s.src n).priority == 0 then s
      else if (s.src n).grouped then countEvent (s.src n).groupNo (setSrc n { s.src n with pend := true } s)
      else if (s.src n).asserted then s else notify n (setSrc n { s.src n with pend := true, deliv := true } s)) :=
    .ite (.refl s) (.ite ((setSrc_kept s _ _).trans (countEvent_kept _ _)) (.ite (.refl s)
      ((setSrc_kept s _ _).trans (notify_kept _ n))))
  split
  · rename_i hd
    exact .ite { Kept.refl s with wake := fun h => absurd hd h } (.refl s)
  · exact hon
  · exact hon
  · exact .refl s

theorem sample_kept (n : Nat) : Kept s (sample n s) := by
  unfold sample
  dsimp only
  split
  · exact .refl s
  · exact .ite (.refl s) (.ite (setSrc_kept s _ _) (.ite (.ite (setSrc_kept s _ _)
      (.ite ((setSrc_kept s _ _).trans (setGroup_kept _ _ _)) ((setSrc_kept s _ _).trans (notify_kept _ n))))
      (.ite (setSrc_kept s _ _) (setSrc_kept s _ _))))

theorem raiseSample_kept (n : Nat) : Kept s (raiseSample n s) := (raise_kept s n).trans (sample_kept _ n)

theorem healthLog_kept (event subject detail : Nat) : Kept s (healthLog event subject detail s) :=
  (raiseSample_kept _ _).after ((sampleTime_kept s).put rfl)

end

end Sys2Proof.Machine
end


section
/-! What the completion of work leaves as it is, continued: orders, frames and the engines. -/

namespace Sys2Proof.Machine

variable (s : State)

/-! ### Orders, the mailbox and the Welt's frames -/

theorem updFirst_nil_of {α : Type} {p : α → Bool} {f : α → α} {l : List α} (h : l = []) : updFirst p f l = [] := by
  rw [h]; rfl

theorem setQp_kept (q : Qp) : Kept s (setQp q s) := { Kept.refl s with qps := updFirst_nil_of }

theorem logAer_kept (e : AerEntry) : Kept s (logAer e s) := .of_spoken rfl

theorem hostMem_kept (m : Mem) : Kept s { s with hostMem := m } := .of_spoken rfl

theorem writeCq_kept (q : Qp) (tag : BitVec 64) (st : Status) (epoch result bytes : Nat) :
    Kept s (writeCq q tag st epoch result bytes s) := by
  unfold writeCq
  refine .ite (.refl s) (.ite ?_ ?_)
  · exact (logAer_kept _ _).after (setQp_kept s _)
  · exact (raiseSample_kept _ _).after ((hostMem_kept _ _).after (setQp_kept s q.advanceCq))

theorem payHalt_kept (n : BitVec 8) : Kept s (payHalt n s) := by
  unfold payHalt
  split
  · split
    · exact .ite (writeCq_kept s _ _ _ _ _ _) (.refl s)
    · exact .refl s
  · exact .refl s

/-- Queue pairs only go. -/
theorem fewerQps_kept (p : Qp → Bool) : Kept s { s with qps := s.qps.filter p } :=
  { Kept.refl s with qps := fun h => (congrArg (List.filter p) h).trans rfl }

/-- Orders only go. -/
theorem fewerOrders_kept (p : Order → Bool) : Kept s { s with orders := s.orders.filter p } :=
  { Kept.refl s with orders := fun h => (congrArg (List.filter p) h).trans rfl }

theorem closeQp_kept (n : BitVec 8) : Kept s (closeQp n s) := by
  unfold closeQp
  split
  · exact .ite ((sample_kept _ _).after ((fewerQps_kept s _).put rfl)) (.refl s)
  · exact .refl s

theorem complete_kept (uid : Nat) (st : Status) (epoch : Option Nat) (result bytes : Nat) :
    Kept s (complete uid st epoch result bytes s) := by
  unfold complete
  split
  · exact .refl s
  · dsimp only
    split
    · exact fewerOrders_kept s _
    · exact (closeQp_kept _ _).after ((payHalt_kept _ _).after ((writeCq_kept _ _ _ _ _ _ _).after (fewerOrders_kept s _)))

theorem refuse_kept (uid : Nat) (st : Status) : Kept s (refuse uid st s) := complete_kept s _ _ _ _ _

theorem mbFinish_kept (result : Nat) (st : Status) (resp : Bytes) : Kept s (mbFinish result st resp s) :=
  .ite ((raiseSample_kept _ _).after (.of_spoken rfl)) ((sample_kept _ _).after (.of_spoken rfl))

/-- A frame sent or kept back changes what the Welt has sent only, where the link is up or the Welt in SYNC. -/
theorem weltSend_kept (type : Nat) : Kept s (weltSend type s) := by
  unfold weltSend
  split
  · exact .refl s
  · rename_i hup
    have hnot : s.welt.link = false → s.welt.mode ≠ .sync → False := fun hl hm => hup (by simp [hl, hm])
    split
    · unfold sendFrame
      exact .ite { Kept.refl s with quiet := fun hl hm => (hnot hl hm).elim }
        { Kept.refl s with quiet := fun hl hm => (hnot hl hm).elim }
    · exact { Kept.refl s with quiet := fun hl hm => (hnot hl hm).elim }

/-! ### Frames and memory -/

/-- Frame f of core c is set where it was there, or cleared. -/
theorem setFrame_kept {c f : Nat} {x : Option Fr} (h : s.frame c f = none → x = none) : Kept s (setFrame c f x s) :=
  setCore_kept s fun g hg => by
    by_cases hf : f = g
    · subst hf
      by_cases hlt : f < 4
      · rw [vget_vset_same _ _ _ _ hlt]
        exact h hg
      · rw [vset, dif_neg hlt]
        exact hg
    · rw [vget_vset_other _ _ _ _ _ hf]
      exact hg

theorem setFrame_some_kept {c f : Nat} {fr : Fr} (x : Fr) (h : s.frame c f = some fr) :
    Kept s (setFrame c f (some x) s) := setFrame_kept s fun hn => absurd (h.symm.trans hn) (by simp)

theorem schedule_kept (c : Nat) : Kept s (schedule c s) := .ite (setCore_kept s fun _ h => h) (.refl s)

theorem yieldCore_kept (c : Nat) : Kept s (yieldCore c s) := (schedule_kept _ c).after (setCore_kept s fun _ h => h)

theorem setData_kept (c f : Nat) (m : Mem) : Kept s (setData c f m s) := by
  unfold setData
  split
  · exact .refl s
  · rename_i fr hfr
    split
    · exact setCore_kept s fun _ h => h
    · exact setFrame_some_kept s _ hfr
    · exact .of_spoken rfl

/-- What one entry of a list is replaced by is new only if the replacement is. -/
theorem mem_updFirst {α : Type} {p : α → Bool} {y x : α} : ∀ {l : List α}, x ∈ updFirst p (fun _ => y) l → x = y ∨ x ∈ l
  | [], h => (List.not_mem_nil h).elim
  | a :: l, h => by
    rw [updFirst] at h
    split at h
    · exact (List.mem_cons.1 h).imp_right (List.mem_cons_of_mem a)
    · obtain rfl | h := List.mem_cons.1 h
      · exact .inr List.mem_cons_self
      · exact (mem_updFirst h).imp_right (List.mem_cons_of_mem a)

/-- A page written keeps the session's handle. -/
theorem setSession_kept {x y : Session} (hy : y ∈ s.sessions) (hx : y.handle = x.handle) : Kept s (setSession x s) :=
  { Kept.refl s with
    handles := fun z hz => (mem_updFirst hz).elim (fun h => ⟨y, hy, h ▸ hx⟩) fun h => ⟨z, h, rfl⟩ }

theorem writeDst_kept (d : Dst) (b : Bytes) : Kept s (writeDst d b s) := by
  unfold writeDst
  split
  · exact .refl s
  · exact .ite (.of_spoken rfl) (.refl s)
  · split
    · exact setData_kept s _ _ _
    · exact .refl s
  · split
    · rename_i x hx
      exact setSession_kept s (List.mem_of_find?_eq_some hx) rfl
    · exact .refl s
  · exact .of_spoken rfl

theorem noteOut_kept (c f uid a n : Nat) : Kept s (noteOut c f uid a n s) := by
  unfold noteOut
  split
  · rename_i fr hfr
    exact .ite (.refl s) (setFrame_some_kept s _ hfr)
  · exact .refl s

theorem writeOut_kept (r : Ref) (d : Dst) (b : Bytes) : Kept s (writeOut r d b s) := by
  unfold writeOut
  split
  · refine .ite (.refl s) ?_
    split
    · exact (noteOut_kept _ _ _ _ _ _).after (writeDst_kept s _ _)
    · exact writeDst_kept s _ _
  · exact .ite (.refl s) (writeDst_kept s _ _)
  · exact writeDst_kept s _ _

theorem writeOuts_kept (r : Ref) (ds : List (Dst × Bytes)) : Kept s (writeOuts r ds s) :=
  .foldl (fun s _ => writeOut_kept s _ _ _) ds s

theorem scrubJob_kept (j : Job) : Kept s (scrubJob j s) := by
  unfold scrubJob
  split
  · exact .ite (.refl s) (writeOut_kept s _ _ _)
  · exact .refl s

theorem freeFrame_kept (c f uid : Nat) : Kept s (freeFrame c f uid s) := by
  have hcut (t : State) (h : Kept s t) : Kept s (setFrame c f none t) := (setFrame_kept t fun _ => rfl).after h
  exact .ite ((yieldCore_kept _ _).after (hcut _ (.of_spoken rfl))) (hcut _ (.of_spoken rfl))

theorem tryEnd_kept (c f : Nat) : Kept s (tryEnd c f s) := by
  unfold tryEnd
  split
  · exact .refl s
  · split
    · exact .refl s
    · exact .ite (.refl s) ((complete_kept _ _ _ _ _ _).after (freeFrame_kept s _ _ _))

theorem tryExit_kept (c f : Nat) : Kept s (tryExit c f s) := by
  unfold tryExit
  split
  · exact .refl s
  · split
    · exact .refl s
    · exact .ite (.refl s) ((complete_kept _ _ _ _ _ _).after (freeFrame_kept s _ _ _))

theorem tokDone_kept (c f uid t : Nat) (st : Status) (count v : Nat) : Kept s (tokDone c f uid t st count v s) := by
  unfold tokDone
  split
  · exact .refl s
  · rename_i fr hfr
    refine .ite (.refl s) ?_
    dsimp only
    split
    · exact .ite ((schedule_kept _ _).after (setFrame_some_kept s _ hfr)) (setFrame_some_kept s _ hfr)
    · exact (tryEnd_kept _ _ _).after ((tryExit_kept _ _ _).after (setFrame_some_kept s _ hfr))

theorem finish_kept (r : Ref) (st : Status) (count v : Nat) : Kept s (finish r st count v s) := by
  unfold finish
  split
  · exact .refl s
  · exact .refl s
  · exact tokDone_kept s _ _ _ _ _ _ _
  · split
    · exact .refl s
    · exact complete_kept s _ _ _ _ _
  · split
    · exact .refl s
    · rename_i fr hfr
      exact .ite (.refl s) (setFrame_some_kept s _ hfr)
  · exact mbFinish_kept s _ _ _
  · exact weltSend_kept s _

/-! ### Channels -/

theorem pressOwn_kept (items : List PItem) : Kept s (pressOwn items s) := .ite (.of_spoken rfl) (.refl s)

theorem setChan_kept (i : Nat) (c : Chan) : Kept s (setChan i c s) := .of_spoken rfl

theorem retireMark_kept (i cause : Nat) : Kept s (retireMark i cause s) := by
  have hoff : Kept s ((chanDomain i).elim (setChan i { s.chan i with retired := true, cause := cause } s) fun d =>
      domainOffN d (setChan i { s.chan i with retired := true, cause := cause } s)) := by
    cases chanDomain i with
    | none => exact setChan_kept s _ _
    | some d => exact (domainOffN_kept _ _).after (setChan_kept s _ _)
  exact hoff.put rfl

theorem retireReport_kept (i cause : Nat) : Kept s (retireReport i cause s) :=
  (pressOwn_kept _ _).after (.ite (healthLog_kept s _ _ _) ((healthLog_kept s _ _ _).put rfl))

theorem testUnit_kept (i : Nat) : Kept s (testUnit i s) := by
  unfold testUnit
  split
  · exact .refl s
  · exact .ite ((retireReport_kept _ _ _).after ((retireMark_kept _ _ _).after ((healthLog_kept _ _ _ _).after
      (.of_spoken rfl)))) (.of_spoken rfl)

theorem keepWarm_kept (n i : Nat) : Kept s (keepWarm n i s) := by
  induction n generalizing s with
  | zero => exact .refl s
  | succ n ih =>
    unfold keepWarm
    cases (chanDomain i).bind domainClass with
    | none => exact .refl s
    | some x =>
      refine .ite (.refl s) ?_
      split
      · exact (ih _).after ((testUnit_kept _ _).after (wakeDomainN_kept s _))
      · exact .refl s

theorem firstTest_kept (i : Nat) : Kept s (firstTest i s) :=
  .ite ((keepWarm_kept _ _ _).after (testUnit_kept s _)) (testUnit_kept s _)

theorem testPowered_kept : Kept s (testPowered s) :=
  .foldl (fun s _ => .ite (firstTest_kept s _) (.refl s)) _ s

/-! ### The engines -/

theorem writeBlock_kept (r : HashStream) (dst : Dst) : Kept s (writeBlock r dst s) := by
  unfold writeBlock
  split
  · exact .refl s
  · exact (writeDst_kept _ _ _).after (.of_spoken rfl)

theorem beginStart_kept (j : Job) (d : Deferred) : Kept s (beginStart j d s).2 := by
  unfold beginStart
  split
  · exact .refl s
  · split
    · exact .of_spoken rfl
    · exact .refl s

theorem beginUpdate_kept (j : Job) (d : Deferred) : Kept s (beginUpdate j d s).2 := by
  unfold beginUpdate
  split
  · exact .refl s
  · split
    · exact .refl s
    · exact .refl s

theorem beginFinish_kept (j : Job) (d : Deferred) : Kept s (beginFinish j d s).2 := by
  unfold beginFinish
  split
  · exact .refl s
  · split
    · exact .of_spoken rfl
    · exact .refl s

theorem beginJob_kept (j : Job) (d : Deferred) : Kept s (beginJob j d s).2 := by
  unfold beginJob
  split
  · exact beginStart_kept s j d
  · split
    · exact beginUpdate_kept s j d
    · exact beginFinish_kept s j d

theorem wakeEngine_kept (i d : Nat) : Kept s (wakeEngine i d s) :=
  (firstTest_kept _ _).after ((wakeDomainN_kept _ _).after (wakeDomainN_kept s _))

theorem segDraw_kept (j : Job) : Kept s (segDraw j s) := .ite (.refl s) (drbgBytes_kept s _)

theorem vatStart_kept : Kept s (vatStart s) := by
  unfold vatStart
  split
  · exact .refl s
  · dsimp only
    split
    · exact .ite (wakeEngine_kept s _ _) (((segDraw_kept _ _).after (wakeEngine_kept s _ _)).put rfl)
    · exact .refl s

theorem digestStart_kept : Kept s (digestStart s) := by
  unfold digestStart
  split
  · exact .refl s
  · dsimp only
    split
    · exact .ite (wakeEngine_kept s _ _) (((segDraw_kept _ _).after (wakeEngine_kept s _ _)).put rfl)
    · exact .refl s

theorem compareFill_kept : Kept s (compareFill s) := by
  refine .foldl (fun s u => .ite (.refl s) ?_) _ s
  split
  · exact .refl s
  · exact (wakeDomainN_kept _ _).after (.of_spoken rfl)

theorem runDraw_kept : Kept s (runDraw s).2 := by
  unfold runDraw
  split
  · exact drbgBytes_kept s _
  · exact .refl s

theorem laneStart_kept (l : Nat) (j : Job) (w : Wrr) : Kept s (laneStart l j w s) :=
  .ite (wakeEngine_kept s _ _) (((runDraw_kept _).after (wakeEngine_kept s _ _)).put rfl)

theorem laneNext_kept (l : Nat) : Kept s (laneNext l s) := by
  unfold laneNext
  split
  · split
    · exact laneStart_kept s _ _ _
    · exact .of_spoken rfl
  · exact .refl s

theorem lanesTake_kept : Kept s (lanesTake s) := by
  refine .foldl (fun s l => .ite (.refl s) ?_) _ s
  split
  · exact .refl s
  · exact laneStart_kept s _ _ _

theorem laneFill_kept : Kept s (laneFill s) := by
  unfold laneFill
  refine Kept.after (Kept.foldl (fun s j => ?_) _ _) (lanesTake_kept s)
  exact (finish_kept _ _ _ _ _).after (.of_spoken rfl)

theorem laneAdmit_kept (j : Job) : Kept s (laneAdmit j s) :=
  .ite (finish_kept s _ _ _ _) ((laneFill_kept _).after (.of_spoken rfl))

theorem wheelNext_kept (b : Nat) : Kept s (wheelNext b s) := by
  unfold wheelNext
  dsimp only
  split
  · split
    · exact .refl s
    · exact .ite (.refl s) (.ite (.of_spoken rfl) (.ite (.refl s) (.of_spoken rfl)))
  · exact .refl s

theorem jobEnd_kept (j : Job) : Kept s (jobEnd j s) := by
  unfold jobEnd
  split
  · exact .refl s
  · exact .refl s
  · exact .refl s
  · exact .of_spoken rfl
  · exact writeBlock_kept s _ _
  · exact .of_spoken rfl
  · exact (wheelNext_kept _ _).after (.of_spoken rfl)
  · exact .of_spoken rfl

theorem freeStreamRec_kept (idx : Nat) : Kept s (freeStreamRec idx s) := .of_spoken rfl

theorem jobFailed_kept (j : Job) : Kept s (jobFailed j s) := by
  unfold jobFailed
  split
  · exact freeStreamRec_kept s _
  · exact .ite (freeStreamRec_kept s _) (.refl s)
  · split
    · cases acceptBlock s _ _ with
      | none => exact .refl s
      | some r => exact freeStreamRec_kept s _
    · exact .refl s
  · exact .refl s

theorem endJob_kept (j : Job) (st : Status) : Kept s (endJob j st s) := by
  have hgone : Kept s (removeJob j s) := .of_spoken rfl
  unfold endJob
  dsimp only
  split
  · split
    · exact (laneAdmit_kept _ _).after ((jobEnd_kept _ _).after ((writeOuts_kept _ _ _).after hgone))
    · exact (finish_kept _ _ _ _ _).after ((jobEnd_kept _ _).after ((writeOuts_kept _ _ _).after hgone))
  · exact .ite ((finish_kept _ _ _ _ _).after ((jobFailed_kept _ _).after hgone))
      ((finish_kept _ _ _ _ _).after ((scrubJob_kept _ _).after ((jobFailed_kept _ _).after hgone)))

theorem vatEnds_kept (n : Nat) : Kept s (vatEnds n s) := by
  induction n generalizing s with
  | zero => exact .refl s
  | succ n ih =>
    unfold vatEnds
    split
    · exact (ih _).after (endJob_kept s _ _)
    · exact .refl s

theorem stageJobs_kept (n : Nat) : Kept s (stageJobs n s) := by
  induction n generalizing s with
  | zero => exact .refl s
  | succ n ih =>
    unfold stageJobs
    dsimp only
    split
    · exact .ite ((ih _).after (.of_spoken rfl)) (.refl s)
    · exact .refl s

theorem vatFill_kept : Kept s (vatFill s) := by
  have hrun : Kept s ((List.range 32).foldl (fun s _ => vatStart s) (stageJobs
      (vatEnds s.eng.vat.jobs.length s).eng.vat.jobs.length (vatEnds s.eng.vat.jobs.length s))) :=
    (Kept.foldl (fun s _ => vatStart_kept s) _ _).after ((stageJobs_kept _ _).after (vatEnds_kept s _))
  exact .ite ((vatEnds_kept _ _).after hrun) hrun

theorem digestTurns_kept (n : Nat) : Kept s (digestTurns n s) := by
  induction n generalizing s with
  | zero => exact .refl s
  | succ n ih =>
    unfold digestTurns
    dsimp only
    split
    · exact (ih _).after (endJob_kept s _ _)
    · split
      · exact (ih _).after ((beginJob_kept s _ _).put rfl)
      · split
        · exact (ih _).after (endJob_kept s _ _)
        · exact .refl s

theorem digestFill_kept : Kept s (digestFill s) := by
  have hrun := (Kept.foldl (fun s _ => digestStart_kept s) (List.range 16) _).after
    (digestTurns_kept s (2 * (s.eng.digest.jobs.length + s.eng.compares.length)))
  exact .ite ((digestTurns_kept _ _).after hrun) hrun

theorem laneEnds_kept (n : Nat) : Kept s (laneEnds n s) := by
  induction n generalizing s with
  | zero => exact .refl s
  | succ n ih =>
    unfold laneEnds
    split
    · exact (ih _).after (endJob_kept s _ _)
    · exact .refl s

/-- The engines but for the last turn of the lanes. -/
theorem engRun_kept (t : State) (h : Kept s t) (n : Nat) :
    Kept s (laneFill ((List.range 16).foldl (fun s l => laneNext l s) (laneEnds n t))) :=
  (laneFill_kept _).after ((Kept.foldl (fun s l => laneNext_kept s l) (List.range 16) _).after ((laneEnds_kept t n).after h))

theorem engFill_kept : Kept s (engFill s) := by
  have hrun := engRun_kept s _ ((compareFill_kept _).after ((digestFill_kept _).after (vatFill_kept s)))
  unfold engFill
  dsimp only
  split
  · exact (laneEnds_kept _ _).after (hrun _)
  · exact hrun _

/-! ### Jobs and frames that end -/

theorem stopJobs_kept (p : Job → Bool) : Kept s (stopJobs p s) := by
  unfold stopJobs
  exact (engFill_kept _).after (.of_spoken rfl)

theorem forgetJobs_kept (p : Job → Bool) : Kept s (forgetJobs p s) := by
  unfold forgetJobs
  exact (engFill_kept _).after (.of_spoken rfl)

theorem addSuspension_kept (l us : Nat) : Kept s (addSuspension l us s) := by
  unfold addSuspension
  split
  · exact .of_spoken rfl
  · exact .refl s

theorem dropJobs_kept (p : Job → Bool) : Kept s (dropJobs p s) := by
  unfold dropJobs
  refine (engFill_kept _).after (Kept.put (t := List.foldl _ (List.foldl _ s _) _) ?_ rfl)
  refine (Kept.foldl (fun s r => ?_) _ _).after (Kept.foldl (fun s j => scrubJob_kept s j) _ s)
  cases (s.eng.lanes.job r.job).filter p with
  | none => exact .refl s
  | some j => exact (setChan_kept _ _ _).after (addSuspension_kept s _ _)

theorem markFrameCards_kept (uid : Nat) : Kept s (markFrameCards uid s) := .of_spoken rfl

theorem cutFrame_kept (c f : Nat) (st : Status) (bytes : Nat) : Kept s (cutFrame c f st bytes s) := by
  unfold cutFrame
  split
  · exact .refl s
  · exact (complete_kept _ _ _ _ _ _).after ((freeFrame_kept _ _ _ _).after ((dropJobs_kept _ _).after
      (markFrameCards_kept s _)))

theorem endFrame_kept (c f : Nat) (st : Status) : Kept s (endFrame c f st s) := by
  unfold endFrame
  split
  · exact .refl s
  · rename_i fr hfr
    refine .ite (.refl s) ((tryEnd_kept _ _ _).after ((stopJobs_kept _ _).after ((markFrameCards_kept _ _).after ?_)))
    have hset (x : Fr) : Kept s (setFrame c f (some x)
        { s with press := { s.press with bufUsed := s.press.bufUsed - fr.openReserve } }) :=
      (setFrame_some_kept { s with press := { s.press with bufUsed := s.press.bufUsed - fr.openReserve } } x hfr).after
        (.of_spoken rfl)
    exact .ite ((yieldCore_kept _ _).after (hset _)) (hset _)

theorem freeBehind_kept (r : Ref) : Kept s (freeBehind r s) := .of_spoken rfl

theorem cardOutcome_kept (ch : Nat) (r : CardReq) (st : Status) (count v : Nat) :
    Kept s (cardOutcome ch r st count v s) := by
  unfold cardOutcome
  dsimp only
  split
  · exact finish_kept s _ _ _ _
  · exact (finish_kept _ _ _ _ _).after (freeBehind_kept s _)
  · exact .refl s
  · exact .ite (.refl s) (.of_spoken rfl)
  · exact raise_kept s _

theorem failCard_kept (ch : Nat) (st : CardReq → Status) : Kept s (failCard ch st s) :=
  (Kept.foldl (fun s r => cardOutcome_kept s ch r _ _ _) _ _).after (.of_spoken rfl)

theorem dropCards_kept (st : Status) (ch : Nat) : Kept s (dropCards st ch s) :=
  (Kept.foldl (fun s r => cardOutcome_kept s ch r _ _ _) _ _).after (.of_spoken rfl)

theorem deliverWait_kept (w : WeltWait) : Kept s (deliverWait w s) :=
  (finish_kept _ _ _ _ _).after (writeOuts_kept s _ _)

end Sys2Proof.Machine
end


section
/-! Events of the Welt: training, HELLO and pairing, leases, acknowledgements, link loss (17). -/

namespace Sys2Proof.Machine

variable {s : State}

/-! ### What a change of mode leaves -/

/-- Waits that end: their outcomes are delivered, one after the other. -/
def endWaits (f : WeltWait → WeltWait) (ws : List WeltWait) (s : State) : State :=
  ws.foldl (fun s x => deliverWait (f x) s) s

theorem leadDetached_detached (h : s.welt.mode = .detached) : leadDetached s = s := if_pos (by rw [h]; rfl)

/-- The Welt of a lead on its way to DETACHED. -/
def detaching (s : State) : State :=
  { s with welt := { s.welt with mode := .detached, unacked := [], unsent := [], waits := [], timeouts := 0
                                 closeCall := false } }

theorem leadDetached_kept (h : s.welt.mode ≠ .detached) : Kept (detaching s) (leadDetached s) := by
  rw [leadDetached, if_neg (by simpa using h)]
  exact (raise_kept _ _).after ((engFill_kept _).after (.foldl (fun s _ => deliverWait_kept s _) _ (detaching s)))

theorem leadDetached_spec (hm : s.welt.mode ≠ .detached) : (leadDetached s).welt.mode = .detached ∧
    (s.welt.link = false → (leadDetached s).welt.unacked = [] ∧ (leadDetached s).welt.unsent = []) ∧
    (leadDetached s).welt.waits = [] ∧ (leadDetached s).welt.role = s.welt.role := by
  have hk := leadDetached_kept hm
  exact ⟨(congrArg Welt.mode hk.calm :), fun hl => hk.quiet hl (by simp [detaching]), (congrArg Welt.waits hk.calm :),
    (congrArg Welt.role hk.calm :)⟩

theorem abortForwards_kept (s : State) : Kept { s with welt := { s.welt with waits := [] } } (abortForwards s) :=
  .foldl (fun s _ => finish_kept s _ _ _ _) _ _

/-- A follower that has lost its lead is stale and DETACHED, with no grant and no wait. -/
theorem followerStale_spec (s : State) : (followerStale s).welt.stale = true ∧ (followerStale s).welt.mode = .detached ∧
    (followerStale s).welt.grants = [] ∧ (followerStale s).welt.waits = [] := by
  obtain ⟨s1, hs1⟩ : ∃ s1, s1 = (if s.welt.mode == .detached then s
    else modeChanged { s with welt := { s.welt with mode := .detached, unacked := [], unsent := [] } }) := ⟨_, rfl⟩
  have hmode : s1.welt.mode = .detached := by
    rw [hs1]
    split
    · simpa using ‹(s.welt.mode == .detached) = true›
    · exact (congrArg Welt.mode (raise_kept _ _).calm :)
  have hk := abortForwards_kept { s1 with welt := { s1.welt with grants := [] } }
  have hm := (congrArg Welt.mode hk.calm :).trans hmode
  have hg : (abortForwards { s1 with welt := { s1.welt with grants := [] } }).welt.grants = [] :=
    (congrArg Welt.grants hk.calm :)
  have hw : (abortForwards { s1 with welt := { s1.welt with grants := [] } }).welt.waits = [] :=
    (congrArg Welt.waits hk.calm :)
  have hf : followerStale s = (let t := abortForwards { s1 with welt := { s1.welt with grants := [] } }
      if t.welt.stale then t else raiseSample 270 { t with welt := { t.welt with stale := true } }) := by
    rw [hs1, followerStale]
  rw [hf]
  generalize abortForwards { s1 with welt := { s1.welt with grants := [] } } = t at hm hg hw
  dsimp only
  split
  · exact ⟨‹_›, hm, hg, hw⟩
  · have hr := (raiseSample_kept { t with welt := { t.welt with stale := true } } 270).calm
    exact ⟨(congrArg Welt.stale hr :), (congrArg Welt.mode hr :).trans hm, (congrArg Welt.grants hr :).trans hg,
      (congrArg Welt.waits hr :).trans hw⟩

/-! ### The link, the lanes and HELLO -/

/-- A link session that ends leaves the role, the term and what is unacknowledged. -/
theorem endLink_spec (s : State) : (endLink s).welt.link = false ∧ (endLink s).welt.role = s.welt.role ∧
    (endLink s).welt.term = s.welt.term ∧ (endLink s).welt.unacked = s.welt.unacked := by
  unfold endLink
  split
  · obtain ⟨s1, hs1⟩ : ∃ s1, s1 = (if s.welt.mode == .copying then
      modeChanged { s with welt := { s.welt with mode := .detached } } else s) := ⟨_, rfl⟩
    have hw : s1.welt.role = s.welt.role ∧ s1.welt.term = s.welt.term ∧ s1.welt.unacked = s.welt.unacked := by
      rw [hs1]
      split
      · rw [modeChanged, (raise_same _ _).get State.welt fun _ => rfl]
        exact ⟨rfl, rfl, rfl⟩
      · exact ⟨rfl, rfl, rfl⟩
    rw [← hs1]
    dsimp only
    rw [(sample_same _ _).get State.welt fun _ => rfl, (raiseSample_same _ _).get State.welt fun _ => rfl]
    exact ⟨rfl, hw⟩
  · exact ⟨Bool.eq_false_iff.2 ‹_›, rfl, rfl, rfl⟩

theorem exec_weltLaneTrained {lane : Fin 2} (ha : s.awake = true) (hr : s.welt.role ≠ .unpaired)
    (hg : s.rind.guard = false) (hc : s.chanOk (52 + lane) = true) (hl : lane ∉ s.welt.lanes) :
    let s1 := { s with welt := { s.welt with lanes := lane :: s.welt.lanes } }
    exec (.weltLaneTrained lane) s = .next (if s.welt.lanes = [] then sendHello s1 else s1) := by
  show execWeltLaneTrained lane s = _
  rw [execWeltLaneTrained, if_neg (by simp [ha, hr, hg, hc, hl])]
  simp only [List.isEmpty_iff]

section
variable {h : Hello} (ha : s.awake = true) (hr : s.welt.role ≠ .unpaired) (hl : s.welt.lanes ≠ [])
  (hg : s.rind.guard = false) (hd : s.debugBars = false)
include ha hr hl hg hd

/-- A HELLO that is heard opens a pairing or a session. -/
theorem exec_weltHello : exec (.weltHello h) s = .next (if h.pairing then pairingHello h s else sessionHello h s) := by
  show execWeltHello h s = _
  rw [execWeltHello, if_neg (by simp [ha, hr, hl, hg, hd])]

theorem exec_weltHello_session (hp : h.pairing = false) : exec (.weltHello h) s = .next (sessionHello h s) := by
  rw [exec_weltHello ha hr hl hg hd, hp, if_neg (by decide)]

theorem exec_weltHello_pairing (hp : h.pairing = true) : exec (.weltHello h) s = .next (pairingHello h s) := by
  rw [exec_weltHello ha hr hl hg hd, if_pos hp]

end

theorem sessionHello_unpaired {h : Hello} (hs : s.welt.secret = none) : sessionHello h s = s :=
  if_pos (by simp [hs])

theorem sessionHello_foreign {h : Hello} (hf : h.tagOk = false ∨ fit h.identity 16 ≠ fit s.welt.twin 16 ∨
    h.lcCode.toNat ≠ s.vault.lc.code) : sessionHello h s = s := by
  refine if_pos ?_
  obtain hf | hf | hf := hf <;> simp [hf]

/-- A lead that is DETACHED and down takes its follower's HELLO of the same term. -/
theorem sessionHello_lead {h : Hello} (hs : s.welt.secret ≠ none) (ht : h.tagOk = true)
    (hi : fit h.identity 16 = fit s.welt.twin 16) (hc : h.lcCode.toNat = s.vault.lc.code) (hterm : h.term = s.welt.term)
    (hr : s.welt.role = .lead) (hrole : h.role ≠ 1) (hl : s.welt.link = false) (hm : s.welt.mode = .detached) :
    sessionHello h s = startCopy (raiseSample 267 { s with
      welt := { s.welt with link := true, linkKey := sessionLinkKey s h.nonce, txSeq := 0, rxSeq := 0, unacked := []
                            unsent := [] } }) := by
  have hend : endLink s = s := if_neg (by rw [hl]; decide)
  rw [sessionHello, if_neg (by simp [hs, ht, hi, hc]), if_neg (by simpa using fun _ _ => hrole), hend]
  have hlt : ¬s.welt.term < h.term := hterm ▸ BitVec.lt_irrefl _
  simp only [hlt, if_false, hr, beq_self_eq_true, if_true, leadDetached_detached hm]

theorem pairingHello_ignored {h : Hello}
    (hn : s.welt.secret ≠ none ∨ s.welt.pairRefused = true ∨ h.tagOk = false ∨ s.drbgOk = false) :
    pairingHello h s = s := by
  refine if_pos ?_
  obtain hn | hn | hn | hn := hn
  · simp [Option.isSome_iff_ne_none.2 hn]
  · simp [hn]
  · simp [hn]
  · simp [hn]

section
variable {h : Hello} (hs : s.welt.secret = none) (hp : s.welt.pairRefused = false) (ht : h.tagOk = true)
  (hd : s.drbgOk = true) (hl : s.lanesOk = true)
include hs hp ht hd hl

theorem pairingHello_refused (hf : fit h.identity 16 ≠ fit s.welt.twin 16 ∨ h.role.toNat ≠ otherRole s.welt.role) :
    pairingHello h s = raiseSample 270 { s with welt := { s.welt with pairRefused := true } } := by
  rw [pairingHello, if_neg (by simp [hs, hp, ht, hd, hl]), if_pos (by simpa using hf)]

/-- The twin's own HELLO gives the pair secret, which a press keeps. -/
theorem pairingHello_pairs (hi : fit h.identity 16 = fit s.welt.twin 16) (hr : h.role.toNat = otherRole s.welt.role) :
    ∃ k s1, pairingHello h s = pressOwn [.weltSecret k] s1 ∧ k.length = 32 ∧ s1.welt = s.welt := by
  rw [pairingHello, if_neg (by simp [hs, hp, ht, hd, hl]), if_neg (by simp [hi, hr])]
  exact ⟨_, _, rfl, fit_length _ _, rfl⟩

end

/-! ### Leases and acknowledgements -/

theorem exec_leaseRenewal (hr : s.welt.role = .follower) (hl : s.welt.link = true) : exec .leaseRenewal s =
    .next (weltCtl 0x02 { s with welt := { s.welt with granted := true } }) := by
  show execLeaseRenewal s = _
  rw [execLeaseRenewal, if_pos (by simp [hr, hl])]

theorem exec_leaseRenewal_other (hr : s.welt.role ≠ .follower) : exec .leaseRenewal s = .next s := by
  show execLeaseRenewal s = _
  rw [execLeaseRenewal, if_neg (by simp [hr])]

theorem exec_leaseExpiry (hr : s.welt.role = .lead) (hl : s.welt.lease = true) : exec (.leaseExpiry true) s =
    .next (startCopy (leadDetached { s with welt := { s.welt with lease := false } })) := by
  show execLeaseExpiry true s = _
  rw [execLeaseExpiry, if_pos (by simp [hr, hl])]

theorem exec_leaseExpiry_lost : exec (.leaseExpiry false) s = .next s := by
  show execLeaseExpiry false s = _
  rw [execLeaseExpiry, if_neg (by simp)]

theorem exec_grantedLeaseExpiry (hr : s.welt.role = .follower) (hg : s.welt.granted = true) :
    exec .grantedLeaseExpiry s = .next (followerStale { s with welt := { s.welt with granted := false } }) := by
  show execGrantedLeaseExpiry s = _
  rw [execGrantedLeaseExpiry, if_pos (by simp [hr, hg])]

theorem contains_fst (l : List (Nat × Nat)) (q : Nat) : (l.map Prod.fst).contains q = l.any fun u => u.1 == q := by
  simp only [List.contains_eq_any_beq, List.any_map, Function.comp_def, BEq.comm]

section
variable (hs : s.syncLead = true) (hu : s.welt.unacked ≠ [])
include hs hu

/-- Past its guards, a timeout is withdrawn, comes after its close call, detaches the lead or sends again. -/
theorem exec_weltAckTimeout (wins : Bool) : exec (.weltAckTimeout wins) s = .next (
    if !wins then { s with welt := { s.welt with closeCall := true, waits := s.welt.waits.map fun w =>
      if !w.fwd && ((resent s.welt.unacked).map Prod.fst).contains w.seq then { w with closeCall := true } else w } }
    else if s.welt.closeCall then s
    else if 2 ≤ s.welt.timeouts then startCopy (leadDetached s)
    else { s with
      welt := { s.welt with timeouts := s.welt.timeouts + 1 }
      tx := s.tx ++ if s.welt.link then (resent s.welt.unacked).map fun u => .welt (wireType u.2) u.1 else [] }) := by
  show execWeltAckTimeout wins s = _
  rw [execWeltAckTimeout, if_neg (by simp [hs, hu])]

theorem exec_weltAckTimeout_withdrawn :
    exec (.weltAckTimeout false) s = .next { s with welt := { s.welt with
      closeCall := true
      waits := s.welt.waits.map fun w =>
        { w with closeCall := w.closeCall || (!w.fwd && (resent s.welt.unacked).any fun u => u.1 == w.seq) } } } := by
  have hmark (w : WeltWait) : (if !w.fwd && ((resent s.welt.unacked).map Prod.fst).contains w.seq then
      { w with closeCall := true } else w) =
      { w with closeCall := w.closeCall || (!w.fwd && (resent s.welt.unacked).any fun u => u.1 == w.seq) } := by
    rw [contains_fst]
    cases !w.fwd && (resent s.welt.unacked).any fun u => u.1 == w.seq <;> simp
  rw [exec_weltAckTimeout hs hu, if_pos (by decide)]
  simp only [hmark]

theorem exec_weltAckTimeout_after (hc : s.welt.closeCall = true) : exec (.weltAckTimeout true) s = .next s := by
  rw [exec_weltAckTimeout hs hu, if_neg (by decide), if_pos hc]

variable (hc : s.welt.closeCall = false)
include hc

theorem exec_weltAckTimeout_third (ht : 2 ≤ s.welt.timeouts) :
    exec (.weltAckTimeout true) s = .next (startCopy (leadDetached s)) := by
  rw [exec_weltAckTimeout hs hu, if_neg (by decide), hc, if_neg (by decide), if_pos ht]

theorem exec_weltAckTimeout_again (ht : s.welt.timeouts < 2) : exec (.weltAckTimeout true) s = .next { s with
    welt := { s.welt with timeouts := s.welt.timeouts + 1 }
    tx := s.tx ++ if s.welt.link then (resent s.welt.unacked).map fun u => .welt (wireType u.2) u.1 else [] } := by
  rw [exec_weltAckTimeout hs hu, if_neg (by decide), hc, if_neg (by decide), if_neg (Nat.not_le.2 ht)]

end

/-- A frame that is no press goes out again alone; so does a press of one frame. -/
theorem resent_alone {q t : Nat} {rest : List (Nat × Nat)}
    (h : t % 256 ≠ 0x10 ∨ rest.head?.map Prod.snd ≠ some pressMore) : resent ((q, t) :: rest) = [(q, t)] := by
  rw [resent]
  split
  · rename_i ht
    have hr : rest.head?.map Prod.snd ≠ some pressMore := h.resolve_left fun hn => hn ht
    cases rest with
    | nil => rfl
    | cons u us => rw [List.takeWhile_cons_of_neg (by simpa using hr)]
  · rfl

/-! ### Sending -/

theorem weltSend_room (type : Nat) (hl : s.welt.link = true) (hu : s.welt.unsent = [])
    (hr : s.welt.unacked.length < 64) : weltSend type s = { s with
      welt := { s.welt with txSeq := s.welt.txSeq + 1, unacked := s.welt.unacked ++ [(s.welt.txSeq, type)] }
      tx := s.tx ++ [.welt (type % 256) s.welt.txSeq] } := by
  rw [weltSend, if_neg (by simp [hl]), if_pos (by simp [hu, hr]), sendFrame]
  simp only [hl, if_true]
  rfl

theorem weltSend_keptBack (type : Nat) (hl : s.welt.link = true)
    (hu : s.welt.unsent ≠ [] ∨ 64 ≤ s.welt.unacked.length) : (weltSend type s).tx = s.tx ∧
      (weltSend type s).welt.unacked = s.welt.unacked ∧ (weltSend type s).welt.txSeq = s.welt.txSeq := by
  have hback : (s.welt.unsent.isEmpty && decide (s.welt.unacked.length < 64)) = false := by
    obtain hu | hu := hu
    · simp [hu]
    · simp [Nat.not_lt.2 hu]
  rw [weltSend, if_neg (by simp [hl]), hback, if_neg (by decide)]
  exact ⟨rfl, rfl, rfl⟩

theorem exec_timeExchange (hl : s.welt.link = true) : exec .timeExchange s = .next { s with
    welt := { s.welt with txSeq := s.welt.txSeq + 1 }, tx := s.tx ++ [.welt 0x40 s.welt.txSeq] } := by
  show execTimeExchange s = _
  rw [execTimeExchange, weltCtl, if_pos hl]

/-- Settles O54. -/
theorem weltEvents : Obligations.WeltEvents := by
  intro s
  refine ⟨fun lane ha hr hg hc hl => exec_weltLaneTrained ha hr hg hc hl, fun lane hr => ?_,
    fun h ha hr hl hg hd => ⟨fun hp hs => ?_, fun hp hf => ?_, fun hp hs ht hi hc hterm hrole hh hlink hm => ?_,
      fun hp hn => ?_, fun hp hs hpr ht hdr hla hf => ?_, fun hp hs hpr ht hdr hla hi hro => ?_⟩,
    exec_leaseRenewal, exec_leaseRenewal_other, exec_leaseExpiry, exec_leaseExpiry_lost, exec_grantedLeaseExpiry,
    fun hs hu => ⟨⟨_, exec_weltAckTimeout_withdrawn hs hu, rfl⟩, exec_weltAckTimeout_after hs hu,
      exec_weltAckTimeout_third hs hu, fun hc ht hl => ?_, fun hc ht hl q t rest hq => ?_⟩,
    exec_timeExchange, ?_, fun hr hm => ?_, fun type hl => ⟨weltSend_room type hl, weltSend_keptBack type hl⟩,
    fun _ => followerStale_spec s⟩
  · show execWeltLaneTrained lane s = _
    rw [execWeltLaneTrained, if_pos (by simp [hr])]
  · rw [exec_weltHello_session ha hr hl hg hd hp, sessionHello_unpaired hs]
  · rw [exec_weltHello_session ha hr hl hg hd hp, sessionHello_foreign hf]
  · rw [exec_weltHello_session ha hr hl hg hd hp, sessionHello_lead hs ht hi hc hterm hrole hh hlink hm]
  · rw [exec_weltHello_pairing ha hr hl hg hd hp, pairingHello_ignored hn]
  · rw [exec_weltHello_pairing ha hr hl hg hd hp, pairingHello_refused hs hpr ht hdr hla hf]
  · rw [exec_weltHello_pairing ha hr hl hg hd hp]
    obtain ⟨k, s1, hk, hlen, hw⟩ := pairingHello_pairs hs hpr ht hdr hla hi hro
    exact ⟨k, s1, congrArg _ hk, hlen, hw⟩
  · rw [exec_weltAckTimeout_again hs hu hc ht, hl, if_neg (by decide), List.append_nil]
  · have hsend (h : resent s.welt.unacked = [(q, t)]) : exec (.weltAckTimeout true) s = .next { s with
        welt := { s.welt with timeouts := s.welt.timeouts + 1 }, tx := s.tx ++ [.welt (t % 256) q] } := by
      rw [exec_weltAckTimeout_again hs hu hc ht, hl, if_pos rfl, h]
      rfl
    refine ⟨fun hne => hsend ?_, fun he hr => he ▸ hsend ?_⟩
    · rw [hq, resent_alone (.inl hne)]
    · rw [hq, resent_alone (.inr hr)]
  · obtain ⟨hl, hr, ht, hu⟩ := endLink_spec s
    exact ⟨_, rfl, hl, rfl, hr, ht, hu⟩
  · obtain ⟨hmode, hq, hw, hrole⟩ := leadDetached_spec hm
    exact ⟨hmode, hq, hw, hrole.trans hr⟩

end Sys2Proof.Machine
end


section
/-! What stays as it is where more goes: banks and rows that retire, cards reset, the Welt departed, the Brine saved,
GUARD entered, and the start after DORMANT. -/

namespace Sys2Proof.Machine

variable (s : State)

theorem Rooted.ite {t u : State} {p : Prop} [Decidable p] (ht : Rooted s t) (hu : Rooted s u) :
    Rooted s (if p then t else u) := by
  split
  · exact ht
  · exact hu

theorem Mild.ite {t u : State} {p : Prop} [Decidable p] (ht : Mild s t) (hu : Mild s u) :
    Mild s (if p then t else u) := by
  split
  · exact ht
  · exact hu

theorem Mild.foldl {α : Type} {g : State → α → State} (h : ∀ s x, Mild s (g s x)) (l : List α) (s : State) :
    Mild s (l.foldl g s) := by
  induction l generalizing s with
  | nil => exact (Kept.refl s).toMild
  | cons x l ih => exact (h s x).trans (ih _)

theorem Mild.refl : Mild s s := (Kept.refl s).toMild

/-- `Mild.trans`, the later step first. -/
theorem Mild.after {s t u : State} (k : Mild t u) (h : Mild s t) : Mild s u := h.trans k

/-- `Rooted.trans`, the later step first. -/
theorem Rooted.after {s t u : State} (k : Rooted t u) (h : Rooted s t) : Rooted s u := h.trans k

/-! ### The Cellar, the Brine and the press state -/

theorem cellar_mild (c : Cellar) : Mild s { s with cellar := c } := { Mild.refl s with }

theorem brine_mild (b : Brine) : Mild s { s with brine := b } := { Mild.refl s with }

theorem brineBooks_mild (b : Brine) (k : Vector Book 64) : Mild s { s with brine := b, books := k } :=
  { Mild.refl s with }

/-- The press state may change where the epoch does not. -/
theorem press_mild {p : PressSt} (h : p.epoch = s.press.epoch) : Mild s { s with press := p } :=
  { Mild.refl s with epoch := h }

theorem pressState_mild : Mild s (pressState s) :=
  .ite s (.refl s) ((wakeBank_kept _ _).toMild.after (press_mild s rfl))

theorem applyRecord_mild : Mild s (applyRecord s) := by
  unfold applyRecord
  split
  · exact .refl s
  · exact (pressState_mild _).after (press_mild s rfl)

theorem applyAll_mild : Mild s (applyAll s) := .foldl (fun s _ => applyRecord_mild s) _ s

/-! ### Channels, banks and rows -/

theorem noResident_kept (c : Nat) : Kept s (setCore c { s.core c with resident := [] } s) :=
  setCore_kept s fun _ h => h

theorem retireCore_mild (c : Nat) : Mild s (retireCore c s) := by
  unfold retireCore
  exact (noResident_kept _ c).toMild.after (.foldl (fun s f => (endFrame_kept s c f _).toMild) _ s)

theorem welt_mild (w : Welt) : Mild s { s with welt := w } := { Mild.refl s with }

theorem retire_mild (i cause : Nat) : Mild s (retire i cause s) := by
  refine .ite s (.refl s) ((keepWarm_kept _ _ _).toMild.after ((retireReport_kept _ _ _).toMild.after ?_))
  have hcore : Mild s (if 40 ≤ i ∧ i < 48 then retireCore (i - 40) (retireMark i cause s) else retireMark i cause s) :=
    .ite s ((retireCore_mild _ _).after (retireMark_kept s _ _).toMild) (retireMark_kept s _ _).toMild
  have hwelt (t : State) (h : Mild s t) : Mild s (if i = 52 ∨ i = 53 then
      { t with welt := { t.welt with lanes := t.welt.lanes.filter fun l => l.val + 52 != i } } else t) :=
    .ite s ((welt_mild t _).after h) h
  have hlink (t : State) (h : Mild s t) : Mild s (if i = 54 ∨ i = 55 then
      { t with link := { t.link with retrains := t.link.retrains + 1 }, tx := t.tx ++ [.retrain] } else t) :=
    .ite s ((Kept.of_spoken (s := t) (by rfl)).toMild.after h) h
  exact hlink _ (hwelt _ hcore)

theorem retireBank_mild (b : Nat) : Mild s (retireBank b s) := by
  have hc (rb : List Nat) : Mild s { s with cellar := { s.cellar with retiredBanks := rb } } := cellar_mild s _
  refine (retire_mild _ _ _).after (.ite s ?_ (hc _))
  exact (pressState_mild _).after ((press_mild _ (by rfl)).after ((applyAll_mild _).after (hc _)))

theorem remapRow_mild (row : Nat) : Mild s (remapRow row s) := by
  have hrows (r : List (Nat × Chan)) : Mild s { s with cellar := { s.cellar with rows := r } } := cellar_mild s _
  exact .ite s (.ite s (hrows _) ((retireBank_mild _ _).after (hrows _)))
    ((healthLog_kept _ _ _ _).toMild.after ((cellar_mild _ _).after (hrows _)))

theorem rowFault_mild (row : Nat) : Mild s (rowFault row s) := by
  have hchan (i : Nat) (c : Chan) : Mild s (setChan i c s.freeNat.2) :=
    (setChan_kept _ _ _).toMild.after (freeNat_kept s).toMild
  exact .ite s ((remapRow_mild _ _).after ((healthLog_kept _ _ _ _).toMild.after (hchan _ _)))
    ((cellar_mild _ _).after (hchan _ _))

theorem badRead_mild (addr len : Nat) : Mild s (badRead addr len s) := by
  unfold badRead
  split
  · exact .refl s
  · exact (rowFault_mild _ _).after (healthLog_kept s _ _ _).toMild

/-! ### The cards -/

theorem turnAway_mild (ch : Nat) (r : CardReq) (st : Status) : Mild s (turnAway ch r st s) :=
  (cardOutcome_kept _ _ _ _ _ _).toMild.after (Mild.ite s (badRead_mild s _ _) (.refl s))

theorem setCard_kept (ch : Nat) (k : CardCh) : Kept s (setCard ch k s) := .of_spoken rfl

theorem dropHead_kept (ch : Nat) (st : Status) (count v : Nat) : Kept s (dropHead ch st count v s) := by
  unfold dropHead
  dsimp only
  split
  · exact (cardOutcome_kept _ _ _ _ _ _).after (setCard_kept s _ _)
  · exact .refl s

theorem serveHead_mild (ch : Nat) : Mild s (serveHead ch s) := by
  unfold serveHead
  dsimp only
  split
  · refine .ite s (.refl s) (.ite s (dropHead_kept s _ _ _ _).toMild ?_)
    split
    · exact (turnAway_mild _ _ _ _).after (setCard_kept s _ _).toMild
    · have hserved (k : CardCh) : Kept s (wakeDomainN (9 + ch) (setCard ch k s)) :=
        (wakeDomainN_kept _ _).after (setCard_kept s _ _)
      split
      · split
        · exact (Kept.put (hserved _) (by rfl)).toMild
        · exact (hserved _).toMild
      · exact (hserved _).toMild
  · exact .refl s

theorem cardServe_mild (ch : Nat) : Mild s (cardServe ch s) := .foldl (fun s _ => serveHead_mild s ch) _ s

theorem retryAppends_mild (ch : Nat) : Mild s (retryAppends ch s) := by
  unfold retryAppends
  refine (cardServe_mild _ ch).after (.foldl (fun s b => ?_) _ s)
  exact .ite s (wheelNext_kept s _).toMild (.refl s)

theorem cardsReset_mild (ch : Nat) : Mild s (cardsReset ch s) := by
  have hfail := (failCard_kept s ch fun _ => .aborted).toMild
  unfold cardsReset
  dsimp only
  split
  · exact .refl s
  · refine (retryAppends_mild _ ch).after ?_
    split
    · exact (setCard_kept _ _ _).toMild.after hfail
    · exact hfail

/-! ### Leaving the Welt -/

theorem welt_stays (w : Welt) : Stays s { s with welt := w } := { (Kept.refl s).toStays with }

theorem Stays.ite {t u : State} {p : Prop} [Decidable p] (ht : Stays s t) (hu : Stays s u) :
    Stays s (if p then t else u) := by
  split
  · exact ht
  · exact hu

/-- `Stays.trans`, the later step first. -/
theorem Stays.after {s t u : State} (k : Stays t u) (h : Stays s t) : Stays s u := h.trans k

theorem leadDetached_stays : Stays s (leadDetached s) := by
  by_cases hm : s.welt.mode = .detached
  · rw [leadDetached_detached hm]
    exact (Kept.refl s).toStays
  · exact (leadDetached_kept hm).toStays.after (welt_stays s _)

theorem abortForwards_stays : Stays s (abortForwards s) := (abortForwards_kept s).toStays.after (welt_stays s _)

theorem followerStale_stays : Stays s (followerStale s) := by
  have hmode : Stays s (if s.welt.mode == .detached then s
      else modeChanged { s with welt := { s.welt with mode := .detached, unacked := [], unsent := [] } }) :=
    .ite s (Kept.refl s).toStays ((raise_kept _ _).toStays.after (welt_stays s _))
  have hgone (t : State) (h : Stays s t) :
      Stays s (abortForwards { t with welt := { t.welt with grants := [] } }) :=
    (abortForwards_stays _).after ((welt_stays t _).after h)
  exact .ite s (hgone _ hmode) ((raiseSample_kept _ _).toStays.after ((welt_stays _ _).after (hgone _ hmode)))

theorem endLink_stays : Stays s (endLink s) := by
  refine .ite s ((sample_kept _ _).toStays.after ((raiseSample_kept _ _).toStays.after
    ((welt_stays _ _).after (.ite s ?_ (Kept.refl s).toStays)))) (Kept.refl s).toStays
  exact (raise_kept _ _).toStays.after (welt_stays s _)

theorem depart_stays : Stays s (depart s) := by
  refine .ite s (Kept.refl s).toStays ((endLink_stays _).after ((welt_stays _ _).after (.ite s ?_ ?_)))
  · exact (leadDetached_stays _).after (weltSend_kept s _).toStays
  · exact (followerStale_stays _).after (weltSend_kept s _).toStays

/-! ### Saving the Brine, and GUARD -/

theorem wakeIf_kept (w : Bool) : Kept s (wakeIf w s) := .ite (wakeBank_kept s _) (.refl s)

theorem writeDurable_mild : Mild s (writeDurable s) :=
  .ite s (.refl s) ((wakeIf_kept _ _).toMild.after (brineBooks_mild s _ _))

theorem saveBrine_mild : Mild s (saveBrine s) :=
  .ite s (.refl s) ((brine_mild _ _).after ((wakeBank_kept _ _).toMild.after (writeDurable_mild s)))

theorem dropWheels_kept : Kept s (dropWheels s) := .of_spoken rfl

/-- A state with no session left. -/
theorem endSessions_rooted (p : Session → Bool) : Rooted s (endSessions p s) := by
  obtain ⟨hrest, hsess⟩ := endSessions_spec s p
  rw [hrest]
  exact { Rooted.refl s with
    handles := fun x hx => ⟨x, List.mem_of_mem_filter (hsess ▸ (hx : x ∈ (endSessions p s).sessions)), rfl⟩ }

theorem endSessions_all : (endSessions (fun _ => true) s).sessions = [] :=
  List.eq_nil_iff_forall_not_mem.2 fun x hx => by simpa using endSessions_none s hx

/-! ### GUARD -/

/-- The state in which the steps of GUARD begin. -/
def inGuard (c : Nat) (s : State) : State :=
  { s with rind := { s.rind with guard := true, cls := BitVec.ofNat 4 c }, smb := { s.smb with alert := true } }

/-- GUARD leaves no session, and its wipe is on its way. -/
theorem guardSteps_spec (saved : Bool) : Rooted s (guardSteps saved s) ∧ (guardSteps saved s).sessions = [] ∧
    (guardSteps saved s).rind.wiping = true := by
  obtain ⟨s1, hs1⟩ : ∃ s1, s1 = (List.range 8).foldl (fun s c =>
      (List.range 4).foldl (fun s f => cutFrame c f .guardActive 0 s) s)
    ((List.range 4).foldl (fun s c => dropCards .guardActive c s)
      (depart (dropJobs (fun _ => true) { s with welt := { s.welt with waits := [] } }))) := ⟨_, rfl⟩
  have h1 : Rooted s s1 := by
    rw [hs1]
    refine Rooted.after (Kept.foldl (fun s c => .foldl (fun s f => cutFrame_kept s c f _ _) _ s) _ _).toRooted ?_
    refine Rooted.after (Kept.foldl (fun s c => dropCards_kept s _ c) _ _).toRooted ?_
    exact (depart_stays _).toRooted.after ((dropJobs_kept _ _).toRooted.after (welt_mild s _).toRooted)
  obtain ⟨s2, hs2⟩ : ∃ s2, s2 = applyAll (dropWheels { s1 with
      press := { s1.press with queue := [], bufUsed := 0 }
      eng := { s1.eng with streams := [], retained := [], staged := 0 }
      loaned := [] }) := ⟨_, rfl⟩
  have h2 : Rooted s s2 := by
    rw [hs2]
    refine (applyAll_mild _).toRooted.after ((dropWheels_kept _).toRooted.after ?_)
    exact Rooted.after (t := s1) { Rooted.refl s1 with } h1
  obtain ⟨s3, hs3⟩ : ∃ s3, s3 = (if saved then s2 else raiseSample 273 (saveBrine s2)) := ⟨_, rfl⟩
  have h3 : Rooted s s3 := by
    rw [hs3]
    exact .ite s h2 ((raiseSample_kept _ _).toRooted.after ((saveBrine_mild _).toRooted.after h2))
  obtain ⟨s4, hs4⟩ : ∃ s4, s4 = s3.orders.foldl (fun s o => refuse o.uid .guardActive s) s3 := ⟨_, rfl⟩
  have h4 : Rooted s s4 := by
    rw [hs4]
    exact (Kept.foldl (fun s o => refuse_kept s _ _) _ _).toRooted.after h3
  obtain ⟨s5, hs5⟩ : ∃ s5, s5 = (if s4.mb.busy then mbFinish 6 .guardActive [] s4 else s4) := ⟨_, rfl⟩
  have h5 : Rooted s s5 := by
    rw [hs5]
    exact .ite s ((mbFinish_kept _ _ _ _).toRooted.after h4) h4
  have hend : guardSteps saved s =
      endSessions (fun _ => true) { s5 with rind := { s5.rind with wiping := true } } := by
    unfold guardSteps
    dsimp only
    rw [← hs1, ← hs2, ← hs3, ← hs4, ← hs5]
  rw [hend]
  refine ⟨(endSessions_rooted _ _).after (Rooted.after (t := s5) { Rooted.refl s5 with } h5), endSessions_all _, ?_⟩
  rw [(endSessions_spec _ _).1]

/-- A trip into GUARD, with no log write on its way. -/
theorem guardTrip_spec (c : Nat) (saved : Bool) : Rooted (inGuard c s) (guardTrip c s saved) ∧
    (guardTrip c s saved).rind.guard = true ∧ (guardTrip c s saved).sessions = [] ∧
    (guardTrip c s saved).rind.wiping = true := by
  obtain ⟨hr, hs, hw⟩ := guardSteps_spec (zeroise (raiseSample 272 (inGuard c s))) saved
  have hin : Rooted (inGuard c s) (guardTrip c s saved) := hr.after ((raiseSample_kept _ _).put (by rfl)).toRooted
  exact ⟨hin, hin.guard, hs, hw⟩

/-! ### The start after DORMANT -/

theorem recoverFrom_rooted (n e p : Nat) : Rooted s (recoverFrom n e p s) := by
  induction n generalizing e p s with
  | zero => exact { Rooted.refl s with }
  | succ n ih =>
    unfold recoverFrom
    dsimp only
    split
    · exact (ih _ _ _).after ((pressState_mild _).toRooted.after { Rooted.refl s with })
    · exact { Rooted.refl s with }

theorem recover_rooted : Rooted s (recover s) := (recoverFrom_rooted _ _ _ _).after { Rooted.refl s with }

theorem mend_mild (addr len : Nat) : Mild s (mend addr len s) := cellar_mild s _

theorem checkMicrocode_mild : Mild s (checkMicrocode s) := by
  have hfault (n : Nat) (t : State) : Mild t (microFault n t) := (healthLog_kept t _ _ _).toMild
  have huse (b : Bool) (t : State) : Mild t { t with eng := { t.eng with microcodeOk := b } } :=
    (Kept.of_spoken (by rfl)).toMild
  refine .ite s (huse _ s) (.ite s ?_ ((huse _ _).after ((hfault _ _).after (hfault _ s))))
  exact .ite s ((huse _ _).after (hfault _ s)) ((huse _ _).after ((wakeBank_kept _ _).toMild.after
    ((mend_mild _ _ _).after ((cellar_mild _ _).after (hfault _ s)))))

theorem newStateKeys_kept : Kept s (newStateKeys s) := .ite (.of_spoken rfl) (.of_spoken rfl)

theorem newStoreKey_kept : Kept s (newStoreKey s) := .ite (.of_spoken rfl) (.of_spoken rfl)

theorem newBootNonce_kept : Kept s (newBootNonce s) := .ite (.of_spoken rfl) (.of_spoken rfl)

theorem writeWord_mild : Mild s (writeWord s) :=
  .ite s (.refl s) ((wakeBank_kept _ _).toMild.after (brine_mild s _))

theorem setBook_kept (b : Nat) (k : Book) : Kept s (setBook b k s) := .of_spoken rfl

theorem writeGap_kept (b cause : Nat) : Kept s (writeGap b cause s) :=
  .ite (sampleTime_kept s) (.ite ((setBook_kept _ _ _).after (sampleTime_kept s))
    ((wakeBank_kept _ _).after ((setBook_kept _ _ _).after (sampleTime_kept s))))

theorem wakeBanks_kept (items : List PItem) : Kept s (wakeBanks items s) := .foldl (fun s b => wakeBank_kept s b) _ s

/-- The press of gap records at a start writes the log, and no object. -/
theorem startPress_gapRecords : Rooted s (startPress [.gapRecords] s) := by
  have hshared (t : State) : Kept t (rewriteShared t) := .of_spoken rfl
  refine (hshared _).toRooted.after ((applyAll_mild _).toRooted.after ((wakeBanks_kept _ _).toRooted.after ?_))
  exact { Rooted.refl s with }

theorem loadBrine_rooted : Rooted s (loadBrine s).2 := by
  refine (writeWord_mild _).toRooted.after ?_
  have hgaps (l : List Nat) (t : State) (h : Rooted s t) : Rooted s (l.foldl (fun s b => writeGap b 0 s) t) :=
    (Kept.foldl (fun s b => writeGap_kept s b 0) l t).toRooted.after h
  exact .ite s ((startPress_gapRecords _).after (hgaps _ _ (brineBooks_mild s _ _).toRooted))
    (hgaps _ _ (brineBooks_mild s _ _).toRooted)

theorem mirrorBrine_kept : Kept s (mirrorBrine s) := .ite (weltSend_kept s _) (.refl s)

theorem setEntry_mild (e : Entry) : Mild s (setEntry e s) :=
  (mirrorBrine_kept _).toMild.after ((wakeIf_kept _ _).toMild.after (brine_mild s _))

theorem slotRefused_mild (n : Nat) (st : Status) : Mild s (slotRefused n st s) := by
  unfold slotRefused
  dsimp only
  split
  · exact .refl s
  · split
    · exact (healthLog_kept s _ _ _).toMild
    · exact (rowFault_mild _ _).after (healthLog_kept s _ _ _).toMild

/-- What a use of a key leaves, however it ends. -/
def Use.Leaves (s : State) : Use → Prop
  | .got _ _ t | .no _ t | .wait t => Mild s t

theorem Use.Leaves.ite {u v : Use} {p : Prop} [Decidable p] (hu : u.Leaves s) (hv : v.Leaves s) :
    (if p then u else v).Leaves s := by
  split
  · exact hu
  · exact hv

theorem drawUse_leaves (k : Slot) (inv : Bool) : (drawUse k inv s).Leaves s := by
  have hsend (c : Prop) [Decidable c] : Mild s (if c then weltSend 0x20 s else s) :=
    .ite s (weltSend_kept s _).toMild (.refl s)
  have hentry (c : Prop) [Decidable c] (e : Entry) : Mild s (if c then s else setEntry e s) :=
    .ite s (.refl s) (setEntry_mild s e)
  have huse (t : State) (h : Mild s t) (c : Prop) [Decidable c] (u : List (Nat × TwoCopy)) :
      Mild s (if c then wakeBank 0 { t with cellar := { t.cellar with useCounts := u } } else t) :=
    .ite s ((wakeBank_kept _ _).toMild.after ((cellar_mild t _).after h)) h
  unfold drawUse
  dsimp only
  split
  · exact .refl s
  · refine Use.Leaves.ite s (Mild.refl s) (.ite s (Mild.refl s) (.ite s (.ite s ?_ (hsend _))
      (.ite s (Mild.refl s) (.ite s (Mild.refl s) (huse _ (hentry _ _) _ _)))))
    split
    · exact (welt_mild _ _).after (hsend _)
    · exact (weltSend_kept s _).toMild

theorem useSlot_leaves (rq : Rq) (n : Nat) (need : Need) (session : BitVec 32) (inv : Bool) :
    (useSlot rq n need session inv s).Leaves s := by
  unfold useSlot
  split
  · exact slotRefused_mild s _ _
  · exact drawUse_leaves s _ _

theorem signWheel_mild (b slot : Nat) (msg : Bytes) : Mild s (signWheel b slot msg s) := by
  have huse := useSlot_leaves s .device slot needSeal 0 false
  refine .ite s (.refl s) ?_
  split
  next k _ t heq => exact (laneAdmit_kept _ _).toMild.after (heq ▸ huse :)
  next t heq => exact (heq ▸ huse :)
  next t heq => exact (heq ▸ huse :)

theorem putBook_kept (b : Nat) (k : Book) : Kept s (putBook b k s) := (wakeIf_kept _ _).after (setBook_kept s _ _)

theorem closeWheel_mild (b : Nat) (merged final : Bool) (no covered : Nat) :
    Mild s (closeWheel b merged final no covered s) :=
  (signWheel_mild _ _ _ _).after ((mirrorBrine_kept _).toMild.after (putBook_kept s _ _).toMild)

theorem mergeWheels_mild (gaps : List Nat) : Mild s (mergeWheels gaps s) :=
  .ite s (.refl s) (.foldl (fun s _ => .ite s (closeWheel_mild s _ _ _ _ _) (.refl s)) _ s)

theorem resume_rooted : Rooted s (resume s) := by
  have hkeys : Rooted s (newStateKeys (newStoreKey s)) :=
    (newStateKeys_kept _).toRooted.after (newStoreKey_kept s).toRooted
  have hload (f : Core → Core) (t : State) : Rooted t { t with cores := t.cores.map f } := { Rooted.refl t with }
  unfold resume
  dsimp only
  split
  · exact (hload _ _).after hkeys
  · split
    · exact (writeWord_mild _).toRooted.after ((hload _ _).after hkeys)
    · exact (mergeWheels_mild _ _).toRooted.after ((loadBrine_rooted _).after ((hload _ _).after hkeys))

theorem sampleAll_kept : Kept s (sampleAll s) := .foldl (fun s _ => sample_kept s _) _ s

theorem katsDue_kept (fails : List (Fin 60)) : Kept s (katsDue fails s) := (testPowered_kept _).after (.of_spoken rfl)

theorem identifyCards_kept : Kept s (identifyCards s) := .of_spoken rfl

end Sys2Proof.Machine
end


section
/-! Domains, DORMANT, D3hot and host-link reset (02, 05, 14). -/

namespace Sys2Proof.Machine

variable {s : State}

/-! ### What bars DORMANT -/

theorem dormantBar_sessions (h : s.sessions ≠ []) : s.dormantBar = some 1 := if_pos (by simpa using h)

theorem dormantBar_orders (hs : s.sessions = []) (ho : s.orders ≠ []) : s.dormantBar = some 2 := by
  rw [State.dormantBar, if_neg (by simp [hs]), if_pos (by simp [ho])]

section
variable (hs : s.sessions = []) (ho : s.orders = []) (hq : ∀ q ∈ s.qps, q.gathered = [])
include hs ho hq

theorem dormantBar_last (hd : s.active.dormantOk = false) : s.dormantBar = some 3 := by
  rw [State.dormantBar, if_neg (by simp [hs]), if_neg (by simpa [ho] using hq), if_pos (by simp [hd])]

theorem dormantBar_welt (hd : s.active.dormantOk = true) :
    s.dormantBar = if s.welt.mode = .sync then some 4 else none := by
  rw [State.dormantBar, if_neg (by simp [hs]), if_neg (by simpa [ho] using hq), if_neg (by simp [hd])]
  simp only [beq_iff_eq]

end

/-! ### PW_CTL, and engines held warm -/

section
variable (h : s.hostReach = true)
include h

theorem exec_pwCtlReqWrite (v : BitVec 2) : exec (.pwCtlReqWrite v) s = .next (writeReq v.toNat s) := by
  show execPwCtlReqWrite v s = _
  rw [execPwCtlReqWrite, if_pos h]

theorem exec_pwCtlReqWrite_open (hb : s.dormantBar = none) :
    exec (.pwCtlReqWrite 1) s = .next { s with power := { s.power with req := true } } := by
  rw [exec_pwCtlReqWrite h]
  show Host.Outcome.next (requestDormant s) = _
  rw [requestDormant, hb]

theorem exec_pwCtlReqWrite_barred {r : Nat} (hb : s.dormantBar = some r) :
    exec (.pwCtlReqWrite 1) s = .next { s with power :=
      { s.power with req := false, refused := true, reason := BitVec.ofNat 4 r } } := by
  rw [exec_pwCtlReqWrite h]
  show Host.Outcome.next (requestDormant s) = _
  rw [requestDormant, hb]
  rfl

theorem exec_pwCtlReqWrite_undefined (v : BitVec 2) (hv : v = 2 ∨ v = 3) :
    exec (.pwCtlReqWrite v) s = .next { s with power := { s.power with refused := true, reason := 5 } } := by
  rw [exec_pwCtlReqWrite h]
  obtain rfl | rfl := hv <;> rfl

theorem exec_holdWarmWrite (on : Bool) : exec (.holdWarmWrite on) s = .next (holdWarm on s) := by
  show execHoldWarmWrite on s = _
  rw [execHoldWarmWrite, if_pos h]

theorem exec_d3hotEntry (p : Bool) : exec (.d3hotEntry p) s = .next (requestDormant { flushGroups s with
    link := { (flushGroups s).link with d3hot := true, pmeEn := p } }) := by
  show execD3hotEntry p s = _
  rw [execD3hotEntry, h, if_neg (by decide)]

end

/-- With no self-test owed, powering units tests none. -/
theorem testPowered_none (h : s.health.katDue = []) : testPowered s = s := by
  have hunit (i : Nat) : testUnit i s = s := by
    rw [testUnit, h]
    rfl
  refine foldl_fixed fun i _ => ?_
  rw [firstTest, hunit]
  simp

/-- The state with every engine held warm. -/
def heldWarm (s : State) : State := { s with power := { s.power with holdWarm := true } }

/-- The domains that stay off while every engine is held warm. -/
def coldDomains (s : State) : List (Fin 64) :=
  s.power.domainsOff.filter fun d => (domainClass d.val).isNone || !(heldWarm s).startsOn d.val

theorem holdWarm_on (h : s.health.katDue = []) :
    holdWarm true s = { s with power := { s.power with holdWarm := true, domainsOff := coldDomains s } } := by
  rw [holdWarm, if_pos rfl]
  exact testPowered_none (s := { s with power := { s.power with holdWarm := true, domainsOff := coldDomains s } }) h

theorem domainClass_cipher : ∀ i : Fin 16, domainClass (22 + i) = some (22, 16, 0, 1) := by decide

/-- A cipher core that works is powered then. -/
theorem coldDomains_cipher {i : Fin 16} (hi : s.chanOk i = true) : Fin.ofNat 64 (22 + i) ∉ coldDomains s := by
  have hv : (Fin.ofNat 64 (22 + i)).val = 22 + i := Nat.mod_eq_of_lt (by omega)
  have hon : (heldWarm s).startsOn (22 + i) = true := by
    rw [State.startsOn, if_neg (by omega), if_neg (by omega), domainClass_cipher]
    show (s.chanOk (0 + (22 + i.val - 22)) && _) = true
    rw [show 0 + (22 + i.val - 22) = i.val by omega, hi]
    rfl
  intro hmem
  have hcold := (List.mem_filter.1 hmem).2
  simp only [hv, domainClass_cipher, hon] at hcold
  exact absurd hcold (by decide)

/-! ### Automatic domains -/

theorem exec_domainPowerOff {d : Fin 64} (ha : s.awake = true) (hi : s.domainIdle d = true)
    (hw : s.aboveWarm d = true) (hd : d ∉ s.power.domainsOff) : exec (.domainPowerOff d) s = .next { s with
      power := { s.power with domainsOff := d :: s.power.domainsOff }
      eng := { s.eng with schedules := s.eng.schedules.filter fun x => x.1 + 22 != d.val } } := by
  show execDomainPowerOff d s = _
  rw [execDomainPowerOff, if_pos (by simp [ha, hi, hw, hd])]

theorem exec_domainPowerOff_stays {d : Fin 64} (h : s.domainIdle d = false ∨ s.aboveWarm d = false) :
    exec (.domainPowerOff d) s = .next s := by
  show execDomainPowerOff d s = _
  rw [execDomainPowerOff, if_neg (by obtain h | h := h <;> simp [h])]

/-! ### Entering DORMANT -/

section
variable (ha : s.awake = true) (hr : s.power.req = true)
include ha hr

theorem exec_dormantEntry_barred (x : Bool) {r : Nat} (hb : s.dormantBar = some r) :
    exec (.dormantEntry x) s = .next { s with power :=
      { s.power with req := false, refused := true, reason := BitVec.ofNat 4 r } } := by
  show execDormantEntry x s = _
  rw [execDormantEntry, if_neg (by simp [ha, hr]), hb]
  rfl

theorem exec_dormantEntry_trigger (hb : s.dormantBar = none) :
    exec (.dormantEntry true) s = .next { s with power := { s.power with req := false, refused := true, reason := 2 } } := by
  show execDormantEntry true s = _
  rw [execDormantEntry, if_neg (by simp [ha, hr]), hb]
  rfl

theorem exec_dormantEntry_working (hb : s.dormantBar = none) (hw : s.working = true) :
    exec (.dormantEntry false) s = .next s := by
  show execDormantEntry false s = _
  rw [execDormantEntry, if_neg (by simp [ha, hr]), hb]
  simp only [Bool.false_eq_true, if_false, hw, if_true]

end

/-- The state DORMANT is entered from: groups delivered, Brine and time saved, the link session ended. -/
def fallingAsleep (s : State) : State :=
  let t := flushGroups s
  markTime (sampleTime (keepStatus (endLink (applyAll (if t.rind.guard then t else raise 273 (saveBrine t))))))

theorem exec_dormantEntry_sleeps (ha : s.awake = true) (hr : s.power.req = true) (hb : s.dormantBar = none)
    (hw : s.working = false) : exec (.dormantEntry false) s = .next (let t := fallingAsleep s; { t with
      power := { t.power with st := .dormant, domainsOff := (List.finRange 64).filter fun d => d.val != 0 }
      link := { t.link with l12 := true }
      keys := { t.keys with sessionKey := none, stateKeys := none }
      loaned := []
      eng := { t.eng with schedules := [], streams := [], retained := [] }
      cards := { t.cards with ch := t.cards.ch.map CardCh.off }
      time := { t.time with tokens := [] } }) := by
  show execDormantEntry false s = _
  rw [execDormantEntry, if_neg (by simp [ha, hr]), hb]
  simp only [Bool.false_eq_true, if_false, hw, fallingAsleep]

theorem flushGroups_kept (s : State) : Kept s (flushGroups s) := by
  unfold flushGroups
  refine .foldl (fun s g => ?_) _ s
  exact .ite (deliver_kept s g) (.refl s)

theorem flushGroups_same (s : State) : SameButEvents s (flushGroups s) := by
  unfold flushGroups
  refine foldl_same s (fun s g => ?_) _
  exact .ite (deliver_same s g) (.rfl' s)

theorem markTime_kept (s : State) : Kept s (markTime s) :=
  .ite (.refl s) ((wakeBank_kept _ _).after (.of_spoken rfl))

theorem fallingAsleep_rooted (s : State) : Rooted s (fallingAsleep s) := by
  have hsaved : Rooted s (if (flushGroups s).rind.guard then flushGroups s else raise 273 (saveBrine (flushGroups s))) :=
    .ite s (flushGroups_kept s).toRooted ((raise_kept _ _).toRooted.after ((saveBrine_mild _).toRooted.after
      (flushGroups_kept s).toRooted))
  have hstatus (t : State) : Kept t (keepStatus t) := .of_spoken rfl
  exact (markTime_kept _).toRooted.after ((sampleTime_kept _).toRooted.after ((hstatus _).toRooted.after
    ((endLink_stays _).toRooted.after ((applyAll_mild _).toRooted.after hsaved))))

theorem wakeBank_keys (b : Nat) (s : State) : (wakeBank b s).keys = s.keys := by
  unfold wakeBank wakeDomainN
  split_ifs <;> rfl

theorem saveBrine_keys (s : State) : (saveBrine s).keys = s.keys := by
  have hdurable : (writeDurable s).keys = s.keys := by
    unfold writeDurable wakeIf
    split_ifs
    · rfl
    · exact wakeBank_keys _ _
    · rfl
  unfold saveBrine
  split
  · rfl
  · exact (wakeBank_keys _ _).trans hdurable

theorem applyAll_keys (s : State) : (applyAll s).keys = s.keys := by
  have hone (s : State) : (applyRecord s).keys = s.keys := by
    unfold applyRecord pressState
    split
    · rfl
    · split
      · rfl
      · exact wakeBank_keys _ _
  have hfold (l : List LogRecord) (s : State) : (l.foldl (fun s _ => applyRecord s) s).keys = s.keys := by
    induction l generalizing s with
    | nil => rfl
    | cons r l ih => exact (ih _).trans (hone s)
  exact hfold _ s

theorem endLink_keys (s : State) : (endLink s).keys = s.keys := by
  unfold endLink
  split
  · dsimp only
    rw [(sample_same _ _).get State.keys fun _ => rfl, (raiseSample_same _ _).get State.keys fun _ => rfl]
    split
    · exact (raise_same _ _).get State.keys fun _ => rfl
    · rfl
  · rfl

theorem fallingAsleep_keys (s : State) : (fallingAsleep s).keys = s.keys := by
  have hsaved : (if (flushGroups s).rind.guard then flushGroups s else raise 273 (saveBrine (flushGroups s))).keys =
      s.keys := by
    have hflush := (flushGroups_same s).get State.keys fun _ => rfl
    split
    · exact hflush
    · rw [(raise_same _ _).get State.keys fun _ => rfl, saveBrine_keys, hflush]
  have hclock (t : State) : (sampleTime (keepStatus t)).keys = t.keys := rfl
  have hmark (t : State) : (markTime t).keys = t.keys := by
    unfold markTime
    split
    · rfl
    · exact wakeBank_keys _ _
  unfold fallingAsleep
  dsimp only
  rw [hmark, hclock, endLink_keys, applyAll_keys, hsaved]

/-! ### Leaving DORMANT -/

/-- The state an exit starts from: main power up, the domains set, the wake recorded. -/
def waking (s : State) : State :=
  setDomains { s with
    power := { s.power with st := .active, req := false }
    link := { s.link with l12 := false }
    ev := { s.ev with wakePend := [], wakeExit := false } }

/-- What an exit checks first: the log, and the microcode. -/
def rechecked (s : State) : State := checkMicrocode (recover (waking s))

/-- The trip the Rind latched in DORMANT is answered at exit. -/
def answered (s : State) : State :=
  match (rechecked s).rind.latchedTrip with
  | some c => guardTrip c.val { rechecked s with rind := { (rechecked s).rind with latchedTrip := none } } true
  | none => rechecked s

/-- An exit, up to the events it raises. -/
def reawake (k : List (Fin 60)) (s : State) : State :=
  katsDue k (if (answered s).rind.guard then answered s else identifyCards (resume (answered s)))

theorem exec_dormantExit (k : List (Fin 60)) (hd : s.power.st = .dormant) :
    exec (.dormantExit k) s = .next (sampleAll (s.ev.wakePend.foldl (fun s n => raise n s) (reawake k s))) := by
  show execDormantExit k s = _
  rw [execDormantExit, if_neg (by simp [hd])]
  rfl

theorem exec_dormantExit_awake (k : List (Fin 60)) (w : Bool) (hd : s.power.st ≠ .dormant) :
    exec (.dormantExit k w) s = .next s := by
  show execDormantExit k s w = _
  rw [execDormantExit, if_pos (by simp [hd])]

theorem exec_dormantExit_noWake (k : List (Fin 60)) (hw : s.ev.wakeExit = false) :
    exec (.dormantExit k true) s = .next s := by
  show execDormantExit k s true = _
  rw [execDormantExit, if_pos (by simp [hw])]

theorem exec_dormantExit_wake (k : List (Fin 60)) (hw : s.ev.wakeExit = true) :
    exec (.dormantExit k true) s = exec (.dormantExit k) s := by
  show execDormantExit k s true = execDormantExit k s
  rw [execDormantExit, execDormantExit, hw]
  simp only [Bool.not_true, Bool.and_false]

theorem rechecked_rooted (s : State) : Rooted (waking s) (rechecked s) :=
  (checkMicrocode_mild _).toRooted.after (recover_rooted _)

/-- The last steps of an exit: self-tests owed, wake events raised, conditions sampled. -/
theorem reawake_rooted (k : List (Fin 60)) (t : State) (l : List Nat) :
    Kept t (sampleAll (l.foldl (fun s n => raise n s) (katsDue k t))) :=
  (sampleAll_kept _).after ((Kept.foldl (fun s n => raise_kept s n) l _).after (katsDue_kept t k))

theorem dormantExit_untripped (k : List (Fin 60)) (hd : s.power.st = .dormant) (ht : s.rind.latchedTrip = none) :
    ∃ t, exec (.dormantExit k) s = .next t ∧ Rooted (waking s) t := by
  have hans : answered s = rechecked s := by
    rw [answered, (rechecked_rooted s).latched, show (waking s).rind.latchedTrip = none from ht]
  refine ⟨_, exec_dormantExit k hd, ?_⟩
  refine (reawake_rooted k _ _).toRooted.after ?_
  rw [hans]
  exact .ite _ (rechecked_rooted s) ((identifyCards_kept _).toRooted.after ((resume_rooted _).after (rechecked_rooted s)))

theorem dormantExit_tripped (k : List (Fin 60)) {c : Fin 13} (hd : s.power.st = .dormant)
    (ht : s.rind.latchedTrip = some c) : ∃ t, exec (.dormantExit k) s = .next t ∧
      t.power.st = .active ∧ t.rind.guard = true ∧ t.rind.wiping = true ∧ t.sessions = [] := by
  obtain ⟨u, hu⟩ : ∃ u : State, u = { rechecked s with rind := { (rechecked s).rind with latchedTrip := none } } :=
    ⟨_, rfl⟩
  have hans : answered s = guardTrip c.val u true := by
    rw [answered, (rechecked_rooted s).latched, show (waking s).rind.latchedTrip = some c from ht, hu]
  obtain ⟨hr, hg, hs, hw⟩ := guardTrip_spec u c.val true
  have hst : (answered s).power.st = .active := by
    rw [hans, steady_st hr.steady]
    show u.power.st = _
    rw [hu]
    exact (steady_st (rechecked_rooted s).steady)
  rw [← hans] at hg hs hw
  have hk := reawake_rooted k (answered s) s.ev.wakePend
  refine ⟨_, exec_dormantExit k hd, ?_⟩
  rw [reawake, if_pos hg]
  exact ⟨(steady_st hk.steady).trans hst, hk.guard.trans hg, (congrArg Rind.wiping hk.rind).trans hw,
    hk.noSessions hs⟩

/-! ### L1, D3hot and PME -/

section
variable (ha : s.awake = true)
include ha

theorem exec_l1Entry : exec .l1Entry s = .next (flushGroups s) := by
  show execL1Entry s = _
  rw [execL1Entry, if_pos ha]

theorem exec_d0Return (hd : s.link.d3hot = true) : exec .d0Return s = .next (signalAll { s with
    link := { s.link with d3hot := false }, power := { s.power with req := false } }) := by
  show execD0Return s = _
  rw [execD0Return, if_pos (by simp [ha, hd])]

theorem exec_pmeStatusClear (hd : s.link.d3hot = false) :
    exec .pmeStatusClear s = .next { s with link := { s.link with pmeStatus := false } } := by
  show execPmeStatusClear s = _
  rw [execPmeStatusClear, if_pos ha, raisePme, if_neg (by simp [hd])]

theorem exec_pmeResend (hd : s.link.d3hot = true) (hp : s.link.pmeStatus = true) :
    exec .pmeResend s = .next (if s.ev.gdisHost = true then s else { s with tx := s.tx ++ [.pme] }) := by
  show execPmeResend s = _
  rw [execPmeResend, ha, hd, hp]
  cases s.ev.gdisHost <;> rfl

end

/-! ### The reset of the host link -/

theorem frame_none_of_le {c f : Nat} (h : 4 ≤ f) : s.frame c f = none := by
  rw [State.frame, vget, List.getD_eq_default _ _ (by simpa using h)]

/-- A frame that is cut is gone. -/
theorem cutFrame_frame (st : Status) (n : Nat) {c f : Nat} (hc : c < 8) (hf : f < 4) :
    (cutFrame c f st n s).frame c f = none := by
  unfold cutFrame
  split
  · assumption
  · refine (complete_kept _ _ _ _ _ _).frames c f ?_
    unfold freeFrame
    dsimp only
    generalize dropJobs _ _ = t
    have hset (u : State) : (setFrame c f none u).frame c f = none := frame_setFrame _ (by omega) hf
    split
    · exact (yieldCore_kept _ _).frames c f (hset _)
    · exact hset _

/-- All frames of the applet cores cut. -/
def allCut (s : State) : State :=
  (List.range 8).foldl (fun s c => (List.range 4).foldl (fun s f => cutFrame c f .aborted 0 s) s) s

theorem allCut_kept (s : State) : Kept s (allCut s) := by
  unfold allCut
  exact .foldl (fun s c => .foldl (fun s f => cutFrame_kept s c f _ _) _ s) _ s

/-- What every step keeps, and a step reaches, holds after the list that has it. -/
theorem foldl_reaches {α β : Type} {g : β → α → β} {P : β → Prop} (hk : ∀ b x, P b → P (g b x)) {x : α}
    (hx : ∀ b, P (g b x)) : ∀ {l : List α} {b : β}, x ∈ l → P (l.foldl g b)
  | y :: l, b, h => by
    rw [List.foldl_cons]
    obtain rfl | h := List.mem_cons.1 h
    · have hall : ∀ (l : List α) (b : β), P b → P (l.foldl g b) := fun l => by
        induction l with
        | nil => exact fun b hb => hb
        | cons z l ih => exact fun b hb => ih _ (hk b z hb)
      exact hall l _ (hx b)
    · exact foldl_reaches hk hx h

theorem allCut_frame {c : Nat} (f : Nat) (hc : c < 8) : (allCut s).frame c f = none := by
  rcases Nat.lt_or_ge f 4 with hf | hf
  · refine foldl_reaches (P := fun s : State => s.frame c f = none)
      (fun t d h => (Kept.foldl (fun s f => cutFrame_kept s d f _ _) _ t).frames c f h) (x := c) (fun t => ?_)
      (List.mem_range.2 hc)
    exact foldl_reaches (P := fun s : State => s.frame c f = none)
      (fun t g h => (cutFrame_kept t c g _ _).frames c f h) (x := f) (fun t => cutFrame_frame _ _ hc hf)
      (List.mem_range.2 hf)
  · exact frame_none_of_le hf

/-- The device with the host's orders and frames gone. -/
def hostGone (s : State) : State :=
  (List.range 4).foldl (fun s c => cardsReset c s) (allCut (forgetJobs (fun j => j.ref.ofHost)
    { s with orders := [], qps := [], turns := Vector.replicate 4 Turns.fresh }))

/-- The device with the host's sessions, registers and streams cleared too. -/
def linkCleared (cfg : LinkCfg) (s : State) : State :=
  let s := endSessions (fun _ => true) (hostGone s)
  { s with
    books := s.books.map fun (k : Book) => { k with waiting := k.waiting.filter fun w => !w.ref.ofHost }
    welt := { s.welt with waits := s.welt.waits.filter fun w => !w.ref.ofHost }
    eng := { s.eng with streams := [], retained := [], schedules := [], serial := 0 }
    loaned := []
    mb := Mailbox.idle
    hl := ⟨0, 0, 0, 0, false, false, 0⟩
    link := { s.link with d3hot := false, pmeEn := false, pmeStatus := false, cfg := cfg }
    time := { s.time with tokens := [] } }

/-- The device with its state keys made anew, or in GUARD without a boot nonce. -/
def rekeyed (s : State) : State :=
  if s.rind.guard then { s with keys := { s.keys with bootNonce := none } } else newStateKeys (newBootNonce s)

theorem exec_hostLinkReset (cfg : LinkCfg) (ha : s.awake = true) :
    exec (.hostLinkReset cfg) s = .next (sampleAll (resetHostEvents (rekeyed (linkCleared cfg s)))) := by
  show execHostLinkReset s cfg = _
  rw [execHostLinkReset, ha, if_neg (by decide)]
  unfold rekeyed linkCleared hostGone allCut
  rfl

/-- Without orders and queue pairs. -/
def emptied (s : State) : State := { s with orders := [], qps := [], turns := Vector.replicate 4 Turns.fresh }

theorem hostGone_mild (s : State) : Mild (emptied s) (hostGone s) :=
  (Mild.foldl (fun s c => cardsReset_mild s c) _ _).after ((allCut_kept _).toMild.after (forgetJobs_kept _ _).toMild)

theorem hostGone_frame {c : Nat} (f : Nat) (hc : c < 8) : (hostGone s).frame c f = none :=
  (Mild.foldl (fun s c => cardsReset_mild s c) _ _).frames c f (allCut_frame f hc)

theorem linkCleared_mild (cfg : LinkCfg) (s : State) : (linkCleared cfg s).vault = s.vault ∧
    (linkCleared cfg s).press.epoch = s.press.epoch ∧ (linkCleared cfg s).rind.guard = s.rind.guard ∧
    (linkCleared cfg s).orders = [] ∧ (linkCleared cfg s).qps = [] ∧ (linkCleared cfg s).sessions = [] ∧
    ∀ c f : Nat, c < 8 → (linkCleared cfg s).frame c f = none := by
  have hg := hostGone_mild s
  have hend := (endSessions_spec (hostGone s) fun _ => true).1
  have hs := endSessions_all (hostGone s)
  have hf (c f : Nat) (hc : c < 8) : (hostGone s).frame c f = none := hostGone_frame f hc
  have ho := hg.orders rfl
  have hq := hg.qps rfl
  have hv : (hostGone s).vault = s.vault := hg.vault
  have he : (hostGone s).press.epoch = s.press.epoch := hg.epoch
  have hgu : (hostGone s).rind.guard = s.rind.guard := hg.guard
  unfold linkCleared
  generalize hostGone s = g at *
  generalize endSessions (fun _ => true) g = u at hend hs
  rw [hend]
  exact ⟨hv, he, hgu, ho, hq, hs, hf⟩

theorem rekeyed_rest (s : State) : { rekeyed s with keys := s.keys, drbg := s.drbg, freeCtr := s.freeCtr } = s := by
  unfold rekeyed newStateKeys newBootNonce
  split_ifs <;> rfl

theorem rekeyed_kept (s : State) : Kept s (rekeyed s) :=
  .ite (.of_spoken rfl) ((newStateKeys_kept _).after (newBootNonce_kept s))

theorem rekeyed_guard (h : s.rind.guard = true) : (rekeyed s).keys.bootNonce = none := by
  rw [rekeyed, if_pos h]

theorem sampleAll_same (s : State) : SameButEvents s (sampleAll s) :=
  foldl_same s (fun s n => sample_same n s) _

/-- What the last steps of the reset leave: host events are reset, and conditions sampled. -/
theorem resetHostEvents_after (r : State) : let t := sampleAll (resetHostEvents r)
    t.vault = r.vault ∧ t.press.epoch = r.press.epoch ∧ (r.orders = [] → t.orders = []) ∧ (r.qps = [] → t.qps = []) ∧
    (r.sessions = [] → t.sessions = []) ∧ (∀ c f, r.frame c f = none → t.frame c f = none) ∧
    t.link.cfg = r.link.cfg ∧ t.link.d3hot = r.link.d3hot ∧ t.ev.gdisHost = true ∧ t.msix.enable = false ∧
    t.hl = r.hl ∧ t.mb = r.mb ∧ t.time = r.time ∧ t.loaned = r.loaned ∧ t.keys = r.keys := by
  obtain ⟨e, he⟩ : ∃ e, e = resetHostEvents r := ⟨_, rfl⟩
  have hrest : e = { r with ev := e.ev, msix := e.msix } := by rw [he]; rfl
  have hgdis : e.ev.gdisHost = true := by rw [he]; rfl
  have hen : e.msix.enable = false := by rw [he]; rfl
  have hk := sampleAll_kept e
  have hs := sampleAll_same e
  have hport := hk.port
  simp only [State.port, Prod.mk.injEq] at hport
  obtain ⟨-, hd3, hcfg, henable, hg⟩ := hport
  rw [← he]
  refine ⟨hk.vault.trans ?_, hk.epoch.trans ?_, fun h => hk.orders ?_, fun h => hk.qps ?_, fun h => hk.noSessions ?_,
    fun c f h => hk.frames c f ?_, hcfg.trans ?_, hd3.trans ?_, hg.trans hgdis, henable.trans hen,
    (hs.get State.hl fun _ => rfl).trans ?_, (hs.get State.mb fun _ => rfl).trans ?_,
    (hs.get State.time fun _ => rfl).trans ?_, (hs.get State.loaned fun _ => rfl).trans ?_,
    (hs.get State.keys fun _ => rfl).trans ?_⟩
  · rw [hrest]
  · rw [hrest]
  · rw [hrest]; exact h
  · rw [hrest]; exact h
  · rw [hrest]; exact h
  · rw [hrest]; exact h
  all_goals rw [hrest]

/-- In DORMANT only domain 0 is on. -/
theorem notMem_allOff (d : Fin 64) : d ∉ (List.finRange 64).filter (fun d => d.val != 0) ↔ d = 0 := by
  rw [List.mem_filter, and_iff_right (List.mem_finRange d), bne_iff_ne, not_not, Fin.ext_iff]
  rfl

/-- Settles O51. -/
theorem linkAndSleep : Obligations.LinkAndSleep := by
  intro s
  refine ⟨dormantBar_sessions, dormantBar_orders, dormantBar_last, dormantBar_welt,
    fun h => ⟨?_, exec_pwCtlReqWrite_open h, fun r => exec_pwCtlReqWrite_barred h, exec_pwCtlReqWrite_undefined h, ?_,
      fun hk => ?_, exec_d3hotEntry h⟩,
    fun d ha hi hw hd => ⟨_, exec_domainPowerOff ha hi hw hd, rfl, rfl, rfl⟩, fun d => exec_domainPowerOff_stays,
    fun ha hr => ⟨fun r x => exec_dormantEntry_barred ha hr x, exec_dormantEntry_trigger ha hr,
      exec_dormantEntry_working ha hr, fun hb hw => ?_⟩,
    fun k hd ht => ?_, fun k c hd ht => dormantExit_tripped k hd ht, fun k w => exec_dormantExit_awake k w,
    fun k => ⟨exec_dormantExit_noWake k, exec_dormantExit_wake k⟩,
    fun ha => ⟨exec_l1Entry ha, exec_d0Return ha, exec_pmeStatusClear ha, exec_pmeResend ha, fun cfg => ?_⟩⟩
  · exact exec_pwCtlReqWrite h 0
  · exact exec_holdWarmWrite h false
  · rw [exec_holdWarmWrite h, holdWarm_on hk]
    exact ⟨_, rfl, rfl, rfl, fun d hd => List.mem_of_mem_filter hd, fun i hi => coldDomains_cipher hi⟩
  · have hkeys := fallingAsleep_keys s
    have hvault := (fallingAsleep_rooted s).vault
    have hexec := exec_dormantEntry_sleeps ha hr hb hw
    generalize fallingAsleep s = t at hkeys hvault hexec
    refine ⟨_, hexec, rfl, rfl, rfl, rfl, (congrArg Keys.bootNonce hkeys :), rfl, rfl, rfl, rfl, hvault,
      notMem_allOff⟩
  · obtain ⟨t, ht', hr⟩ := dormantExit_untripped k hd ht
    have hport := hr.port
    simp only [State.port, Prod.mk.injEq] at hport
    exact ⟨t, ht', steady_st hr.steady, congrArg Power.req hr.steady, hport.1, hr.vault,
      hr.wake (show PowerSt.active ≠ .dormant by decide)⟩
  · obtain ⟨hv, he, hg, ho, hq, hs, hf⟩ := linkCleared_mild cfg s
    have hk := rekeyed_kept (linkCleared cfg s)
    have hrest := rekeyed_rest (linkCleared cfg s)
    obtain ⟨tv, te, tord, tq, ts, tf, tcfg, td, tg, ten, thl, tmb, tt, tl, tk⟩ :=
      resetHostEvents_after (rekeyed (linkCleared cfg s))
    have hfld {α : Type} (f : State → α) (h : ∀ u : State, f { u with
        keys := (linkCleared cfg s).keys, drbg := (linkCleared cfg s).drbg, freeCtr := (linkCleared cfg s).freeCtr } = f u) :
        f (rekeyed (linkCleared cfg s)) = f (linkCleared cfg s) := (h _).symm.trans (congrArg f hrest)
    refine ⟨_, exec_hostLinkReset cfg ha, tcfg.trans ?_, tord (hk.orders ho), tq (hk.qps hq), ts (hk.noSessions hs),
      tl.trans ?_, td.trans ?_, thl.trans ?_, (congrArg Mailbox.busy tmb).trans ?_, (congrArg TimeBase.tokens tt).trans ?_,
      tg, ten, fun c f hc => tf c f (hk.frames c f (hf c f hc)), fun hgu => (congrArg Keys.bootNonce tk).trans ?_,
      tv.trans (hk.vault.trans hv), te.trans (hk.epoch.trans he)⟩
    · exact hfld (fun u => u.link.cfg) fun _ => rfl
    · exact hfld State.loaned fun _ => rfl
    · exact hfld (fun u => u.link.d3hot) fun _ => rfl
    · exact hfld State.hl fun _ => rfl
    · exact hfld (fun u => u.mb.busy) fun _ => rfl
    · exact hfld (fun u => u.time.tokens) fun _ => rfl
    · exact rekeyed_guard (hg.trans hgu)

end Sys2Proof.Machine
end


section
/-! The card events: what identification, a transfer fault, a tuning and a step of a request come to (15). -/

namespace Sys2Proof.Machine

/-! ### What one part of the state keeps through work that ends -/

/-- The part `f` of the state is as before. -/
def Keeps {α : Type} (f : State → α) (s t : State) : Prop := f t = f s

section
variable {α : Type} {f : State → α} {s t u : State}

theorem Keeps.refl (s : State) : Keeps f s s := rfl

/-- The later step first. -/
theorem Keeps.after (k : Keeps f t u) (h : Keeps f s t) : Keeps f s u := Eq.trans k h

theorem Keeps.ite {p : Prop} [Decidable p] (ht : Keeps f s t) (hu : Keeps f s u) : Keeps f s (if p then t else u) := by
  split
  · exact ht
  · exact hu

theorem Keeps.foldl {β : Type} {g : State → β → State} (h : ∀ s x, Keeps f s (g s x)) (l : List β) (s : State) :
    Keeps f s (l.foldl g s) := by
  induction l generalizing s with
  | nil => exact .refl s
  | cons x l ih => exact (ih _).after (h s x)

end

/-- The card channels. -/
def channels (s : State) : Vector CardCh 4 := s.cards.ch

theorem SameButEvents.channels {s t : State} (h : SameButEvents s t) : Keeps channels s t :=
  h.get Machine.channels fun _ => rfl

section
variable (s : State)

theorem writeCq_channels (q : Qp) (tag : BitVec 64) (st : Status) (epoch result bytes : Nat) :
    Keeps channels s (writeCq q tag st epoch result bytes s) := by
  unfold writeCq
  exact .ite (.refl s) (.ite rfl ((raiseSample_same _ _).channels.after rfl))

theorem payHalt_channels (n : BitVec 8) : Keeps channels s (payHalt n s) := by
  unfold payHalt
  split
  · split
    · exact .ite (writeCq_channels s _ _ _ _ _ _) (.refl s)
    · exact .refl s
  · exact .refl s

theorem closeQp_channels (n : BitVec 8) : Keeps channels s (closeQp n s) := by
  unfold closeQp
  split
  · exact .ite ((sample_same _ _).channels.after rfl) (.refl s)
  · exact .refl s

theorem complete_channels (uid : Nat) (st : Status) (epoch : Option Nat) (result bytes : Nat) :
    Keeps channels s (complete uid st epoch result bytes s) := by
  unfold complete
  split
  · exact .refl s
  · dsimp only
    split
    · rfl
    · exact (closeQp_channels _ _).after ((payHalt_channels _ _).after ((writeCq_channels _ _ _ _ _ _ _).after rfl))

theorem schedule_channels (c : Nat) : Keeps channels s (schedule c s) := .ite rfl rfl

theorem freeFrame_channels (c f uid : Nat) : Keeps channels s (freeFrame c f uid s) :=
  .ite ((schedule_channels _ c).after rfl) rfl

theorem tryEnd_channels (c f : Nat) : Keeps channels s (tryEnd c f s) := by
  unfold tryEnd
  split
  · exact .refl s
  · split
    · exact .refl s
    · exact .ite (.refl s) ((complete_channels _ _ _ _ _ _).after (freeFrame_channels s _ _ _))

theorem tryExit_channels (c f : Nat) : Keeps channels s (tryExit c f s) := by
  unfold tryExit
  split
  · exact .refl s
  · split
    · exact .refl s
    · exact .ite (.refl s) ((complete_channels _ _ _ _ _ _).after (freeFrame_channels s _ _ _))

theorem tokDone_channels (c f uid t : Nat) (st : Status) (count v : Nat) :
    Keeps channels s (tokDone c f uid t st count v s) := by
  unfold tokDone
  split
  · exact .refl s
  · refine .ite (.refl s) ?_
    dsimp only
    split
    · exact .ite ((schedule_channels _ _).after rfl) rfl
    · exact (tryEnd_channels _ _ _).after ((tryExit_channels _ _ _).after rfl)

theorem mbFinish_channels (result : Nat) (st : Status) (resp : Bytes) : Keeps channels s (mbFinish result st resp s) :=
  .ite ((raiseSample_same _ _).channels.after rfl) ((sample_same _ _).channels.after rfl)

theorem weltSend_channels (type : Nat) : Keeps channels s (weltSend type s) := .ite rfl (.ite (.ite rfl rfl) rfl)

theorem finish_channels (r : Ref) (st : Status) (count v : Nat) : Keeps channels s (finish r st count v s) := by
  unfold finish
  split
  · exact .refl s
  · exact .refl s
  · exact tokDone_channels s _ _ _ _ _ _ _
  · split
    · exact .refl s
    · exact complete_channels s _ _ _ _ _
  · split
    · exact .refl s
    · exact .ite rfl rfl
  · exact mbFinish_channels s _ _ _
  · exact weltSend_channels s _

theorem cardOutcome_channels (ch : Nat) (r : CardReq) (st : Status) (count v : Nat) :
    Keeps channels s (cardOutcome ch r st count v s) := by
  unfold cardOutcome
  dsimp only
  split
  · exact finish_channels s _ _ _ _
  · exact (finish_channels _ _ _ _ _).after rfl
  · exact .refl s
  · exact .ite (.refl s) rfl
  · exact (raise_same _ _).channels

end

theorem Keeps.card {s t : State} (h : Keeps channels s t) (c : Nat) : t.card c = s.card c :=
  congrArg (fun v => vget v c CardCh.absent) h

/-- Requests that fail leave the channel's own state. -/
theorem failCard_st (ch : Nat) (st : CardReq → Status) (s : State) (hch : ch < 4) :
    ((failCard ch st s).card ch).st = (s.card ch).st := by
  unfold failCard
  have hfold := Keeps.foldl (f := channels)
    (fun s (r : CardReq) => cardOutcome_channels s ch r (st r) (if r.kind == .read then 4096 * r.pos else 0) 0)
  dsimp only
  rw [(hfold _ _).card, card_setCard_same _ _ _ hch]

/-! ### The commands -/

section
variable {ch : Fin 4} {s : State}

/-- A card with a withdrawn timeout, the next answer being taken. -/
theorem card_answered (k : CardCh) : (setCard ch k s).card ch = k := card_setCard_same _ k s ch.isLt

theorem exec_cardResponse (hon : cardsOn s ch = true) (ht : (s.card ch).tune ≠ .running) (r : CardResp) :
    exec (.cardResponse ch r) s = .next (
      let k := s.card ch
      let s := setCard ch.val { k with withdrawn := false } s
      let ident := k.st == .identifying
      match r with
      | .identified i => if ident then identified ch.val i s else s
      | .switchFailed => switchFails ch.val s
      | .stepOk => cardBetween ch.val (cardGood ch.val s)
      | .frame f =>
        if ident then (if frameBad f || f.errorBit then identFault ch.val s else s)
        else cardBetween ch.val (cardFrame ch.val f s)
      | .fault => if ident then identFault ch.val s else cardBetween ch.val (transferFault ch.val s)
      | .tagFail => if k.st == .identified then cardBetween ch.val (checkFailed ch.val s) else s) := by
  have htune : ((s.card ch).tune == .running) = false := beq_eq_false_iff_ne.mpr ht
  change execCardResponse ch r s = _
  unfold execCardResponse
  simp only [hon, htune] <;> rfl

theorem exec_cardTimeout (hon : cardsOn s ch = true) (ht : (s.card ch).tune ≠ .running)
    (hw : (s.card ch).withdrawn = false) (wins : Bool) (w : Option CardWait) :
    exec (.cardTimeout ch wins w) s = .next (
      let k := s.card ch
      if k.st == .identifying then
        if !wins then setCard ch.val { k with withdrawn := true } s
        else if w == none || w == some .ready then rejectCard ch.val s
        else identFault ch.val s
      else if k.st != .identified || !k.inService then s
      else
        match k.queue with
        | r :: _ =>
          if !wins then setHead ch.val { r with closeCall := true } (setCard ch.val { k with withdrawn := true } s)
          else if r.phase == .erase && (w == none || w == some .eraseEnd) then endHead ch.val .faultPermanent 0 s
          else cardBetween ch.val (transferFault ch.val s)
        | [] => s) := by
  have htune : ((s.card ch).tune == .running) = false := beq_eq_false_iff_ne.mpr ht
  change execCardTimeout ch wins s w = _
  unfold execCardTimeout
  simp only [hon, htune, hw] <;> rfl


/-! ### Identification -/

theorem identFault_again (h : (s.card ch).idTries < 3) :
    identFault ch s = setCard ch { s.card ch with idTries := (s.card ch).idTries + 1 } s :=
  if_neg (by omega)

theorem identFault_last (h : 3 ≤ (s.card ch).idTries) : ((identFault ch s).card ch).st = .quarantined := by
  unfold identFault
  dsimp only
  rw [if_pos (by omega), (raise_same _ _).channels.card, failCard_st _ _ _ ch.isLt, card_answered]

theorem identified_rejected {i : CardIdent} (h : i.accepted = false ∨ 3906250000 < i.blocks) :
    identified ch i s = rejectCard ch s := by
  unfold identified
  refine if_pos ?_
  rcases h with h | h <;> simp [h, cardBlocks]

/-- The channel once identification has ended with no request waiting (R324 to R328). -/
def CardCh.after (k : CardCh) (i : CardIdent) (t : TimeBase) (dieC : Int) : CardCh :=
  { k.rest with
    st := .identified, media := i.media, m := i.blocks / 8
    mode := tunedIdent (identMode i k.cap k.s18off).1 i.tuneRun, lv := (identMode i k.cap k.s18off).2
    width := identWidth i k.narrow
    locked := i.locked && !(i.unlocked && decide (i.locked = true ∧ k.vol.state = 3))
    csdWp := i.csdWp, class7 := i.class7, headerOk := i.headerOk
    phaseAt := tunedPhase i.tuneFirst.val i.tuneRun, tunedAt := t.t / second, tunedC := dieC, queue := [] }


/-- What is found of the journal changes the disk and the journal only (R341). -/
theorem recoverCard_keeps (b : Bool) (k : CardCh) : ∃ d j, recoverCard b k = { k with disk := d, journal := j } := by
  unfold recoverCard
  split
  · exact ⟨_, _, rfl⟩
  · split
    · exact ⟨_, _, rfl⟩
    · split
      · exact ⟨_, _, rfl⟩
      · exact ⟨_, _, rfl⟩

theorem identified_served {i : CardIdent} (ha : i.accepted = true) (hb : i.blocks ≤ 3906250000)
    (hq : (s.card ch).queue = []) (h3 : ch ≠ 3) :
    ∃ d j, identified ch i s = retryAppends ch (raise (257 + ch) (setCard ch
      { (s.card ch).after i s.time s.cards.dieC with disk := d, journal := j }
      (if i.locked = true ∧ (s.card ch).vol.state = 3 then
        { s with tx := s.tx ++ [.cmd42 ch .unlock (volPassword s ch (s.card ch).vol)] } else s))) := by
  have hch : (ch : Nat) ≠ 3 := fun h => h3 (Fin.ext h)
  have hne : ((ch : Nat) != 3) = true := by simp [hch]
  have hcond : (!i.accepted || decide (cardBlocks < i.blocks)) = false := by
    simp only [ha, Bool.not_true, Bool.false_or]
    exact decide_eq_false (Nat.not_lt.mpr hb)
  have hunlock : (i.locked && (s.card ch).vol.state == 3) = decide (i.locked = true ∧ (s.card ch).vol.state = 3) :=
    Bool.eq_iff_iff.mpr (by simp)
  unfold identified
  simp only [hcond, hne, hq, Bool.and_true, if_neg hch, hunlock, decide_eq_true_eq, List.filter_nil]
  let k := (s.card ch).after i s.time s.cards.dieC
  obtain ⟨d, j, hr⟩ : ∃ d j, (if i.headerOk = true then recoverCard i.journalOk k else k) =
      { k with disk := d, journal := j } := by
    split
    · exact recoverCard_keeps _ _
    · exact ⟨_, _, rfl⟩
  refine ⟨d, j, (if_neg Bool.false_ne_true).trans ?_⟩
  change retryAppends ch (raise (257 + ch) (setCard ch (if i.headerOk = true then recoverCard i.journalOk k else k)
    (if i.locked = true ∧ (s.card ch).vol.state = 3 then { s with tx := s.tx ++ [.cmd42 ch .unlock
      (volPassword s ch (if i.headerOk = true then recoverCard i.journalOk k else k).vol)] } else s))) = _
  rw [hr]
  rfl

/-! ### Access modes and signalling (R325 to R328) -/

theorem tunedIdent_eq (m run : Nat) : tunedIdent m run = if (m = 3 ∨ m = 4) ∧ run < 6 then 2 else m := by
  unfold tunedIdent tunedMode
  simp only [decide_eq_true_eq]

theorem identMode_mmc {i : CardIdent} (h : i.media = .mmc) (cap : Nat) (off : Bool) :
    identMode i cap off = (max 5 (min i.fastest.val cap), false) := by
  unfold identMode
  rw [h]

theorem identMode_sd {i : CardIdent} (h : i.media = .sd) (cap : Nat) (off : Bool) :
    identMode i cap off = if i.lv && !off && decide (2 ≤ cap) then (max 2 (min (min i.fastest.val 4) cap), true)
      else (min 1 (min (min i.fastest.val 4) cap), false) := by
  unfold identMode
  rw [h]

theorem tunedIdent_le (m run : Nat) : tunedIdent m run ≤ m := by
  rw [tunedIdent_eq]
  split
  · omega
  · exact Nat.le_refl m

theorem identMode_le (i : CardIdent) (cap : Nat) (off : Bool) (h : i.media = .sd ∨ 5 ≤ cap) :
    (identMode i cap off).1 ≤ cap := by
  cases hm : i.media with
  | mmc =>
    have hcap : 5 ≤ cap := h.resolve_left (by simp [hm])
    rw [identMode_mmc hm]
    exact Nat.max_le.mpr ⟨hcap, Nat.min_le_right _ _⟩
  | sd =>
    rw [identMode_sd hm]
    split
    · simp_all
    · exact (Nat.min_le_right _ _).trans (Nat.min_le_right _ _)

theorem tuned_mmc (i : CardIdent) (cap run : Nat) (off : Bool) (h : i.media = .mmc) :
    (identMode i cap off).2 = false ∧ 5 ≤ tunedIdent (identMode i cap off).1 run := by
  rw [identMode_mmc h, tunedIdent_eq]
  refine ⟨rfl, ?_⟩
  dsimp only
  split <;> omega

theorem tuned_sd (i : CardIdent) (cap run : Nat) (off : Bool) (h : i.media = .sd) :
    (identMode i cap off).2 = true ↔ 2 ≤ tunedIdent (identMode i cap off).1 run := by
  rw [identMode_sd h, tunedIdent_eq]
  split
  · dsimp only
    refine iff_of_true rfl ?_
    split <;> omega
  · dsimp only
    refine iff_of_false (by decide) ?_
    split <;> omega

theorem identMode_s18off (i : CardIdent) (cap : Nat) : (identMode i cap true).2 = false := by
  unfold identMode
  split <;> simp

theorem tunedIdent_untuned {m run : Nat} (h : run < 6) : tunedIdent m run ≠ 3 ∧ tunedIdent m run ≠ 4 := by
  unfold tunedIdent tunedMode
  split <;> simp_all

/-! ### The step of a request in service -/

section
variable {k : CardCh} {r : CardReq} {rest : List CardReq}

theorem inService_head (hq : k.queue = r :: rest) (h1 : r.phase ≠ .queued) (h2 : r.phase ≠ .press) :
    k.inService = true := by
  unfold CardCh.inService
  rw [hq]
  simp [h1, h2]

end

theorem cardFrame_bad (f : CardFrame) (hf : f.crc7 = false ∨ false ∈ f.crc16 ∨ f.token = some false) :
    cardFrame ch f s = transferFault ch (setCard ch (s.card ch).due s) := by
  refine if_pos ?_
  unfold frameBad
  rcases hf with hf | hf | hf <;> simp [hf]

section
variable {r : CardReq} {rest : List CardReq} (hst : (s.card ch).st = .identified) (hq : (s.card ch).queue = r :: rest)
  (h1 : r.phase ≠ .queued) (h2 : r.phase ≠ .press)
include hst hq h1 h2

theorem cardGood_serves (hlow : (s.card ch).lowest = false) : cardGood ch s = goodStep ch r s := by
  unfold cardGood
  simp [hst, hq, h1, h2, hlow]

theorem cardFrame_ok (f : CardFrame) (hc : f.crc7 = true) (h16 : false ∉ f.crc16) (ht : f.token ≠ some false) :
    cardFrame ch f s = if f.errorBit then transferFault ch s
      else if (s.card ch).blk + 1 < (if r.phase = .erase then 1 else 8) then
        setCard ch { s.card ch with blk := (s.card ch).blk + 1 } s
      else cardGood ch (setCard ch { s.card ch with blk := 0 } s) := by
  have hbad : frameBad f = false := by
    unfold frameBad
    simpa [hc, ht] using fun h => h16 h
  unfold cardFrame
  simp [hbad, hst, hq, inService_head hq h1 h2]

theorem transferFault_steps (hok : s.chanOk (48 + ch) = true) (hlow : (s.card ch).lowest = false) :
    transferFault ch s = (
      if 4 ≤ r.tries + 1 then quarantine ch r s
      else if (ch : Nat) = 3 ∧ s.cards.tab = true then endHead ch .mediaWriteProtected 0 s
      else
        let s := setHead ch { r with tries := r.tries + 1, retried := true } s
        if r.tries + 1 = 3 then stepDown ch s else if r.tries + 1 = 2 then setCard ch (s.card ch).due s else s) := by
  unfold transferFault
  simp [hst, hq, h1, h2, hlow, hok]

end

theorem checkFailed_read {r : CardReq} {rest : List CardReq} (hq : (s.card ch).queue = r :: rest)
    (hp : r.phase = .read) :
    checkFailed ch s =
      endHead ch .mediaTagFail (4096 * r.count) (writeOut r.ref r.dst (zeros (4096 * r.count)) s) := by
  unfold checkFailed
  simp [hq, hp]

theorem checkFailed_path {r : CardReq} {rest : List CardReq} (hq : (s.card ch).queue = r :: rest)
    (hp : r.phase = .path) :
    checkFailed ch s = endHead ch .mediaTagFail 0 s := by
  unfold checkFailed
  simp [hq, hp]

/-! ### Steps that end well -/

theorem goodStep_read {r : CardReq} (hk : r.kind = .read) (hp : r.phase = .read) :
    goodStep ch r s =
      if (ownSealing s).deviceCores = false then endHead ch .noHealthyChannel (4096 * r.pos) (ownSealing s)
      else readStep ch { r with tries := 0 } (ownSealing s) := by
  unfold goodStep CardReq.keyed
  cases hcores : (ownSealing s).deviceCores <;> simp [hk, hp, hcores]

theorem goodStep_header {r : CardReq} (hcores : s.deviceCores = true) (hp : r.phase = .header) :
    goodStep ch r s = cardPress ch { r with tries := 0 } s := by
  unfold goodStep
  simp [hp, hcores]

theorem cardPress_write {r : CardReq} (hk : r.kind = .write) :
    let s1 := putJournal ch r.first r.data (setHead ch { r with phase := .press } s)
    cardPress ch r s = freeBehind r.ref (enqueueAhead { Press.of [.volWrite ch r.first r.data] r.ref with
      behind := s1.writesBefore r, retried := r.retried, closeCall := r.closeCall } s1) := by
  unfold cardPress
  simp only [hk]

/-! ### Tuning (R328) -/

theorem exec_cardTuning (hon : cardsOn s ch = true) (hst : (s.card ch).st = .identified) (n : Nat) (first : Fin 32) :
    exec (.cardTuning ch n first) s = .next (
      if tunedMode (s.card ch).mode = false then s
      else if (s.card ch).tune = .running ∨ (s.card ch).inService = false then tuned ch n first s
      else setCard ch (s.card ch).due s) := by
  change execCardTuning ch n s first = _
  unfold execCardTuning
  simp [hon, hst]

/-! ### The clauses -/

/-- The answer in the state in which the awaited arrival has come. -/
def cardHears (ch : Fin 4) (s : State) : State := setCard ch { s.card ch with withdrawn := false } s

theorem cardHears_card : (cardHears ch s).card ch = { s.card ch with withdrawn := false } := card_answered _

theorem cardsOn_chanOk (h : cardsOn s ch = true) : s.chanOk (48 + ch) = true := by
  simp only [cardsOn, Bool.and_eq_true] at h
  exact h.2

theorem cardsOn_silent (r : CardResp) (h : cardsOn s ch = false ∨ (s.card ch).tune = .running) :
    exec (.cardResponse ch r) s = .next s := by
  refine congrArg Host.Outcome.next (if_pos ?_)
  rcases h with h | h <;> simp [h]

theorem withdrawn_silent (wins : Bool) (w : Option CardWait) (h : (s.card ch).withdrawn = true) :
    exec (.cardTimeout ch wins w) s = .next s :=
  congrArg Host.Outcome.next (if_pos (by simp [h]))

theorem exec_cardPresent (hs : s.sampling = true) (hp : (s.card ch).present = false) :
    exec (.cardPresent ch) s = .next (raiseSample (261 + ch)
      (setCard ch { s.card ch with present := true, st := if cardsOn s ch then .identifying else .none }
        (if cardsOn s ch then wakeDomainN (9 + ch) s else s))) := by
  refine congrArg Host.Outcome.next (if_neg ?_)
  simp [hs, hp]

theorem cardPresent_silent (h : s.sampling = false ∨ (s.card ch).present = true) :
    exec (.cardPresent ch) s = .next s := by
  refine congrArg Host.Outcome.next (if_pos ?_)
  rcases h with h | h <;> simp [h]

theorem exec_cardRemoved (busy : Bool) (hs : s.sampling = true) (hp : (s.card ch).present = true) :
    exec (.cardRemoved ch busy) s = .next (raise (257 + ch) (raiseSample (261 + ch) (failCard ch
      (fun r => if busy && (r.phase == .payload || r.phase == .header) then .writeUnknown else .mediaGone)
      (setCard ch { (s.card ch).rest with
        present := false, st := .none, locked := false, lv := false, mode := 0, cap := 7, width := 4
        narrow := false } s)))) := by
  refine congrArg Host.Outcome.next (if_neg ?_)
  simp [hs, hp]

theorem cardRemoved_silent (busy : Bool) (h : s.sampling = false ∨ (s.card ch).present = false) :
    exec (.cardRemoved ch busy) s = .next s := by
  refine congrArg Host.Outcome.next (if_pos ?_)
  rcases h with h | h <;> simp [h]

theorem stepOk_response (hon : cardsOn s ch = true) (ht : (s.card ch).tune ≠ .running) :
    exec (.cardResponse ch .stepOk) s = .next (cardBetween ch (cardGood ch (cardHears ch s))) :=
  exec_cardResponse hon ht _

section
variable (hon : cardsOn s ch = true) (ht : (s.card ch).tune ≠ .running) (hst : (s.card ch).st = .identifying)
include hon ht hst

theorem switchFailed_identifying : exec (.cardResponse ch .switchFailed) s =
    .next (setCard ch { s.card ch with withdrawn := false, s18off := true } (cardHears ch s)) := by
  rw [exec_cardResponse hon ht]
  refine congrArg Host.Outcome.next ?_
  change switchFails ch (cardHears ch s) = _
  unfold switchFails
  rw [cardHears_card]
  exact if_pos (by simp [hst])

theorem fault_identifying : exec (.cardResponse ch .fault) s = .next (identFault ch (cardHears ch s)) := by
  rw [exec_cardResponse hon ht]
  exact congrArg Host.Outcome.next (if_pos (by simp [hst]))

theorem identified_identifying (i : CardIdent) :
    exec (.cardResponse ch (.identified i)) s = .next (identified ch i (cardHears ch s)) := by
  rw [exec_cardResponse hon ht]
  exact congrArg Host.Outcome.next (if_pos (by simp [hst]))

theorem timeout_identifying (hw : (s.card ch).withdrawn = false) (wins : Bool) (w : Option CardWait) :
    exec (.cardTimeout ch wins w) s = .next (
      if wins = false then setCard ch { s.card ch with withdrawn := true } s
      else if w = none ∨ w = some .ready then rejectCard ch s
      else identFault ch s) := by
  rw [exec_cardTimeout hon ht hw]
  cases wins <;> simp [hst]

end

section
variable {r : CardReq} {rest : List CardReq} (hon : cardsOn s ch = true) (ht : (s.card ch).tune ≠ .running)
  (hst : (s.card ch).st = .identified)
include hon ht hst

theorem fault_identified :
    exec (.cardResponse ch .fault) s = .next (cardBetween ch (transferFault ch (cardHears ch s))) := by
  rw [exec_cardResponse hon ht]
  exact congrArg Host.Outcome.next (if_neg (by simp [hst]))

theorem frame_identified (f : CardFrame) :
    exec (.cardResponse ch (.frame f)) s = .next (cardBetween ch (cardFrame ch f (cardHears ch s))) := by
  rw [exec_cardResponse hon ht]
  exact congrArg Host.Outcome.next (if_neg (by simp [hst]))

theorem tagFail_identified :
    exec (.cardResponse ch .tagFail) s = .next (cardBetween ch (checkFailed ch (cardHears ch s))) := by
  rw [exec_cardResponse hon ht]
  exact congrArg Host.Outcome.next (if_pos (by simp [hst]))

theorem timeout_identified (hq : (s.card ch).queue = r :: rest) (h1 : r.phase ≠ .queued) (h2 : r.phase ≠ .press)
    (hw : (s.card ch).withdrawn = false) (wins : Bool) (w : Option CardWait) :
    exec (.cardTimeout ch wins w) s = .next (
      if wins = false then setHead ch { r with closeCall := true } (setCard ch { s.card ch with withdrawn := true } s)
      else if r.phase = .erase ∧ (w = none ∨ w = some .eraseEnd) then endHead ch .faultPermanent 0 s
      else cardBetween ch (transferFault ch s)) := by
  rw [exec_cardTimeout hon ht hw]
  cases wins <;> simp [hst, hq, inService_head hq h1 h2]

end

end

/-- Settles O52, command by command: in each state of the card the answer, the timeout and the tuning come to one
function of the channel, and the functions' own branches are their specifications. -/
theorem cardEvents : Obligations.CardEvents := by
  unfold Obligations.CardEvents
  intro s ch k s0
  have hs0 : s0.card ch = { k with withdrawn := false } := cardHears_card
  refine ⟨exec_cardPresent, cardPresent_silent, fun busy => exec_cardRemoved busy, fun busy => cardRemoved_silent busy,
    fun b hs => congrArg Host.Outcome.next (if_pos hs), fun r => cardsOn_silent r, ?_,
    fun wins w => withdrawn_silent wins w, ?_, ?_⟩
  case refine_1 =>
    intro hon ht hst
    refine ⟨switchFailed_identifying hon ht hst, fun h => ?_, fun h => ⟨_, fault_identifying hon ht hst, ?_⟩,
      fun hw => ⟨fun w hw' => ?_, fun w hw' => ?_, fun w => ?_⟩, fun i => ⟨fun h => ?_, fun ha hb hq h3 => ?_⟩⟩
    · rw [fault_identifying hon ht hst, identFault_again (by rw [cardHears_card]; exact h), cardHears_card]
      rfl
    · exact identFault_last (by rw [cardHears_card]; exact h)
    · rw [timeout_identifying hon ht hst hw, if_neg (by decide), if_pos (by simpa using hw')]
    · have hnot : ¬(some w = none ∨ some w = some CardWait.ready) := by
        rintro (h | h)
        · exact nomatch h
        · rw [Option.some.inj h] at hw'
          exact absurd hw' (by decide)
      rw [timeout_identifying hon ht hst hw, if_neg (by decide), if_neg hnot]
    · rw [timeout_identifying hon ht hst hw, if_pos rfl]
    · rw [identified_identifying hon ht hst, identified_rejected h]
      rfl
    · have hq0 : (s0.card ch).queue = [] := by rw [hs0]; exact hq
      obtain ⟨d, j, hid⟩ := identified_served (s := s0) ha hb hq0 h3
      rw [hs0] at hid
      refine ⟨_, (identified_identifying hon ht hst i).trans (congrArg Host.Outcome.next hid), rfl, rfl, rfl, rfl, rfl,
        rfl, rfl, rfl, rfl, ?_, fun h => ?_, fun h => ?_, fun h => ?_, fun h => ?_, tunedIdent_untuned, rfl⟩
      · change (i.locked && !(i.unlocked && decide (i.locked = true ∧ k.vol.state = 3))) = _
        cases i.locked <;> simp [beq_eq_decide]
      · exact (tunedIdent_le _ _).trans (identMode_le i _ _ h)
      · exact tuned_mmc i _ _ _ h
      · exact tuned_sd i _ _ _ h
      · change (identMode i k.cap k.s18off).2 = false
        rw [h]
        exact identMode_s18off i _
  case refine_2 =>
    intro hon ht hst r rest hq
    have hst0 : (s0.card ch).st = .identified := by rw [hs0]; exact hst
    have hq0 : (s0.card ch).queue = r :: rest := by rw [hs0]; exact hq
    refine ⟨fun hlow h1 h2 => ?_, fun hp => ?_, fun hp => ?_, fun h1 h2 => ⟨?_, fun f hf => ?_, fun f hc h16 htok => ?_,
      fun hw => ?_, ?_⟩, ?_, ?_⟩
    · have hlow0 : (s0.card ch).lowest = false := by rw [hs0]; exact hlow
      exact (stepOk_response hon ht).trans (congrArg (fun t => Host.Outcome.next (cardBetween ch t))
        (cardGood_serves hst0 hq0 h1 h2 hlow0))
    · exact (tagFail_identified hon ht hst).trans (congrArg (fun t => Host.Outcome.next (cardBetween ch t))
        (checkFailed_read hq0 hp))
    · exact (tagFail_identified hon ht hst).trans (congrArg (fun t => Host.Outcome.next (cardBetween ch t))
        (checkFailed_path hq0 hp))
    · exact fault_identified hon ht hst
    · rw [frame_identified hon ht hst, cardFrame_bad f hf]
      rfl
    · have hblk : (s0.card ch).blk = k.blk := by rw [hs0]
      have hframe := (frame_identified hon ht hst f).trans (congrArg (fun t => Host.Outcome.next (cardBetween ch t))
        (cardFrame_ok hst0 hq0 h1 h2 f hc h16 htok))
      rw [hframe, hblk]
      refine ⟨fun he => ?_, fun he hp hb => ?_, fun he hp hb => ?_⟩
      · rw [if_pos he]
      · rw [if_neg (by simp [he]), if_pos (by rw [if_neg hp]; omega)]
      · rw [if_neg (by simp [he]), if_neg (by rw [if_neg hp]; omega)]
    · refine ⟨fun w hw' => ?_, fun w hw' hp => ?_, fun w => ?_⟩
      · rw [timeout_identified hon ht hst hq h1 h2 hw, if_neg (by decide), if_neg ?_]
        rintro ⟨hp, rfl | rfl⟩ <;> simp_all
      · rw [timeout_identified hon ht hst hq h1 h2 hw, if_neg (by decide), if_pos ⟨hp, by simpa using hw'⟩]
      · rw [timeout_identified hon ht hst hq h1 h2 hw, if_pos rfl]
    · intro hlow retry
      rw [transferFault_steps hst hq h1 h2 (cardsOn_chanOk hon) hlow]
      refine ⟨fun h => if_pos (Nat.succ_le_succ h), fun h h3 htab => ?_, fun hctl => ?_⟩
      · rw [if_neg (by omega), if_pos ⟨congrArg Fin.val h3, htab⟩]
      · have hnot : ¬((ch : Nat) = 3 ∧ s.cards.tab = true) := by
          rintro ⟨h3, htab⟩
          rcases hctl with hne | hclear
          · exact hne (Fin.ext h3)
          · exact Bool.noConfusion (htab.symm.trans hclear)
        rw [if_neg hnot]
        refine ⟨fun h => ?_, fun h => ?_, fun h => ?_⟩
        · rw [if_neg (by omega)]
          dsimp only
          rw [if_neg (by omega), if_neg (by omega)]
        · rw [if_neg (by omega)]
          dsimp only
          rw [if_neg (by omega), if_pos (by omega)]
        · rw [if_neg (by omega)]
          dsimp only
          rw [if_pos (by omega)]
    · intro hk hp s2 w s3
      rw [goodStep_read hk hp]
      refine ⟨fun hc => if_pos hc, fun hc => ?_⟩
      rw [if_neg (by rw [hc]; decide)]
      refine ⟨fun h => ?_, fun h hs => ?_, fun h hs => ?_⟩
      · exact if_pos h
      · exact (if_neg (Nat.not_le.mpr h)).trans (if_pos hs)
      · exact (if_neg (Nat.not_le.mpr h)).trans (if_neg (by simp [hs]))
    · intro hc hp hk s1
      exact ⟨_, rfl, rfl, rfl, rfl, rfl,
        (goodStep_header hc hp).trans (cardPress_write (r := { r with tries := 0 }) hk)⟩
  case refine_3 =>
    intro n first hon hst
    rw [exec_cardTuning hon hst]
    refine ⟨fun h3 h4 => ?_, fun h => ⟨fun ht hin => ?_, fun hrun => ?_⟩⟩
    · have hmode : tunedMode (s.card ch).mode = false := by
        unfold tunedMode
        exact decide_eq_false (by rintro (h | h) <;> contradiction)
      rw [if_pos hmode]
    · have hmode : tunedMode (s.card ch).mode = true := by simpa [tunedMode] using h
      have hwaits : ¬((s.card ch).tune = .running ∨ (s.card ch).inService = false) := by
        rintro (hr | hn)
        · exact ht hr
        · exact Bool.noConfusion (hin.symm.trans hn)
      rw [if_neg (by simp [hmode]), if_neg hwaits]
    · have hmode : tunedMode (s.card ch).mode = true := by simpa [tunedMode] using h
      rw [if_neg (by simp [hmode]), if_pos hrun]
      exact ⟨fun hn => congrArg Host.Outcome.next (if_pos hn),
        fun hn => congrArg Host.Outcome.next (if_neg (Nat.not_lt.mpr hn))⟩

end Sys2Proof.Machine
end


section
/-! CALL, RUN, SECTOR and SEAL: what hands an order's work to its block (05, 06, 09, 13, 15). -/

namespace Sys2Proof.Machine

/-! ### An order that completes is gone -/

section
variable (s : State)

theorem SameButEvents.orders {s t : State} (h : SameButEvents s t) : Keeps State.orders s t :=
  h.get State.orders fun _ => rfl

theorem writeCq_orders (q : Qp) (tag : BitVec 64) (st : Status) (epoch result bytes : Nat) :
    Keeps State.orders s (writeCq q tag st epoch result bytes s) := by
  unfold writeCq
  exact .ite (.refl s) (.ite rfl ((raiseSample_same _ _).orders.after rfl))

theorem payHalt_orders (n : BitVec 8) : Keeps State.orders s (payHalt n s) := by
  unfold payHalt
  split
  · split
    · exact .ite (writeCq_orders s _ _ _ _ _ _) (.refl s)
    · exact .refl s
  · exact .refl s

theorem closeQp_orders (n : BitVec 8) : Keeps State.orders s (closeQp n s) := by
  unfold closeQp
  split
  · exact .ite ((sample_same _ _).orders.after rfl) (.refl s)
  · exact .refl s

theorem healthLog_orders (event subject detail : Nat) : Keeps State.orders s (healthLog event subject detail s) :=
  ((raiseSample_same _ _).orders.after rfl :)

end

theorem order?_congr {s t : State} (h : Keeps State.orders s t) (uid : Nat) : t.order? uid = s.order? uid := by
  unfold State.order?
  rw [h]

theorem order?_dropOrder (uid : Nat) (s : State) : (dropOrder uid s).order? uid = none := by
  refine List.find?_eq_none.2 fun o ho hu => ?_
  have hne := (List.mem_filter.1 ho).2
  simp_all

theorem complete_gone (uid : Nat) (st : Status) (epoch : Option Nat) (result bytes : Nat) (s : State) :
    (complete uid st epoch result bytes s).order? uid = none := by
  unfold complete
  split
  · assumption
  · dsimp only
    split
    · exact order?_dropOrder uid s
    · refine (order?_congr ?_ uid).trans (order?_dropOrder uid s)
      exact (closeQp_orders _ _).after ((payHalt_orders _ _).after (writeCq_orders (dropOrder uid s) _ _ _ _ _ _))

/-! ### The order that is served -/

theorem pickHeld_mem {o : Order} : ∀ {earlier l : List Order}, pickHeld earlier l = some o → o ∈ l
  | _, [], h => nomatch h
  | earlier, x :: l, h => by
    have later {e : List Order} (h : pickHeld e l = some o) : o ∈ x :: l := List.mem_cons_of_mem x (pickHeld_mem h)
    have this (h : some x = some o) : o ∈ x :: l := Option.some.inj h ▸ List.mem_cons_self
    unfold pickHeld at h
    split at h
    · exact later h
    · split at h
      · split at h
        · cases h
        · exact later h
      · split at h
        · split at h
          · exact this h
          · cases h
        · split at h
          · exact later h
          · exact this h

section
variable {s s0 : State} {n : BitVec 8} {o : Order} (h : Admissible s0 n o s)
include h

theorem admissible_mem : o ∈ s.orders := by
  obtain ⟨-, -, -, hc, -⟩ := h
  obtain ⟨hcand, t, rfl⟩ := chosen_some s0 n hc
  exact (List.mem_filter.1 (pickHeld_mem hcand)).1

/-- Only an ADMIN order is served in GUARD (R94). -/
theorem admissible_unguarded (hk : o.kind = .call) : s.rind.guard = false := by
  obtain ⟨-, -, -, -, hst⟩ := h
  have hadmin : o.admin [0x20] = false := by simp [Order.admin, hk]
  by_contra hg
  have hguard : s.rind.guard = true := by simpa using hg
  by_cases hcores : s.anyOk 40 8 = true
  · rw [admitCheck_guard s hguard hadmin (.inr hcores)] at hst
    cases hst
  · rw [admitCheck_cores s (.inl hk) (by simpa using hcores)] at hst
    cases hst

end

/-! ### CALL and RUN -/

section
variable {s s0 : State} {n : BitVec 8} {o : Order}

theorem exec_call (h : Admissible s0 n o s) (hk : o.kind = .call) (c : Fin 8) :
    exec (.call n c none) s0 = .next (callOn c o s) :=
  congrArg Host.Outcome.next (serve_admissible _ h (beq_iff_eq.2 hk))

theorem exec_call_fault (h : Admissible s0 n o s) (hk : o.kind = .call) (c : Fin 8) (x : DevFault) :
    exec (.call n c (some x)) s0 = .next (
      let t := deviceFault x o s
      if t.rind.guard || t.orders.all (fun y => y.uid != o.uid) then t else callOn c o t) :=
  congrArg Host.Outcome.next (serve_admissible _ h (beq_iff_eq.2 hk))

theorem exec_run (h : Admissible s0 n o s) (hk : o.kind = .run) (c : Fin 8) :
    exec (.run n c) s0 = .next (runOn c o s) :=
  congrArg Host.Outcome.next (serve_admissible _ h (beq_iff_eq.2 hk))

/-- The frame of an order starts with its first argument in g1 and all else empty (06 R109). -/
theorem orderFrame_fresh (m : Mode) (g1 : Nat) : (∀ r : BitVec 5, r ≠ 1 → (orderFrame s o m g1).reg r = 0) ∧
    (orderFrame s o m g1).reg 1 = BitVec.ofNat 64 g1 := by
  refine ⟨fun r hr => ?_, Fr.reg_setReg_same _ 1 _ (by decide)⟩
  refine (Fr.reg_setReg_other _ 1 r _ hr).trans ?_
  unfold Fr.reg Fr.fresh
  simp

/-- The frame as it starts: its operation count is its core's. -/
def startedFrame (c : Nat) (o : Order) (fr : Fr) (s : State) : Fr :=
  { fr with op := ((chanOp (40 + c) false (wakeDomainN (14 + c) (admitted o s))).chan (40 + c)).ops }

theorem callImage_none (h : ∀ d < 8, (s.core d).resident.find? (fun r => r.img.id == o.num 24 4) = none) :
    s.callImage o = none := by
  have hnone : s.residentImage (o.num 24 4) = none := by
    refine List.findSome?_eq_none_iff.2 fun d hd => ?_
    rw [h d (List.mem_range.1 hd)]
    rfl
  unfold State.callImage
  rw [hnone]
  rfl

theorem callImage_entry {a : Applet} (h : s.residentImage (o.num 24 4) = some a) (hl : a.entries.length ≤ o.num 28 2) :
    s.callImage o = none := by
  unfold State.callImage
  rw [h]
  simpa using hl

/-- An image that some core holds, where all that hold the applet hold the same. -/
theorem callImage_some {c : Fin 8} {r : Resident}
    (hr : (s.core c).resident.find? (fun r => r.img.id == o.num 24 4) = some r) (hl : o.num 28 2 < r.img.entries.length)
    (hall : ∀ d x, (s.core d).resident.find? (fun r => r.img.id == o.num 24 4) = some x → x.img = r.img) :
    s.callImage o = some r.img := by
  have hsome : s.residentImage (o.num 24 4) = some r.img := by
    cases himg : s.residentImage (o.num 24 4) with
    | none =>
      have hc := List.findSome?_eq_none_iff.1 himg c (List.mem_range.2 c.isLt)
      rw [hr] at hc
      cases hc
    | some a =>
      obtain ⟨d, -, hd⟩ := List.exists_of_findSome?_eq_some himg
      obtain ⟨x, hx, rfl⟩ := Option.map_eq_some_iff.1 hd
      rw [hall d x hx]
  unfold State.callImage
  rw [hsome]
  simpa using hl

theorem callOn_none (h : s.callImage o = none) (c : Nat) : callOn c o s = refuse o.uid .operandRange s := by
  unfold callOn
  rw [h]

/-- The frame a CALL starts. -/
def callFrame (o : Order) (a : Applet) (s : State) : Fr :=
  { orderFrame s o .a (o.num 28 2) with
    pc := BitVec.ofNat 32 (a.entries.getD (o.num 28 2) 0), applet := o.num 24 4, entry := o.num 28 2
    codeLen := a.codeLen, dataLen := a.dataLen + a.zeroFill, runMs := a.runMs }

theorem callOn_starts {c f : Nat} {a : Applet} {r : Resident} (hi : s.callImage o = some a)
    (ht : s.coreTakes c (some (o.num 24 4)) = true)
    (hr : (s.core c).resident.find? (fun r => r.img.id == o.num 24 4) = some r) (hf : s.freeFrame? c = some f) :
    callOn c o s = startFrame c f o (callFrame o r.img s) (reloadApplet c (o.num 24 4) s) := by
  unfold callOn
  simp only [hi, ht, hr, hf] <;> rfl

/-- The frame a RUN starts, with the code and the data the order names (06 R111). -/
def runFrame (o : Order) (s : State) : Fr :=
  { orderFrame s o .j (o.num 28 4) with
    code := s.hostMem.read (o.desc 0).addr (o.num 24 4), codeLen := o.num 24 4, dataLen := 65536, runMs := 1000
    data := Mem.write [] 0 (s.hostMem.read ((o.desc 0).addr + o.num 24 4) (o.num 28 4)) }

theorem codeOk_iff : o.codeOk = true ↔ 4 ≤ o.num 24 4 ∧ o.num 24 4 % 4 = 0 := by
  simp [Order.codeOk]

theorem runOn_starts {c f : Nat} (hk : o.codeOk = true) (ht : s.coreTakes c none = true)
    (hf : s.freeFrame? c = some f) : runOn c o s = startFrame c f o (runFrame o s) s := by
  unfold runOn
  simp only [hk, ht, hf] <;> rfl

theorem runOn_refused (c : Nat) (hk : o.codeOk = false) : runOn c o s = refuse o.uid .operandRange s := by
  unfold runOn
  simp [hk]

/-! ### A device fault as a CALL starts (R367, R372) -/

theorem deviceFault_session (hs : o.session ≠ 0) : (deviceFault .sessionStore o s).order? o.uid = none ∧
    ∀ x ∈ (deviceFault .sessionStore o s).sessions, x.handle ≠ o.session := by
  let u := endSessions (fun x => x.handle == o.session) (healthLog 0x0F 0xFF 0 s)
  have hfold : deviceFault .sessionStore o s =
      refuse o.uid .faultPermanent (endSessionFrames o.session .faultPermanent u) := if_neg hs
  have hkept : Kept u (refuse o.uid .faultPermanent (endSessionFrames o.session .faultPermanent u)) :=
    (refuse_kept _ _ _).after (.foldl (fun s c => .foldl (fun s f => .ite (endFrame_kept s c f _) (.refl s)) _ s) _ u)
  rw [hfold]
  refine ⟨complete_gone _ _ _ _ _ _, fun x hx => ?_⟩
  obtain ⟨y, hy, hxy⟩ := hkept.handles x hx
  have hne := endSessions_none _ hy
  rw [← hxy]
  simpa using hne

theorem order?_none_all {s : State} {uid : Nat} (h : s.order? uid = none) :
    s.orders.all (fun y => y.uid != uid) = true := by
  rw [List.all_eq_true]
  intro y hy
  simpa using List.find?_eq_none.1 h y hy

theorem exec_call_sessionStore (h : Admissible s0 n o s) (hk : o.kind = .call) (c : Fin 8) (hs : o.session ≠ 0) :
    exec (.call n c (some .sessionStore)) s0 = .next (deviceFault .sessionStore o s) := by
  refine (exec_call_fault h hk c _).trans (congrArg Host.Outcome.next (if_pos ?_))
  rw [order?_none_all (deviceFault_session hs).1, Bool.or_true]

theorem exec_call_keyCache (h : Admissible s0 n o s) (hk : o.kind = .call) (c : Fin 8) :
    exec (.call n c (some .keyCache)) s0 = .next (callOn c o (healthLog 0x0F 0xFF 0 s)) := by
  refine (exec_call_fault h hk c _).trans (congrArg Host.Outcome.next (if_neg ?_))
  have hg : (healthLog 0x0F 0xFF 0 s).rind.guard = false :=
    (healthLog_kept s _ _ _).guard.trans (admissible_unguarded h hk)
  have ho : (healthLog 0x0F 0xFF 0 s).orders.all (fun y => y.uid != o.uid) = false := by
    rw [healthLog_orders s 0x0F 0xFF 0]
    exact List.all_eq_false.2 ⟨o, admissible_mem h, by simp⟩
  change ¬((healthLog 0x0F 0xFF 0 s).rind.guard || (healthLog 0x0F 0xFF 0 s).orders.all fun y => y.uid != o.uid) = true
  rw [hg, ho]
  decide

theorem deviceFault_guard : (deviceFault .guardBlock o s).rind.guard = true := by
  unfold deviceFault
  dsimp only
  split
  · assumption
  · exact (guardTrip_spec _ _ _).2.1

theorem exec_call_guardBlock (h : Admissible s0 n o s) (hk : o.kind = .call) (c : Fin 8) :
    exec (.call n c (some .guardBlock)) s0 = .next (deviceFault .guardBlock o s) := by
  refine (exec_call_fault h hk c _).trans (congrArg Host.Outcome.next (if_pos ?_))
  rw [deviceFault_guard, Bool.true_or]

/-! ### SECTOR -/

theorem exec_sector (h : Admissible s0 n o s) (hk : o.kind = .sector) {x : Session} {v : Nat}
    (hx : s.session o.session = some x) (hv : x.vol = some v) :
    exec (.sector n) s0 = .next (match s.cardVolume v with
      | some ch => sectorCard ch o s
      | none => sectorHost v o s) := by
  refine (congrArg Host.Outcome.next
    (serve_admissible (want := fun o => o.kind == .sector) _ h (beq_iff_eq.2 hk))).trans ?_
  rw [hx]
  simp only [Option.bind_some, hv] <;> rfl

/-- The job of a SECTOR order on a host volume, made in the state after the key's use is drawn (09 R203, R207). -/
def sectorJob (v : Nat) (o : Order) (k : Slot) (s : State) : Job :=
  let enc := o.num 36 1 == 1
  { Job.base (.order o.uid) (s.classOf o) (.session o.session) (if enc then 0x0009 else 0x000A) with
    key := some ⟨2, v, enc, k.gen⟩, level := k.cmLevel, mirror := s.mirrorSeq, segs := o.num 32 4, width := 4
    streamed := true, count := 4096 * o.num 32 4
    outs := [(.host (o.desc 0).addr, xtsAll enc k.material (o.num 24 8)
      (s.hostMem.read (o.desc 0).addr (4096 * o.num 32 4)) (o.num 32 4))] }

theorem sectorHost_admits {v w : Nat} {k : Slot} {t : State} (hn : 0 < o.num 32 4)
    (hr : o.num 24 8 + o.num 32 4 ≤ 2 ^ 36)
    (hs : (admitted o s).slotCheck .host v (needXts (if o.num 36 1 == 1 then 0 else 1)) o.session = .ok k)
    (hspent : (admitted o s).spent k = none) (hvat : vatCheck (admitted o s) k.cmLevel false = none)
    (hx : xtsHalves k = false) (hd : drawUse k false (admitted o s) = .got k w t) :
    sectorHost v o s = vatAdmit (sectorJob v o k t) t := by
  unfold sectorHost
  have hrange : ¬(o.num 32 4 = 0 ∨ 2 ^ 36 < o.num 24 8 + o.num 32 4) := by omega
  have hfirst : firstOf [(xtsHalves k, Status.keyAttr)] = none := by rw [hx]; rfl
  simp only [if_neg hrange, hs, hspent, hvat, hfirst, hd] <;> rfl

theorem sectorCard_reads {ch : Nat} (hf : o.num 36 1 = 2) (hn : 0 < o.num 32 4)
    (hr : cardRefused s ch (s.sectorReq o) = none) :
    sectorCard ch o s = cardAdmit ch (s.sectorReq o) (admitted o s) := by
  have hrefused : s.sectorRefused ch o = none := by
    unfold State.sectorRefused
    split
    · rfl
    · exact hr
  unfold sectorCard
  simp [hf, hrefused, Nat.ne_of_gt hn]

/-! ### SEAL -/

theorem exec_seal (h : Admissible s0 n o s) (hk : o.kind = .seal) (hb : o.num 24 1 ≤ 63) (hl : 0 < (o.desc 0).len)
    (hf : s.syncFollower = false) (faults : Nat) : exec (.seal n faults) s0 = .next (
      match sealRefused s (o.num 24 1) with
      | some st => refuse o.uid st (sealFault (o.num 24 1) st s)
      | none => digestAndSeal [] (.order o.uid) (o.num 24 1) (s.hostMem.read (o.desc 0).addr (o.desc 0).len)
          (.host (o.desc 1).addr) (o.desc 0).len faults (admitted o s)) := by
  refine (congrArg Host.Outcome.next
    (serve_admissible (want := fun o => o.kind == .seal) _ h (beq_iff_eq.2 hk))).trans ?_
  have hrange : ¬((o.desc 0).len = 0 ∨ 63 < o.num 24 1) := by omega
  unfold sealOrder
  simp only [if_neg hrange, hf, Bool.false_eq_true, if_false] <;> rfl

section
variable {b faults count : Nat} {posting : Bytes} {dst : Dst} {ref : Ref} {t : State}

theorem digestAndSeal_guarded (hg : (wakeOwn true 8 (ownFaults true false faults t)).rind.guard = true) :
    digestAndSeal [] ref b posting dst count faults t = wakeOwn true 8 (ownFaults true false faults t) := by
  unfold digestAndSeal
  exact if_pos hg

theorem digestAndSeal_unkeyed (hg : (wakeOwn true 8 (ownFaults true false faults t)).rind.guard = false)
    (hk : (wakeOwn true 8 (ownFaults true false faults t)).keyedOk = false) :
    digestAndSeal [] ref b posting dst count faults t =
      finish ref .noHealthyChannel 0 0 (wakeOwn true 8 (ownFaults true false faults t)) := by
  unfold digestAndSeal
  dsimp only
  generalize wakeOwn true 8 (ownFaults true false faults t) = u at hg hk ⊢
  rw [hg, hk]
  rfl

theorem digestAndSeal_settles (hg : (wakeOwn true 8 (ownFaults true false faults t)).rind.guard = false)
    (hk : (wakeOwn true 8 (ownFaults true false faults t)).keyedOk = true) :
    digestAndSeal [] ref b posting dst count faults t =
      let d := doSeal b posting (wakeOwn true 8 (ownFaults true false faults t))
      settle ref (if faults = 0 then .ok else .okRetried) count d.2.1 [(dst, d.1)] d.2.2 := by
  unfold digestAndSeal
  dsimp only
  generalize wakeOwn true 8 (ownFaults true false faults t) = u at hg hk ⊢
  rw [hg, hk]
  rfl

end

/-- A seal counts one more than the head of its book. -/
theorem doSeal_count (b : Nat) (posting : Bytes) (s : State) :
    (doSeal b posting s).2.1 = ((ownSegs true 1 (digestSegs 136 posting.length + 2) s).book b).head.c + 1 := by
  unfold doSeal
  dsimp only
  generalize ownSegs true 1 (digestSegs 136 posting.length + 2) s = t
  split <;> rfl

end

/-- Settles O44: each order's command hands its work to the function that does it, in the state the frame, the job or
the request is made in; a device fault leaves the order, ends it or brings GUARD. -/
theorem frameAndDataOrders : Obligations.FrameAndDataOrders := by
  unfold Obligations.FrameAndDataOrders
  intro s0 s n o h core
  refine ⟨fun c r f hk hr hl hall hf ht => ?_, fun c hk hnone => ?_, fun c a hk ha hl => ?_, fun c hk => ?_,
    fun c f hk h4 hal hf ht => ?_, fun c hk hbad => ?_,
    fun x v k w s' hk hx hv hcard hn hrange hslot hspent hvat hhalves hdraw => ?_,
    fun x v ch hk hx hv hcard hread hn hq hfits => ?_, fun b hk hb hb63 hl hfol hok hwaits hwaiting => ?_,
    fun b st hk hb hb63 hl hfol hst faults => ?_⟩
  · have hexec := (exec_call h hk c).trans
      (congrArg Host.Outcome.next (callOn_starts (callImage_some hr hl hall) ht hr hf))
    refine ⟨startedFrame c o (callFrame o r.img s) (reloadApplet c (o.num 24 4) s),
      ⟨?_, orderFrame_fresh .a _ |>.1, rfl, rfl, rfl, rfl, rfl, rfl, rfl, rfl, rfl⟩, rfl,
      orderFrame_fresh .a _ |>.2, rfl, rfl, rfl, rfl, rfl, rfl⟩
    rw [if_pos hk, if_pos hk]
    exact hexec
  · exact (exec_call h hk c).trans (congrArg Host.Outcome.next (callOn_none (callImage_none hnone) c))
  · exact (exec_call h hk c).trans (congrArg Host.Outcome.next (callOn_none (callImage_entry ha hl) c))
  · exact ⟨exec_call h hk c, exec_call_keyCache h hk c,
      fun hs => ⟨_, exec_call_sessionStore h hk c hs, deviceFault_session hs⟩,
      ⟨_, exec_call_guardBlock h hk c, deviceFault_guard⟩⟩
  · have hexec := (exec_run h hk c).trans
      (congrArg Host.Outcome.next (runOn_starts (codeOk_iff.2 ⟨h4, hal⟩) ht hf))
    have hcall : o.kind ≠ .call := by simp [hk]
    refine ⟨startedFrame c o (runFrame o s) s,
      ⟨?_, orderFrame_fresh .j _ |>.1, rfl, rfl, rfl, rfl, rfl, rfl, rfl, rfl, rfl⟩, rfl,
      orderFrame_fresh .j _ |>.2, rfl, rfl, rfl, rfl, rfl, rfl⟩
    rw [if_neg hcall, if_neg hcall]
    exact hexec
  · have hcode : o.codeOk = false := by
      rw [← Bool.not_eq_true, codeOk_iff]
      omega
    exact (exec_run h hk c).trans (congrArg Host.Outcome.next (runOn_refused c hcode))
  · refine ⟨sectorJob v o k s', ?_, rfl, rfl, rfl, rfl, rfl, rfl⟩
    rw [exec_sector h hk hx hv, hcard]
    exact congrArg Host.Outcome.next (sectorHost_admits hn hrange hslot hspent hvat hhalves hdraw)
  · have hwrite : (o.num 36 1 == 1) = false := by simp [hread]
    have hkind : (s.sectorReq o).kind = .read := by simp [State.sectorReq, CardReq.new, hwrite]
    refine ⟨s.sectorReq o, ?_, hkind, rfl, rfl, rfl, ?_, rfl⟩
    · rw [exec_sector h hk hx hv, hcard]
      exact congrArg Host.Outcome.next (sectorCard_reads hread hn (hfits _ hkind rfl rfl))
    · simp [State.sectorReq, hwrite]
  · subst hb
    intro posting s' faults s1 d
    have hexec := exec_seal h hk hb63 hl hfol faults
    rw [hok] at hexec
    change exec (.seal n faults) s0 = .next (digestAndSeal [] _ _ posting _ _ _ s') at hexec
    refine ⟨fun hg => ?_, fun hg hkeyed => ?_, fun hg hkeyed => ⟨?_, doSeal_count _ _ _⟩⟩
    · rw [hexec, digestAndSeal_guarded hg]
    · rw [hexec, digestAndSeal_unkeyed hg hkeyed]
    · rw [hexec, digestAndSeal_settles hg hkeyed]
  · subst hb
    have hexec := exec_seal h hk hb63 hl hfol faults
    rw [hst] at hexec
    exact hexec

end Sys2Proof.Machine
end


section
/-! A log write that ends leaves the battery as it is, whatever its items bring about (12 R261, 18). -/

namespace Sys2Proof.Machine

/-- The battery is there or not. -/
def battery (s : State) : Bool := s.power.vbat

theorem Rooted.battery {s t : State} (h : Rooted s t) : Keeps battery s t := (congrArg Power.vbat h.steady :)

variable (s : State)

/-! ### Seals and cards that a press brings about -/

theorem wakeOwn_kept (hash : Bool) (n : Nat) : Kept s (wakeOwn hash n s) := by
  induction n generalizing s with
  | zero => exact .refl s
  | succ n ih =>
    unfold wakeOwn
    cases s.ownUnit hash with
    | none => exact .refl s
    | some i => exact .ite (wakeEngine_kept s _ _) ((ih _).after (wakeEngine_kept s _ _))

theorem ownDraws_kept (n : Nat) : Kept s (ownDraws n s) := .ite (.foldl (fun s _ => drbgBytes_kept s 32) _ s) (.refl s)

theorem ownSegs_kept (hash : Bool) (keyed n : Nat) : Kept s (ownSegs hash keyed n s) := by
  unfold ownSegs
  dsimp only
  split
  · exact wakeOwn_kept s _ _
  · exact (ownDraws_kept _ _).after ((setChan_kept _ _ _).after (wakeOwn_kept s _ _))

theorem doSeal_mild (b : Nat) (posting : Bytes) : Mild s (doSeal b posting s).2.2 := by
  have hsegs : Mild s (sampleTime (ownSegs true 1 (digestSegs 136 posting.length + 2) s)) :=
    ((sampleTime_kept _).after (ownSegs_kept s _ _ _)).toMild
  unfold doSeal
  dsimp only
  generalize sampleTime (ownSegs true 1 (digestSegs 136 posting.length + 2) s) = t at hsegs ⊢
  split
  · exact (closeWheel_mild _ _ _ _ _ _).after ((setBook_kept t _ _).toMild.after hsegs)
  · exact (mirrorBrine_kept _).toMild.after ((putBook_kept t _ _).toMild.after hsegs)

theorem sealFault_mild (b : Nat) (st : Status) : Mild s (sealFault b st s) := .ite s (slotRefused_mild s _ _) (.refl s)

theorem noteEpoch_battery (r : Ref) (e : Nat) : Keeps battery s (noteEpoch r e s) := by
  unfold noteEpoch
  split
  · split
    · exact .ite rfl rfl
    · rfl
  · split
    · exact .ite rfl rfl
    · rfl
  · split
    · rfl
    · rfl
  · rfl

theorem fixEpoch_battery (ref : Ref) : Keeps battery s (fixEpoch ref s) := by
  unfold fixEpoch
  split
  · exact .ite rfl (noteEpoch_battery s _ _)
  · rfl

theorem settleOn_battery (rs : List Range) (ref : Ref) (st : Status) (count v : Nat) (outs : List (Dst × Bytes)) :
    Keeps battery s (settleOn rs ref st count v outs s) := by
  unfold settleOn
  split
  · exact (fixEpoch_battery s ref :)
  · exact ((finish_kept _ _ _ _ _).after (writeOuts_kept s _ _)).battery

theorem drainSeals_battery (b : Nat) : Keeps battery s (drainSeals b s) := by
  unfold drainSeals
  refine .foldl (fun s w => .ite rfl ?_) _ s
  have hown : Kept s (wakeOwn true 8 (setBook b { s.book b with waiting := (s.book b).waiting.drop 1 } s)) :=
    (wakeOwn_kept _ _ _).after (setBook_kept s _ _)
  dsimp only
  generalize wakeOwn true 8 (setBook b { s.book b with waiting := (s.book b).waiting.drop 1 } s) = t at hown ⊢
  split
  · exact (finish_kept _ _ _ _ _).battery.after ((sealFault_mild t _ _).battery.after hown.battery)
  · exact (settleOn_battery _ _ _ _ _ _ _).after ((doSeal_mild t _ _).battery.after hown.battery)

theorem cardServeAll_mild : Mild s (cardServeAll s) := .foldl (fun s c => cardServe_mild s c) _ s

theorem cardAdmit_mild (ch : Nat) (r : CardReq) : Mild s (cardAdmit ch r s) := by
  have hbump : Kept s (bumpJob s) := .of_spoken rfl
  unfold cardAdmit
  dsimp only
  split
  · exact turnAway_mild s _ _ _
  · exact (cardServe_mild _ _).after ((setCard_kept _ _ _).after hbump).toMild

/-! ### Items in place -/

theorem leaveGen_battery (first span g : Nat) : Keeps battery s (leaveGen first span g s) := by
  unfold leaveGen
  refine .foldl (fun s i => ?_) _ s
  rfl

theorem dropSlot_battery (n : Nat) : Keeps battery s (dropSlot n s) := by
  unfold dropSlot
  split
  · exact (leaveGen_battery _ _ _ _ :)
  · rfl

theorem writeSlot_battery (e head span : Nat) (attr : BitVec 64) (init gen : Nat) (owner : BitVec 64)
    (nonce : Option Bytes) (fixed : BitVec 32) (material : Bytes) :
    Keeps battery s (writeSlot e head span attr init gen owner nonce fixed material s) := by
  have hflush : Keeps battery s (mend (slotAddr head) (256 * span) (flushMasters head span (dropSlot head s))) :=
    (dropSlot_battery s head :)
  unfold writeSlot
  generalize mend (slotAddr head) (256 * span) (flushMasters head span (dropSlot head s)) = t at hflush ⊢
  dsimp only
  by_cases hneeds : attrNeedsEntry attr = true
  · rw [if_pos hneeds]
    exact .ite hflush hflush
  · rw [if_neg hneeds]
    exact .ite hflush hflush

theorem forkEffects_battery : Keeps battery s (forkEffects s) := by
  unfold forkEffects
  dsimp only
  refine Keeps.after (.foldl (fun s b => ?_) _ _) rfl
  exact .ite rfl rfl

theorem applyItem_battery (e : Nat) (i : PItem) : Keeps battery s (applyItem e s i) := by
  cases i with
  | slotWrite head span attr init gen owner nonce fixed material => exact writeSlot_battery s _ _ _ _ _ _ _ _ _ _
  | slotFree first span gen => exact (leaveGen_battery _ _ _ _).after (dropSlot_battery s first :)
  | applet a => exact Keeps.after (.foldl (fun s k => (mend_mild s _ _).battery) _ _) rfl
  | weltTakeover => exact forkEffects_battery s
  | _ => rfl

/-! ### What follows an item -/

theorem endSessions_battery (p : Session → Bool) : Keeps battery s (endSessions p s) := (endSessions_rooted s p).battery

theorem changeState_battery (l : Lifecycle) : Keeps battery s (changeState l s) := by
  have hend : Keeps battery s (endSessions (fun _ => true) { s with vault := s.vault.become l }) :=
    (endSessions_battery _ _ :)
  exact (((newBootNonce_kept _).after (newStoreKey_kept _)).battery.after hend :)

theorem endKeyed_battery : Keeps battery s (endKeyed s) := by
  unfold endKeyed
  refine Keeps.after (engFill_kept _).battery ?_
  exact (Kept.foldl (fun s j => endJob_kept s j _) _ s).battery

theorem retireDevice_battery (cause : Nat) (reason : Byte) : Keeps battery s (retireDevice cause reason s) := by
  unfold retireDevice
  exact (endSessions_battery _ _).after (sampleTime_kept s).battery

theorem startCopy_battery : Keeps battery s (startCopy s) :=
  .ite ((weltSend_kept _ _).battery.after (raise_kept _ _).battery) rfl

theorem sendHello_battery : Keeps battery s (sendHello s) := .ite rfl rfl

theorem cardPressGone_mild (i : PItem) : Mild s (cardPressGone s i) := by
  have hserve (ch : Nat) (k : CardCh) : Mild s (cardServe ch (setCard ch k s)) :=
    (cardServe_mild _ _).after (setCard_kept s _ _).toMild
  unfold cardPressGone
  split
  · exact hserve _ _
  · exact hserve _ _
  · exact hserve _ _
  · exact hserve _ _
  · exact .refl s

theorem wheelWaits_kept (r : Ref) : Kept s (wheelWaits r s) := by
  unfold wheelWaits
  split
  · exact setBook_kept s _ _
  · exact .refl s

theorem failPress_mild (p : Press) (st : Status) : Mild s (failPress p st s) := by
  unfold failPress
  exact (Mild.foldl (fun s i => cardPressGone_mild s i) _ _).after
    ((wheelWaits_kept _ _).after (finish_kept s _ _ _ _)).toMild

theorem cardCommitted_mild (ch : Nat) : Mild s (cardCommitted ch s) :=
  .ite s (setCard_kept s _ _).toMild ((cardServe_mild _ _).after (setCard_kept s _ _).toMild)

theorem eraseBegins_mild (ch : Nat) (format : Bool) : Mild s (eraseBegins ch format s) := by
  unfold eraseBegins
  dsimp only
  have hqueue (q : List Press) : Mild s { s with press := { s.press with queue := q } } := press_mild s rfl
  have hwaits (l : List Press) (t : State) (h : Mild s t) :
      Mild s (l.foldl (fun s p => wheelWaits p.origin s) t) :=
    (Kept.foldl (fun s p => wheelWaits_kept s _) l t).toMild.after h
  have hends (l : List CardReq) (k : CardCh) (t : State) (h : Mild s t) :
      Mild s (l.foldl (fun s r => match r.kind with
        | .erase _ => s
        | _ => cardOutcome ch r .operandRange 0 0 s) (setCard ch k t)) := by
    refine Mild.after (.foldl (fun s r => ?_) _ _) ((setCard_kept t _ _).toMild.after h)
    split
    · exact .refl s
    · exact (cardOutcome_kept s _ _ _ _ _).toMild
  split
  · exact (turnAway_mild _ _ _ _).after (hends _ _ _ (hwaits _ _ (hqueue _)))
  · exact (cardAdmit_mild _ _ _).after (hends _ _ _ (hwaits _ _ (hqueue _)))

theorem checkAlarm_battery : Keeps battery s (checkAlarm s) := .ite ((raise_kept _ _).battery :) rfl

theorem domainOffN_battery (d : Nat) : Keeps battery s (domainOffN d s) := (domainOffN_kept s d).battery

theorem modeChanged_battery : Keeps battery s (modeChanged s) := (raise_kept s 268).battery

theorem leadDetached_battery : Keeps battery s (leadDetached s) := (leadDetached_stays s).battery

theorem afterItem_battery (i : PItem) : Keeps battery s (afterItem s i) := by
  cases i with
  | lifeCycle l =>
    exact .ite (.refl s) (.ite ((newBootNonce_kept _).battery.after rfl)
      ((mergeWheels_mild _ _).battery.after (changeState_battery s l)))
  | retire cause reason =>
    exact (retireDevice_battery _ _ _).after ((endKeyed_battery _).after (depart_stays s).battery)
  | wheel b msg signed no lastCtr =>
    exact (drainSeals_battery _ _).after ((cardServeAll_mild _).battery.after (wheelNext_kept s b).battery)
  | volWrite ch first data => exact (cardCommitted_mild s ch).battery
  | archive ch b recs => exact (cardCommitted_mild s ch).battery
  | volErase ch format => exact (eraseBegins_mild s ch format).battery
  | volFormat ch => rfl
  | volReady ch m first =>
    refine Keeps.after (retryAppends_mild _ _).battery ((cardServe_mild _ _).battery.after ?_)
    exact (raise_kept _ _).battery.after rfl
  | bookClose b =>
    exact Keeps.after rfl (.ite (closeWheel_mild s _ _ _ _ _).battery (.refl s))
  | step a b c d => exact checkAlarm_battery s
  | weltPair a b c => exact (modeChanged_battery _).after rfl
  | weltUnpair =>
    refine (modeChanged_battery _).after ((domainOffN_battery _ _).after ?_)
    exact Keeps.after rfl ((endLink_stays _).battery.after (leadDetached_battery s))
  | weltSecret k => exact sendHello_battery s
  | weltMode sync => exact .ite (startCopy_battery s) (leadDetached_battery s)
  | weltHandover =>
    refine (followerStale_stays _).battery.after ((modeChanged_battery _).after ?_)
    exact Keeps.after rfl (depart_stays s).battery
  | weltPromote => exact (modeChanged_battery _).after (abortForwards_stays s).battery
  | weltTakeover =>
    exact (raiseSample_kept _ _).battery.after ((modeChanged_battery _).after (abortForwards_stays s).battery)
  | _ => rfl

/-! ### A press that commits or fails -/

theorem mirrorPress_battery (len : Nat) : Keeps battery s (mirrorPress len s) :=
  .ite (.foldl (fun s _ => (weltSend_kept s _).battery) _ s) (.refl s)

theorem logOfficer_battery (p : Press) : Keeps battery s (logOfficer p s) := by
  unfold logOfficer
  split
  · exact .refl s
  · exact (cardAdmit_mild _ _ _).battery.after (sampleTime_kept s).battery

theorem commitPress_battery (retried : Bool) (p : Press) : Keeps battery s (commitPress retried p s) := by
  let t := { s with press := s.press.write (s.press.epoch + 1) p.len p.core p.origin.frameNo (absolute s [] p.items) }
  have hitems : Keeps battery s
      (wakeBanks p.items (rewriteShared ((absolute s [] p.items).foldl (applyItem (s.press.epoch + 1)) t))) :=
    (wakeBanks_kept _ _).battery.after (Keeps.after rfl (Keeps.foldl (fun s => applyItem_battery s _) _ t))
  have hmirror (u : State) (h : Keeps battery s u) :
      Keeps battery s (mirrorPress p.len (noteEpoch p.origin (s.press.epoch + 1) u)) :=
    (mirrorPress_battery _ _).after ((noteEpoch_battery _ _ _).after h)
  have hafter (u : State) (h : Keeps battery s u) : Keeps battery s (p.items.foldl afterItem u) :=
    (Keeps.foldl (fun s i => afterItem_battery s i) _ _).after h
  unfold commitPress
  exact (logOfficer_battery _ _).after ((settleOn_battery _ _ _ _ _ _ _).after (hafter _ (hmirror _ hitems)))

theorem pressCommit_battery (how : PressEnd) : Keeps battery s (pressCommit how s) := by
  unfold pressCommit
  split
  · exact .refl s
  · refine .ite (.refl s) ?_
    dsimp only
    split
    · exact (failPress_mild _ _ _).battery.after rfl
    · refine .ite ((finish_kept _ _ _ _ _).battery.after rfl) (.ite ?_ ((commitPress_battery _ _ _).after rfl))
      exact (failPress_mild _ _ _).battery.after ((healthLog_kept _ _ _ _).battery.after rfl)

theorem endLogWrite_battery : Keeps battery s (endLogWrite s) := (pressCommit_battery _ _).after rfl

end Sys2Proof.Machine
end


section
/-! RESET_N, main power, hold-up and the wipe after retirement (03, 12, 13, 18). -/

namespace Sys2Proof.Machine

/-! ### What a reset clears (R43) -/

/-- Nothing is left of orders, sessions and frames. -/
structure Emptied (t : State) : Prop where
  orders : t.orders = []
  qps : t.qps = []
  sessions : t.sessions = []
  loaned : t.loaned = []
  queue : t.press.queue = []
  keys : t.keys = ⟨none, none, 0, none⟩
  supSram : t.supSram = []
  frames : ∀ c f : Nat, c < 8 → t.frame c f = none

/-- What a reset keeps: the vault, the epoch, the Cellar, the Brine, the power, the SMBus and the mark of the time. -/
def durables (s : State) := (s.vault, s.press.epoch, s.cellar, s.brine, s.power, s.smb, s.time.mark)

theorem reset_frames {c : Nat} (hc : c < 8) (f : Nat) : State.reset.frame c f = none := by
  obtain ⟨-, -, -, -, -, -, -, -, h, -⟩ := resetState
  exact h c f hc

theorem clearVolatile_emptied (s : State) : Emptied (clearVolatile s) where
  orders := rfl
  qps := rfl
  sessions := endSessions_all s
  loaned := rfl
  queue := rfl
  keys := rfl
  supSram := rfl
  frames _ f hc := reset_frames hc f

theorem onInternal_mark (t : TimeBase) : t.onInternal.mark = t.mark := by
  unfold TimeBase.onInternal
  split <;> rfl

theorem lose_mark (t : TimeBase) : t.lose.mark = t.mark := by
  unfold TimeBase.lose
  rw [onInternal_mark]
  split <;> rfl

theorem clearVolatile_durables (s : State) : Keeps durables s (clearVolatile s) := by
  have hends : Keeps durables s (endSessions (fun _ => true) s) := by
    rw [(endSessions_spec s _).1]
    rfl
  have hlow : Keeps durables s (outputsLow (endSessions (fun _ => true) s)) := hends
  have hclear (t : State) :
      (t.vault, t.press.epoch, t.cellar, t.brine, t.power, t.smb, t.time.lose.mark) = durables t := by
    rw [lose_mark]
    rfl
  exact (hclear _).trans hlow

/-! ### Saving the Brine -/

/-- What a save of the Brine leaves: all but the Brine, the books and the domains that are on. -/
def unsaved (s : State) :=
  (s.vault, s.press.epoch, s.cellar, s.lc, s.steady, s.time, s.smb)

theorem wakeDomainN_unsaved (d : Nat) (s : State) : Keeps unsaved s (wakeDomainN d s) := by
  unfold wakeDomainN
  split
  · rfl
  · exact .refl s

theorem wakeBank_unsaved (b : Nat) (s : State) : Keeps unsaved s (wakeBank b s) :=
  .ite (wakeDomainN_unsaved _ s) (.refl s)

theorem writeDurable_unsaved (s : State) : Keeps unsaved s (writeDurable s) :=
  .ite (.refl s) (.ite ((wakeBank_unsaved 0 _).after rfl) rfl)

theorem saveBrine_unsaved (s : State) : Keeps unsaved s (saveBrine s) := by
  refine .ite (.refl s) ?_
  have hwake : Keeps unsaved s (wakeBank 0 (writeDurable s)) := (wakeBank_unsaved 0 _).after (writeDurable_unsaved s)
  exact (hwake :)

theorem partialSave_unsaved (s : State) : Keeps unsaved s (partialSave s) := .ite (.refl s) (.ite rfl rfl)

/-- A whole save counts one more and settles every counter entry (12 R263, R264). -/
theorem saveBrine_saves {s : State} (hd : s.debugBars = false) (hb : s.bankRetired 0 = false) :
    (saveBrine s).brine.word.read = some ((s.saveCount + 1) * 256) ∧
    (saveBrine s).brine.entries = s.brine.entries.map Entry.settled := by
  have hcond : ¬(s.debugBars || s.bankRetired 0) = true := by simp [hd, hb]
  have hentries : (wakeBank 0 (writeDurable s)).brine.entries = s.brine.entries.map Entry.settled := by
    rw [(wakeBank_kept _ _).brine, writeDurable_serving s hb, (wakeIf_kept _ _).brine]
  have hsave : (saveBrine s).brine = { (wakeBank 0 (writeDurable s)).brine with
      word := (wakeBank 0 (writeDurable s)).brine.word.update ((s.saveCount + 1) * 256) } :=
    congrArg State.brine (if_neg hcond)
  rw [hsave]
  exact ⟨Copies.read_update _ _, hentries⟩

/-! ### RESET_N (R43) -/

/-- What RESET_N does once no log write is on its way. -/
def resetDown (s : State) : State :=
  let t := clearVolatile (if s.power.st == .dormant || s.rind.guard then s else saveBrine s)
  { t with power := { t.power with st := .inReset } }

theorem exec_resetNAssert {s : State} (h : s.power.st = .active ∨ s.power.st = .idle ∨ s.power.st = .dormant)
    (logs : Bool) : exec (.resetNAssert logs) s =
      .next (resetDown (if (logs && s.awake && !s.rind.guard) = true then endLogWrite s else s)) := by
  change execResetNAssert s logs = _
  unfold execResetNAssert
  obtain h | h | h := h <;> rw [h] <;> rfl

theorem resetNAssert_silent {s : State} (h : s.power.st = .inReset ∨ s.power.st = .battery ∨ s.power.st = .off)
    (logs : Bool) : exec (.resetNAssert logs) s = .next s := by
  change execResetNAssert s logs = _
  unfold execResetNAssert
  obtain h | h | h := h <;> rw [h]

theorem awake_st {s : State} (h : s.awake = true) : s.power.st = .active ∨ s.power.st = .idle := by
  simpa [State.awake] using h

theorem exec_resetNAssert_log {s : State} (ha : s.awake = true) (hg : s.rind.guard = false) :
    exec (.resetNAssert true) s = .next (resetDown (endLogWrite s)) := by
  have hst := awake_st ha
  rw [exec_resetNAssert (by tauto), if_pos (by simp [ha, hg])]

theorem exec_resetNAssert_now {s : State} (ha : s.awake = true) : exec .resetNAssert s = .next (resetDown s) := by
  have hst := awake_st ha
  rw [exec_resetNAssert (by tauto), if_neg (by simp)]

/-- Asleep or in GUARD no log write is on its way. -/
theorem resetNAssert_unlogged {s : State} (h : s.awake = false ∨ s.rind.guard = true) :
    exec (.resetNAssert true) s = exec .resetNAssert s := by
  change execResetNAssert s true = execResetNAssert s false
  have hnone : (true && s.awake && !s.rind.guard) = (false && s.awake && !s.rind.guard) := by
    obtain h | h := h <;> simp [h]
  unfold execResetNAssert
  rw [hnone]

theorem resetDown_rest (s : State) : (resetDown s).power.st = .inReset ∧ Emptied (resetDown s) ∧
    (resetDown s).vault = s.vault ∧ (resetDown s).press.epoch = s.press.epoch ∧ (resetDown s).cellar = s.cellar := by
  have hsave : Keeps unsaved s (if s.power.st == .dormant || s.rind.guard then s else saveBrine s) :=
    .ite (.refl s) (saveBrine_unsaved s)
  unfold resetDown
  generalize (if s.power.st == .dormant || s.rind.guard then s else saveBrine s) = u at hsave ⊢
  have hkeep := clearVolatile_durables u
  simp only [Keeps, unsaved, durables, Prod.mk.injEq] at hsave hkeep
  obtain ⟨hv, he, hc, -⟩ := hsave
  obtain ⟨hv', he', hc', -⟩ := hkeep
  exact ⟨rfl, { clearVolatile_emptied u with }, hv'.trans hv, he'.trans he, hc'.trans hc⟩

/-! ### Main power fails (18; 12 R263) -/

/-- PWRFAIL_N goes low. -/
def failing (s : State) : State := { s with power := { s.power with pwrfailN := false, pfSincePend := true } }

/-- The state in which the save begins. -/
def beforeSave (logs : Bool) (s : State) : State :=
  let u := raiseSample 274 (failing s)
  let u := if s.awake then stopOrders u else u
  let u := if logs && s.awake && !u.rind.guard then endLogWrite u else u
  if s.awake then depart u else u

/-- The save of the Brine, where one is made. -/
def holdupSave (awake ends : Bool) (s : State) : State :=
  if !awake || s.rind.guard || s.brine.mode == .writeThrough || s.debugBars then s
  else if ends then saveBrine s else partialSave s

/-- What the Sole keeps: the mark of the time, the status and the identity. -/
def keepForSole (awake : Bool) (s : State) : State :=
  let s := if awake then markTime (sampleTime s) else s
  if awake then keepStatus s else s

/-- Every domain but the battery's goes off. -/
def powerDown (s : State) : State :=
  let s := clearVolatile s
  let s := { s with power := { s.power with
                      st := if s.power.vbat then .battery else .off
                      domainsOff := (List.finRange 64).filter fun d => d.val != 0 || !s.power.vbat } }
  if s.power.vbat then s else soleLoss s

theorem exec_powerFail {s : State} (hb : s.power.st ≠ .battery) (ho : s.power.st ≠ .off) (ends logs : Bool) :
    exec (.powerFail ends logs) s = .next (powerDown
      (keepForSole s.awake (holdupSave s.awake ends (beforeSave logs s)))) := by
  change execPowerFail ends s logs = _
  unfold execPowerFail
  rw [if_neg (by simp [hb, ho])]
  rfl

theorem powerFail_silent {s : State} (h : s.power.st = .battery ∨ s.power.st = .off) (ends logs : Bool) :
    exec (.powerFail ends logs) s = .next s :=
  congrArg Host.Outcome.next (if_pos (by simpa using h))

section
variable (s : State)

theorem powerDown_emptied : Emptied (powerDown s) := by
  unfold powerDown
  dsimp only
  split
  · exact { clearVolatile_emptied s with }
  · exact { clearVolatile_emptied s with }

/-- What stands past the fall of the supply. -/
def mounted (s : State) := (s.vault, s.press.epoch, s.cellar, s.brine, s.smb, s.time.mark)

theorem powerDown_mounted : Keeps mounted s (powerDown s) := by
  have hkeep : Keeps mounted s (clearVolatile s) := by
    have hkeep := clearVolatile_durables s
    simp only [Keeps, durables, mounted, Prod.mk.injEq] at hkeep ⊢
    tauto
  unfold powerDown
  dsimp only
  split
  · exact hkeep
  · exact hkeep

theorem clearVolatile_power : (clearVolatile s).power = s.power := by
  have hkeep := clearVolatile_durables s
  simp only [Keeps, durables, Prod.mk.injEq] at hkeep
  tauto

theorem powerDown_power : (powerDown s).power.st = (if s.power.vbat then .battery else .off) ∧
    (powerDown s).power.pwrfailN = s.power.pwrfailN ∧
    ∀ d : Fin 64, d ∈ (powerDown s).power.domainsOff ↔ d ≠ 0 ∨ s.power.vbat = false := by
  have hpower := clearVolatile_power s
  have hdoms (v : Bool) (d : Fin 64) :
      d ∈ (List.finRange 64).filter (fun d => d.val != 0 || !v) ↔ d ≠ 0 ∨ v = false := by
    rw [List.mem_filter, and_iff_right (List.mem_finRange d), Bool.or_eq_true, bne_iff_ne, Fin.val_ne_zero_iff,
      Bool.not_eq_true']
  unfold powerDown
  dsimp only
  rw [hpower]
  cases s.power.vbat
  · exact ⟨rfl, rfl, hdoms false⟩
  · exact ⟨rfl, rfl, hdoms true⟩

end

/-! ### The stages of the fall -/

section
variable (s : State)

theorem stopOrders_stays : Stays s (stopOrders s) :=
  { (Kept.refl s).toStays with orders := fun _ => rfl, qps := fun _ => rfl }

theorem beforeSave_stays : Stays (failing s) (beforeSave false s) := by
  have hraise : Stays (failing s) (raiseSample 274 (failing s)) := (raiseSample_kept _ _).toStays
  have hstop : Stays (failing s) (if s.awake then stopOrders (raiseSample 274 (failing s))
      else raiseSample 274 (failing s)) := .ite _ ((stopOrders_stays _).after hraise) hraise
  have hlog (t : State) (h : Stays (failing s) t) :
      Stays (failing s) (if false && s.awake && !t.rind.guard then endLogWrite t else t) := by
    rw [Bool.false_and, Bool.false_and, if_neg Bool.false_ne_true]
    exact h
  have hdepart (t : State) (h : Stays (failing s) t) : Stays (failing s) (if s.awake then depart t else t) :=
    .ite _ ((depart_stays t).after h) h
  exact hdepart _ (hlog _ hstop)

theorem beforeSave_battery (logs : Bool) : Keeps battery s (beforeSave logs s) := by
  have hraise : Keeps battery s (raiseSample 274 (failing s)) := (raiseSample_kept _ _).battery.after rfl
  have hstop (t : State) (h : Keeps battery s t) : Keeps battery s (if s.awake then stopOrders t else t) :=
    .ite (Keeps.after (t := t) rfl h) h
  have hlog (t : State) (h : Keeps battery s t) :
      Keeps battery s (if logs && s.awake && !t.rind.guard then endLogWrite t else t) :=
    .ite ((endLogWrite_battery t).after h) h
  have hdepart (t : State) (h : Keeps battery s t) : Keeps battery s (if s.awake then depart t else t) :=
    .ite ((depart_stays t).battery.after h) h
  exact hdepart _ (hlog _ (hstop _ hraise))

theorem holdupSave_unsaved (awake ends : Bool) : Keeps unsaved s (holdupSave awake ends s) :=
  .ite (.refl s) (.ite (saveBrine_unsaved s) (partialSave_unsaved s))

theorem Keeps.steady {s t : State} (h : Keeps unsaved s t) : t.steady = s.steady := by
  simp only [Keeps, unsaved, Prod.mk.injEq] at h
  tauto

theorem keepForSole_kept (awake : Bool) : Kept s (keepForSole awake s) := by
  have hmark : Kept s (if awake then markTime (sampleTime s) else s) :=
    .ite ((markTime_kept _).after (sampleTime_kept s)) (.refl s)
  have hstatus (t : State) : Kept t (keepStatus t) := .of_spoken rfl
  unfold keepForSole
  exact .ite ((hstatus _).after hmark) hmark

end

/-- The state in which the supply falls. -/
def atFall (ends logs : Bool) (s : State) : State :=
  keepForSole s.awake (holdupSave s.awake ends (beforeSave logs s))

theorem atFall_battery (ends logs : Bool) (s : State) : (atFall ends logs s).power.vbat = s.power.vbat :=
  by
  have hsave : (holdupSave s.awake ends (beforeSave logs s)).power.vbat = (beforeSave logs s).power.vbat :=
    (congrArg Power.vbat (holdupSave_unsaved (beforeSave logs s) s.awake ends).steady :)
  exact (keepForSole_kept _ _).battery.trans (hsave.trans (beforeSave_battery s logs))

section
variable (s : State) (ends : Bool)

theorem atFall_rest : (atFall ends false s).vault = s.vault ∧ (atFall ends false s).press.epoch = s.press.epoch ∧
    (atFall ends false s).cellar = s.cellar ∧ (atFall ends false s).power.pwrfailN = false := by
  have hstays := beforeSave_stays s
  have hsave := holdupSave_unsaved (beforeSave false s) s.awake ends
  have hkept := keepForSole_kept (holdupSave s.awake ends (beforeSave false s)) s.awake
  have hsteady := hkept.steady.trans (hsave.steady.trans hstays.steady)
  simp only [Keeps, unsaved, Prod.mk.injEq] at hsave
  obtain ⟨hv, he, hc, -⟩ := hsave
  exact ⟨hkept.vault.trans (hv.trans hstays.vault), hkept.epoch.trans (he.trans hstays.epoch),
    hkept.cellar.trans (hc.trans hstays.cellar), (congrArg Power.pwrfailN hsteady :)⟩

theorem lcStatus_congr {s t : State} (hl : t.lc = s.lc) (hv : t.vault = s.vault)
    (hp : t.power.testEn = s.power.testEn) : t.lcStatus = s.lcStatus := by
  unfold State.lcStatus
  rw [hl, hv, hp]

theorem identity_congr {s t : State} (hl : t.lc = s.lc) (hv : t.vault = s.vault) : t.identity = s.identity := by
  unfold State.identity State.debugOn
  rw [hl, hv]

theorem debugBars_congr {s t : State} (hl : t.lc = s.lc) (hv : t.vault = s.vault) : t.debugBars = s.debugBars := by
  unfold State.debugBars State.debugOn State.serving
  rw [hl, hv]

theorem bankRetired_congr {s t : State} (h : t.cellar = s.cellar) (b : Nat) : t.bankRetired b = s.bankRetired b := by
  unfold State.bankRetired
  rw [h]

/-- The mark is made of the time as it stands. -/
theorem markTime_reads {s : State} (hb : s.bankRetired 0 = false) : (markTime s).time.mark.read = some s.time.t := by
  have hmark : markTime s = wakeBank 0 { s with time := { s.time with mark := s.time.mark.update s.time.t } } :=
    if_neg (by simp [hb])
  have htime (t : State) : (wakeBank 0 t).time = t.time := by
    have hkeep := wakeBank_unsaved 0 t
    simp only [Keeps, unsaved, Prod.mk.injEq] at hkeep
    tauto
  rw [hmark, htime]
  exact Copies.read_update _ _

/-- The mark of the fall is of its second (13 R280). -/
theorem atFall_mark (ha : s.awake = true) (hb : s.bankRetired 0 = false) : ∃ m,
    (atFall ends false s).time.mark.read = some m ∧ s.time.t ≤ m ∧ m / second = s.time.t / second := by
  have hstays := beforeSave_stays s
  have hsave := holdupSave_unsaved (beforeSave false s) s.awake ends
  simp only [Keeps, unsaved, Prod.mk.injEq] at hsave
  obtain ⟨-, -, hc, -, -, ht, -⟩ := hsave
  unfold atFall
  generalize holdupSave s.awake ends (beforeSave false s) = u at hc ht ⊢
  have hbank : (sampleTime u).bankRetired 0 = false :=
    (bankRetired_congr (hc.trans hstays.cellar) 0).trans hb
  refine ⟨(sampleTime u).time.t, ?_, ?_, ?_⟩
  · rw [ha]
    exact markTime_reads hbank
  · exact hstays.t_le.trans ((congrArg TimeBase.t ht).ge.trans (sampleTime_t_le u))
  · rw [sampleTime_second, ht]
    exact hstays.second

/-- The status and the identity are kept as they were. -/
theorem atFall_status (ha : s.awake = true) :
    (atFall ends false s).smb.lcKept = s.lcStatus ∧ (atFall ends false s).smb.idKept = fit s.identity 16 := by
  have hstays := beforeSave_stays s
  have hsave := holdupSave_unsaved (beforeSave false s) s.awake ends
  have hsteady := hsave.steady.trans hstays.steady
  simp only [Keeps, unsaved, Prod.mk.injEq] at hsave
  obtain ⟨hv, -, -, hl, -⟩ := hsave
  unfold atFall
  generalize holdupSave s.awake ends (beforeSave false s) = u at hv hl hsteady ⊢
  have hkept : Kept u (markTime (sampleTime u)) := (markTime_kept _).after (sampleTime_kept u)
  have hlc := hkept.lc.trans (hl.trans hstays.lc)
  have hvault := hkept.vault.trans (hv.trans hstays.vault)
  have htest : (markTime (sampleTime u)).power.testEn = s.power.testEn :=
    (congrArg Power.testEn (hkept.steady.trans hsteady) :)
  rw [ha]
  exact ⟨lcStatus_congr hlc hvault htest, congrArg (fit · 16) (identity_congr hlc hvault)⟩

/-- A save that ends counts one more and settles every counter entry. -/
theorem atFall_saved (ha : s.awake = true) (hb : s.bankRetired 0 = false) (hg : s.rind.guard = false)
    (hm : s.brine.mode = .holdup) (hd : s.debugBars = false) :
    (atFall true false s).brine.word.read = some ((s.saveCount + 1) * 256) ∧
    (atFall true false s).brine.entries = s.brine.entries.map Entry.settled := by
  have hstays := beforeSave_stays s
  have hkept := keepForSole_kept (holdupSave s.awake true (beforeSave false s)) s.awake
  unfold atFall
  rw [hkept.brine]
  generalize beforeSave false s = u at hstays ⊢
  have hguard : u.rind.guard = false := hstays.guard.trans hg
  have hbrine : u.brine = s.brine := hstays.brine
  have hdebug : u.debugBars = false := (debugBars_congr hstays.lc hstays.vault).trans hd
  have hmode : (u.brine.mode == .writeThrough) = false := by rw [hbrine, hm]; rfl
  have hsaves : holdupSave s.awake true u = saveBrine u := by
    unfold holdupSave
    rw [ha, hguard, hmode, hdebug]
    rfl
  have hcount : u.saveCount = s.saveCount := by
    unfold State.saveCount
    rw [hbrine]
  obtain ⟨hword, hentries⟩ := saveBrine_saves hdebug ((bankRetired_congr hstays.cellar 0).trans hb)
  rw [hsaves, hword, hentries, hcount, hbrine]
  exact ⟨rfl, rfl⟩

end

/-! ### Hold-up, the battery, and the wipe after retirement -/

/-- VHOLD has fallen under debug or in GUARD: nothing is saved (12 R263). -/
theorem exec_vholdLow_barred {s : State} (ha : s.awake = true) (hm : s.brine.mode = .holdup)
    (h : s.debugBars = true ∨ s.rind.guard = true) : exec .vholdLow s = .next (healthLog 0x0D 0xFF 0
      { s with brine := { s.brine with mode := .writeThrough }, power := { s.power with holdup := false } }) := by
  have hbars : (s.debugBars || s.rind.guard) = true := by simpa using h
  have hbars' : ({ s with brine := { s.brine with mode := .writeThrough } }.debugBars || s.rind.guard) = true := hbars
  change execVholdLow s = _
  unfold execVholdLow
  rw [if_neg (by simp [ha, hm])]
  simp only [hbars, hbars', if_true]

/-- VHOLD has fallen: the entries are made durable, and the word tells of it. -/
theorem exec_vholdLow {s : State} (ha : s.awake = true) (hm : s.brine.mode = .holdup)
    (hd : s.debugBars = false) (hg : s.rind.guard = false) :
    let t := writeDurable s
    let u := writeWord { t with brine := { t.brine with mode := .writeThrough } }
    exec .vholdLow s = .next (healthLog 0x0D 0xFF 0 { u with power := { u.power with holdup := false } }) := by
  have hsave := writeDurable_unsaved s
  have hguard : (writeDurable s).rind.guard = false := (writeDurable_mild s).guard.trans hg
  simp only [Keeps, unsaved, Prod.mk.injEq] at hsave
  obtain ⟨hv, -, -, hl, -⟩ := hsave
  have hbars : (s.debugBars || s.rind.guard) = false := by rw [hd, hg]; rfl
  have hbars' : ({ writeDurable s with brine := { (writeDurable s).brine with mode := .writeThrough } }.debugBars ||
      (writeDurable s).rind.guard) = false := by
    rw [hguard, Bool.or_false]
    exact (debugBars_congr (s := s) hl hv).trans hd
  change execVholdLow s = _
  unfold execVholdLow
  rw [if_neg (by simp [ha, hm])]
  simp only [hbars, hbars', Bool.false_eq_true, if_false]

theorem healthLog_alert (event subject detail : Nat) (s : State) :
    (healthLog event subject detail s).smb.alert = true :=
  (raiseSample_same _ _).get (fun t => t.smb.alert) fun _ => rfl

/-- A settled entry was so before, or its count is now what the durable copies read. -/
theorem settled_durable {l : List Entry} {e : Entry} (h : e ∈ l.map Entry.settled) :
    e.dist = 0 ∧ (e ∈ l ∨ e.dur.read = some ⟨e.inv, e.uses, e.gen⟩) := by
  obtain ⟨x, hx, rfl⟩ := List.mem_map.1 h
  refine ⟨x.settled_dist, ?_⟩
  unfold Entry.settled
  split
  · exact .inl hx
  · exact .inr (Copies.read_update _ _)

theorem settled_slots (l : List Entry) : (l.map Entry.settled).map (·.slot) = l.map (·.slot) := by
  rw [List.map_map]
  exact List.map_congr_left fun e _ => (Entry.settled_same e).1

theorem vholdLow_word {s : State} (hb : s.bankRetired 0 = false) :
    let t := writeDurable s
    let u := writeWord { t with brine := { t.brine with mode := .writeThrough } }
    u.brine.mode = .writeThrough ∧ u.brine.word.read = some (s.saveCount * 256 + 2) := by
  intro t u
  have hword : t.brine.word = s.brine.word := by
    change (writeDurable s).brine.word = _
    rw [writeDurable_serving s hb, (wakeIf_kept _ _).brine]
  have hcellar : t.cellar = s.cellar := by
    have hsave := writeDurable_unsaved s
    simp only [Keeps, unsaved, Prod.mk.injEq] at hsave
    tauto
  have hbank : ({ t with brine := { t.brine with mode := .writeThrough } } : State).bankRetired 0 = false :=
    (bankRetired_congr (s := s) hcellar 0).trans hb
  have hu : u.brine = { t.brine with mode := .writeThrough, word := t.brine.word.update (t.saveCount * 256 + 2) } :=
    (congrArg State.brine (if_neg (by simp [hbank]))).trans (wakeBank_kept _ _).brine
  have hcount : t.saveCount = s.saveCount := by
    unfold State.saveCount
    rw [hword]
  rw [hu, hcount]
  exact ⟨rfl, Copies.read_update _ _⟩

/-- A book after the wipe (03 R54). -/
def wipedBook (k : Book) : Book := { k with head := Head.zero, durable := Copies.both Head.zero, dist := 0 }

/-- Settles O49: what a reset clears and keeps, the stages of the fall of the supply one by one, hold-up and the
wipe. -/
theorem resetAndPower : Obligations.ResetAndPower := by
  unfold Obligations.ResetAndPower
  intro s cleared
  have hcleared {t : State} (h : Emptied t) (hv : t.vault = s.vault) (he : t.press.epoch = s.press.epoch)
      (hc : t.cellar = s.cellar) : cleared t :=
    ⟨h.orders, h.qps, h.sessions, h.loaned, h.queue, h.keys, h.supSram, h.frames, hv, he, hc⟩
  refine ⟨fun hst => ?_, fun hst => resetNAssert_silent hst false, fun hst => ?_, fun hb ho => ?_, fun ends hb ho => ?_,
    fun ends logs hst => powerFail_silent hst ends logs, fun ends logs hb ho => ?_, fun ha hg s' hs' ha' hg' => ?_,
    resetNAssert_unlogged, fun ha hm hbars => ?_, fun ha hm hd hg hb => ?_, fun hst => ?_, fun hst => ?_,
    fun hl hw ha => ?_⟩
  · obtain ⟨hdown, hemptied, hv, he, hc⟩ := resetDown_rest s
    refine ⟨resetDown s, (exec_resetNAssert hst false).trans ?_, hdown, hcleared hemptied hv he hc⟩
    rw [Bool.false_and, Bool.false_and, if_neg Bool.false_ne_true]
  · change execPowerUp s = _
    unfold execPowerUp
    obtain h | h := hst <;> rw [h]
  · change execPowerUp s = _
    unfold execPowerUp
    split
    · exact absurd ‹_› hb
    · exact absurd ‹_› ho
    · rfl
  · obtain ⟨hv, he, hc, hn⟩ := atFall_rest s ends
    obtain ⟨hdown, hpf, hdoms⟩ := powerDown_power (atFall ends false s)
    have hmounted := powerDown_mounted (atFall ends false s)
    simp only [Keeps, mounted, Prod.mk.injEq] at hmounted
    obtain ⟨hv', he', hc', hbr', hsmb', hmark'⟩ := hmounted
    rw [atFall_battery] at hdown
    simp only [atFall_battery] at hdoms
    refine ⟨powerDown (atFall ends false s), exec_powerFail hb ho ends false, hdown, hpf.trans hn,
      hcleared (powerDown_emptied _) (hv'.trans hv) (he'.trans he) (hc'.trans hc), fun ha hbank => ?_, fun ha => ?_,
      hdoms, fun hends ha hbank hg hm hd => ?_⟩
    · rw [hmark']
      exact atFall_mark s ends ha hbank
    · rw [hsmb']
      exact atFall_status s ends ha
    · subst hends
      obtain ⟨hword, hentries⟩ := atFall_saved s ha hbank hg hm hd
      rw [hbr', hword, hentries]
      exact ⟨rfl, settled_slots _, fun e he => settled_durable he⟩
  · obtain ⟨hdown, -, -⟩ := powerDown_power (atFall ends logs s)
    have hemptied := powerDown_emptied (atFall ends logs s)
    rw [atFall_battery] at hdown
    exact ⟨_, exec_powerFail hb ho ends logs, hdown, hemptied.orders, hemptied.qps, hemptied.sessions, hemptied.queue⟩
  · subst hs'
    rw [exec_resetNAssert_log ha hg, exec_resetNAssert_now ha']
  · refine ⟨_, exec_vholdLow_barred ha hm hbars, (healthLog_kept _ _ _ _).brine, ?_⟩
    exact (congrArg Power.holdup (healthLog_kept _ _ _ _).steady :)
  · obtain ⟨hmode, hword⟩ := vholdLow_word hb
    refine ⟨_, exec_vholdLow ha hm hd hg, ?_, (congrArg Power.holdup (healthLog_kept _ _ _ _).steady :),
      healthLog_alert _ _ _ _, ?_⟩
    · rw [(healthLog_kept _ _ _ _).brine]
      exact hmode
    · rw [(healthLog_kept _ _ _ _).brine]
      exact hword
  · refine ⟨_, congrArg Host.Outcome.next (if_pos (by simp [hst])), rfl, rfl, rfl, rfl, rfl⟩
  · exact congrArg Host.Outcome.next (if_neg (by simpa using hst))
  · refine ⟨_, congrArg Host.Outcome.next (if_pos (by simp [hl, hw, ha])), rfl, rfl, rfl, fun b => ?_, rfl, rfl⟩
    exact congrArg Book.head (vget_map wipedBook s.books b Book.zero Book.zero b.isLt)

end Sys2Proof.Machine
end

section
/-! What no function of the model touches: the queue of waiting commands (O57). One rule for each function that gives a
state, in the order of the model. -/

namespace Sys2Proof.Machine

@[simp] theorem foldl_pending {α : Type} {g : State → α → State} (h : ∀ s x, (g s x).pending = s.pending) (l : List α)
    (s : State) : (l.foldl g s).pending = s.pending := by
  induction l generalizing s with
  | nil => rfl
  | cons x l ih => rw [List.foldl_cons, ih, h]

@[simp] theorem State.freeNat_pending (s : State) :
  (State.freeNat s).2.pending = s.pending := rfl

@[simp] theorem State.drbgBytes_pending (s : State) (n : Nat) :
  (State.drbgBytes s n).2.pending = s.pending := rfl

@[simp] theorem wakeDomainN_pending (d : Nat) (s : State) : (wakeDomainN d s).pending = s.pending := by
  unfold wakeDomainN
  split <;> simp

@[simp] theorem wakeBank_pending (b : Nat) (s : State) :
    (wakeBank b s).pending = s.pending := by simp [wakeBank, apply_ite State.pending]

@[simp] theorem rewriteShared_pending (s : State) : (rewriteShared s).pending = s.pending := rfl

@[simp] theorem sampleTime_pending (s : State) : (sampleTime s).pending = s.pending := rfl

@[simp] theorem markTime_pending (s : State) :
    (markTime s).pending = s.pending := by simp [markTime, apply_ite State.pending]

@[simp] theorem outputsLow_pending (s : State) : (outputsLow s).pending = s.pending := rfl

@[simp] theorem latchTime_pending (s : State) : (latchTime s).pending = s.pending := rfl

@[simp] theorem quietTime_pending (s : State) :
    (quietTime s).pending = s.pending := by simp [quietTime, apply_ite State.pending]

@[simp] theorem raisePme_pending (s : State) :
    (raisePme s).pending = s.pending := by simp [raisePme, apply_ite State.pending]

@[simp] theorem signalVec_pending (v : Nat) (s : State) :
    (signalVec v s).pending = s.pending := by simp [signalVec, apply_ite State.pending]

@[simp] theorem wakeT0_pending (s : State) : (wakeT0 s).pending = s.pending := by simp [wakeT0, apply_ite State.pending]

@[simp] theorem notify_pending (n : Nat) (s : State) :
    (notify n s).pending = s.pending := by simp [notify, apply_ite State.pending]

@[simp] theorem notifyAll_pending (ns : List Nat) (s : State) :
    (notifyAll ns s).pending = s.pending := by simp [notifyAll]

@[simp] theorem deliver_pending (g : Nat) (s : State) : (deliver g s).pending = s.pending := by
  simp only [deliver, notifyAll_pending, setGroup_pending]
  exact foldl_pending (fun s n => setSrc_pending ..) _ s

@[simp] theorem countEvent_pending (g : Nat) (s : State) :
    (countEvent g s).pending = s.pending := by simp [countEvent, apply_ite State.pending]

@[simp] theorem raise_pending (n : Nat) (s : State) : (raise n s).pending = s.pending := by
  unfold raise
  split <;> simp [apply_ite State.pending]

@[simp] theorem sample_pending (n : Nat) (s : State) : (sample n s).pending = s.pending := by
  unfold sample
  split <;> simp [apply_ite State.pending]

@[simp] theorem raiseSample_pending (n : Nat) (s : State) :
    (raiseSample n s).pending = s.pending := by simp [raiseSample]

@[simp] theorem healthLog_pending (event : Nat) (subject : Nat) (detail : Nat) (s : State) :
    (healthLog event subject detail s).pending = s.pending := by simp [healthLog]

@[simp] theorem rindLog_pending (cls tier : Nat) (flags : Nat) (detail : BitVec 32) (s : State) :
    (rindLog cls tier flags detail s).pending = s.pending := rfl

@[simp] theorem keepStatus_pending (s : State) : (keepStatus s).pending = s.pending := rfl

@[simp] theorem logAer_pending (e : AerEntry) (s : State) : (logAer e s).pending = s.pending := rfl

@[simp] theorem writeCq_pending (q : Qp) (tag : BitVec 64) (st : Status) (epoch result bytes : Nat) (s : State) :
    (writeCq q tag st epoch result bytes s).pending = s.pending := by simp [writeCq, apply_ite State.pending]

@[simp] theorem payHalt_pending (n : BitVec 8) (s : State) : (payHalt n s).pending = s.pending := by
  unfold payHalt
  repeat' split
  all_goals simp

@[simp] theorem closeQp_pending (n : BitVec 8) (s : State) : (closeQp n s).pending = s.pending := by
  unfold closeQp
  split <;> simp [apply_ite State.pending]

@[simp] theorem haltQp_pending (n : BitVec 8) (cause : BitVec 32) (s : State) :
    (haltQp n cause s).pending = s.pending := by
  unfold haltQp
  split <;> simp [apply_ite State.pending]

@[simp] theorem complete_pending (uid : Nat) (st : Status) (epoch : Option Nat) (result bytes : Nat) (s : State) :
    (complete uid st epoch result bytes s).pending = s.pending := by
  unfold complete
  dsimp only
  repeat' split
  all_goals simp

@[simp] theorem refuse_pending (uid : Nat) (st : Status) (s : State) :
    (refuse uid st s).pending = s.pending := by simp [refuse]

@[simp] theorem mbStore_pending (off : Nat) (b : Bytes) (s : State) :
    (mbStore off b s).pending = s.pending := by simp [mbStore, apply_ite State.pending]

@[simp] theorem mbFinish_pending (result : Nat) (st : Status) (resp : Bytes) (s : State) :
    (mbFinish result st resp s).pending = s.pending := by simp [mbFinish, apply_ite State.pending]

@[simp] theorem sendFrame_pending (type : Nat) (s : State) :
    (sendFrame type s).pending = s.pending := by simp [sendFrame, apply_ite State.pending]

@[simp] theorem weltSend_pending (type : Nat) (s : State) :
    (weltSend type s).pending = s.pending := by simp [weltSend, apply_ite State.pending]

@[simp] theorem reticket_pending (ticket seq : Nat) (s : State) : (reticket ticket seq s).pending = s.pending := rfl

@[simp] theorem sendUnsent_pending (s : State) : (sendUnsent s).pending = s.pending := by simp [sendUnsent]

@[simp] theorem mirrorBrine_pending (s : State) :
    (mirrorBrine s).pending = s.pending := by simp [mirrorBrine, apply_ite State.pending]

@[simp] theorem wakeIf_pending (written : Bool) (s : State) :
    (wakeIf written s).pending = s.pending := by simp [wakeIf, apply_ite State.pending]

@[simp] theorem setEntry_pending (e : Entry) (s : State) : (setEntry e s).pending = s.pending := by simp [setEntry]

@[simp] theorem putBook_pending (b : Nat) (k : Book) (s : State) :
    (putBook b k s).pending = s.pending := by simp [putBook]

@[simp] theorem schedule_pending (c : Nat) (s : State) :
    (schedule c s).pending = s.pending := by simp [schedule, apply_ite State.pending]

@[simp] theorem yieldCore_pending (c : Nat) (s : State) : (yieldCore c s).pending = s.pending := by simp [yieldCore]

@[simp] theorem setData_pending (c f : Nat) (m : Mem) (s : State) : (setData c f m s).pending = s.pending := by
  unfold setData
  repeat' split
  all_goals simp

@[simp] theorem writeDst_pending (d : Dst) (b : Bytes) (s : State) : (writeDst d b s).pending = s.pending := by
  unfold writeDst
  repeat' split
  all_goals simp

@[simp] theorem noteOut_pending (c f uid a n : Nat) (s : State) : (noteOut c f uid a n s).pending = s.pending := by
  unfold noteOut
  split <;> simp [apply_ite State.pending]

@[simp] theorem writeOut_pending (r : Ref) (d : Dst) (b : Bytes) (s : State) :
    (writeOut r d b s).pending = s.pending := by
  unfold writeOut
  repeat' split
  all_goals simp

@[simp] theorem writeOuts_pending (r : Ref) (ds : List (Dst × Bytes)) (s : State) :
    (writeOuts r ds s).pending = s.pending := by simp [writeOuts]

@[simp] theorem scrubJob_pending (j : Job) (s : State) : (scrubJob j s).pending = s.pending := by
  unfold scrubJob
  split <;> simp [apply_ite State.pending]

@[simp] theorem freeFrame_pending (c f uid : Nat) (s : State) :
    (freeFrame c f uid s).pending = s.pending := by simp [freeFrame, apply_ite State.pending]

@[simp] theorem tryEnd_pending (c f : Nat) (s : State) : (tryEnd c f s).pending = s.pending := by
  unfold tryEnd
  repeat' split
  all_goals simp

@[simp] theorem tryExit_pending (c f : Nat) (s : State) : (tryExit c f s).pending = s.pending := by
  unfold tryExit
  repeat' split
  all_goals simp

@[simp] theorem tokDone_pending (c f uid t : Nat) (st : Status) (count : Nat) (v : Nat) (s : State) :
    (tokDone c f uid t st count v s).pending = s.pending := by
  unfold tokDone
  dsimp only
  repeat' split
  all_goals simp

@[simp] theorem finish_pending (r : Ref) (st : Status) (count v : Nat) (s : State) :
    (finish r st count v s).pending = s.pending := by
  unfold finish
  repeat' split
  all_goals simp

@[simp] theorem noteEpoch_pending (r : Ref) (e : Nat) (s : State) : (noteEpoch r e s).pending = s.pending := by
  unfold noteEpoch
  repeat' split
  all_goals simp

@[simp] theorem pressOwn_pending (items : List PItem) (s : State) :
    (pressOwn items s).pending = s.pending := by simp [pressOwn, apply_ite State.pending]

@[simp] theorem domainOffN_pending (d : Nat) (s : State) : (domainOffN d s).pending = s.pending := by
  unfold domainOffN
  split <;> simp

@[simp] theorem retireMark_pending (i cause : Nat) (s : State) : (retireMark i cause s).pending = s.pending := by
  cases h : chanDomain i <;> simp [retireMark, h]

@[simp] theorem retireReport_pending (i cause : Nat) (s : State) :
    (retireReport i cause s).pending = s.pending := by simp [retireReport, apply_ite State.pending]

@[simp] theorem testUnit_pending (i : Nat) (s : State) : (testUnit i s).pending = s.pending := by
  unfold testUnit
  split <;> simp [apply_ite State.pending]

@[simp] theorem keepWarm_pending (n i : Nat) (s : State) : (keepWarm n i s).pending = s.pending := by
  induction n generalizing s with
  | zero => rfl
  | succ n ih =>
    cases h : (chanDomain i).bind domainClass with
    | none => simp [keepWarm, h]
    | some x =>
      unfold keepWarm
      simp only [h]
      split
      · rfl
      · split <;> simp [ih]

@[simp] theorem firstTest_pending (i : Nat) (s : State) :
    (firstTest i s).pending = s.pending := by simp [firstTest, apply_ite State.pending]

@[simp] theorem testPowered_pending (s : State) :
    (testPowered s).pending = s.pending := by simp [testPowered, apply_ite State.pending]

@[simp] theorem setStream_pending (r : HashStream) (s : State) : (setStream r s).pending = s.pending := rfl

@[simp] theorem freeStreamRec_pending (idx : Nat) (s : State) : (freeStreamRec idx s).pending = s.pending := rfl

@[simp] theorem writeBlock_pending (r : HashStream) (dst : Dst) (s : State) :
    (writeBlock r dst s).pending = s.pending := by
  unfold writeBlock
  split <;> simp

@[simp] theorem beginStart_pending (j : Job) (d : Deferred) (s : State) : (beginStart j d s).2.pending = s.pending := by
  unfold beginStart
  repeat' split
  all_goals simp

@[simp] theorem beginUpdate_pending (j : Job) (d : Deferred) (s : State) :
    (beginUpdate j d s).2.pending = s.pending := by
  unfold beginUpdate
  repeat' split
  all_goals simp

@[simp] theorem beginFinish_pending (j : Job) (d : Deferred) (s : State) :
    (beginFinish j d s).2.pending = s.pending := by
  unfold beginFinish
  repeat' split
  all_goals simp

@[simp] theorem beginJob_pending (j : Job) (d : Deferred) (s : State) : (beginJob j d s).2.pending = s.pending := by
  unfold beginJob
  repeat' split
  all_goals simp

@[simp] theorem wakeEngine_pending (i d : Nat) (s : State) :
    (wakeEngine i d s).pending = s.pending := by simp [wakeEngine]

@[simp] theorem segDraw_pending (j : Job) (s : State) :
    (segDraw j s).pending = s.pending := by simp [segDraw, apply_ite State.pending]

@[simp] theorem vatStart_pending (s : State) : (vatStart s).pending = s.pending := by
  unfold vatStart
  dsimp only
  repeat' split
  all_goals simp

@[simp] theorem digestStart_pending (s : State) : (digestStart s).pending = s.pending := by
  unfold digestStart
  dsimp only
  repeat' split
  all_goals simp

@[simp] theorem compareFill_pending (s : State) : (compareFill s).pending = s.pending := by
  refine foldl_pending (fun s u => ?_) _ s
  dsimp only
  split
  · rfl
  · split <;> simp

@[simp] theorem runDraw_pending (s : State) : (runDraw s).2.pending = s.pending := by
  unfold runDraw
  split <;> simp

@[simp] theorem laneStart_pending (l : Nat) (j : Job) (w : Wrr) (s : State) :
    (laneStart l j w s).pending = s.pending := by simp [laneStart, apply_ite State.pending]

@[simp] theorem putLane_pending (j : Job) (s : State) : (putLane j s).pending = s.pending := rfl

@[simp] theorem laneNext_pending (l : Nat) (s : State) : (laneNext l s).pending = s.pending := by
  unfold laneNext
  repeat' split
  all_goals simp

@[simp] theorem lanesTake_pending (s : State) : (lanesTake s).pending = s.pending := by
  unfold lanesTake
  refine foldl_pending (fun s l => ?_) _ s
  split
  · rfl
  · split <;> simp

@[simp] theorem bumpJob_pending (s : State) : (bumpJob s).pending = s.pending := rfl

@[simp] theorem laneFill_pending (s : State) : (laneFill s).pending = s.pending := by simp [laneFill]

@[simp] theorem laneAdmit_pending (j : Job) (s : State) :
    (laneAdmit j s).pending = s.pending := by simp [laneAdmit, apply_ite State.pending]

@[simp] theorem wheelNext_pending (b : Nat) (s : State) : (wheelNext b s).pending = s.pending := by
  unfold wheelNext
  dsimp only
  repeat' split
  all_goals simp

@[simp] theorem removeJob_pending (j : Job) (s : State) : (removeJob j s).pending = s.pending := rfl

@[simp] theorem jobEnd_pending (j : Job) (s : State) : (jobEnd j s).pending = s.pending := by
  unfold jobEnd
  split <;> simp

@[simp] theorem jobFailed_pending (j : Job) (s : State) : (jobFailed j s).pending = s.pending := by
  unfold jobFailed
  split
  · simp
  · split <;> simp
  · split
    · cases acceptBlock s _ _ <;> simp
    · rfl
  · rfl

@[simp] theorem endJob_pending (j : Job) (st : Status) (s : State) : (endJob j st s).pending = s.pending := by
  unfold endJob
  repeat' split
  all_goals simp

@[simp] theorem vatEnds_pending (n : Nat) (s : State) : (vatEnds n s).pending = s.pending := by
  induction n generalizing s with
  | zero => rfl
  | succ n ih =>
    unfold vatEnds
    split
    · simp [ih]
    · rfl

@[simp] theorem stageJobs_pending (n : Nat) (s : State) : (stageJobs n s).pending = s.pending := by
  induction n generalizing s with
  | zero => rfl
  | succ n ih =>
    unfold stageJobs
    dsimp only
    split
    · split <;> simp [ih]
    · rfl

@[simp] theorem vatFill_pending (s : State) :
    (vatFill s).pending = s.pending := by simp [vatFill, apply_ite State.pending]

@[simp] theorem digestTurns_pending (n : Nat) (s : State) : (digestTurns n s).pending = s.pending := by
  induction n generalizing s with
  | zero => rfl
  | succ n ih =>
    unfold digestTurns
    dsimp only
    split
    · simp [ih]
    split
    · simp [ih]
    split <;> simp [ih]

@[simp] theorem digestFill_pending (s : State) :
    (digestFill s).pending = s.pending := by simp [digestFill, apply_ite State.pending]

@[simp] theorem laneEnds_pending (n : Nat) (s : State) : (laneEnds n s).pending = s.pending := by
  induction n generalizing s with
  | zero => rfl
  | succ n ih =>
    unfold laneEnds
    split
    · simp [ih]
    · rfl

@[simp] theorem engFill_pending (s : State) :
    (engFill s).pending = s.pending := by simp [engFill, apply_ite State.pending]

@[simp] theorem vatAdmit_pending (j : Job) (s : State) : (vatAdmit j s).pending = s.pending := by simp [vatAdmit]

@[simp] theorem digestAdmit_pending (j : Job) (s : State) :
    (digestAdmit j s).pending = s.pending := by simp [digestAdmit]

@[simp] theorem compareAdmit_pending (j : Job) (s : State) :
    (compareAdmit j s).pending = s.pending := by simp [compareAdmit]

@[simp] theorem stopJobs_pending (p : Job → Bool) (s : State) : (stopJobs p s).pending = s.pending := by simp [stopJobs]

@[simp] theorem addSuspension_pending (l us : Nat) (s : State) : (addSuspension l us s).pending = s.pending := by
  unfold addSuspension
  split <;> simp

@[simp] theorem countRun_pending (l : Nat) (s : State) : (countRun l s).pending = s.pending := rfl

@[simp] theorem dropJobs_pending (p : Job → Bool) (s : State) : (dropJobs p s).pending = s.pending := by
  simp only [dropJobs, engFill_pending]
  rw [foldl_pending fun s r => ?_, foldl_pending fun s j => scrubJob_pending ..]
  cases (s.eng.lanes.job r.job).filter p <;> simp

@[simp] theorem markFrameCards_pending (uid : Nat) (s : State) : (markFrameCards uid s).pending = s.pending := rfl

@[simp] theorem cutFrame_pending (c f : Nat) (st : Status) (bytes : Nat) (s : State) :
    (cutFrame c f st bytes s).pending = s.pending := by
  unfold cutFrame
  split <;> simp

@[simp] theorem endFrame_pending (c f : Nat) (st : Status) (s : State) : (endFrame c f st s).pending = s.pending := by
  unfold endFrame
  split <;> simp [apply_ite State.pending]

@[simp] theorem trap_pending (c f : Nat) (cause : Cause) (addr : Nat) (s : State) :
    (trap c f cause addr s).pending = s.pending := by
  unfold trap
  split <;> simp [apply_ite State.pending]

@[simp] theorem retireCore_pending (c : Nat) (s : State) : (retireCore c s).pending = s.pending := by simp [retireCore]

@[simp] theorem retire_pending (i cause : Nat) (s : State) :
    (retire i cause s).pending = s.pending := by simp [retire, apply_ite State.pending]

@[simp] theorem chanOp_pending (i : Nat) (fault : Bool) (s : State) :
    (chanOp i fault s).pending = s.pending := by simp [chanOp, apply_ite State.pending]

@[simp] theorem chanFault_pending (i o : Nat) (s : State) :
    (chanFault i o s).pending = s.pending := by simp [chanFault, apply_ite State.pending]

@[simp] theorem wakeOwn_pending (hash : Bool) (n : Nat) (s : State) : (wakeOwn hash n s).pending = s.pending := by
  induction n generalizing s with
  | zero => rfl
  | succ n ih =>
    cases h : s.ownUnit hash with
    | none => simp [wakeOwn, h]
    | some i =>
      unfold wakeOwn
      simp only [h]
      split <;> simp [ih]

@[simp] theorem ownDraws_pending (n : Nat) (s : State) : (ownDraws n s).pending = s.pending := by
  unfold ownDraws
  split
  · refine foldl_pending (fun s _ => ?_) _ s
    rfl
  · rfl

@[simp] theorem ownSegs_pending (hash : Bool) (keyed n : Nat) (s : State) :
    (ownSegs hash keyed n s).pending = s.pending := by
  unfold ownSegs
  dsimp only
  repeat' split
  all_goals simp

@[simp] theorem ownSealing_pending (s : State) : (ownSealing s).pending = s.pending := by simp [ownSealing]

@[simp] theorem ownLane_pending (i : Nat) (s : State) : (ownLane i s).pending = s.pending := by
  unfold ownLane
  dsimp only
  repeat' split
  all_goals simp

@[simp] theorem wakeBanks_pending (items : List PItem) (s : State) :
    (wakeBanks items s).pending = s.pending := by simp [wakeBanks]

@[simp] theorem pressState_pending (s : State) :
    (pressState s).pending = s.pending := by simp [pressState, apply_ite State.pending]

@[simp] theorem applyRecord_pending (s : State) : (applyRecord s).pending = s.pending := by
  unfold applyRecord
  split <;> simp

@[simp] theorem applyAll_pending (s : State) : (applyAll s).pending = s.pending := by simp [applyAll]

@[simp] theorem recoverFrom_pending (n e p : Nat) (s : State) : (recoverFrom n e p s).pending = s.pending := by
  induction n generalizing e p s with
  | zero => rfl
  | succ n ih =>
    unfold recoverFrom
    dsimp only
    split <;> simp [ih]

@[simp] theorem recover_pending (s : State) : (recover s).pending = s.pending := by simp [recover]

@[simp] theorem retireBank_pending (b : Nat) (s : State) :
    (retireBank b s).pending = s.pending := by simp [retireBank, apply_ite State.pending]

@[simp] theorem remapRow_pending (row : Nat) (s : State) :
    (remapRow row s).pending = s.pending := by simp [remapRow, apply_ite State.pending]

@[simp] theorem rowFault_pending (row : Nat) (s : State) :
    (rowFault row s).pending = s.pending := by simp [rowFault, apply_ite State.pending]

@[simp] theorem badRead_pending (addr len : Nat) (s : State) : (badRead addr len s).pending = s.pending := by
  unfold badRead
  split <;> simp

@[simp] theorem spoilLog_pending {α : Type} (t : Copies α) (copy detail : Nat) (s : State) :
    (spoilLog t copy detail s).pending = s.pending := by
  unfold spoilLog
  split <;> simp

@[simp] theorem spoilGroup_pending (a : Nat) (s : State) : (spoilGroup a s).pending = s.pending := by
  unfold spoilGroup
  extract_lets _ c t half
  have ht : t.pending = s.pending := rfl
  split
  · rfl
  split
  · exact (spoilLog_pending ..).trans ht
  split
  · exact (spoilLog_pending ..).trans ht
  split
  · split
    · exact ht
    · exact (spoilLog_pending ..).trans ht
  split
  · split
    · exact ht
    · exact (spoilLog_pending ..).trans ((setBook_pending ..).trans ht)
  split
  · rfl
  split
  · rfl
  split <;> rfl

@[simp] theorem groupRead_pending (ecc : Ecc) (a : Nat) (s : State) : (groupRead ecc a s).pending = s.pending := by
  unfold groupRead
  split <;> simp

@[simp] theorem slotRefused_pending (n : Nat) (st : Status) (s : State) : (slotRefused n st s).pending = s.pending := by
  unfold slotRefused
  dsimp only
  repeat' split
  all_goals simp

@[simp] theorem beginShared_pending (k : Nat) (s : State) : (beginShared k s).pending = s.pending := rfl

@[simp] theorem touchShared_pending (s : State) :
    (touchShared s).pending = s.pending := by simp [touchShared, apply_ite State.pending]

@[simp] theorem endStep_pending (c : Nat) (s : State) :
    (endStep c s).pending = s.pending := by simp [endStep, apply_ite State.pending]

/-- What an instruction answers keeps the queue `p`. -/
def IRes.Keeps (p : List Instr) : IRes → Prop
  | .ok _ s k => s.pending = p ∧ ∀ t, (k t).pending = t.pending
  | .jump _ _ s => s.pending = p
  | .keep s => s.pending = p
  | .trap _ _ => True
  | .stall => True

theorem runInstr_pending {c words : Nat} {s : State} {body : Nat → Fr → IRes}
    (h : ∀ f fr, (body f fr).Keeps s.pending) : (runInstr c words s body).pending = s.pending := by
  unfold runInstr
  split
  · rfl
  next f fr _ =>
    split
    · simp
    split
    · simp
    have hb := h f fr
    split <;> rename_i heq <;> rw [heq] at hb
    · simp [hb.2, hb.1]
    · simp [show _ = s.pending from hb]
    · simp [show _ = s.pending from hb]
    · simp

section
variable {s : State} {p : List Instr} (h : s.pending = p)
include h

theorem wr_keeps (fr : Fr) (d : BitVec 5) (v : Word) : (IRes.wr fr d v s).Keeps p := ⟨h, fun _ => rfl⟩

theorem ok_keeps (fr : Fr) : (IRes.ok fr s id).Keeps p := ⟨h, fun _ => rfl⟩

theorem refuse_keeps (c f : Nat) (fr : Fr) (t : BitVec 3) (st : Status) : (IRes.refuse c f fr t st s).Keeps p :=
  ⟨h, fun _ => finish_pending ..⟩

theorem issue_keeps {k : State → State} (hk : ∀ t, (k t).pending = t.pending) (fr : Fr) (t : BitVec 3) :
    (IRes.issue fr t s k).Keeps p := ⟨h, hk⟩

end

@[simp] theorem touchOperands_pending (c : Nat) (s : State) : (touchOperands c s).pending = s.pending := by
  unfold touchOperands
  split <;> simp [apply_ite State.pending]

theorem engIssue_pending {c : Fin 9} {t : BitVec 3} {s : State} {body : State → Nat → Fr → IRes}
    (h : ∀ u f fr, u.pending = s.pending → (body u f fr).Keeps s.pending) : (engIssue c t s body).pending = s.pending := by
  have htouch : (touchOperands c s).pending = s.pending := touchOperands_pending ..
  refine (runInstr_pending fun f fr => ?_).trans htouch
  rw [htouch]
  split
  · trivial
  · exact h _ f fr htouch

@[simp] theorem lateVat_pending (c f : Nat) (fr : Fr) (t : BitVec 3) (st : Status) (s : State) :
    (lateVat c f fr t st s).pending = s.pending := by simp [lateVat]

@[simp] theorem lateDigest_pending (c f : Nat) (fr : Fr) (t : BitVec 3) (st : Status) (s : State) :
    (lateDigest c f fr t st s).pending = s.pending := by simp [lateDigest]

@[simp] theorem lateNow_pending (c f : Nat) (fr : Fr) (t : BitVec 3) (st : Status) (s : State) :
    (lateNow c f fr t st s).pending = s.pending := by simp [lateNow]

@[simp] theorem aluBin_pending (c : Fin 9) (d a b : BitVec 5) (op : Word → Word → Word) (s : State) :
    (aluBin c d a b op s).pending = s.pending :=
  runInstr_pending fun _ fr => wr_keeps rfl fr d _

@[simp] theorem aluTrap_pending (c : Fin 9) (d a b : BitVec 5) (bad : Word → Word → Bool) (cause : Cause)
    (op : Word → Word → Word) (s : State) : (aluTrap c d a b bad cause op s).pending = s.pending := by
  refine runInstr_pending fun _ fr => ?_
  split
  · trivial
  · exact wr_keeps rfl ..

@[simp] theorem aluMov_pending (c : Fin 9) (d a b : BitVec 5) (p : Word → Bool) (s : State) :
    (aluMov c d a b p s).pending = s.pending := by
  refine runInstr_pending fun _ fr => ?_
  split
  · exact wr_keeps rfl ..
  · exact ok_keeps rfl ..

@[simp] theorem aluUn_pending (c : Fin 9) (d a : BitVec 5) (op : Word → Word) (s : State) :
    (aluUn c d a op s).pending = s.pending :=
  runInstr_pending fun _ fr => wr_keeps rfl fr d _

@[simp] theorem aluImm_pending (c : Fin 9) (d a : BitVec 5) (imm : BitVec 14) (op : Word → Word → Word) (s : State) :
    (aluImm c d a imm op s).pending = s.pending :=
  runInstr_pending fun _ fr => wr_keeps rfl fr d _

@[simp] theorem aluShift_pending (c : Fin 9) (d a : BitVec 5) (sh : BitVec 6) (op : Word → Nat → Word) (s : State) :
    (aluShift c d a sh op s).pending = s.pending :=
  runInstr_pending fun _ fr => wr_keeps rfl fr d _

@[simp] theorem claimed_pending (n : Nat) (s : State) : (claimed n s).pending = s.pending := rfl

@[simp] theorem rearm_pending (v : Nat) (s : State) : (rearm v s).pending = s.pending := by simp [rearm]

@[simp] theorem rearmAll_pending (s : State) : (rearmAll s).pending = s.pending := by simp [rearmAll]

@[simp] theorem claimRead_pending (host : Bool) (s : State) : (claimRead host s).2.pending = s.pending := by
  unfold claimRead
  dsimp only
  repeat' split
  all_goals simp

@[simp] theorem vclaimRead_pending (v : Nat) (s : State) : (vclaimRead v s).2.pending = s.pending := by
  unfold vclaimRead
  dsimp only
  repeat' split
  all_goals simp

@[simp] theorem completed_pending (n : Nat) (s : State) : (completed n s).pending = s.pending := by
  unfold completed
  dsimp only
  repeat' split
  all_goals simp

@[simp] theorem completeWrite_pending (host : Bool) (v : Nat) (s : State) :
    (completeWrite host v s).pending = s.pending := by simp [completeWrite, apply_ite State.pending]

@[simp] theorem signalAll_pending (s : State) : (signalAll s).pending = s.pending := by simp [signalAll]

@[simp] theorem gdisWrite_pending (host : Bool) (dis : Bool) (s : State) :
    (gdisWrite host dis s).pending = s.pending := by simp [gdisWrite, apply_ite State.pending]

@[simp] theorem ringWrite_pending (v : Nat) (s : State) :
    (ringWrite v s).pending = s.pending := by simp [ringWrite, apply_ite State.pending]

@[simp] theorem refusedWrite_pending (n : Nat) (grp : Bool) (full : Bool) (s : State) :
    (refusedWrite n grp full s).pending = s.pending := rfl

@[simp] theorem srcApply_pending (n : Nat) (v : BitVec 32) (s : State) :
    (srcApply n v s).pending = s.pending := by simp [srcApply, apply_ite State.pending]

@[simp] theorem srcWrite_pending (n : Nat) (v : BitVec 32) (s : State) :
    (srcWrite n v s).pending = s.pending := by simp [srcWrite, apply_ite State.pending]

@[simp] theorem supSrcWrite_pending (n : Nat) (v : BitVec 32) (s : State) :
    (supSrcWrite n v s).pending = s.pending := by simp [supSrcWrite, apply_ite State.pending]

@[simp] theorem grpWrite_pending (g : Nat) (v : BitVec 32) (s : State) :
    (grpWrite g v s).pending = s.pending := by simp [grpWrite, apply_ite State.pending]

@[simp] theorem completeRaw_pending (n : BitVec 8) (tag : BitVec 64) (st : Status) (s : State) :
    (completeRaw n tag st s).pending = s.pending := by
  unfold completeRaw
  split <;> simp

@[simp] theorem takeOrder_pending (n : BitVec 8) (es : List Bytes) (s : State) :
    (takeOrder n es s).pending = s.pending := by
  unfold takeOrder
  split <;> simp

@[simp] theorem fetchEntry_pending (q : Qp) (s : State) :
    (fetchEntry q s).pending = s.pending := by simp [fetchEntry, apply_ite State.pending]

@[simp] theorem checkAlarm_pending (s : State) :
    (checkAlarm s).pending = s.pending := by simp [checkAlarm, apply_ite State.pending]

@[simp] theorem alarmWrite_pending (v : Nat) (s : State) : (alarmWrite v s).pending = s.pending := by simp [alarmWrite]

@[simp] theorem fixEpoch_pending (ref : Ref) (s : State) : (fixEpoch ref s).pending = s.pending := by
  unfold fixEpoch
  split <;> simp [apply_ite State.pending]

@[simp] theorem settleOn_pending (rs : List Range) (ref : Ref) (st : Status) (count v : Nat)
    (outs : List (Dst × Bytes)) (s : State) :
    (settleOn rs ref st count v outs s).pending = s.pending := by
  unfold settleOn
  split <;> simp

@[simp] theorem settle_pending (ref : Ref) (st : Status) (count v : Nat) (outs : List (Dst × Bytes)) (s : State) :
    (settle ref st count v outs s).pending = s.pending := by simp [settle]

@[simp] theorem forward_pending (ref : Ref) (dst : Dst) (s : State) (rs : List Range) :
    (forward ref dst s rs).pending = s.pending := by
  simp [forward]

@[simp] theorem enqueueAhead_pending (p : Press) (s : State) : (enqueueAhead p s).pending = s.pending := rfl

@[simp] theorem pressFrom_pending (p : Press) (s : State) : (pressFrom p s).pending = s.pending := by
  unfold pressFrom
  split
  · simp
  · split <;> simp

/-- Whatever a use of a slot draws keeps the queue. -/
def Use.Keeps (p : List Instr) : Use → Prop
  | .got _ _ s => s.pending = p
  | .no _ s => s.pending = p
  | .wait s => s.pending = p

theorem drawUse_keeps (k : Slot) (inv : Bool) (s : State) : (drawUse k inv s).Keeps s.pending := by
  unfold drawUse
  dsimp only
  repeat' split
  all_goals simp [Use.Keeps]

theorem useSlot_keeps (rq : Rq) (n : Nat) (need : Need) (session : BitVec 32) (inv : Bool) (s : State) :
    (useSlot rq n need session inv s).Keeps s.pending := by
  unfold useSlot
  split
  · exact slotRefused_pending ..
  · exact drawUse_keeps ..

section
variable {rq : Rq} {n v : Nat} {need : Need} {session : BitVec 32} {inv : Bool} {k k' : Slot} {st : Status} {s s' : State}

theorem drawUse_got (h : drawUse k inv s = .got k' v s') : s'.pending = s.pending := by
  simpa only [h, Use.Keeps] using drawUse_keeps k inv s

theorem drawUse_no (h : drawUse k inv s = .no st s') : s'.pending = s.pending := by
  simpa only [h, Use.Keeps] using drawUse_keeps k inv s

theorem drawUse_wait (h : drawUse k inv s = .wait s') : s'.pending = s.pending := by
  simpa only [h, Use.Keeps] using drawUse_keeps k inv s

theorem useSlot_got (h : useSlot rq n need session inv s = .got k v s') : s'.pending = s.pending := by
  simpa only [h, Use.Keeps] using useSlot_keeps rq n need session inv s

theorem useSlot_no (h : useSlot rq n need session inv s = .no st s') : s'.pending = s.pending := by
  simpa only [h, Use.Keeps] using useSlot_keeps rq n need session inv s

theorem useSlot_wait (h : useSlot rq n need session inv s = .wait s') : s'.pending = s.pending := by
  simpa only [h, Use.Keeps] using useSlot_keeps rq n need session inv s

end

@[simp] theorem signWheel_pending (b slot : Nat) (msg : Bytes) (s : State) :
    (signWheel b slot msg s).pending = s.pending := by
  unfold signWheel
  split
  · rfl
  split
  next heq => simp [useSlot_got heq]
  next heq => exact useSlot_no heq
  next heq => exact useSlot_wait heq

@[simp] theorem signWheels_pending (b : Nat) (s : State) :
    (signWheels b s).pending = s.pending := by simp [signWheels, apply_ite State.pending]

@[simp] theorem closeWheel_pending (b : Nat) (merged final : Bool) (no covered : Nat) (s : State) :
    (closeWheel b merged final no covered s).pending = s.pending := by simp [closeWheel]

@[simp] theorem mergeWheels_pending (gaps : List Nat) (s : State) :
    (mergeWheels gaps s).pending = s.pending := by simp [mergeWheels, apply_ite State.pending]

@[simp] theorem writeGap_pending (b cause : Nat) (s : State) : (writeGap b cause s).pending = s.pending := by
  unfold writeGap
  extract_lets t k
  have ht : t.pending = s.pending := sampleTime_pending s
  split
  · exact ht
  dsimp only
  split
  · exact (setBook_pending ..).trans ht
  · exact (wakeBank_pending ..).trans ((setBook_pending ..).trans ht)

@[simp] theorem doSeal_pending (b : Nat) (posting : Bytes) (s : State) :
    (doSeal b posting s).2.2.pending = s.pending := by
  unfold doSeal
  dsimp only
  repeat' split
  all_goals simp

@[simp] theorem sealFault_pending (b : Nat) (st : Status) (s : State) :
    (sealFault b st s).pending = s.pending := by simp [sealFault, apply_ite State.pending]

@[simp] theorem drainSeals_pending (b : Nat) (s : State) : (drainSeals b s).pending = s.pending := by
  refine foldl_pending (fun s w => ?_) _ s
  dsimp only
  split
  · rfl
  · split <;> simp

@[simp] theorem resumeBooks_pending (before s : State) :
    (resumeBooks before s).pending = s.pending := by simp [resumeBooks, apply_ite State.pending]

@[simp] theorem timeToken_pending (ref : Ref) (cls : BitVec 2) (rs : List Range) (data : Bytes) (dst : Dst) (v : Nat)
    (s : State) : (timeToken ref cls rs data dst v s).pending = s.pending := by
  unfold timeToken
  split
  · simp
  split
  · simp
  split
  · simp
  split
  next heq => simp [useSlot_no heq]
  next heq => exact useSlot_wait heq
  next heq => simp [useSlot_got heq]

@[simp] theorem tuneAll_pending (s : State) : (tuneAll s).pending = s.pending := rfl

@[simp] theorem freeBehind_pending (r : Ref) (s : State) : (freeBehind r s).pending = s.pending := rfl

@[simp] theorem cardOutcome_pending (ch : Nat) (r : CardReq) (st : Status) (count v : Nat) (s : State) :
    (cardOutcome ch r st count v s).pending = s.pending := by
  unfold cardOutcome
  dsimp only
  split
  · simp
  · simp
  · rfl
  · simp [apply_ite State.pending]
  · simp

@[simp] theorem turnAway_pending (ch : Nat) (r : CardReq) (st : Status) (s : State) :
    (turnAway ch r st s).pending = s.pending := by
  rw [turnAway, cardOutcome_pending]
  split <;> simp

@[simp] theorem dropHead_pending (ch : Nat) (st : Status) (count v : Nat) (s : State) :
    (dropHead ch st count v s).pending = s.pending := by
  unfold dropHead
  dsimp only
  split <;> simp

@[simp] theorem serveHead_pending (ch : Nat) (s : State) : (serveHead ch s).pending = s.pending := by
  unfold serveHead
  dsimp only
  repeat' split
  all_goals simp

@[simp] theorem cardServe_pending (ch : Nat) (s : State) : (cardServe ch s).pending = s.pending := by simp [cardServe]

@[simp] theorem reapCard_pending (ch : Nat) (s : State) : (reapCard ch s).pending = s.pending := by
  simp only [reapCard]
  rw [foldl_pending fun s r => cardOutcome_pending .., setCard_pending]

@[simp] theorem cardServeAll_pending (s : State) : (cardServeAll s).pending = s.pending := by simp [cardServeAll]

@[simp] theorem reapCards_pending (s : State) : (reapCards s).pending = s.pending := by simp [reapCards]

@[simp] theorem cardAdmit_pending (ch : Nat) (r : CardReq) (s : State) : (cardAdmit ch r s).pending = s.pending := by
  unfold cardAdmit
  dsimp only
  repeat' split
  all_goals simp

@[simp] theorem retryAppends_pending (ch : Nat) (s : State) :
    (retryAppends ch s).pending = s.pending := by simp [retryAppends, apply_ite State.pending]

@[simp] theorem failCard_pending (ch : Nat) (st : CardReq → Status) (s : State) :
    (failCard ch st s).pending = s.pending := by
  simp only [failCard]
  rw [foldl_pending fun s r => cardOutcome_pending .., setCard_pending]

@[simp] theorem cardsRetired_pending (ch : Nat) (s : State) :
    (cardsRetired ch s).pending = s.pending := by simp [cardsRetired, apply_ite State.pending]

@[simp] theorem endSession_pending (x : Session) (s : State) : (endSession x s).pending = s.pending := rfl

@[simp] theorem endSessions_pending (p : Session → Bool) (s : State) : (endSessions p s).pending = s.pending :=
  foldl_pending (fun s x => endSession_pending x s) _ s

@[simp] theorem newBootNonce_pending (s : State) :
    (newBootNonce s).pending = s.pending := by simp [newBootNonce, apply_ite State.pending]

@[simp] theorem newStoreKey_pending (s : State) :
    (newStoreKey s).pending = s.pending := by simp [newStoreKey, apply_ite State.pending]

@[simp] theorem newStateKeys_pending (s : State) :
    (newStateKeys s).pending = s.pending := by simp [newStateKeys, apply_ite State.pending]

@[simp] theorem emptyLoans_pending (s : State) : (emptyLoans s).pending = s.pending := rfl

@[simp] theorem changeState_pending (l : Lifecycle) (s : State) :
    (changeState l s).pending = s.pending := by simp [changeState]

@[simp] theorem endKeyed_pending (s : State) : (endKeyed s).pending = s.pending := by simp [endKeyed]

@[simp] theorem retireDevice_pending (cause : Nat) (reason : Byte) (s : State) :
    (retireDevice cause reason s).pending = s.pending := by simp [retireDevice]

@[simp] theorem mend_pending (addr len : Nat) (s : State) : (mend addr len s).pending = s.pending := rfl

@[simp] theorem voidWrites_pending (p : Nat) (s : State) : (voidWrites p s).pending = s.pending := rfl

@[simp] theorem leaveGen_pending (first span g : Nat) (s : State) :
    (leaveGen first span g s).pending = s.pending := by simp [leaveGen]

@[simp] theorem dropSlot_pending (n : Nat) (s : State) : (dropSlot n s).pending = s.pending := by
  unfold dropSlot
  split <;> simp

@[simp] theorem flushMasters_pending (first span : Nat) (s : State) :
    (flushMasters first span s).pending = s.pending := rfl

@[simp] theorem writeSlot_pending (e head span : Nat) (attr : BitVec 64) (init gen : Nat) (owner : BitVec 64)
    (nonce : Option Bytes) (fixed : BitVec 32) (material : Bytes) (s : State) :
    (writeSlot e head span attr init gen owner nonce fixed material s).pending = s.pending := by
  simp [writeSlot, apply_ite State.pending]

@[simp] theorem putJournal_pending (ch first : Nat) (data : List Bytes) (s : State) :
    (putJournal ch first data s).pending = s.pending := rfl

@[simp] theorem writeVolume_pending (ch first : Nat) (data : List Bytes) (s : State) :
    (writeVolume ch first data s).pending = s.pending := rfl

@[simp] theorem writeArchive_pending (e ch book : Nat) (recs : List (Nat × Nat × Bytes)) (s : State) :
    (writeArchive e ch book recs s).pending = s.pending := rfl

@[simp] theorem openBook_pending (b n slot arch : Nat) (label : Bytes) (s : State) :
    (openBook b n slot arch label s).pending = s.pending := rfl

@[simp] theorem pressWheel_pending (b : Nat) (msg sig : Bytes) (no lastCtr : Nat) (s : State) :
    (pressWheel b msg sig no lastCtr s).pending = s.pending := rfl

@[simp] theorem forkEffects_pending (s : State) :
    (forkEffects s).pending = s.pending := by simp [forkEffects, apply_ite State.pending]

@[simp] theorem applyItem_pending (e : Nat) (s : State) (i : PItem) : (applyItem e s i).pending = s.pending := by
  cases i with
  | applet a =>
    simp only [applyItem]
    exact foldl_pending (fun s k => mend_pending ..) _ _
  | _ => simp [applyItem]

@[simp] theorem deliverWait_pending (w : WeltWait) (s : State) :
    (deliverWait w s).pending = s.pending := by simp [deliverWait]

@[simp] theorem ackUpTo_pending (n : Nat) (s : State) : (ackUpTo n s).pending = s.pending := by simp [ackUpTo]

@[simp] theorem modeChanged_pending (s : State) : (modeChanged s).pending = s.pending := by simp [modeChanged]

@[simp] theorem endLink_pending (s : State) :
    (endLink s).pending = s.pending := by simp [endLink, apply_ite State.pending]

@[simp] theorem leadDetached_pending (s : State) :
    (leadDetached s).pending = s.pending := by simp [leadDetached, apply_ite State.pending]

@[simp] theorem abortForwards_pending (s : State) : (abortForwards s).pending = s.pending := by simp [abortForwards]

@[simp] theorem followerStale_pending (s : State) :
    (followerStale s).pending = s.pending := by simp [followerStale, apply_ite State.pending]

@[simp] theorem startCopy_pending (s : State) :
    (startCopy s).pending = s.pending := by simp [startCopy, apply_ite State.pending]

@[simp] theorem weltCtl_pending (type : Nat) (s : State) :
    (weltCtl type s).pending = s.pending := by simp [weltCtl, apply_ite State.pending]

@[simp] theorem sendHello_pending (s : State) :
    (sendHello s).pending = s.pending := by simp [sendHello, apply_ite State.pending]

@[simp] theorem depart_pending (s : State) : (depart s).pending = s.pending := by simp [depart, apply_ite State.pending]

@[simp] theorem promote_pending (s : State) :
    (promote s).pending = s.pending := by simp [promote, apply_ite State.pending]

@[simp] theorem higherTerm_pending (t : BitVec 32) (s : State) :
    (higherTerm t s).pending = s.pending := by simp [higherTerm, apply_ite State.pending]

@[simp] theorem cardPressGone_pending (s : State) (i : PItem) : (cardPressGone s i).pending = s.pending := by
  unfold cardPressGone
  split <;> simp

@[simp] theorem wheelWaits_pending (r : Ref) (s : State) : (wheelWaits r s).pending = s.pending := by
  unfold wheelWaits
  split <;> simp

@[simp] theorem failPress_pending (p : Press) (st : Status) (s : State) :
    (failPress p st s).pending = s.pending := by simp [failPress]

@[simp] theorem cardCommitted_pending (ch : Nat) (s : State) :
    (cardCommitted ch s).pending = s.pending := by simp [cardCommitted, apply_ite State.pending]

@[simp] theorem eraseBegins_pending (ch : Nat) (format : Bool) (s : State) :
    (eraseBegins ch format s).pending = s.pending := by
  unfold eraseBegins
  dsimp only
  split
  all_goals
    simp only [turnAway_pending, cardAdmit_pending]
    rw [foldl_pending fun s r => ?_, setCard_pending, foldl_pending fun s p => wheelWaits_pending ..]
    split <;> simp

@[simp] theorem afterItem_pending (s : State) (i : PItem) : (afterItem s i).pending = s.pending := by
  unfold afterItem
  split <;> simp [apply_ite State.pending]

@[simp] theorem logOfficer_pending (p : Press) (s : State) : (logOfficer p s).pending = s.pending := by
  unfold logOfficer
  split <;> simp

@[simp] theorem mirrorPress_pending (len : Nat) (s : State) :
    (mirrorPress len s).pending = s.pending := by simp [mirrorPress, apply_ite State.pending]

@[simp] theorem commitPress_pending (retried : Bool) (p : Press) (s : State) :
    (commitPress retried p s).pending = s.pending := by simp [commitPress]

@[simp] theorem pressCommit_pending (how : PressEnd) (s : State) : (pressCommit how s).pending = s.pending := by
  unfold pressCommit
  dsimp only
  repeat' split
  all_goals simp

@[simp] theorem writeDurable_pending (s : State) :
    (writeDurable s).pending = s.pending := by simp [writeDurable, apply_ite State.pending]

@[simp] theorem reloadBrine_pending (o : BrineObj) (s : State) : (reloadBrine o s).pending = s.pending := by
  unfold reloadBrine
  split <;> simp [apply_ite State.pending]

@[simp] theorem loseRecord_pending (o : LostObj) (s : State) : (loseRecord o s).pending = s.pending := by
  unfold loseRecord
  split <;> simp

@[simp] theorem spoilCopy_pending (s : State) (x : LostObj × Fin 2) : (spoilCopy s x).pending = s.pending := by
  unfold spoilCopy
  dsimp only
  split <;> try (split <;> simp)
  all_goals simp

@[simp] theorem reseed_pending (s : State) : (reseed s).pending = s.pending := rfl

@[simp] theorem saveBrine_pending (s : State) :
    (saveBrine s).pending = s.pending := by simp [saveBrine, apply_ite State.pending]

@[simp] theorem zeroise_pending (s : State) : (zeroise s).pending = s.pending := rfl

@[simp] theorem dropCards_pending (st : Status) (ch : Nat) (s : State) : (dropCards st ch s).pending = s.pending := by
  simp only [dropCards]
  rw [foldl_pending fun s r => cardOutcome_pending .., setCard_pending]

@[simp] theorem dropWheels_pending (s : State) : (dropWheels s).pending = s.pending := rfl

@[simp] theorem guardSteps_pending (saved : Bool) (s : State) :
    (guardSteps saved s).pending = s.pending := by simp [guardSteps, apply_ite State.pending]

@[simp] theorem endLogInGuard_pending (s : State) : (endLogInGuard s).pending = s.pending := by simp [endLogInGuard]

@[simp] theorem guardTrip_pending (c : Nat) (s : State) (saved logWrite : Bool) :
    (guardTrip c s saved logWrite).pending = s.pending := by
  cases logWrite <;> simp [guardTrip]

@[simp] theorem eraseTrip_pending (c : Nat) (s : State) (logWrite : Bool) :
    (eraseTrip c s logWrite).pending = s.pending := by
  unfold eraseTrip
  dsimp only
  split <;> simp

@[simp] theorem oscillatorTrip_pending (detail : Nat) (s : State) :
    (oscillatorTrip detail s).pending = s.pending := by simp [oscillatorTrip, apply_ite State.pending]

@[simp] theorem respond_pending (c tier : Nat) (detail : BitVec 32) (s : State) (logWrite : Bool) :
    (respond c tier detail s logWrite).pending = s.pending := by
  unfold respond
  dsimp only
  repeat' split
  all_goals simp

@[simp] theorem detection_pending (s : State) : (detection s).pending = s.pending := by
  unfold detection
  dsimp only
  split
  · simp
  · split <;> simp

@[simp] theorem clearVolatile_pending (s : State) : (clearVolatile s).pending = s.pending := by simp [clearVolatile]

@[simp] theorem vaultLost_pending (s : State) : (vaultLost s).pending = s.pending := by simp [vaultLost]

@[simp] theorem readVault_pending (s : State) : (readVault s).pending = s.pending := by
  unfold readVault
  split <;> simp [apply_ite State.pending]

@[simp] theorem loseObj_pending (s : State) (o : LostObj) : (loseObj s o).pending = s.pending := by
  unfold loseObj
  split <;> simp

@[simp] theorem startPress_pending (items : List PItem) (s : State) :
    (startPress items s).pending = s.pending := by simp [startPress]

@[simp] theorem selectLast_pending (balls : BitVec 2) (pend : Option (BitVec 2)) (s : State) :
    (selectLast balls pend s).pending = s.pending := by simp [selectLast, apply_ite State.pending]

@[simp] theorem setDomains_pending (s : State) : (setDomains s).pending = s.pending := rfl

@[simp] theorem loadOn_pending (a : Applet) (c : Nat) (s : State) :
    (loadOn a c s).pending = s.pending := by simp [loadOn, apply_ite State.pending]

@[simp] theorem loadApplets_pending (s : State) : (loadApplets s).pending = s.pending := by
  unfold loadApplets
  refine foldl_pending (fun s e => ?_) _ s
  split
  · rfl
  · refine foldl_pending (fun s c => ?_) _ s
    split <;> simp

@[simp] theorem setBrineMode_pending (s : State) : (setBrineMode s).pending = s.pending := rfl

@[simp] theorem writeWord_pending (s : State) :
    (writeWord s).pending = s.pending := by simp [writeWord, apply_ite State.pending]

@[simp] theorem loadBrine_pending (s : State) :
    (loadBrine s).2.pending = s.pending := by simp [loadBrine, apply_ite State.pending]

@[simp] theorem soleRestart_pending (s : State) :
    (soleRestart s).pending = s.pending := by simp [soleRestart, apply_ite State.pending]

@[simp] theorem firstStart_pending (cut : Bool) (s : State) :
    (firstStart cut s).pending = s.pending := by simp [firstStart, apply_ite State.pending]

@[simp] theorem startLifecycle_pending (testEn cut : Bool) (s : State) :
    (startLifecycle testEn cut s).pending = s.pending := by
  unfold startLifecycle
  dsimp only
  repeat' split
  all_goals simp

@[simp] theorem seedMesh_pending (s : State) :
    (seedMesh s).pending = s.pending := by simp [seedMesh, apply_ite State.pending]

@[simp] theorem rindCheck_pending (tripped : List (Fin 13 × BitVec 32)) (s : State) :
    (rindCheck tripped s).2.2.pending = s.pending := by simp [rindCheck, apply_ite State.pending]

@[simp] theorem startChannels_pending (katFail : List (Fin 60)) (s : State) :
    (startChannels katFail s).pending = s.pending := by simp [startChannels, apply_ite State.pending]

@[simp] theorem sampleAll_pending (s : State) : (sampleAll s).pending = s.pending := by simp [sampleAll]

@[simp] theorem identifyCards_pending (s : State) : (identifyCards s).pending = s.pending := rfl

@[simp] theorem microFault_pending (copy : Nat) (s : State) :
    (microFault copy s).pending = s.pending := by simp [microFault]

@[simp] theorem checkMicrocode_pending (s : State) :
    (checkMicrocode s).pending = s.pending := by simp [checkMicrocode, apply_ite State.pending]

@[simp] theorem startGuard_pending (f : StartFacts) (c tier : Nat) (s : State) :
    (startGuard f c tier s).pending = s.pending := by simp [startGuard, apply_ite State.pending]

@[simp] theorem startServe_pending (f : StartFacts) (permit : Bool) (s : State) :
    (startServe f permit s).pending = s.pending := by
  unfold startServe
  dsimp only
  repeat' split
  all_goals simp

@[simp] theorem readPages_pending (s : State) : (readPages s).pending = s.pending := by simp [readPages]

@[simp] theorem start_pending (f : StartFacts) (s : State) :
    (start f s).pending = s.pending := by simp [start, apply_ite State.pending]

@[simp] theorem stopOrders_pending (s : State) : (stopOrders s).pending = s.pending := rfl

@[simp] theorem endLogWrite_pending (s : State) : (endLogWrite s).pending = s.pending := by simp [endLogWrite]

@[simp] theorem soleLoss_pending (s : State) : (soleLoss s).pending = s.pending := rfl

@[simp] theorem partialSave_pending (s : State) :
    (partialSave s).pending = s.pending := by simp [partialSave, apply_ite State.pending]

@[simp] theorem forgetJobs_pending (p : Job → Bool) (s : State) :
    (forgetJobs p s).pending = s.pending := by simp [forgetJobs]

@[simp] theorem resetHostEvents_pending (s : State) : (resetHostEvents s).pending = s.pending := rfl

@[simp] theorem cardsReset_pending (ch : Nat) (s : State) :
    (cardsReset ch s).pending = s.pending := by simp [cardsReset, apply_ite State.pending]

@[simp] theorem holdWarm_pending (on : Bool) (s : State) :
    (holdWarm on s).pending = s.pending := by simp [holdWarm, apply_ite State.pending]

@[simp] theorem refuseDormant_pending (r : Nat) (s : State) : (refuseDormant r s).pending = s.pending := rfl

@[simp] theorem requestDormant_pending (s : State) : (requestDormant s).pending = s.pending := by
  unfold requestDormant
  split <;> simp

@[simp] theorem writeReq_pending (req : Nat) (s : State) :
    (writeReq req s).pending = s.pending := by simp [writeReq, apply_ite State.pending]

@[simp] theorem flushGroups_pending (s : State) :
    (flushGroups s).pending = s.pending := by simp [flushGroups, apply_ite State.pending]

@[simp] theorem resume_pending (s : State) : (resume s).pending = s.pending := by simp [resume, apply_ite State.pending]

@[simp] theorem katsDue_pending (katFail : List (Fin 60)) (s : State) :
    (katsDue katFail s).pending = s.pending := by simp [katsDue]

@[simp] theorem stopCards_pending (r : Ref) (s : State) : (stopCards r s).pending = s.pending := by simp [stopCards]

@[simp] theorem abortOrder_pending (o : Order) (s : State) : (abortOrder o s).2.pending = s.pending := by
  unfold abortOrder
  repeat' split
  all_goals simp

@[simp] theorem result_pending (r : BitVec 4) (s : State) : (result r s).pending = s.pending := rfl

@[simp] theorem createQp_pending (n : BitVec 8) (cls : BitVec 2) (s : State) :
    (createQp n cls s).pending = s.pending := by simp [createQp, apply_ite State.pending]

@[simp] theorem deleteQp_pending (n : BitVec 8) (s : State) : (deleteQp n s).pending = s.pending := by
  unfold deleteQp
  dsimp only
  repeat' split
  all_goals simp

@[simp] theorem queueCmd_pending (op : Nat) (cls : BitVec 2) (n : BitVec 8) (s : State) :
    (queueCmd op cls n s).pending = s.pending := by
  unfold queueCmd
  repeat' split
  all_goals simp

@[simp] theorem sqTail_pending (n : BitVec 8) (ix : Nat) (s : State) : (sqTail n ix s).pending = s.pending := by
  unfold sqTail
  split <;> simp [apply_ite State.pending]

@[simp] theorem cqHead_pending (n : BitVec 8) (ix : Nat) (s : State) : (cqHead n ix s).pending = s.pending := by
  unfold cqHead
  split <;> simp [apply_ite State.pending]

@[simp] theorem setMsix_pending (e : MsixEntry) (s : State) : (setMsix e s).pending = s.pending := rfl

@[simp] theorem unmasked_pending (v : Nat) (s : State) :
    (unmasked v s).pending = s.pending := by simp [unmasked, apply_ite State.pending]

@[simp] theorem msixControl_pending (enable funcMask : Bool) (s : State) :
    (msixControl enable funcMask s).pending = s.pending := by simp [msixControl]

@[simp] theorem writeMsix_pending (n i : Nat) (v : BitVec 32) (s : State) :
    (writeMsix n i v s).pending = s.pending := by
  unfold writeMsix
  split <;> simp

@[simp] theorem bar0Write_pending (off : Nat) (v : BitVec 32) (s : State) :
    (bar0Write off v s).pending = s.pending := by simp [bar0Write, apply_ite State.pending]

@[simp] theorem bar2Write_pending (off : Nat) (v : BitVec 32) (s : State) :
    (bar2Write off v s).pending = s.pending := by simp [bar2Write, apply_ite State.pending]

@[simp] theorem stepDown_pending (ch : Nat) (s : State) :
    (stepDown ch s).pending = s.pending := by simp [stepDown, apply_ite State.pending]

@[simp] theorem setHead_pending (ch : Nat) (r : CardReq) (s : State) : (setHead ch r s).pending = s.pending := rfl

@[simp] theorem endHead_pending (ch : Nat) (st : Status) (count : Nat) (s : State) :
    (endHead ch st count s).pending = s.pending := by simp [endHead]

@[simp] theorem readStep_pending (ch : Nat) (r : CardReq) (s : State) :
    (readStep ch r s).pending = s.pending := by simp [readStep, apply_ite State.pending]

@[simp] theorem officerStep_pending (entry : Bytes) (r : CardReq) (s : State) :
    (officerStep entry r s).pending = s.pending := by
  unfold officerStep
  dsimp only
  repeat' split
  all_goals simp

@[simp] theorem cardPress_pending (ch : Nat) (r : CardReq) (s : State) : (cardPress ch r s).pending = s.pending := by
  unfold cardPress
  dsimp only
  repeat' split
  all_goals simp

@[simp] theorem homeStep_pending (ch : Nat) (r : CardReq) (s : State) : (homeStep ch r s).pending = s.pending := by
  unfold homeStep
  dsimp only
  repeat' split
  all_goals simp

@[simp] theorem erased_pending (ch : Nat) (s : State) : (erased ch s).pending = s.pending := rfl

@[simp] theorem goodStep_pending (ch : Nat) (r : CardReq) (s : State) : (goodStep ch r s).pending = s.pending := by
  unfold goodStep
  dsimp only
  repeat' split
  all_goals simp

@[simp] theorem quarantine_pending (ch : Nat) (r : CardReq) (s : State) :
    (quarantine ch r s).pending = s.pending := by simp [quarantine, apply_ite State.pending]

@[simp] theorem transferFault_pending (ch : Nat) (s : State) : (transferFault ch s).pending = s.pending := by
  unfold transferFault
  dsimp only
  repeat' split
  all_goals simp

@[simp] theorem identFault_pending (ch : Nat) (s : State) :
    (identFault ch s).pending = s.pending := by simp [identFault, apply_ite State.pending]

@[simp] theorem checkFailed_pending (ch : Nat) (s : State) : (checkFailed ch s).pending = s.pending := by
  unfold checkFailed
  dsimp only
  repeat' split
  all_goals simp

@[simp] theorem rejectCard_pending (ch : Nat) (s : State) :
    (rejectCard ch s).pending = s.pending := by simp [rejectCard]

@[simp] theorem officerMedium_pending (i : CardIdent) (s : State) :
    (officerMedium i s).pending = s.pending := by simp [officerMedium, apply_ite State.pending]

@[simp] theorem identified_pending (ch : Nat) (i : CardIdent) (s : State) :
    (identified ch i s).pending = s.pending := by simp [identified, apply_ite State.pending]

@[simp] theorem cardGood_pending (ch : Nat) (s : State) : (cardGood ch s).pending = s.pending := by
  unfold cardGood
  dsimp only
  repeat' split
  all_goals simp

@[simp] theorem cardFrame_pending (ch : Nat) (f : CardFrame) (s : State) :
    (cardFrame ch f s).pending = s.pending := by simp [cardFrame, apply_ite State.pending]

@[simp] theorem switchFails_pending (ch : Nat) (s : State) :
    (switchFails ch s).pending = s.pending := by simp [switchFails, apply_ite State.pending]

@[simp] theorem cardBetween_pending (ch : Nat) (s : State) : (cardBetween ch s).pending = s.pending := rfl

@[simp] theorem tuned_pending (ch run first : Nat) (s : State) :
    (tuned ch run first s).pending = s.pending := by simp [tuned, apply_ite State.pending]

@[simp] theorem cvissGo_pending (ref : Ref) (ch : Nat) (write : Bool) (first : Nat) (rg : Range) (dst : Dst) (data : Bytes)
    (s : State) : (cvissGo ref ch write first rg dst data s).pending = s.pending := by
  unfold cvissGo
  split
  · simp
  · split <;> simp

section
variable {p : List Instr}

@[simp] theorem keeps_trap (cause : Cause) (a : Nat) : (IRes.trap cause a).Keeps p := trivial

@[simp] theorem keeps_stall : IRes.stall.Keeps p := trivial

@[simp] theorem keeps_keep {s : State} : (IRes.keep s).Keeps p ↔ s.pending = p := Iff.rfl

@[simp] theorem keeps_ok {fr : Fr} {s : State} {k : State → State} :
    (IRes.ok fr s k).Keeps p ↔ s.pending = p ∧ ∀ t, (k t).pending = t.pending := Iff.rfl

theorem keeps_ite {P : Prop} [Decidable P] {a b : IRes} (ha : a.Keeps p) (hb : b.Keeps p) :
    (if P then a else b).Keeps p := by
  split
  · exact ha
  · exact hb

@[simp] theorem keeps_wr {fr : Fr} {d : BitVec 5} {v : Word} {s : State} : (IRes.wr fr d v s).Keeps p ↔ s.pending = p :=
  and_iff_left fun _ => rfl

@[simp] theorem keeps_issue {fr : Fr} {t : BitVec 3} {s : State} {k : State → State} :
    (IRes.issue fr t s k).Keeps p ↔ s.pending = p ∧ ∀ t, (k t).pending = t.pending := Iff.rfl

@[simp] theorem keeps_refuse {c f : Nat} {fr : Fr} {t : BitVec 3} {st : Status} {s : State} :
    (IRes.refuse c f fr t st s).Keeps p ↔ s.pending = p := and_iff_left fun _ => finish_pending ..

variable {c f : Nat} {fr : Fr} {t : BitVec 3} {s : State} (h : s.pending = p)
include h

theorem cipherBuffers_keeps {max : Nat} {dst aux : Bool} {k : Range → Range → Range → IRes}
    (hk : ∀ a b x, (k a b x).Keeps p) : (cipherBuffers c f fr t s max dst aux k).Keeps p := by
  unfold cipherBuffers
  dsimp only
  split
  · simpa using h
  split
  · exact hk ..
  all_goals simp

theorem digestBuffers_keeps {src dst : Bool} {aux : Option Nat} {k : Range → Range → Range → IRes}
    (hk : ∀ a b x, (k a b x).Keeps p) : (digestBuffers c f fr t s src dst aux k).Keeps p := by
  unfold digestBuffers
  dsimp only
  split
  · simpa using h
  split
  · exact hk ..
  all_goals simp

theorem withKey_keeps {n : Nat} {need : Need} {inv : Bool} {late : Status → State → State}
    {fcheck : Slot → Option Status} {go : Slot → Nat → State → IRes} (hl : ∀ st t, (late st t).pending = t.pending)
    (hgo : ∀ k v t, t.pending = p → (go k v t).Keeps p) : (withKey fr t s n need inv late fcheck go).Keeps p := by
  unfold withKey
  dsimp only
  split
  · simp
  split
  · simp [h, hl]
  split
  · simp [h, hl]
  split
  · simp [h, hl]
  split
  next heq => simp [(drawUse_no heq).trans h, hl]
  next heq => simp [(drawUse_wait heq).trans h]
  next heq => exact hgo _ _ _ ((drawUse_got heq).trans h)

end

@[simp] theorem cvissIssue_pending (c : Fin 9) (t : BitVec 3) (h : BitVec 4) (write : Bool) (s : State) :
    (cvissIssue c t h write s).pending = s.pending := by
  refine engIssue_pending fun u f fr hu => ?_
  dsimp only
  repeat' split
  all_goals simp [hu]

@[simp] theorem wcpyIssue_pending (c : Fin 9) (t : BitVec 3) (h : BitVec 4) (toWindow : Bool) (s : State) :
    (wcpyIssue c t h toWindow s).pending = s.pending := by
  refine engIssue_pending fun u f fr hu => ?_
  dsimp only
  repeat' split
  all_goals simp [hu]

@[simp] theorem xtsIssue_pending (c : Fin 9) (t : BitVec 3) (h : BitVec 4) (enc : Bool) (s : State) :
    (xtsIssue c t h enc s).pending = s.pending := by
  refine engIssue_pending fun u f fr hu => ?_
  dsimp only
  split
  · refine cipherBuffers_keeps hu fun src dst _ => ?_
    refine keeps_ite (by simp) (keeps_ite (by simp [hu]) (keeps_ite (by simp [hu]) (keeps_ite (by simp) ?_)))
    exact withKey_keeps hu (fun _ _ => lateVat_pending ..) fun k v t ht => by simp [ht]
  · simp

@[simp] theorem tdeaRefused_pending (c : Fin 9) (t : BitVec 3) (h : BitVec 4) (s : State) :
    (tdeaRefused c t h s).pending = s.pending := by
  refine engIssue_pending fun u f fr hu => ?_
  split
  · simp
  · exact cipherBuffers_keeps hu fun _ _ _ => by simp [hu]

theorem goTo_keeps {p : List Instr} {s : State} (h : s.pending = p) (fr : Fr) (t : BitVec 32) : (goTo fr t s).Keeps p := by
  unfold goTo
  split
  · trivial
  · exact h

@[simp] theorem branch_pending (c : Fin 9) (a b : BitVec 5) (off : BitVec 14) (p : Word → Word → Bool) (s : State) :
    (branch c a b off p s).pending = s.pending := by
  refine runInstr_pending fun _ fr => ?_
  split
  · exact goTo_keeps rfl ..
  · exact ok_keeps rfl ..

@[simp] theorem takeExit_pending (c : Nat) (s : State) : (takeExit c s).pending = s.pending := by
  unfold takeExit
  split <;> simp

@[simp] theorem segWrite_pending (j : Job) (i : Nat) (s : State) : (segWrite j i s).2.pending = s.pending := by
  unfold segWrite
  repeat' split
  all_goals simp

@[simp] theorem segDone_pending (j : Job) (i : Nat) (put : Job → State → State) (s : State)
    (hput : ∀ a s, (put a s).pending = s.pending) :
    (segDone j i put s).pending = s.pending := by
  simp only [segDone]
  repeat' split
  all_goals simp_all

@[simp] theorem putVat_pending (j : Job) (s : State) : (putVat j s).pending = s.pending := rfl

@[simp] theorem putDigest_pending (j : Job) (s : State) : (putDigest j s).pending = s.pending := rfl

@[simp] theorem rateCount_pending (fault : Bool) (s : State) :
    (rateCount fault s).pending = s.pending := by simp [rateCount, apply_ite State.pending]

@[simp] theorem laneRetired_pending (l : Nat) (s : State) :
    (laneRetired l s).pending = s.pending := by simp [laneRetired, apply_ite State.pending]

@[simp] theorem reportLane_pending (l : Nat) (j : Job) (s : State) : (reportLane l j s).pending = s.pending := by
  unfold reportLane
  split <;> simp

@[simp] theorem laneCorrected_pending (l : Nat) (s : State) :
    (laneCorrected l s).pending = s.pending := by simp [laneCorrected]

@[simp] theorem laneFault_pending (l : Nat) (j : Job) (s : State) :
    (laneFault l j s).pending = s.pending := by simp [laneFault, apply_ite State.pending]

@[simp] theorem ownFaults_pending (hash keyed : Bool) (n : Nat) (s : State) :
    (ownFaults hash keyed n s).pending = s.pending := by
  induction n generalizing s with
  | zero => rfl
  | succ n ih =>
    unfold ownFaults
    dsimp only
    split <;> simp [ih]

@[simp] theorem digestAndSeal_pending (rs : List Range) (ref : Ref) (b : Nat) (posting : Bytes) (dst : Dst)
    (count faults : Nat) (s : State) :
    (digestAndSeal rs ref b posting dst count faults s).pending = s.pending := by simp [digestAndSeal, apply_ite State.pending]

@[simp] theorem sealFrom_pending (rs : List Range) (ref : Ref) (b : Nat) (posting : Bytes) (dst : Dst) (faults : Nat)
    (s : State) : (sealFrom rs ref b posting dst faults s).pending = s.pending := by
  unfold sealFrom
  dsimp only
  split
  · simp
  split
  · simp
  split
  · simp
  split
  · split <;> simp
  · simp

@[simp] theorem laneIssue_pending (c : Fin 9) (t : BitVec 3) (h : Option (BitVec 4)) (fn : LaneFn) (s : State) :
    (laneIssue c t h fn s).pending = s.pending := by
  refine engIssue_pending fun u f fr hu => ?_
  dsimp only
  split
  · simp
  next key _ =>
    split
    · simp [hu]
    refine digestBuffers_keeps hu fun src dst aux => ?_
    refine keeps_ite (by simp) (keeps_ite (by simp [hu]) (keeps_ite (by simp [hu]) ?_))
    cases key with
    | bare =>
      dsimp only
      repeat' split
      all_goals simp [hu]
    | slot n =>
      dsimp only
      split
      · simp
      · exact withKey_keeps hu (fun _ _ => lateNow_pending ..) fun k v t ht => by simp [ht]
    | operand o =>
      dsimp only
      repeat' split
      all_goals simp [hu]

theorem retainSlot_pending {uid obj l : Nat} {s s' : State} (h : retainSlot uid obj s = .ok (l, s')) :
    s'.pending = s.pending := by
  unfold retainSlot at h
  repeat' split at h
  all_goals cases h
  all_goals rfl

@[simp] theorem keygenIssue_pending (c : Fin 9) (t : BitVec 3) (fnNo kind privLen pubLen : Nat) (par : Option Nat)
    (anyOf : List Nat) (cost : LaneCost) (s : State) :
    (keygenIssue c t fnNo kind privLen pubLen par anyOf cost s).pending = s.pending := by
  refine engIssue_pending fun u f fr hu => ?_
  dsimp only
  split
  · simp
  · simp
  split
  · refine digestBuffers_keeps hu fun _ dst _ => ?_
    split
    · simp
    split
    · simp [hu]
    split
    · simp [hu]
    split
    · simp [hu]
    split
    · simp [hu]
    split
    · simp [hu]
    next hret => simp [(retainSlot_pending hret).trans hu]
  · simp

@[simp] theorem unwrapSegs_pending (n : Nat) (s : State) : (unwrapSegs n s).pending = s.pending := by simp [unwrapSegs]

theorem chosen_pending {s s' : State} {n : BitVec 8} {o : Order} (h : s.chosen n = some (o, s')) :
    s'.pending = s.pending := by
  unfold State.chosen at h
  split at h
  · cases h
  split at h
  · cases h
  split at h <;> cases h
  rfl

@[simp] theorem serve_pending {n : BitVec 8} {want : Order → Bool} {s : State} {k : Order → State → State}
    (hk : ∀ o s, (k o s).pending = s.pending) : (serve n want s k).pending = s.pending := by
  unfold serve
  split
  · rfl
  split
  · rfl
  next heq =>
    split
    · rfl
    split
    · simp [chosen_pending heq]
    · rw [hk, chosen_pending heq]

@[simp] theorem admitted_pending (o : Order) (s : State) : (admitted o s).pending = s.pending := rfl

@[simp] theorem startFrame_pending (c f : Nat) (o : Order) (fr : Fr) (s : State) :
    (startFrame c f o fr s).pending = s.pending := by simp [startFrame]

@[simp] theorem reloadApplet_pending (c id : Nat) (s : State) : (reloadApplet c id s).pending = s.pending := rfl

@[simp] theorem callOn_pending (c : Nat) (o : Order) (s : State) : (callOn c o s).pending = s.pending := by
  unfold callOn
  dsimp only
  repeat' split
  all_goals simp

@[simp] theorem endSessionFrames_pending (h : BitVec 32) (st : Status) (s : State) :
    (endSessionFrames h st s).pending = s.pending := by simp [endSessionFrames, apply_ite State.pending]

@[simp] theorem deviceFault_pending (x : DevFault) (o : Order) (s : State) : (deviceFault x o s).pending = s.pending := by
  unfold deviceFault
  dsimp only
  split
  · simp
  · split <;> simp
  · split <;> simp

@[simp] theorem packetOf_pending (uid : Nat) (x : Packet) (s : State) : (packetOf uid x s).pending = s.pending := by
  unfold packetOf
  split <;> simp

@[simp] theorem runOn_pending (c : Nat) (o : Order) (s : State) : (runOn c o s).pending = s.pending := by
  unfold runOn
  repeat' split
  all_goals simp

@[simp] theorem sectorHost_pending (v : Nat) (o : Order) (s : State) : (sectorHost v o s).pending = s.pending := by
  unfold sectorHost
  dsimp only
  split
  · simp
  split
  · simp
  split
  · simp
  split
  next heq => simp [drawUse_no heq]
  next heq => simp [drawUse_wait heq]
  next heq => simp [drawUse_got heq]

@[simp] theorem sectorCard_pending (ch : Nat) (o : Order) (s : State) : (sectorCard ch o s).pending = s.pending := by
  unfold sectorCard
  split
  · simp
  split
  · simp
  · split <;> simp

@[simp] theorem sealOrder_pending (faults : Nat) (o : Order) (s : State) : (sealOrder faults o s).pending = s.pending := by
  unfold sealOrder
  dsimp only
  split
  · simp
  split
  · simp
  split <;> simp

@[simp] theorem placeSession_pending (qp : BitVec 8) (owner : BitVec 64) (vol : Option Nat) (page : Mem) (s : State) :
    (placeSession qp owner vol page s).2.pending = s.pending := rfl

@[simp] theorem freshPage_pending (s : State) : (freshPage s).2.pending = s.pending := rfl

@[simp] theorem openOrder_pending (o : Order) (s : State) :
    (openOrder o s).pending = s.pending := by simp [openOrder, apply_ite State.pending]

@[simp] theorem contextRuns_pending (faults vfaults : Nat) (s : State) :
    (contextRuns faults vfaults s).pending = s.pending := by simp [contextRuns]

@[simp] theorem parkOrder_pending (faults vfaults : Nat) (o : Order) (s : State) :
    (parkOrder faults vfaults o s).pending = s.pending := by
  unfold parkOrder
  split <;> simp [apply_ite State.pending]

@[simp] theorem unparkOrder_pending (faults vfaults : Nat) (o : Order) (s : State) :
    (unparkOrder faults vfaults o s).pending = s.pending := by
  unfold unparkOrder
  dsimp only
  repeat' split
  all_goals simp

@[simp] theorem adminDone_pending (o : Order) (out : Bytes) (result : Nat) (s : State) (st : Status) :
    (adminDone o out result s st).pending = s.pending := by
  simp [adminDone]

@[simp] theorem statusBytes_pending (s : State) : (statusBytes s).2.pending = s.pending := by
  unfold statusBytes
  dsimp only
  repeat' split
  all_goals simp

@[simp] theorem cellarRead_pending (ecc : Ecc) (o : Order) (addr len : Nat) (s : State) (k : State → State)
    (hk : ∀ s, (k s).pending = s.pending) :
    (cellarRead ecc o addr len s k).pending = s.pending := by
  simp only [cellarRead]
  repeat' split
  all_goals simp_all

@[simp] theorem abortTarget_pending (o : Order) (s : State) : (abortTarget o s).2.pending = s.pending := by
  unfold abortTarget
  dsimp only
  repeat' split
  all_goals simp

@[simp] theorem bookRead_pending {o : Order} {s : State} {k : Nat → Bytes → State}
    (hk : ∀ n b, (k n b).pending = s.pending) : (bookRead o s k).pending = s.pending := by
  unfold bookRead
  dsimp only
  split
  · simp
  · split <;> simp [hk]

@[simp] theorem personaliseOrder_pending (o : Order) (s : State) : (personaliseOrder o s).pending = s.pending := by
  unfold personaliseOrder
  dsimp only
  repeat' split
  all_goals simp

@[simp] theorem certOrder_pending (o : Order) (s : State) : (certOrder o s).pending = s.pending := by
  unfold certOrder
  dsimp only
  repeat' split
  all_goals simp

@[simp] theorem verifyRuns_pending (b : Body) (r : OffReq) (s : State) :
    (verifyRuns b r s).pending = s.pending := by simp [verifyRuns, apply_ite State.pending]

/-! ### Officer bodies -/

/-- A body's answer, or what an entry of it answers, keeps the queue `p`; `of` is the state of an answer. -/
def AnswerKeeps {α : Type} (of : α → State) (p : List Instr) : Except Refused α → Prop
  | .ok a => (of a).pending = p
  | .error r => ∀ t, r.s = some t → t.pending = p

section
variable {α : Type} {of : α → State} {p : List Instr}

@[simp] theorem answerKeeps_ok {a : α} : AnswerKeeps of p (.ok a) ↔ (of a).pending = p := Iff.rfl

@[simp] theorem answerKeeps_bad (st : Status) : AnswerKeeps of p (bad st) :=
  fun _ h => by cases h

@[simp] theorem answerKeeps_badSlot (st : Status) (n : Nat) : AnswerKeeps of p (badSlot st n) :=
  fun _ h => by cases h

theorem answerKeeps_orBad {l : List (Bool × Status)} {x : Except Refused α} (h : AnswerKeeps of p x) :
    AnswerKeeps of p (orBad l x) := by
  unfold orBad
  split
  · exact answerKeeps_bad _
  · exact h

theorem answerKeeps_refusedFrom {s : State} (hs : s.pending = p) {x : Except Refused α} (h : AnswerKeeps of p x) :
    AnswerKeeps of p (refusedFrom s x) := by
  cases x with
  | ok a => exact h
  | error r =>
    intro t ht
    dsimp only at ht
    split at ht
    · cases ht
    · cases hr : r.s with
      | none =>
        rw [hr] at ht
        cases ht
        exact hs
      | some u =>
        rw [hr] at ht
        cases ht
        exact h u hr

end

@[simp] theorem answerKeeps_made {p : List Instr} {items : List PItem} {s : State} :
    AnswerKeeps Prod.snd p (made items s) ↔ s.pending = p := Iff.rfl

theorem unwrapEntry_keeps (s : State) (e : Bytes) : AnswerKeeps Prod.snd s.pending (unwrapEntry s e) := by
  unfold unwrapEntry
  dsimp only
  split
  · split
    · simp
    split
    · simp
    split
    · simp
    · exact answerKeeps_refusedFrom (by simp) (by simp)
  · split
    · simp
    split
    · simp
    split
    next heq => exact answerKeeps_refusedFrom (drawUse_no heq) (by simp)
    · simp
    next heq =>
      have hs := drawUse_got heq
      split
      · simp [hs]
      · exact answerKeeps_refusedFrom (by simp [hs]) (by simp)

@[simp] theorem KeyAcc.put_pending (a : KeyAcc) (slot span freed attr init owner : Nat) (fixed : BitVec 32) (m : Bytes) :
    (a.put slot span freed attr init owner fixed m).s.pending = a.s.pending := by
  simp [KeyAcc.put]

theorem writeEntry_keeps (a : KeyAcc) (e : Bytes) : AnswerKeeps KeyAcc.s a.s.pending (writeEntry a e) := by
  refine answerKeeps_orBad ?_
  have hu := unwrapEntry_keeps a.s e
  cases hw : unwrapEntry a.s e with
  | error r =>
    rw [hw] at hu
    exact hu
  | ok x =>
    rw [hw] at hu
    refine answerKeeps_refusedFrom hu ?_
    dsimp only
    split
    · simp
    · exact answerKeeps_orBad (by simpa using hu)

theorem deleteEntry_keeps (a : KeyAcc) (e : Bytes) : AnswerKeeps KeyAcc.s a.s.pending (deleteEntry a e) :=
  answerKeeps_orBad rfl

theorem generateEntry_keeps (base : Nat) (a : KeyAcc) (e : Bytes) :
    AnswerKeeps KeyAcc.s a.s.pending (generateEntry base a e) :=
  answerKeeps_orBad (answerKeeps_orBad (by simp))

theorem restrictEntry_keeps (a : KeyAcc) (e : Bytes) : AnswerKeeps KeyAcc.s a.s.pending (restrictEntry a e) := by
  unfold restrictEntry
  dsimp only
  split
  · simp
  split
  · simp
  split
  · simp
  split
  · simp
  · exact answerKeeps_orBad (by simp)

theorem exportEntry_keeps (a : KeyAcc) (e : Bytes) : AnswerKeeps KeyAcc.s a.s.pending (exportEntry a e) := by
  unfold exportEntry
  dsimp only
  split
  · simp
  split
  · simp
  split
  · simp
  split
  · simp
  split
  · simp
  split
  next heq => exact answerKeeps_refusedFrom (drawUse_no heq) (by simp)
  · simp
  next heq => exact drawUse_got heq

theorem reportEntry_keeps (a : KeyAcc) (e : Bytes) : AnswerKeeps KeyAcc.s a.s.pending (reportEntry a e) :=
  answerKeeps_orBad rfl

theorem keyEntryFn_keeps (t base : Nat) (a : KeyAcc) (e : Bytes) :
    AnswerKeeps KeyAcc.s a.s.pending (keyEntryFn t base a e) := by
  unfold keyEntryFn
  split
  · exact writeEntry_keeps a e
  split
  · exact deleteEntry_keeps a e
  split
  · exact generateEntry_keeps base a e
  split
  · exact restrictEntry_keeps a e
  split
  · exact exportEntry_keeps a e
  · exact reportEntry_keeps a e

theorem eachEntry_keeps {f : KeyAcc → Bytes → Except Refused KeyAcc} {p : List Instr}
    (hf : ∀ a e, AnswerKeeps KeyAcc.s a.s.pending (f a e)) (es : List Bytes) (a : KeyAcc) (ha : a.s.pending = p) :
    AnswerKeeps KeyAcc.s p (eachEntry f es a) := by
  induction es generalizing a with
  | nil => exact ha
  | cons e es ih =>
    have hk : AnswerKeeps KeyAcc.s p (refusedFrom a.s (f a e)) := answerKeeps_refusedFrom ha (ha ▸ hf a e)
    unfold eachEntry
    cases hx : refusedFrom a.s (f a e) with
    | error r =>
      rw [hx] at hk
      exact hk
    | ok b =>
      rw [hx] at hk
      exact ih b hk

theorem makeKeys_keeps (b : Bytes) (s : State) : AnswerKeeps Prod.snd s.pending (makeKeys b s) := by
  unfold makeKeys
  dsimp only
  split
  · simp
  next es _ =>
    have hk := eachEntry_keeps (p := s.pending) (keyEntryFn_keeps (fld b 0 2) s.freeCtr) es
      (KeyAcc.start { s with freeCtr := s.freeCtr + es.length }) rfl
    split
    next heq =>
      rw [heq] at hk
      exact hk
    next heq =>
      rw [heq] at hk
      exact hk

/-- A body whose making keeps the queue. -/
def Body.Keeps (b : Body) : Prop := ∀ r x s, AnswerKeeps Prod.snd s.pending (b.make r x s)

@[simp] theorem roleBody_keeps (ok : State → Bool) (items : Bytes → List PItem) (r : OffReq) (b : Bytes) (s : State) :
    AnswerKeeps Prod.snd s.pending (roleBody ok items r b s) := by
  unfold roleBody
  split <;> simp

theorem officerSetBody_keeps : officerSetBody.Keeps := by
  intro r x s
  simp only [officerSetBody, Body.plain]
  exact answerKeeps_orBad rfl

theorem lcChangeBody_keeps : lcChangeBody.Keeps := by
  intro r x s
  simp only [lcChangeBody, Body.plain]
  split <;> simp

theorem debugPermitBody_keeps : debugPermitBody.Keeps := by
  intro r x s
  simp only [debugPermitBody, Body.plain]
  simp

theorem lastSelectBody_keeps : lastSelectBody.Keeps := by
  intro r x s
  simp only [lastSelectBody, Body.plain]
  split <;> simp

theorem lastInstallBody_keeps : lastInstallBody.Keeps := by
  intro r x s
  simp only [lastInstallBody, Body.plain]
  split
  · simp
  · split <;> simp

theorem keyBodyOf_keeps : keyBodyOf.Keeps := by
  intro r x s
  simp only [keyBodyOf, Body.plain]
  exact makeKeys_keeps x s

theorem timeConfigBody_keeps : timeConfigBody.Keeps := by
  intro r x s
  simp only [timeConfigBody, Body.plain]
  exact answerKeeps_orBad (by simp)

theorem timeSlewBody_keeps : timeSlewBody.Keeps := by
  intro r x s
  simp only [timeSlewBody, Body.plain]
  repeat' split
  all_goals simp

theorem timeStepBody_keeps : timeStepBody.Keeps := by
  intro r x s
  simp only [timeStepBody, Body.plain]
  refine answerKeeps_orBad ?_
  repeat' split
  all_goals simp

theorem bookOpenBody_keeps : bookOpenBody.Keeps := by
  intro r x s
  simp only [bookOpenBody, Body.plain]
  exact answerKeeps_orBad rfl

theorem bookConfigBody_keeps : bookConfigBody.Keeps := by
  intro r x s
  simp only [bookConfigBody, Body.plain]
  exact answerKeeps_orBad rfl

theorem bookCloseBody_keeps : bookCloseBody.Keeps := by
  intro r x s
  simp only [bookCloseBody, Body.plain]
  exact answerKeeps_orBad rfl

theorem appletInstallBody_keeps : appletInstallBody.Keeps := by
  intro r x s
  simp only [appletInstallBody, Body.plain]
  split <;> simp

theorem appletRemoveBody_keeps : appletRemoveBody.Keeps := by
  intro r x s
  simp only [appletRemoveBody, Body.plain]
  split <;> simp

theorem weltPairBody_keeps : weltPairBody.Keeps := by
  intro r x s
  simp only [weltPairBody, Body.plain]
  exact answerKeeps_orBad rfl

theorem weltUnpairBody_keeps : weltUnpairBody.Keeps := by
  intro r x s
  simp only [weltUnpairBody, Body.plain]
  simp

theorem weltModeBody_keeps : weltModeBody.Keeps := by
  intro r x s
  simp only [weltModeBody, Body.plain]
  simp

theorem weltHandoverBody_keeps : weltHandoverBody.Keeps := by
  intro r x s
  simp only [weltHandoverBody, Body.plain]
  simp

theorem weltTakeoverBody_keeps : weltTakeoverBody.Keeps := by
  intro r x s
  simp only [weltTakeoverBody, Body.plain]
  simp

theorem cardEraseBody_keeps : cardEraseBody.Keeps := by
  intro r x s
  simp only [cardEraseBody, Body.plain]
  exact answerKeeps_orBad rfl

theorem bodyOf_keeps (t : Nat) : (bodyOf t).Keeps := by
  unfold bodyOf
  split
  · exact lcChangeBody_keeps
  · exact debugPermitBody_keeps
  · exact lastSelectBody_keeps
  · exact lastInstallBody_keeps
  · exact keyBodyOf_keeps
  · exact keyBodyOf_keeps
  · exact keyBodyOf_keeps
  · exact keyBodyOf_keeps
  · exact keyBodyOf_keeps
  · exact keyBodyOf_keeps
  · exact timeConfigBody_keeps
  · exact timeSlewBody_keeps
  · exact timeStepBody_keeps
  · exact bookOpenBody_keeps
  · exact bookConfigBody_keeps
  · exact bookCloseBody_keeps
  · exact appletInstallBody_keeps
  · exact appletRemoveBody_keeps
  · exact weltPairBody_keeps
  · exact weltUnpairBody_keeps
  · exact weltModeBody_keeps
  · exact weltHandoverBody_keeps
  · exact weltTakeoverBody_keeps
  · exact cardEraseBody_keeps
  · exact officerSetBody_keeps

@[simp] theorem officer_pending {b : Body} (hb : b.Keeps) (r : OffReq) {ok : State → State}
    (hok : ∀ t, (ok t).pending = t.pending) (s : State) : (officer b r ok s).pending = s.pending := by
  unfold officer
  extract_lets u
  have hu : u.pending = s.pending := verifyRuns_pending ..
  split
  · rw [finish_pending]
    split <;> simp [hu]
  split
  · simp [hok, hu]
  have hk := hb r (envBody r.env) u
  split
  next e heq =>
    rw [heq] at hk
    have he : (e.s.getD u).pending = s.pending := by
      cases hes : e.s with
      | none => exact hu
      | some v => exact (hk v hes).trans hu
    dsimp only
    rw [finish_pending]
    cases e.slot <;> simp [he]
  next heq =>
    rw [heq] at hk
    rw [enqueue_pending, hok]
    exact hk.trans hu

@[simp] theorem officerRow_pending {b : Body} (hb : b.Keeps) (t : Nat) (qp : BitVec 8) (s : State) :
    (officerRow t b qp s).pending = s.pending := by
  refine serve_pending fun o s => ?_
  dsimp only
  split
  · simp
  split
  · simp
  split
  · simp
  · exact officer_pending hb _ (admitted_pending o) s

@[simp] theorem mbFreeNative_pending (result : Nat) (s : State) :
    (mbFreeNative result s).pending = s.pending := by simp [mbFreeNative]

@[simp] theorem mbEnd_pending (st : Status) (resp : Bytes) (s : State) :
    (mbEnd st resp s).pending = s.pending := by simp [mbEnd]

@[simp] theorem mbOverrun_pending (s : State) : (mbOverrun s).pending = s.pending := rfl

@[simp] theorem mbChecks_pending (r : Bytes) (data tdea everywhere : Bool) (s : State) (k : State → State)
    (hk : ∀ s, (k s).pending = s.pending) :
    (mbChecks r data tdea everywhere s k).pending = s.pending := by
  simp only [mbChecks]
  repeat' split
  all_goals simp_all

@[simp] theorem dropLoans_pending (gone : List Loan) (s : State) : (dropLoans gone s).pending = s.pending := rfl

/-- What the taking up of a blob answers keeps the queue `p`. -/
def LoanKeeps (p : List Instr) : Except (Status × State) (Loan × State) → Prop
  | .ok a => a.2.pending = p
  | .error e => e.2.pending = p

theorem loanFor_keeps (b : Bytes) (s : State) : LoanKeeps s.pending (loanFor b s) := by
  unfold loanFor
  split
  · rfl
  extract_lets master need
  split
  · rfl
  split
  · exact slotRefused_pending ..
  split
  · rfl
  split
  next heq => exact useSlot_no heq
  next heq => exact useSlot_wait heq
  next heq =>
    split
    · exact useSlot_got heq
    · simp only [LoanKeeps, dropLoans_pending]
      exact useSlot_got heq

theorem loanFor_ok {b : Bytes} {s s' : State} {l : Loan} (h : loanFor b s = .ok (l, s')) : s'.pending = s.pending := by
  simpa only [h, LoanKeeps] using loanFor_keeps b s

theorem loanFor_error {b : Bytes} {s s' : State} {st : Status} (h : loanFor b s = .error (st, s')) :
    s'.pending = s.pending := by
  simpa only [h, LoanKeeps] using loanFor_keeps b s

@[simp] theorem withLoan_pending {code : Nat} {r : Bytes} {types : List Nat} {enable : Loan → Nat} {usage : Nat} {s : State}
    {k : Loan → State → State} (hk : ∀ l t, (k l t).pending = t.pending) :
    (withLoan code r types enable usage s k).pending = s.pending := by
  unfold withLoan
  split
  · simp
  split
  · rfl
  split
  next heq => simp [loanFor_error heq]
  next heq =>
    split
    · simp [loanFor_ok heq]
    · rw [hk, loanFor_ok heq]

@[simp] theorem mbChecked_pending (l : List (Bool × Status)) (s : State) (k : State → State)
    (hk : ∀ s, (k s).pending = s.pending) :
    (mbChecked l s k).pending = s.pending := by
  simp only [mbChecked]
  repeat' split
  all_goals simp_all

@[simp] theorem mbEcho_pending (r : Bytes) (s : State) : (mbEcho r s).pending = s.pending := by simp [mbEcho]

@[simp] theorem mbGetStatus_pending (r : Bytes) (s : State) :
    (mbGetStatus r s).pending = s.pending := by simp [mbGetStatus]

@[simp] theorem mbRandom_pending (r : Bytes) (s : State) : (mbRandom r s).pending = s.pending := by simp [mbRandom]

@[simp] theorem spendBlocks_pending (l : Loan) (n : Nat) (s : State) (k : State → State)
    (hk : ∀ s, (k s).pending = s.pending) :
    (spendBlocks l n s k).pending = s.pending := by
  simp only [spendBlocks]
  repeat' split
  all_goals simp_all

@[simp] theorem mbTdeaDec_pending (r : Bytes) (s : State) : (mbTdeaDec r s).pending = s.pending :=
  mbChecks_pending _ _ _ _ _ _ fun _ => withLoan_pending fun _ _ => mbChecked_pending _ _ _ (vatAdmit_pending _)

@[simp] theorem mbTdeaEnc_pending (r : Bytes) (s : State) : (mbTdeaEnc r s).pending = s.pending :=
  mbChecks_pending _ _ _ _ _ _ fun _ => withLoan_pending fun _ _ => mbChecked_pending _ _ _ fun _ =>
    spendBlocks_pending _ _ _ _ (vatAdmit_pending _)

@[simp] theorem mbTdeaGen_pending (r : Bytes) (s : State) : (mbTdeaGen r s).pending = s.pending :=
  mbChecks_pending _ _ _ _ _ _ fun _ => withLoan_pending fun _ _ => mbChecked_pending _ _ _ fun _ =>
    spendBlocks_pending _ _ _ _ (vatAdmit_pending _)

@[simp] theorem mbTdeaVer_pending (r : Bytes) (s : State) : (mbTdeaVer r s).pending = s.pending :=
  mbChecks_pending _ _ _ _ _ _ fun _ => withLoan_pending fun _ _ => mbChecked_pending _ _ _ (vatAdmit_pending _)

@[simp] theorem mbAesDec_pending (r : Bytes) (s : State) : (mbAesDec r s).pending = s.pending :=
  mbChecks_pending _ _ _ _ _ _ fun _ => withLoan_pending fun _ _ => mbChecked_pending _ _ _ (vatAdmit_pending _)

@[simp] theorem mbAesEnc_pending (r : Bytes) (s : State) : (mbAesEnc r s).pending = s.pending :=
  mbChecks_pending _ _ _ _ _ _ fun _ => withLoan_pending fun _ _ => mbChecked_pending _ _ _ (vatAdmit_pending _)

@[simp] theorem mbSha_pending (r : Bytes) (s : State) : (mbSha r s).pending = s.pending := by simp [mbSha]

@[simp] theorem mbRsaSign_pending (r : Bytes) (s : State) : (mbRsaSign r s).pending = s.pending :=
  mbChecks_pending _ _ _ _ _ _ fun _ => withLoan_pending fun _ _ => mbChecked_pending _ _ _ (digestAdmit_pending _)

@[simp] theorem mbRsaVerify_pending (r : Bytes) (s : State) : (mbRsaVerify r s).pending = s.pending :=
  mbChecks_pending _ _ _ _ _ _ fun _ => withLoan_pending fun _ _ => mbChecked_pending _ _ _ (digestAdmit_pending _)

@[simp] theorem mbFlush_pending (r : Bytes) (s : State) : (mbFlush r s).pending = s.pending := by simp [mbFlush]

@[simp] theorem mbTime_pending (r : Bytes) (s : State) : (mbTime r s).pending = s.pending := by simp [mbTime]

@[simp] theorem mbCommand_pending (req : Bytes) (s : State) (serve : Bytes → State → State)
    (hserve : ∀ a s, (serve a s).pending = s.pending) :
    (mbCommand req s serve).pending = s.pending := by
  simp only [mbCommand]
  repeat' split
  all_goals simp_all

@[simp] theorem mbServe_pending (code : Nat) (b : Bytes) (s : State) : (mbServe code b s).pending = s.pending := by
  unfold mbServe
  split <;> simp

@[simp] theorem mbResume_pending (s : State) : (mbResume s).pending = s.pending := by
  unfold mbResume
  split <;> simp

@[simp] theorem memoryTrap_pending (c f : Nat) (fr : Fr) (ea : Nat) (s : State) :
    (memoryTrap c f fr ea s).pending = s.pending := by simp [memoryTrap]

theorem withAccess_keeps {s : State} {fr : Fr} {ea n : Nat} {wr : Bool} {k : Range → IRes} {p : List Instr}
    (hk : ∀ r, (k r).Keeps p) : (withAccess s fr ea n wr k).Keeps p := by
  unfold withAccess
  split
  · trivial
  split
  · trivial
  · split
    · trivial
    · exact hk _

@[simp] theorem loadN_pending (c : Fin 9) (ecc : Ecc) (d a : BitVec 5) (imm : BitVec 14) (n : Nat) (sx : Bool) (s : State) :
    (loadN c ecc d a imm n sx s).pending = s.pending := by
  refine runInstr_pending fun f fr => withAccess_keeps fun r => ?_
  dsimp only
  split
  all_goals simp [apply_ite State.pending]

@[simp] theorem storeN_pending (c : Fin 9) (d a : BitVec 5) (imm : BitVec 14) (n : Nat) (s : State) (ecc : Ecc) :
    (storeN c d a imm n s ecc).pending = s.pending := by
  refine runInstr_pending fun f fr => withAccess_keeps fun r => ?_
  dsimp only
  split <;> simp

@[simp] theorem onCore_pending (s : State) (f : Core → Core) : (onCore s f).pending = s.pending := by
  unfold onCore
  split <;> simp

@[simp] theorem dbgBytes_pending (s : State) : (dbgBytes s).2.pending = s.pending := by
  unfold dbgBytes
  repeat' split
  all_goals simp

@[simp] theorem breakSession_pending (s : State) : (breakSession s).pending = s.pending := by simp [breakSession]

@[simp] theorem weltFrame_pending (fr : Frame) (act : State → State) (s : State)
    (hact : ∀ s, (act s).pending = s.pending) :
    (weltFrame fr act s).pending = s.pending := by
  simp only [weltFrame]
  repeat' split
  all_goals simp_all

@[simp] theorem ackFrame_pending (s : State) : (ackFrame s).pending = s.pending := by simp [ackFrame]

@[simp] theorem brineUpdate_pending (s : State) (u : BrineUpdate) : (brineUpdate s u).pending = s.pending := by
  unfold brineUpdate
  split <;> simp

@[simp] theorem addressed_pending (e : Nat) (body : Bytes) (s : State) : (addressed e body s).pending = s.pending := by
  have hk := bodyOf_keeps (fld body 0 2) ⟨.none, 0, [], 0, .none⟩ body s
  unfold addressed
  split
  next heq =>
    rw [heq] at hk
    rw [foldl_pending afterItem_pending, foldl_pending (applyItem_pending e)]
    exact hk
  · rfl

@[simp] theorem mirroredSlot_pending (n span : Nat) (attr : BitVec 64) (init gen : Nat) (origin : Lifecycle)
    (owner : BitVec 64) (fixed : BitVec 32) (installEpoch : Nat) (nonce : Option Bytes) (material : Bytes) (s : State) :
    (mirroredSlot n span attr init gen origin owner fixed installEpoch nonce material s).pending = s.pending := by simp [mirroredSlot]

@[simp] theorem mirroredLast_pending (n : Fin 4) (r : Bytes) (s : State) :
    (mirroredLast n r s).pending = s.pending := rfl

@[simp] theorem pairItem_pending (e : Nat) (s : State) (i : PairItem) : (pairItem e s i).pending = s.pending := by
  unfold pairItem
  split <;> simp

@[simp] theorem mirrorRecord_pending (epoch len : Nat) (items : List PItem) (s : State) :
    (mirrorRecord epoch len items s).pending = s.pending := by simp [mirrorRecord, apply_ite State.pending]

@[simp] theorem emptyMirrored_pending (s : State) : (emptyMirrored s).pending = s.pending := rfl

@[simp] theorem pairingHello_pending (h : Hello) (s : State) :
    (pairingHello h s).pending = s.pending := by simp [pairingHello, apply_ite State.pending]

@[simp] theorem sessionHello_pending (h : Hello) (s : State) :
    (sessionHello h s).pending = s.pending := by simp [sessionHello, apply_ite State.pending]

@[simp] theorem grantBlock_pending (ref : Ref) (n : Nat) (s : State) : (grantBlock ref n s).pending = s.pending := by
  unfold grantBlock
  split <;> simp [apply_ite State.pending]

@[simp] theorem runForwarded_pending (ref : Ref) (req : Forwarded) (s : State) :
    (runForwarded ref req s).pending = s.pending := by
  cases req with
  | cardWrite ch first data =>
    simp only [runForwarded]
    split <;> simp
  | officer env outLen => exact officer_pending (bodyOf_keeps _) _ (fun _ => rfl) s
  | useOf n =>
    simp only [runForwarded]
    split
    · simp
    split
    next heq => simp [drawUse_got heq]
    next heq => simp [drawUse_no heq]
    next heq => exact drawUse_wait heq
  | _ => simp [runForwarded]

@[simp] theorem replyEpoch_pending (w : WeltWait) (e : Option Nat) (s : State) :
    (replyEpoch w e s).pending = s.pending := by
  unfold replyEpoch
  split <;> simp [apply_ite State.pending]

@[simp] theorem dropReads_pending (uid : Nat) (s : State) : (dropReads uid s).pending = s.pending := by simp [dropReads]

@[simp] theorem dmaOrder_pending (qp : BitVec 8) (tag : BitVec 64) (left : Nat) (s : State) :
    (dmaOrder qp tag left s).pending = s.pending := by
  unfold dmaOrder
  dsimp only
  repeat' split
  all_goals simp

@[simp] theorem scrubFails_pending (c f t n : Nat) (s : State) : (scrubFails c f t n s).pending = s.pending := rfl

@[simp] theorem boundaryOutputs_pending (s : State) :
    (boundaryOutputs s).pending = s.pending := by simp [boundaryOutputs, apply_ite State.pending]

@[simp] theorem stopToken_pending (r : Ref) (s : State) : (stopToken r s).pending = s.pending := by simp [stopToken]

end Sys2Proof.Machine
end


section
/-! Every command answers a next state and keeps the queue of waiting commands (O57). -/

namespace Sys2Proof.Machine

/-- The command answers a next state, the queue kept. -/
def KeepsQueue (i : Instr) (s : State) : Prop := ∃ t, exec i s = .next t ∧ t.pending = s.pending

theorem dormantExit_keepsQueue (katFail byWake) (s : State) :
    KeepsQueue (.dormantExit katFail byWake) s := by
  refine ⟨_, rfl, ?_⟩
  dsimp only
  repeat' split
  all_goals simp

theorem registerWrite_keepsQueue (off v be) (s : State) :
    KeepsQueue (.registerWrite off v be) s := by
  refine ⟨_, rfl, ?_⟩
  split
  · rfl
  split <;> simp

theorem orderFetch_keepsQueue (qp packet) (s : State) : KeepsQueue (.orderFetch qp packet) s := by
  refine ⟨_, rfl, ?_⟩
  split
  · split <;> simp
  · rfl

theorem extensionTimeout_keepsQueue (qp) (s : State) : KeepsQueue (.extensionTimeout qp) s := by
  refine ⟨_, rfl, ?_⟩
  split
  · split <;> simp
  · rfl

theorem admissionDeadline_keepsQueue (qp tag wins) (s : State) :
    KeepsQueue (.admissionDeadline qp tag wins) s := by
  refine ⟨_, rfl, ?_⟩
  split
  · rfl
  split
  · split <;> simp
  split
  · split <;> simp
  · rfl

theorem sector_keepsQueue (qp) (s : State) : KeepsQueue (.sector qp) s := by
  refine ⟨_, rfl, serve_pending fun o t => ?_⟩
  split
  · simp
  · split <;> simp

theorem closeSession_keepsQueue (qp) (s : State) : KeepsQueue (.closeSession qp) s := by
  refine ⟨_, rfl, serve_pending fun o t => ?_⟩
  split <;> simp

theorem getRetirement_keepsQueue (qp ecc) (s : State) : KeepsQueue (.getRetirement qp ecc) s := by
  refine ⟨_, rfl, serve_pending fun o t => ?_⟩
  split
  · exact cellarRead_pending _ _ _ _ _ _ fun u => adminDone_pending ..
  · exact adminDone_pending ..

theorem abort_keepsQueue (qp) (s : State) : KeepsQueue (.abort qp) s := by
  refine ⟨_, rfl, ?_⟩
  dsimp only
  repeat' split
  all_goals simp

theorem bookReadHead_keepsQueue (qp) (s : State) : KeepsQueue (.bookReadHead qp) s := by
  exact ⟨_, rfl, serve_pending fun o t => bookRead_pending fun b _ =>
    cellarRead_pending _ _ _ _ _ _ fun u => adminDone_pending ..⟩

theorem bookReadWheel_keepsQueue (qp ecc) (s : State) : KeepsQueue (.bookReadWheel qp ecc) s := by
  refine ⟨_, rfl, serve_pending fun o t => bookRead_pending fun b _ => ?_⟩
  split
  · exact cellarRead_pending _ _ _ _ _ _ fun u => adminDone_pending ..
  · exact refuse_pending ..

theorem bookReadGap_keepsQueue (qp ecc) (s : State) : KeepsQueue (.bookReadGap qp ecc) s := by
  refine ⟨_, rfl, serve_pending fun o t => bookRead_pending fun b _ => ?_⟩
  split
  · exact cellarRead_pending _ _ _ _ _ _ fun u => adminDone_pending ..
  · exact adminDone_pending ..

theorem evSrcWrite_keepsQueue (n v host) (s : State) : KeepsQueue (.evSrcWrite n v host) s := by
  refine ⟨_, rfl, ?_⟩
  split <;> split <;> simp

theorem evClaim_keepsQueue (host) (s : State) : KeepsQueue (.evClaim host) s := by
  refine ⟨_, rfl, ?_⟩
  dsimp only
  repeat' split
  all_goals simp

theorem evVclaim_keepsQueue (v) (s : State) : KeepsQueue (.evVclaim v) s := by
  refine ⟨_, rfl, ?_⟩
  split <;> simp

theorem evComplete_keepsQueue (host v) (s : State) : KeepsQueue (.evComplete host v) s := by
  refine ⟨_, rfl, ?_⟩
  refine (apply_ite State.pending ..).trans ?_
  simp

theorem evGdisWrite_keepsQueue (host v) (s : State) : KeepsQueue (.evGdisWrite host v) s := by
  refine ⟨_, rfl, ?_⟩
  refine (apply_ite State.pending ..).trans ?_
  simp

theorem vatSegmentEnd_keepsQueue (core fault) (s : State) :
    KeepsQueue (.vatSegmentEnd core fault) s := by
  refine ⟨_, rfl, ?_⟩
  split
  · rfl
  dsimp only
  rw [rateCount_pending, engFill_pending]
  split
  · rw [putVat_pending, chanOp_pending]
  · rw [segDone_pending _ _ _ _ putVat_pending, chanOp_pending]

theorem digestSegmentEnd_keepsQueue (core fault) (s : State) :
    KeepsQueue (.digestSegmentEnd core fault) s := by
  refine ⟨_, rfl, ?_⟩
  split
  · rfl
  dsimp only
  rw [rateCount_pending, engFill_pending]
  split
  · rw [putDigest_pending, chanOp_pending]
  · rw [segDone_pending _ _ _ _ putDigest_pending, chanOp_pending]

theorem cellarScrub_keepsQueue (row found) (s : State) :
    KeepsQueue (.cellarScrub row found) s := by
  refine ⟨_, rfl, ?_⟩
  dsimp only
  split
  · rfl
  split
  · simp
  · simp
  next loses spoils =>
    cases spoils <;> cases loses <;> simp

theorem cardTimeout_keepsQueue (ch wins wait) (s : State) :
    KeepsQueue (.cardTimeout ch wins wait) s := by
  refine ⟨_, rfl, ?_⟩
  dsimp only
  repeat' split
  all_goals simp

theorem weltHello_keepsQueue (h) (s : State) : KeepsQueue (.weltHello h) s := by
  refine ⟨_, rfl, ?_⟩
  split
  · rfl
  · split <;> simp

theorem weltNak_keepsQueue (fr seq) (s : State) : KeepsQueue (.weltNak fr seq) s := by
  refine ⟨_, rfl, weltFrame_pending _ _ _ fun t => ?_⟩
  split <;> rfl

theorem weltBrine_keepsQueue (fr us) (s : State) : KeepsQueue (.weltBrine fr us) s := by
  refine ⟨_, rfl, weltFrame_pending _ _ _ fun t => ?_⟩
  split
  · rw [ackFrame_pending, foldl_pending fun s u => brineUpdate_pending ..]
  · rfl

theorem weltForward_keepsQueue (fr ref req) (s : State) :
    KeepsQueue (.weltForward fr ref req) s := by
  refine ⟨_, rfl, ?_⟩
  split
  · rfl
  refine weltFrame_pending _ _ _ fun t => ?_
  split <;> simp

theorem weltReply_keepsQueue (fr ref st result bytes out epoch) (s : State) :
    KeepsQueue (.weltReply fr ref st result bytes out epoch) s := by
  refine ⟨_, rfl, weltFrame_pending _ _ _ fun t => ?_⟩
  split <;> simp

theorem readReg_keepsQueue (r) (s : State) : KeepsQueue (.readReg r) s := by
  refine ⟨_, rfl, ?_⟩
  dsimp only
  repeat' split
  all_goals simp

theorem liw_keepsQueue (c d a mode lit) (s : State) : KeepsQueue (.liw c d a mode lit) s := by
  refine ⟨_, rfl, runInstr_pending fun f fr => ?_⟩
  split <;> simp

theorem bfx_keepsQueue (c d a lo w sx) (s : State) : KeepsQueue (.bfx c d a lo w sx) s := by
  refine ⟨_, rfl, runInstr_pending fun f fr => ?_⟩
  split <;> simp

theorem bfi_keepsQueue (c d a lo w) (s : State) : KeepsQueue (.bfi c d a lo w) s := by
  refine ⟨_, rfl, runInstr_pending fun f fr => ?_⟩
  split <;> simp

theorem mfence_keepsQueue (c) (s : State) : KeepsQueue (.mfence c) s := by
  refine ⟨_, rfl, runInstr_pending fun f fr => ?_⟩
  simp

theorem exit_keepsQueue (c d st) (s : State) : KeepsQueue (.exit c d st) s := by
  refine ⟨_, rfl, ?_⟩
  refine (runInstr_pending fun f fr => ?_).trans (takeExit_pending ..)
  dsimp only
  split
  · simp
  refine keeps_ite (by simp) ?_
  simp [apply_ite State.pending]

theorem breakI_keepsQueue (c) (s : State) : KeepsQueue (.breakI c) s := by
  refine ⟨_, rfl, runInstr_pending fun f fr => ?_⟩
  split <;> simp

theorem swr_keepsQueue (c d n) (s : State) : KeepsQueue (.swr c d n) s := by
  refine ⟨_, rfl, runInstr_pending fun f fr => ?_⟩
  dsimp only
  repeat' split
  all_goals simp

theorem partWrite_keeps (c f : Nat) (fr : Fr) (p : Nat) (v : Word) (s : State) :
    (partWrite c f fr p v s).Keeps s.pending :=
  keeps_ite (by simp) (keeps_ite (by simp) (keeps_ite (by simp) (keeps_ite (by simp)
    (keeps_ite (by simp) (by simp)))))

theorem swwRes_keeps (c f : Nat) (fr : Fr) (n : Nat) (v : Word) (s : State) : (swwRes c f fr n v s).Keeps s.pending := by
  unfold swwRes
  split
  · simp
  · simp
  · simp
  unfold wordWrite
  refine keeps_ite (by simp) (keeps_ite (keeps_ite (by simp) (by simp)) (keeps_ite (by simp) (keeps_ite (by simp)
    (keeps_ite (by simp) (keeps_ite (partWrite_keeps ..) (keeps_ite (by simp) (keeps_ite (by simp) (keeps_ite (by simp)
      (keeps_ite (by simp) (by simp))))))))))

theorem hbind_keepsQueue (c d a b ty) (s : State) : KeepsQueue (.hbind c d a b ty) s := by
  refine ⟨_, rfl, runInstr_pending fun f fr => ?_⟩
  repeat' split
  all_goals simp

theorem hclr_keepsQueue (c d) (s : State) : KeepsQueue (.hclr c d) s := by
  refine ⟨_, rfl, runInstr_pending fun f fr => ?_⟩
  split <;> simp

theorem hmov_keepsQueue (c d a) (s : State) : KeepsQueue (.hmov c d a) s := by
  refine ⟨_, rfl, runInstr_pending fun f fr => ?_⟩
  split <;> simp

theorem htype_keepsQueue (c d a) (s : State) : KeepsQueue (.htype c d a) s := by
  refine ⟨_, rfl, runInstr_pending fun f fr => ?_⟩
  split <;> simp

theorem waiti_keepsQueue (c) (s : State) : KeepsQueue (.waiti c) s := by
  refine ⟨_, rfl, runInstr_pending fun f fr => ?_⟩
  split <;> simp

theorem runLimit_keepsQueue (c fr wins) (s : State) : KeepsQueue (.runLimit c fr wins) s := by
  refine ⟨_, rfl, ?_⟩
  split
  · rfl
  repeat' split
  all_goals simp

theorem propen_keepsQueue (c d a p) (s : State) : KeepsQueue (.propen c d a p) s := by
  refine ⟨_, rfl, runInstr_pending fun f fr => ?_⟩
  dsimp only
  repeat' split
  all_goals simp

theorem prwrite_keepsQueue (c d a b p) (s : State) : KeepsQueue (.prwrite c d a b p) s := by
  refine ⟨_, rfl, runInstr_pending fun f fr => ?_⟩
  dsimp only
  repeat' split
  all_goals simp

theorem prread_keepsQueue (c d a b ecc) (s : State) : KeepsQueue (.prread c d a b ecc) s := by
  refine ⟨_, rfl, runInstr_pending fun f fr => ?_⟩
  dsimp only
  repeat' split
  all_goals simp

theorem prcond_keepsQueue (c d a b p) (s : State) : KeepsQueue (.prcond c d a b p) s := by
  refine ⟨_, rfl, runInstr_pending fun f fr => ?_⟩
  dsimp only
  repeat' split
  all_goals simp

theorem prcommit_keepsQueue (c t p) (s : State) : KeepsQueue (.prcommit c t p) s := by
  refine ⟨_, rfl, runInstr_pending fun f fr => ?_⟩
  dsimp only
  repeat' split
  all_goals simp

theorem prabandon_keepsQueue (c p) (s : State) : KeepsQueue (.prabandon c p) s := by
  refine ⟨_, rfl, runInstr_pending fun f fr => ?_⟩
  split <;> simp

theorem ctrrd_keepsQueue (c d a b) (s : State) : KeepsQueue (.ctrrd c d a b) s := by
  refine ⟨_, rfl, runInstr_pending fun f fr => ?_⟩
  dsimp only
  repeat' split
  all_goals simp

theorem ctradd_keepsQueue (c d a b inPress p) (s : State) :
    KeepsQueue (.ctradd c d a b inPress p) s := by
  refine ⟨_, rfl, runInstr_pending fun f fr => ?_⟩
  dsimp only
  repeat' split
  all_goals simp

theorem tmstamp_keepsQueue (c a imm) (s : State) : KeepsQueue (.tmstamp c a imm) s := by
  refine ⟨_, rfl, runInstr_pending fun f fr => ?_⟩
  dsimp only
  repeat' split
  all_goals simp

theorem tmtoken_keepsQueue (c t) (s : State) : KeepsQueue (.tmtoken c t) s := by
  refine ⟨_, rfl, engIssue_pending fun u f fr hu => ?_⟩
  dsimp only
  repeat' split
  all_goals simp [hu]

theorem bkissSeal_keepsQueue (c t h faults) (s : State) :
    KeepsQueue (.bkissSeal c t h faults) s := by
  refine ⟨_, rfl, engIssue_pending fun u f fr hu => ?_⟩
  dsimp only
  repeat' split
  all_goals simp [hu]

theorem bkissHead_keepsQueue (c t h) (s : State) : KeepsQueue (.bkissHead c t h) s := by
  refine ⟨_, rfl, runInstr_pending fun f fr => ?_⟩
  dsimp only
  repeat' split
  all_goals simp

theorem gcmEnc_keepsQueue (c t h) (s : State) : KeepsQueue (.gcmEnc c t h) s := by
  refine ⟨_, rfl, engIssue_pending fun u f fr hu => ?_⟩
  split
  · simp
  refine cipherBuffers_keeps hu fun src dst aux => ?_
  refine keeps_ite (by simp [hu]) ?_
  split
  · simp [hu]
  · exact keeps_ite (by simp) (withKey_keeps hu (fun _ _ => lateVat_pending ..) fun k v t ht => by simp [ht])

theorem gcmDec_keepsQueue (c t h) (s : State) : KeepsQueue (.gcmDec c t h) s := by
  refine ⟨_, rfl, engIssue_pending fun u f fr hu => ?_⟩
  split
  · simp
  refine cipherBuffers_keeps hu fun src dst aux => ?_
  refine keeps_ite (by simp [hu]) (keeps_ite (by simp [hu]) ?_)
  split
  · simp [hu]
  · exact keeps_ite (by simp) (withKey_keeps hu (fun _ _ => lateVat_pending ..) fun k v t ht => by simp [ht])

theorem ctrEnc_keepsQueue (c t h) (s : State) : KeepsQueue (.ctrEnc c t h) s := by
  refine ⟨_, rfl, engIssue_pending fun u f fr hu => ?_⟩
  split
  · simp
  refine cipherBuffers_keeps hu fun src dst aux => ?_
  exact keeps_ite (by simp [hu]) (keeps_ite (by simp)
    (withKey_keeps hu (fun _ _ => lateVat_pending ..) fun k v t ht => by simp [ht]))

theorem ctrDec_keepsQueue (c t h) (s : State) : KeepsQueue (.ctrDec c t h) s := by
  refine ⟨_, rfl, engIssue_pending fun u f fr hu => ?_⟩
  split
  · simp
  refine cipherBuffers_keeps hu fun src dst aux => ?_
  exact keeps_ite (by simp [hu]) (keeps_ite (by simp)
    (withKey_keeps hu (fun _ _ => lateVat_pending ..) fun k v t ht => by simp [ht]))

theorem cbcEnc_keepsQueue (c t h) (s : State) : KeepsQueue (.cbcEnc c t h) s := by
  refine ⟨_, rfl, engIssue_pending fun u f fr hu => ?_⟩
  split
  · simp
  refine cipherBuffers_keeps hu fun src dst aux => ?_
  exact keeps_ite (by simp [hu]) (keeps_ite (by simp)
    (withKey_keeps hu (fun _ _ => lateVat_pending ..) fun k v t ht => by simp [ht]))

theorem cbcDec_keepsQueue (c t h) (s : State) : KeepsQueue (.cbcDec c t h) s := by
  refine ⟨_, rfl, engIssue_pending fun u f fr hu => ?_⟩
  split
  · simp
  refine cipherBuffers_keeps hu fun src dst aux => ?_
  exact keeps_ite (by simp [hu]) (keeps_ite (by simp)
    (withKey_keeps hu (fun _ _ => lateVat_pending ..) fun k v t ht => by simp [ht]))

theorem cmacGen_keepsQueue (c t h) (s : State) : KeepsQueue (.cmacGen c t h) s := by
  refine ⟨_, rfl, engIssue_pending fun u f fr hu => ?_⟩
  split
  · simp
  refine cipherBuffers_keeps hu fun src dst aux => ?_
  refine keeps_ite (by simp [hu]) ?_
  split
  · simp [hu]
  · exact keeps_ite (by simp) (withKey_keeps hu (fun _ _ => lateVat_pending ..) fun k v t ht => by simp [ht])

theorem cmacVer_keepsQueue (c t h) (s : State) : KeepsQueue (.cmacVer c t h) s := by
  refine ⟨_, rfl, engIssue_pending fun u f fr hu => ?_⟩
  split
  · simp
  refine cipherBuffers_keeps hu fun src dst aux => ?_
  split
  · simp [hu]
  · exact keeps_ite (by simp) (withKey_keeps hu (fun _ _ => lateVat_pending ..) fun k v t ht => by simp [ht])

theorem tdeaCbcDec_keepsQueue (c t h) (s : State) : KeepsQueue (.tdeaCbcDec c t h) s := by
  refine ⟨_, rfl, engIssue_pending fun u f fr hu => ?_⟩
  split
  · simp
  refine cipherBuffers_keeps hu fun src dst aux => ?_
  exact keeps_ite (by simp [hu]) (keeps_ite (by simp)
    (withKey_keeps hu (fun _ _ => lateVat_pending ..) fun k v t ht => by simp [ht]))

theorem tdeaMacVer_keepsQueue (c t h) (s : State) : KeepsQueue (.tdeaMacVer c t h) s := by
  refine ⟨_, rfl, engIssue_pending fun u f fr hu => ?_⟩
  split
  · simp
  refine cipherBuffers_keeps hu fun src dst aux => ?_
  exact keeps_ite (by simp) (withKey_keeps hu (fun _ _ => lateVat_pending ..) fun k v t ht => by simp [ht])

theorem hash_keepsQueue (c t alg) (s : State) : KeepsQueue (.hash c t alg) s := by
  refine ⟨_, rfl, engIssue_pending fun u f fr hu => ?_⟩
  split
  · simp
  refine keeps_ite (by simp) (digestBuffers_keeps hu fun src dst _ => ?_)
  exact keeps_ite (by simp [hu]) (keeps_ite (by simp [hu]) (keeps_ite (by simp)
    (keeps_ite (by simp [hu]) (by simp [hu]))))

theorem start_keepsQueue (c t h keyed alg) (s : State) :
    KeepsQueue (.start c t h keyed alg) s := by
  refine ⟨_, rfl, engIssue_pending fun u f fr hu => ?_⟩
  split
  · simp
  refine keeps_ite (by simp) (keeps_ite (by simp) (keeps_ite (by simp [hu]) ?_))
  split
  · simp
  refine keeps_ite (by simp [hu]) (keeps_ite (by simp) (keeps_ite
    (withKey_keeps hu (fun _ _ => lateDigest_pending ..) fun k v t ht => by simp [ht])
    (keeps_ite (by simp [hu]) (by simp [hu]))))

theorem update_keepsQueue (c t alg) (s : State) : KeepsQueue (.update c t alg) s := by
  refine ⟨_, rfl, engIssue_pending fun u f fr hu => ?_⟩
  dsimp only
  repeat' split
  all_goals simp [hu]

theorem finishRefuse_keeps {p : List Instr} {s : State} (h : s.pending = p) (c f : Nat) (fr : Fr) (t : BitVec 3) (alg : Nat)
    (st : Status) : (finishRefuse c f fr t alg st s).Keeps p := by
  unfold finishRefuse
  split
  · simp [h]
  · refine keeps_ite (by simp) ?_
    split <;> simp [h]

theorem finish_keepsQueue (c t alg) (s : State) : KeepsQueue (.finish c t alg) s := by
  refine ⟨_, rfl, engIssue_pending fun u f fr hu => ?_⟩
  split
  · simp
  refine keeps_ite (finishRefuse_keeps hu ..) ?_
  split
  · exact keeps_ite (finishRefuse_keeps hu ..) (keeps_ite (by simp) (keeps_ite (finishRefuse_keeps hu ..)
      (keeps_ite (finishRefuse_keeps hu ..) (by simp [hu]))))
  · simp
  · simp

theorem hmac_keepsQueue (c t h alg) (s : State) : KeepsQueue (.hmac c t h alg) s := by
  refine ⟨_, rfl, engIssue_pending fun u f fr hu => ?_⟩
  split
  · simp
  refine keeps_ite (by simp) ?_
  split
  · simp
  refine digestBuffers_keeps hu fun src dst _ => ?_
  exact keeps_ite (by simp [hu]) (keeps_ite (by simp)
    (withKey_keeps hu (fun _ _ => lateDigest_pending ..) fun k v t ht => by simp [ht]))

theorem kmac_keepsQueue (c t h alg) (s : State) : KeepsQueue (.kmac c t h alg) s := by
  refine ⟨_, rfl, engIssue_pending fun u f fr hu => ?_⟩
  refine keeps_ite (by simp) ?_
  split
  · simp
  refine digestBuffers_keeps hu fun src dst aux => ?_
  exact keeps_ite (by simp [hu]) (keeps_ite (by simp [hu]) (keeps_ite (by simp)
    (withKey_keeps hu (fun _ _ => lateDigest_pending ..) fun k v t ht => by simp [ht])))

theorem compare_keepsQueue (c t) (s : State) : KeepsQueue (.compare c t) s := by
  refine ⟨_, rfl, engIssue_pending fun u f fr hu => ?_⟩
  refine digestBuffers_keeps hu fun a _ b => ?_
  exact keeps_ite (by simp [hu]) (keeps_ite (by simp [hu]) (keeps_ite (by simp) (by simp [hu])))

theorem slhSign_keepsQueue (c t h set) (s : State) : KeepsQueue (.slhSign c t h set) s := by
  refine ⟨_, rfl, engIssue_pending fun u f fr hu => ?_⟩
  split
  · simp
  split
  · simp
  refine digestBuffers_keeps hu fun src dst aux => ?_
  exact keeps_ite (by simp [hu]) (keeps_ite (by simp)
    (withKey_keeps hu (fun _ _ => lateDigest_pending ..) fun k v t ht => by simp [ht]))

theorem slhVerify_keepsQueue (c t h set) (s : State) : KeepsQueue (.slhVerify c t h set) s := by
  refine ⟨_, rfl, engIssue_pending fun u f fr hu => ?_⟩
  split
  · simp
  split
  · simp
  refine digestBuffers_keeps hu fun src dst aux => ?_
  exact keeps_ite (by simp [hu]) (keeps_ite (by simp)
    (withKey_keeps hu (fun _ _ => lateDigest_pending ..) fun k v t ht => by simp [ht]))

theorem random_keepsQueue (c t) (s : State) : KeepsQueue (.random c t) s := by
  refine ⟨_, rfl, engIssue_pending fun u f fr hu => ?_⟩
  dsimp only
  repeat' split
  all_goals simp [hu]

theorem twait_keepsQueue (c d b t limit) (s : State) : KeepsQueue (.twait c d b t limit) s := by
  refine ⟨_, rfl, runInstr_pending fun f fr => ?_⟩
  split <;> simp

theorem tpoll_keepsQueue (c d t) (s : State) : KeepsQueue (.tpoll c d t) s := by
  refine ⟨_, rfl, runInstr_pending fun f fr => ?_⟩
  simp

theorem tdrop_keepsQueue (c t) (s : State) : KeepsQueue (.tdrop c t) s := by
  refine ⟨_, rfl, runInstr_pending fun f fr => ?_⟩
  split <;> simp

theorem ccstat_keepsQueue (c d a) (s : State) : KeepsQueue (.ccstat c d a) s := by
  refine ⟨_, rfl, runInstr_pending fun f fr => ?_⟩
  repeat' split
  all_goals simp

theorem hostDmaFailure_keepsQueue (w) (s : State) : KeepsQueue (.hostDmaFailure w) s := by
  refine ⟨_, rfl, ?_⟩
  split
  · rfl
  cases w with
  | cqWrite qp => cases h : s.qp? qp <;> simp [h]
  | window c =>
    dsimp only
    split <;> simp
  | sqFetch qp =>
    dsimp only
    split <;> simp
  | _ => simp

theorem illegalOpcode_keepsQueue (c w ecc) (s : State) :
    KeepsQueue (.illegalOpcode c w ecc) s := by
  refine ⟨_, rfl, ?_⟩
  dsimp only
  split
  · split
    · rfl
    · exact runInstr_pending fun _ _ => keeps_trap ..
  · refine runInstr_pending fun f fr => ?_
    simp [apply_ite State.pending]
  · refine runInstr_pending fun f fr => ?_
    simp

/-- The commands named have a lemma or a shape of their own; each of the others is one function of the model under
tests. -/
theorem exec_keepsQueue (i : Instr) (s : State) : KeepsQueue i s := by
  cases i with
  | dormantExit katFail byWake => exact dormantExit_keepsQueue ..
  | registerWrite off v be => exact registerWrite_keepsQueue ..
  | orderFetch qp packet => exact orderFetch_keepsQueue ..
  | extensionTimeout qp => exact extensionTimeout_keepsQueue ..
  | admissionDeadline qp tag wins => exact admissionDeadline_keepsQueue ..
  | sector qp => exact sector_keepsQueue ..
  | closeSession qp => exact closeSession_keepsQueue ..
  | getRetirement qp ecc => exact getRetirement_keepsQueue ..
  | abort qp => exact abort_keepsQueue ..
  | bookReadHead qp => exact bookReadHead_keepsQueue ..
  | bookReadWheel qp ecc => exact bookReadWheel_keepsQueue ..
  | bookReadGap qp ecc => exact bookReadGap_keepsQueue ..
  | officerSet qp => exact ⟨_, rfl, officerRow_pending officerSetBody_keeps ..⟩
  | lcChange qp => exact ⟨_, rfl, officerRow_pending lcChangeBody_keeps ..⟩
  | debugPermit qp => exact ⟨_, rfl, officerRow_pending debugPermitBody_keeps ..⟩
  | lastSelect qp => exact ⟨_, rfl, officerRow_pending lastSelectBody_keeps ..⟩
  | lastInstall qp => exact ⟨_, rfl, officerRow_pending lastInstallBody_keeps ..⟩
  | keyWrite qp => exact ⟨_, rfl, officerRow_pending keyBodyOf_keeps ..⟩
  | keyDelete qp => exact ⟨_, rfl, officerRow_pending keyBodyOf_keeps ..⟩
  | keyGenerate qp => exact ⟨_, rfl, officerRow_pending keyBodyOf_keeps ..⟩
  | keyRestrict qp => exact ⟨_, rfl, officerRow_pending keyBodyOf_keeps ..⟩
  | keyExport qp => exact ⟨_, rfl, officerRow_pending (fun r x s => makeKeys_keeps x s) ..⟩
  | keyReport qp => exact ⟨_, rfl, officerRow_pending keyBodyOf_keeps ..⟩
  | timeConfig qp => exact ⟨_, rfl, officerRow_pending timeConfigBody_keeps ..⟩
  | timeSlew qp => exact ⟨_, rfl, officerRow_pending timeSlewBody_keeps ..⟩
  | timeStep qp => exact ⟨_, rfl, officerRow_pending timeStepBody_keeps ..⟩
  | bookOpen qp => exact ⟨_, rfl, officerRow_pending bookOpenBody_keeps ..⟩
  | bookConfig qp => exact ⟨_, rfl, officerRow_pending bookConfigBody_keeps ..⟩
  | bookClose qp => exact ⟨_, rfl, officerRow_pending bookCloseBody_keeps ..⟩
  | appletInstall qp => exact ⟨_, rfl, officerRow_pending appletInstallBody_keeps ..⟩
  | appletRemove qp => exact ⟨_, rfl, officerRow_pending appletRemoveBody_keeps ..⟩
  | weltPair qp => exact ⟨_, rfl, officerRow_pending weltPairBody_keeps ..⟩
  | weltUnpair qp => exact ⟨_, rfl, officerRow_pending weltUnpairBody_keeps ..⟩
  | weltMode qp => exact ⟨_, rfl, officerRow_pending weltModeBody_keeps ..⟩
  | weltHandover qp => exact ⟨_, rfl, officerRow_pending weltHandoverBody_keeps ..⟩
  | weltTakeover qp => exact ⟨_, rfl, officerRow_pending weltTakeoverBody_keeps ..⟩
  | cardErase qp => exact ⟨_, rfl, officerRow_pending cardEraseBody_keeps ..⟩
  | evSrcWrite n v host => exact evSrcWrite_keepsQueue ..
  | evClaim host => exact evClaim_keepsQueue ..
  | evVclaim v => exact evVclaim_keepsQueue ..
  | evComplete host v => exact evComplete_keepsQueue ..
  | evGdisWrite host v => exact evGdisWrite_keepsQueue ..
  | vatSegmentEnd core fault => exact vatSegmentEnd_keepsQueue ..
  | digestSegmentEnd core fault => exact digestSegmentEnd_keepsQueue ..
  | cellarScrub row found => exact cellarScrub_keepsQueue ..
  | cardTimeout ch wins wait => exact cardTimeout_keepsQueue ..
  | weltHello h => exact weltHello_keepsQueue ..
  | weltNak fr seq => exact weltNak_keepsQueue ..
  | weltBrine fr us => exact weltBrine_keepsQueue ..
  | weltForward fr ref req => exact weltForward_keepsQueue ..
  | weltReply fr ref st result bytes out epoch => exact weltReply_keepsQueue ..
  | readReg r => exact readReg_keepsQueue ..
  | liw c d a mode lit => exact liw_keepsQueue ..
  | bfx c d a lo w sx => exact bfx_keepsQueue ..
  | bfi c d a lo w => exact bfi_keepsQueue ..
  | mfence c => exact mfence_keepsQueue ..
  | jal c d off => exact ⟨_, rfl, runInstr_pending fun _ _ => goTo_keeps rfl ..⟩
  | jalr c d a imm => exact ⟨_, rfl, runInstr_pending fun _ _ => keeps_ite (by simp) (keeps_ite (by simp) rfl)⟩
  | exit c d st => exact exit_keepsQueue ..
  | breakI c => exact breakI_keepsQueue ..
  | swr c d n => exact swr_keepsQueue ..
  | sww c d n => exact ⟨_, rfl, runInstr_pending fun _ _ => swwRes_keeps ..⟩
  | prPartClear c d p => exact ⟨_, rfl, runInstr_pending fun _ _ => partWrite_keeps ..⟩
  | prPartProtect c d p => exact ⟨_, rfl, runInstr_pending fun _ _ => partWrite_keeps ..⟩
  | tmAlarmWrite c d => exact ⟨_, rfl, runInstr_pending fun _ _ => swwRes_keeps ..⟩
  | hbind c d a b ty => exact hbind_keepsQueue ..
  | hclr c d => exact hclr_keepsQueue ..
  | hmov c d a => exact hmov_keepsQueue ..
  | htype c d a => exact htype_keepsQueue ..
  | tret c => exact ⟨_, rfl, runInstr_pending fun _ _ => keeps_ite rfl (by simp)⟩
  | waiti c => exact waiti_keepsQueue ..
  | runLimit c fr wins => exact runLimit_keepsQueue ..
  | propen c d a p => exact propen_keepsQueue ..
  | prwrite c d a b p => exact prwrite_keepsQueue ..
  | prread c d a b ecc => exact prread_keepsQueue ..
  | prcond c d a b p => exact prcond_keepsQueue ..
  | prcommit c t p => exact prcommit_keepsQueue ..
  | prabandon c p => exact prabandon_keepsQueue ..
  | ctrrd c d a b => exact ctrrd_keepsQueue ..
  | ctradd c d a b inPress p => exact ctradd_keepsQueue ..
  | tmstamp c a imm => exact tmstamp_keepsQueue ..
  | tmtoken c t => exact tmtoken_keepsQueue ..
  | bkissSeal c t h faults => exact bkissSeal_keepsQueue ..
  | bkissHead c t h => exact bkissHead_keepsQueue ..
  | gcmEnc c t h => exact gcmEnc_keepsQueue ..
  | gcmDec c t h => exact gcmDec_keepsQueue ..
  | ctrEnc c t h => exact ctrEnc_keepsQueue ..
  | ctrDec c t h => exact ctrDec_keepsQueue ..
  | cbcEnc c t h => exact cbcEnc_keepsQueue ..
  | cbcDec c t h => exact cbcDec_keepsQueue ..
  | cmacGen c t h => exact cmacGen_keepsQueue ..
  | cmacVer c t h => exact cmacVer_keepsQueue ..
  | tdeaCbcDec c t h => exact tdeaCbcDec_keepsQueue ..
  | tdeaMacVer c t h => exact tdeaMacVer_keepsQueue ..
  | hash c t alg => exact hash_keepsQueue ..
  | start c t h keyed alg => exact start_keepsQueue ..
  | update c t alg => exact update_keepsQueue ..
  | finish c t alg => exact finish_keepsQueue ..
  | hmac c t h alg => exact hmac_keepsQueue ..
  | kmac c t h alg => exact kmac_keepsQueue ..
  | compare c t => exact compare_keepsQueue ..
  | slhSign c t h set => exact slhSign_keepsQueue ..
  | slhVerify c t h set => exact slhVerify_keepsQueue ..
  | random c t => exact random_keepsQueue ..
  | twait c d b t limit => exact twait_keepsQueue ..
  | tpoll c d t => exact tpoll_keepsQueue ..
  | tdrop c t => exact tdrop_keepsQueue ..
  | ccstat c d a => exact ccstat_keepsQueue ..
  | hostDmaFailure w => exact hostDmaFailure_keepsQueue ..
  | illegalOpcode c w ecc => exact illegalOpcode_keepsQueue ..
  | _ =>
    refine ⟨_, rfl, ?_⟩
    repeat' split
    all_goals simp [apply_ite State.pending]

/-- Settles O57. -/
theorem queueKept : Obligations.QueueKept := by
  unfold Obligations.QueueKept
  exact exec_keepsQueue

end Sys2Proof.Machine
end
